-- ==== Sys2Proof/Word.lean ====
section
/-! DEFINITION. The word types of the block and their plainest arithmetic (spec/03_pages.md R40, R47). -/

namespace Sys2Proof

/-- A register or memory word: 32 bits, little-endian in the byte-addressed space of R40. -/
abbrev Word := BitVec 32

/-- A byte of memory. -/
abbrev Byte := BitVec 8

/-- A queue or action record is a short list of words. -/
abbrev Words := List Word

end Sys2Proof
end

