-- ==== Sys2Proof/Syntax.lean ====
section
/-! DEFINITION. The commands the block takes: one constructor per row of spec/opcode_table.json, with the operands that the
row's rule names. Commands of a bus master carry the master (R58); an event of the outside world carries what the outside
world supplies (a level, a sample, a frame). -/

namespace Sys2Proof

/-- The three variants (R1, R2). -/
inductive Variant
  | aq1680 | aq1660 | aq1620
  deriving DecidableEq, Repr

/-- Bus masters with the codes of R58. -/
inductive Master
  | host | dma | spe0 | spe1 | debug
  deriving DecidableEq, Repr

/-- The supplies of R81. -/
inductive Supply
  | vin | vcore | vio | vhp | vana | vbat
  deriving DecidableEq, Repr

/-- The clock conditions that the Cox monitors (R80). -/
inductive ClockFault
  | xtalLoss | rootLoss | pllUnlock | window
  deriving DecidableEq, Repr

/-- What a memory read meets in the cells beyond what the state already records: nothing, a single-bit error, or an
uncorrectable error, with its syndrome (R123, R540). -/
inductive Upset
  | none
  | single (syndrome : Nat)
  | multi (syndrome : Nat)
  deriving DecidableEq, Repr

/-- One data burst of a host port write with the CRC-16 the host sent (R184, R185). -/
structure HpBurst where
  words : List Word
  crc : BitVec 16
  deriving DecidableEq, Repr


/-- What the SPE debug access port asks of an SPE beside resume and single step (R231): a halt at the next boundary; a program breakpoint or
a data watchpoint on X (0), Y (1) or E (2), set or cleared; a core register by its code of R235, read (a 32-bit half of it) or written. -/
inductive DebugAct
  | halt
  | breakpoint (pc : Nat) (on : Bool)
  | watchpoint (space addr : Nat) (on : Bool)
  | readReg (code half : Nat)
  | writeReg (code value : Nat)
  deriving DecidableEq, Repr

/-- A request of the debug port: the SPE and what it does with it (R231). -/
structure DebugReq where
  spe : Nat
  act : DebugAct
  deriving DecidableEq, Repr

/-- A cell fault in the registers of a queue: none, in the oldest word of the tail, or in word `k` of the head (R175). -/
inductive CellFault
  | none | tail | head (k : Nat)
  deriving DecidableEq, Repr

/-- A transfer from tail to head: the queue, and the cell fault that its registers have suffered (R159, R175). -/
structure HeadMove where
  q : Nat
  fault : CellFault
  deriving DecidableEq, Repr

/-- A start-up test of the Cox that ends: whether its own checks passed, and the groups whose drain readback followed the switch in step 5 of
test 6 (R107). -/
structure TestEnd where
  pass : Bool
  drains : List Nat
  deriving DecidableEq, Repr

/-- A drain sample of a channel with the current of its group at the same instant (R351), Q1.23 of their full scales. -/
structure DrainSample where
  drain : Int
  group : Int
  deriving DecidableEq, Repr

/-- An attempt of a CAN frame that fails: by lost arbitration, or by an error; with the transmitter delay in CAN_CLK periods, where the frame got
past its FDF-to-res edge (R412, R423). -/
structure TxFail where
  lost : Bool
  delay : Option Nat
  deriving DecidableEq, Repr

/-- The reads with which an egress port takes a frame from its slot: what the first word has suffered, and whether the reads starved until the
FIFO of the MAC ran empty (R434). -/
structure EgressRead where
  upset : Upset
  starved : Bool
  deriving DecidableEq, Repr

/-- What followed a header that names no access: its CRC, and whether the cycles of its wait came whole (R186, R190). -/
structure NopEnd where
  crc : BitVec 16
  whole : Bool
  deriving DecidableEq, Repr

/-- A CAN frame as ISO 11898-1 delivers it (R409, R420): format, identifier, DLC and data bytes. -/
structure CanFrame where
  ide : Bool
  rtr : Bool
  fdf : Bool
  brs : Bool
  esi : Bool
  ident : Nat
  dlc : Nat
  data : List (BitVec 8)
  deriving DecidableEq, Repr

/-- The commands and events of the block: one constructor per row of spec/opcode_table.json, in the table's order. -/
inductive Instr
  /-- REGISTER_WRITE (R9): A write to a register field that has no row of its own stores, ignores or refuses the value according to its access
  type, locks and keys. -/
  | registerWrite (m : Master) (addr : Nat) (v : Word)
  /-- ABSENT_PAGE_ACCESS (R5): An access to an absent page, unallocated index or absent queue page returns 0 or is ignored, raises ABSENT_ACCESS
  on source 2, and returns a bus error when ABSENT_BUSERR is 1. -/
  | absentPageAccess (m : Master) (addr : Nat) (write : Bool)
  /-- UNBACKED_ACCESS (R41): An access to an address not backed on the variant returns a bus error reported through the master's own event source.
  -/
  | unbackedAccess (m : Master) (addr : Nat) (write : Bool)
  /-- NARROW_REGISTER_ACCESS (R47): An 8-bit, 16-bit or misaligned access to a register page returns a bus error, performs nothing and sets
  ACCESS/WIDTH. -/
  | narrowRegisterAccess (m : Master) (addr bytes : Nat) (write : Bool)
  /-- KEY_WRITE (R50): A write to a page's KEY register starts, completes or breaks the key sequence that opens one RWK write. -/
  | keyWrite (m : Master) (page : Nat) (v : Word)
  /-- KEY_SEQUENCE_LAPSE (R50): A key sequence whose second word has not arrived within 64 SYS cycles lapses and clears the key state. -/
  | keySequenceLapse (page : Nat)
  /-- KEY_OPENING_LAPSE (R50): An opening that no write consumes within 256 SYS cycles lapses and clears the key state. -/
  | keyOpeningLapse (page : Nat)
  /-- LOCK_WRITE (R52): The first write of LOCK after reset stores CFG_LOCK and SAFE_LOCK; later writes are ignored with ACCESS/WRITE_ONCE. -/
  | lockWrite (m : Master) (page : Nat) (v : Word)
  /-- ERR_CNT_CLEAR (R57): A write of 0 to ERR_CNT clears the count and ERR_CODE; any other value is ignored. -/
  | errCntClear (m : Master) (page : Nat) (v : Word)
  /-- ABSENT_STAT_CLEAR (R44): A write of 0 to SYS.ABSENT_STAT clears the count and re-arms the record of the first absent access. -/
  | absentStatClear (m : Master) (v : Word)
  /-- COUNTER_CLEAR (R539): A write of 0 to a counter marked clear-by-zero clears it; any other value leaves it unchanged. -/
  | counterClear (m : Master) (addr : Nat) (v : Word)
  /-- PAGE_CRC_UPDATE (R56): The page recomputes PAGE_CRC over its configuration registers after a configuration write, one SYS cycle per word. -/
  | pageCrcUpdate (page : Nat)
  /-- CTRL_EN_SET (R59): Writing CTRL.EN 1 to an IDLE block makes it ACTIVE; while STOPPING the write is ignored with EN_WHILE_STOPPING. -/
  | ctrlEnSet (m : Master) (page : Nat) (v : Word)
  /-- CTRL_EN_CLEAR (R59): Clearing CTRL.EN on an active block sets STOPPING so that it completes its atomic unit and discards unstarted work. -/
  | ctrlEnClear (m : Master) (page : Nat) (v : Word)
  /-- STOP_COMPLETE (R59): A stopping block finishes its atomic unit, counts discarded work, clears STOPPING and sets IDLE. -/
  | stopComplete (page : Nat)
  /-- CTRL_ABORT (R60): ABORT written with EN 0 or while STOPPING makes the block skip the rest of its atomic unit where R62 permits. -/
  | ctrlAbort (m : Master) (page : Nat) (v : Word)
  /-- CTRL_SOFT_RESET (R63): SOFT_RESET on an IDLE, unlocked block returns every register of the page except LOCK to reset and re-arms its RWO
  registers. -/
  | ctrlSoftReset (m : Master) (page : Nat) (v : Word)
  /-- CTRL_FREEZE (R64): FREEZE takes effect only in DEVELOP with the debug port attached, stopping the block's state and turning its outputs off.
  -/
  | ctrlFreeze (m : Master) (page : Nat) (v : Word)
  /-- IRQ_STAT_CLEAR (R65): A W1C write to IRQ_STAT clears latched cause bits unless a new edge arrives in the same cycle. -/
  | irqStatClear (m : Master) (page : Nat) (v : Word)
  /-- IRQ_SET (R65): A 1 written to IRQ_SET latches the corresponding cause bit for test injection. -/
  | irqSet (m : Master) (page : Nat) (v : Word)
  /-- SOFT_SET (R70): A 1 written to EVT.SOFT_SET sets a SOFT event bit. -/
  | softSet (m : Master) (v : Word)
  /-- SOFT_CLEAR (R70): A 1 written to EVT.SOFT clears a SOFT event bit unless a set meets it in the same cycle. -/
  | softClear (m : Master) (v : Word)
  /-- SPREAD_CFG_WRITE (R79): A keyed write of CLK.SPREAD_CFG becomes pending, or is refused as a whole with SPREAD_CONFLICT. -/
  | spreadCfgWrite (m : Master) (v : Word)
  /-- SPREAD_APPLIED (R78): Pending spread settings take effect at the next modulation period boundary and latch SPREAD_APPLIED. -/
  | spreadApplied
  /-- POWER_UP (R82): Supplies rising in range for 100 µs with PORST_N high release the power-up reset and start the wake. -/
  | powerUp
  /-- PORST_N_LOW (R85): PORST_N low beyond its filter resets the device. -/
  | porstNLow (ns : Nat)
  /-- RESET_PIN_LOW (R85): RESET_N driven low from outside for 1 µs or longer resets the device. -/
  | resetPinLow (ns : Nat)
  /-- RST_KEY (R86): An opened write of 0x0000_A5C3 to SYS.RST_KEY resets the device; other values set RST_VALUE. -/
  | rstKey (m : Master) (v : Word)
  /-- SUPPLY_UNDERVOLTAGE (R81): A supply below its undervoltage threshold reports its Cox line and holds the device in reset while it persists. -/
  | supplyUndervoltage (sup : Supply) (present : Bool)
  /-- SUPPLY_OVERVOLTAGE (R81): A supply above its overvoltage threshold asserts a fault line fixed to C3. -/
  | supplyOvervoltage (sup : Supply) (present : Bool)
  /-- VIN_WARN (R81): VIN falling below 4.60 V latches the PWR cause VIN_WARN. -/
  | vinWarn
  /-- CLOCK_LOSS (R80): Loss of XTAL or ROOT, PLL unlock or a branch outside the ±8% window is detected by the Cox and reports its fault line. -/
  | clockLoss (k : ClockFault) (present : Bool)
  /-- PWR_REQ (R88): An opened write of a state code to PWR.REQ requests a power state, refused with a recorded cause or BUSY, or accepted so that
  blocks halt. -/
  | pwrReq (m : Master) (v : Word)
  /-- POWER_STATE_GATING (R89): Once the halting blocks have completed their atomic units, the accepted entry gates into the target state and
  moves a Cox in RUN to SAFE. -/
  | powerStateGating
  /-- VIN_LOSS (R90): VIN falling below its undervoltage threshold puts the device into BEACHED from any state. -/
  | vinLoss
  /-- VIN_RETURN (R90): VIN returning from BEACHED resets the device and acts on any pending wake. -/
  | vinReturn
  /-- HOLD_CAN_ACTIVITY (R91): Enabled CANk_RX activity in HOLD wakes the device. -/
  | holdCanActivity (k : Nat)
  /-- HP_CS_FALL (R184): HP_CS_N falling starts a host port transaction, and in HOLD with HP_CS enabled wakes the device. -/
  | hpCsFall
  /-- WAKE_STEP_DONE (R94): A wake step sets its ready bit and the next step starts; LOGIC_RDY latches WAKE_DONE. -/
  | wakeStepDone
  /-- WAKE_STEP_TIMEOUT (R95): A wake step that misses its timeout turns off its resource and schedules a retry, or after four attempts returns to
  MOORED with a BKP0 record. -/
  | wakeStepTimeout
  /-- WAKE_STEP_RETRY (R95): 100 µs after a failed attempt the wake step is attempted again. -/
  | wakeStepRetry
  /-- FAULT_LINE_CHECK (R99): A fault source's check finds its condition present or absent, counting toward DEBOUNCE and latching the line with
  its class reaction. -/
  | faultLineCheck (line : Nat) (present : Bool)
  /-- EVENT_LINE_IDLE_CHECK (R99): Each event-free millisecond of an event-type source counts one absent check. -/
  | eventLineIdleCheck (line : Nat)
  /-- COX_STOP_TIMEOUT (R103): STOP_TIME expiring after a C2 latch performs C3 and enters OFF. -/
  | coxStopTimeout
  /-- LATCH_CLEAR (R102): A W1C clear of a COX.LATCH bit takes effect only when the line's source no longer reports the condition. -/
  | latchClear (m : Master) (k : Nat) (v : Word)
  /-- FMAP_ENTRY_WRITE (R100): A write to a COX_FMAP entry changes class, mask or debounce, limited to stricter writes under SAFE_LOCK and refused
  on fixed lines. -/
  | fmapEntryWrite (m : Master) (line : Nat) (v : Word)
  /-- RELEASE_RUN (R105): An opened write of 0x0000_AC01 to COX.RELEASE releases SAFE into RUN or is refused with a REL_STAT cause. -/
  | releaseRun (m : Master)
  /-- RELEASE_CHECK (R105): An opened write of 0x0000_AC02 to COX.RELEASE moves OFF to a reduced CHECK or is refused. -/
  | releaseCheck (m : Master)
  /-- SEN_EN_WRITE (R106): A change of COX.CFG.SEN_EN in RUN drives ACT_SENn within 1 µs; only clearing is accepted under the lock. -/
  | senEnWrite (m : Master) (v : Word)
  /-- COX_AUTO_RESET (R106): 10 ms after entering OFF with any of lines 0 to 4 latched and AUTO_RESET set, the Cox orders a reset. -/
  | coxAutoReset
  /-- CHECK_START (R104): LOGIC_RDY moves the Cox from INIT to CHECK and starts the start-up tests. -/
  | checkStart
  /-- CHECK_TEST_DONE (R107): A start-up test finishes, records failure in CHECK_RES and line 15, and the next test or the end of CHECK follows. -/
  | checkTestDone (e : TestEnd)
  /-- WD_WIN_WRITE (R109): The first write to COX.WD_WIN activates the host watchdog and publishes the first question; later writes set bounds for
  the next window. -/
  | wdWinWrite (m : Master) (v : Word)
  /-- WDA_WRITE (R109): An answer written to COX.WDA is checked against window and question, publishing the next question or counting an error. -/
  | wdaWrite (m : Master) (v : Word)
  /-- WD_WINDOW_EXPIRE (R109): No answer by WIN_CLOSE counts an error on line 23 and restarts the window. -/
  | wdWindowExpire
  /-- SPEWD_WRITE (R110): A service write to COX.SPEWDn is checked for value and window and counts line 24+n on error. -/
  | spewdWrite (m : Master) (n : Nat) (v : Word)
  /-- SPE_WD_EXPIRE (R110): A missing SPE service write by CLOSE counts one check of line 24+n. -/
  | speWdExpire (n : Nat)
  /-- LE_LIVENESS_CHECK (R111): Every 1 ms the Cox compares each enabled LE's sample count difference with LE_LIVE_MIN. -/
  | leLivenessCheck (n : Nat)
  /-- FIRST_CLEAR (R112): A W1C clear of COX.FIRST.VALID re-arms the record of the first latch. -/
  | firstClear (m : Master) (v : Word)
  /-- SW_STOP (R113): A 1 written to COX.SW_FAULT.SW_STOP asserts line 94 for one check. -/
  | swStop (m : Master)
  /-- SW_OFF (R113): A 1 written to COX.SW_FAULT.SW_OFF asserts line 95 for one check. -/
  | swOff (m : Master)
  /-- MEMORY_READ (R123): A memory read checks ECC, correcting single-bit errors and giving uncorrectable or poisoned words their class reaction. -/
  | memoryRead (m : Master) (addr bytes : Nat) (upset : Upset)
  /-- MEMORY_WRITE (R116): A memory write stores the word with a valid code, narrow writes by read-modify-write, refused on poisoned words. -/
  | memoryWrite (m : Master) (addr bytes : Nat) (v : Word)
  /-- ATOMIC_ADD_READ (R120): A read of the ADD alias returns the word and stores word plus the master's operand atomically. -/
  | atomicAddRead (m : Master) (addr : Nat) (upset : Upset)
  /-- ATOMIC_ADD_WRITE (R120): A write of v to the ADD alias stores word plus v atomically. -/
  | atomicAddWrite (m : Master) (addr : Nat) (v : Word) (upset : Upset)
  /-- ATOMIC_SWAP_READ (R120): A read of the SWAP alias returns the word and stores the master's operand atomically. -/
  | atomicSwapRead (m : Master) (addr : Nat) (upset : Upset)
  /-- ATOMIC_SWAP_WRITE (R120): A write to the SWAP alias stores the value as a plain write. -/
  | atomicSwapWrite (m : Master) (addr : Nat) (v : Word)
  /-- CE_WRITEBACK (R123): MEM writes a corrected word back in the bank's next idle cycle unless a write to it came first. -/
  | ceWriteback (addr : Nat)
  /-- STARVE (R118): A stealing-class request waiting beyond STARVE_LIMIT latches STARVE and records master and bank. -/
  | starve (master bank : Nat)
  /-- INJECT_WRITE (R540): A keyed write to MEM.INJECT arms a check-bit mask applied to the next full-word SRAM write. -/
  | injectWrite (m : Master) (v : Word)
  /-- RMAP_WRITE (R128): A write to an RMAP word changes region classes, accepted under SAFE_LOCK only if no SAFETY address is lost. -/
  | rmapWrite (m : Master) (k : Nat) (limit : Bool) (v : Word)
  /-- SKIM_BLOCK_START (R130): Every INTERVAL SYS cycles the Skimmer starts a block, reading its 16 words into the save buffer and marching it. -/
  | skimBlockStart (upsets : List (Nat × Upset))
  /-- SKIM_BLOCK_WRITEBACK (R130): MEM writes the block's saved words back, ending the block and, after the last block, the pass. -/
  | skimBlockWriteback (marchFail : Option Nat)
  /-- SKIM_PASS_LIMIT_CHECK (R133): Every 1 ms in RUN line 37 is checked for no pass having ended within PASS_LIMIT. -/
  | skimPassLimitCheck
  /-- SECMEM_ACCESS (R138): An access to secure memory is checked against the slot grants and life cycle, a refusal latching SLOT_VIOLATION. -/
  | secmemAccess (m : Master) (addr : Nat) (write : Bool) (v : Word)
  /-- LC_REQ (R141): An opened write of a target code to SEC.LC_REQ starts a life-cycle transition or is refused with a cause. -/
  | lcReq (m : Master) (v : Word)
  /-- LC_WORD_PROGRAMMED (R142): The life-cycle OTP word finishes programming and the transition's wipe starts. -/
  | lcWordProgrammed
  /-- WIPE (R144): An opened write of 0x0000_5EC0 to SEC.WIPE starts a secure-memory wipe. -/
  | wipe (m : Master) (v : Word)
  /-- WIPE_DONE (R147): A wipe ends after write and read-back, latching WIPE_DONE, setting FAIL on failure, and completing any life-cycle
  transition. -/
  | wipeDone (verified : Bool)
  /-- TAMPER_DETECT (R149): A tamper source latches its bit, starts a wipe if enabled, asserts line 91 and clears backup words 32 to 63. -/
  | tamperDetect (b : Nat) (present : Bool)
  /-- TAMPER_STAT_CLEAR (R149): A W1C clear of a SEC.TAMPER_STAT bit takes effect only when its source condition is absent. -/
  | tamperStatClear (m : Master) (v : Word)
  /-- VERIFY_START (R153): SEC.VERIFY_CTRL.START authenticates an image in system SRAM and copies its payload into SPE program memory. -/
  | verifyStart (m : Master) (v : Word)
  /-- VERIFY_DONE (R152): Image verification completes, recording the result and marking the program memory trusted on success. -/
  | verifyDone
  /-- DBG_MAILBOX_READ (R154): A read of the locked debug mailbox presents a fresh 16-byte challenge. -/
  | dbgMailboxRead
  /-- DBG_UNLOCK (R154): A written key and signature are checked, accepting the unlock with a wipe or refusing it as a tamper or Cox-state
  refusal. -/
  | dbgUnlock (key sig : List Byte)
  /-- PROG_CMD (R157): An opened write of 0x0000_0F5E to OTP.PROG_CMD starts programming one OTP word. -/
  | progCmd (m : Master) (v : Word)
  /-- PROG_DONE (R157): OTP programming completes, sets PROG_STAT and latches PROG_DONE or PROG_ERR. -/
  | progDone (verified : Bool)
  /-- QUEUE_PUSH (R170): A write to Qn.PUSH stores a word at the tail or is refused as FULL. -/
  | queuePush (m : Master) (q : Nat) (v : Word)
  /-- QUEUE_POP (R169): A read of Qn.POP delivers the next word with its tag, or the IDLE item, checking length words and parity. -/
  | queuePop (m : Master) (q : Nat)
  /-- HEAD_TRANSFER (R159): A word that landed in the tail passes straight to the head in the next cycle when the middle is empty. -/
  | headTransfer (q : HeadMove)
  /-- SPILL_BURST (R159): The fabric moves up to 4 words from the tail to the Vat middle. -/
  | spillBurst (q : Nat)
  /-- FILL_BURST (R159): The fabric moves up to 4 words from the Vat middle to the head, delivering to a waiting pop. -/
  | fillBurst (q : Nat) (upsets : List (Nat × Upset))
  /-- FLUSH (R177): CMD.FLUSH sets FLUSHING and, after the burst in flight, discards every word of the queue. -/
  | flush (m : Master) (q : Nat)
  /-- FLUSH_DONE (R177): The flush ends within 16 SYS cycles after the burst, clearing LENGTH_LOST. -/
  | flushDone (q : Nat)
  /-- PKT_OPEN (R171): CMD.PKT_OPEN reserves a length slot and opens a packet. -/
  | pktOpen (m : Master) (q : Nat)
  /-- PKT_CLOSE (R171): CMD.PKT_CLOSE writes the length word into the reserved slot and closes the packet. -/
  | pktClose (m : Master) (q : Nat)
  /-- PKT_ABORT (R173): CMD.PKT_ABORT abandons the open packet, writing 0xFFFF_0000 with tag ABANDON. -/
  | pktAbort (m : Master) (q : Nat)
  /-- REGION_WRITE (R162): A write to Qn.REGION sets the queue's Vat region, refused if busy, overlapping or out of range. -/
  | regionWrite (m : Master) (q : Nat) (v : Word)
  /-- QUEUE_CFG_WRITE (R165): A write to Qn.CFG changes bindings, mode and enable under the binding and mode rules. -/
  | queueCfgWrite (m : Master) (q : Nat) (v : Word)
  /-- HP_NOP (R186): A NOP transaction returns only the status phase. -/
  | hpNop (op len addr seq flags : Nat) (crc : NopEnd)
  /-- HP_READ (R186): A READ transaction reads consecutive words from ascending addresses with retry and replay handling. -/
  | hpRead (len addr seq flags : Nat) (crc : BitVec 16) (bursts sent : Nat)
  /-- HP_READ_FIXED (R186): A READ_FIXED transaction reads every word from the same address. -/
  | hpReadFixed (len addr seq flags : Nat) (crc : BitVec 16) (bursts sent : Nat)
  /-- HP_WRITE (R186): A WRITE transaction writes consecutive words, burst by burst under CRC check. -/
  | hpWrite (len addr seq flags : Nat) (crc : BitVec 16) (data : List HpBurst)
  /-- HP_WRITE_FIXED (R186): A WRITE_FIXED transaction writes every word to the same address. -/
  | hpWriteFixed (len addr seq flags : Nat) (crc : BitVec 16) (data : List HpBurst)
  /-- HP_CS_RISE (R188): HP_CS_N rising ends the transaction, marking it TRUNCATED if incomplete and applying a pending lane mode. -/
  | hpCsRise
  /-- MODE_RESET (R193): HP_CS_N low for 50 µs without HP_CLK returns the port to 1-lane SDR. -/
  | modeReset
  /-- DMA_DESC_WRITE (R197): A write of CHn.DESC starts a DMA channel on a descriptor chain or is refused with CH_BUSY. -/
  | dmaDescWrite (m : Master) (n : Nat) (v : Word)
  /-- DMA_DESC_FETCH (R197): A channel fetches a descriptor, validating it and waiting for ownership or a trigger. -/
  | dmaDescFetch (n : Nat)
  /-- DMA_TRIG (R197): A 1 written to CHn.TRIG adds a trigger to PEND. -/
  | dmaTrig (m : Master) (n : Nat)
  /-- DMA_ROUTED_TRIGGER (R68): A rising edge of a source routed to a DMA channel adds one trigger. -/
  | dmaRoutedTrigger (src : Nat)
  /-- DMA_BURST (R195): A channel wins arbitration and moves one burst of up to 16 words, completing the descriptor when done. -/
  | dmaBurst (n : Nat)
  /-- BOOT_START (R203): After CHECK test 5 ends, a standalone boot reads the image header and streams the payload. -/
  | bootStart (image : List Word)
  /-- BOOT_VERIFY_DONE (R203): Signature verification completes the boot, starting the named SPEs or failing with a cleared load. -/
  | bootVerifyDone
  /-- FL_LEN_WRITE (R203): A write to HPT.FL_LEN starts a flash read to FL_DST in controller mode. -/
  | flLenWrite (m : Master) (v : Word)
  /-- FL_DONE (R203): A flash read completes and latches FL_DONE. -/
  | flDone (data : List Word)
  /-- SPE_ENABLE (R211): An accepted SPE enable clears its registers and starts execution at program word 0, subject to trust. -/
  | speEnable (m : Master) (n : Nat)
  /-- SPE_INTERRUPT (R225): An asserted routed source above IPL is taken at a qualifying boundary, pushing PC, SR and REP count and fetching its
  vector. -/
  | speInterrupt (n : Nat)
  /-- SPE_STALL_END (R221): An E access or queue pop that stalled the pipeline completes and the pipeline resumes. -/
  | speStallEnd (n : Nat)
  /-- SPE_WAIT_RESUME (R245): A routed source above IPL ends WAIT, resuming after WAIT when IE is 0. -/
  | speWaitResume (n : Nat)
  /-- LOCKSTEP_MISMATCH (R230): A checker-core mismatch halts the SPE in LOCKSTEP and latches line 1 or 2. -/
  | lockstepMismatch (n : Nat)
  /-- DEBUG_HALT (R231): A debug halt stops the SPE at the next qualifying boundary. -/
  | debugHalt (n : DebugReq)
  /-- DEBUG_RESUME (R231): A debug resume restarts a halted SPE. -/
  | debugResume (n : Nat)
  /-- DEBUG_STEP (R231): A single step executes one instruction with its delay slots, or one REP chunk. -/
  | debugStep (n : Nat)
  /-- P_MOVE (R233): P-format MOVE performs only its parallel moves. -/
  | pMove (n : Nat) (w : Word)
  /-- MUL (R237): Ad receives Dj times Dk. -/
  | mul (n : Nat) (w : Word)
  /-- MULN (R237): Ad receives the negated product of Dj and Dk. -/
  | muln (n : Nat) (w : Word)
  /-- FMA (R237): Ad receives Ad plus Dj times Dk. -/
  | fma (n : Nat) (w : Word)
  /-- FMS (R237): Ad receives Ad minus Dj times Dk. -/
  | fms (n : Nat) (w : Word)
  /-- MULR (R237): MUL followed by rounding at bit 23. -/
  | mulr (n : Nat) (w : Word)
  /-- FMAR (R237): FMA followed by rounding at bit 23. -/
  | fmar (n : Nat) (w : Word)
  /-- ADD (R237): Ad receives Ad plus converted Dj. -/
  | add (n : Nat) (w : Word)
  /-- SUB (R237): Ad receives Ad minus converted Dj. -/
  | sub (n : Nat) (w : Word)
  /-- ADDA (R237): Ad receives Ad plus Ak. -/
  | adda (n : Nat) (w : Word)
  /-- SUBA (R237): Ad receives Ad minus Ak. -/
  | suba (n : Nat) (w : Word)
  /-- CMP (R237): Flags are set from Ad minus Dj. -/
  | cmp (n : Nat) (w : Word)
  /-- CMPA (R237): Flags are set from Ad minus Ak. -/
  | cmpa (n : Nat) (w : Word)
  /-- COPY (R237): Ad receives converted Dj. -/
  | copy (n : Nat) (w : Word)
  /-- COPYA (R237): Ad receives Ak. -/
  | copya (n : Nat) (w : Word)
  /-- ABS (R237): Ad receives its absolute value. -/
  | absA (n : Nat) (w : Word)
  /-- NEG (R237): Ad receives its negation. -/
  | neg (n : Nat) (w : Word)
  /-- CLR (R237): Ad is cleared. -/
  | clr (n : Nat) (w : Word)
  /-- ROUND (R237): Ad is rounded at bit 23 by RM. -/
  | round (n : Nat) (w : Word)
  /-- SHL1 (R237): Ad is shifted left one bit. -/
  | shl1 (n : Nat) (w : Word)
  /-- SHR1 (R237): Ad is shifted right one bit arithmetically. -/
  | shr1 (n : Nat) (w : Word)
  /-- SAT (R237): Ad is limited to Q1.47. -/
  | sat (n : Nat) (w : Word)
  /-- AND (R237): Ad receives Ad AND converted Dj over 56 bits. -/
  | andA (n : Nat) (w : Word)
  /-- OR (R237): Ad receives Ad OR converted Dj over 56 bits. -/
  | orA (n : Nat) (w : Word)
  /-- XOR (R237): Ad receives Ad XOR converted Dj over 56 bits. -/
  | xor (n : Nat) (w : Word)
  /-- NOT (R237): Ad receives its bitwise complement. -/
  | notA (n : Nat) (w : Word)
  /-- ADDI (R237): ADD with imm24 in place of Dj. -/
  | addi (n : Nat) (w : Word)
  /-- SUBI (R237): SUB with imm24 in place of Dj. -/
  | subi (n : Nat) (w : Word)
  /-- CMPI (R237): CMP with imm24 in place of Dj. -/
  | cmpi (n : Nat) (w : Word)
  /-- ANDI (R237): AND with imm24 in place of Dj. -/
  | andi (n : Nat) (w : Word)
  /-- ORI (R237): OR with imm24 in place of Dj. -/
  | ori (n : Nat) (w : Word)
  /-- XORI (R237): XOR with imm24 in place of Dj. -/
  | xori (n : Nat) (w : Word)
  /-- COPYI (R237): COPY with imm24 in place of Dj. -/
  | copyi (n : Nat) (w : Word)
  /-- LDI (R236): A register receives a 24-bit immediate converted by its width. -/
  | ldi (n : Nat) (w : Word)
  /-- MOVE (R236): M-format MOVE copies one register to another with width conversion. -/
  | move (n : Nat) (w : Word)
  /-- LDX (R238): A register is loaded from X memory. -/
  | ldx (n : Nat) (w : Word)
  /-- LDY (R238): A register is loaded from Y memory. -/
  | ldy (n : Nat) (w : Word)
  /-- STX (R238): A register is stored to X memory. -/
  | stx (n : Nat) (w : Word)
  /-- STY (R238): A register is stored to Y memory. -/
  | sty (n : Nat) (w : Word)
  /-- LDXA (R237): A register is loaded from an absolute X address. -/
  | ldxa (n : Nat) (w : Word)
  /-- LDYA (R237): A register is loaded from an absolute Y address. -/
  | ldya (n : Nat) (w : Word)
  /-- STXA (R237): A register is stored to an absolute X address. -/
  | stxa (n : Nat) (w : Word)
  /-- STYA (R237): A register is stored to an absolute Y address. -/
  | stya (n : Nat) (w : Word)
  /-- LUI (R237): Pn bits 31:16 receive a 16-bit immediate. -/
  | lui (n : Nat) (w : Word)
  /-- MODP (R237): Pn is updated as by an access, with no access. -/
  | modp (n : Nat) (w : Word)
  /-- LDE (R244): A 32-bit E-space read loads a register, stalling until served. -/
  | lde (n : Nat) (w : Word)
  /-- STE (R244): A 32-bit E-space write is posted in program order. -/
  | ste (n : Nat) (w : Word)
  /-- SPE_PUSH (R228): The PUSH instruction pushes a converted register to a queue as a REG master. -/
  | spePush (n : Nat) (w : Word)
  /-- SPE_POP (R228): The POP instruction pops a queue word into a register and writes QT and LW. -/
  | spePop (n : Nat) (w : Word)
  /-- QCMD (R237): A queue command is issued to a queue as a REG master. -/
  | qcmd (n : Nat) (w : Word)
  /-- MAXI (R240): One search step replaces Ad and IX when the word exceeds Ad. -/
  | maxi (n : Nat) (w : Word)
  /-- MINI (R240): One search step replaces Ad and IX when the word is below Ad. -/
  | mini (n : Nat) (w : Word)
  /-- VMAX (R241): A block maximum search over n words runs as a REP of MAXI steps. -/
  | vmax (n : Nat) (w : Word)
  /-- VMIN (R241): A block minimum search over n words runs as a REP of MINI steps. -/
  | vmin (n : Nat) (w : Word)
  /-- DIV (R242): Ad is divided by Dk into a Q1.23 quotient and remainder, limited on overrange. -/
  | div (n : Nat) (w : Word)
  /-- NRM (R243): Ad is normalised and the shift count subtracted from Dj. -/
  | nrm (n : Nat) (w : Word)
  /-- SCNT (R243): Dj receives the normalising shift count of Ad. -/
  | scnt (n : Nat) (w : Word)
  /-- ASH (R243): Ad is shifted by the signed count in Dj. -/
  | ash (n : Nat) (w : Word)
  /-- ASHI (R243): Ad is shifted by a signed immediate. -/
  | ashi (n : Nat) (w : Word)
  /-- SRSET (R237): SR bits are set from an immediate. -/
  | srset (n : Nat) (w : Word)
  /-- SRCLR (R237): SR bits are cleared from an immediate. -/
  | srclr (n : Nat) (w : Word)
  /-- SIG (R237): The SIG cause is latched on the SPE's event source. -/
  | sig (n : Nat) (w : Word)
  /-- NOP (R237): The C-format NOP does nothing. -/
  | nop (n : Nat) (w : Word)
  /-- BRA (R245): A conditional branch with two delay slots. -/
  | bra (n : Nat) (w : Word)
  /-- CALL (R245): A conditional call pushing the address of i+3. -/
  | call (n : Nat) (w : Word)
  /-- JMPR (R245): A conditional branch to Pn. -/
  | jmpr (n : Nat) (w : Word)
  /-- CALLR (R245): A conditional call to Pn. -/
  | callr (n : Nat) (w : Word)
  /-- RTS (R245): A conditional return popping PC. -/
  | rts (n : Nat) (w : Word)
  /-- RTI (R245): A return from interrupt popping PC, SR and REP count. -/
  | rti (n : Nat) (w : Word)
  /-- REP (R222): The next instruction repeats n times in chunks of REP_CAP. -/
  | rep (n : Nat) (w : Word)
  /-- REPR (R222): REP with the count taken from a register. -/
  | repr (n : Nat) (w : Word)
  /-- DO (R224): A hardware loop runs its body n times using a loop-stack entry. -/
  | doLoop (n : Nat) (w : Word)
  /-- DOR (R224): DO with the count taken from a register. -/
  | dor (n : Nat) (w : Word)
  /-- LPOP (R224): One loop-stack entry is popped, raising LOOP when empty. -/
  | lpop (n : Nat) (w : Word)
  /-- WAIT (R245): Fetching stops until a routed source above IPL asserts. -/
  | wait (n : Nat) (w : Word)
  /-- TRAP (R227): Exception 5 is raised. -/
  | trap (n : Nat) (w : Word)
  /-- ADC_CONVERSION_DONE (R253): A conversion completes and its calibrated result goes to the LE input, TRES or RES. -/
  | adcConversionDone (k : Nat) (code : Int)
  /-- SEQ_ROUND_START (R255): ADCSEQ starts a round on every enabled core every ROUND_PERIOD, counting late rounds. -/
  | seqRoundStart
  /-- REF_BLIND (R257): No round for 10 ms in RUN raises BLIND and reports line 31. -/
  | refBlind
  /-- REF_DIFF_UPDATE (R261): Every 1 ms REF updates DIFF from the mean instantaneous difference and checks its lines. -/
  | refDiffUpdate
  /-- REF_SEL_WRITE (R263): A write to REF.SEL is accepted only in SAFE and takes effect at the next round. -/
  | refSelWrite (m : Master) (v : Word)
  /-- SDM_OUTPUT (R259): A sinc3 decimator output updates RESk or the LE input and the comparator filter is checked. -/
  | sdmOutput (k ones fastOnes : Nat)
  /-- SDM_STUCK (R260): An input with constant data for 128 clocks or no SDM_CLK for 1 µs latches STUCK. -/
  | sdmStuck (k : Nat)
  /-- TEMP_UPDATE (R265): Every 100 µs the four die sensors update, MAX and exclusions are evaluated, and lines 34 and 35 are checked. -/
  | tempUpdate (t0 t1 t2 t3 : Int)
  /-- ENC_EDGE (R266): An accepted input edge counts position, checks errors and handles Z. -/
  | encEdge (n : Nat) (a b z : Bool) (back : Nat)
  /-- ENC_VEL_TIMEOUT (R268): No edge for VEL_TIMEOUT sets VEL to 0. -/
  | encVelTimeout (n : Nat)
  /-- POS_SET_HI (R271): An opened write of POS_SET_HI loads POS and RAW, refused while the axis is enabled. -/
  | posSetHi (m : Master) (n : Nat) (v : Word)
  /-- PWM_CARRIER_ZERO (R273): The carrier reaches zero: TOP loads, zero-point shadows and locking act, and CYCLE trips may release. -/
  | pwmCarrierZero (n : Nat)
  /-- PWM_CARRIER_PERIOD (R277): The carrier reaches TOP and committed shadows load or a shadow miss is counted. -/
  | pwmCarrierPeriod (n : Nat)
  /-- PWM_COMMIT (R277): A 1 written to COMMIT marks the shadow set for the next load point. -/
  | pwmCommit (m : Master) (n : Nat)
  /-- PWM_XCMP_FIRE (R279): An extra compare fires, driving converter and LE triggers and latching its cause. -/
  | pwmXcmpFire (n k : Nat)
  /-- PWM_EDGE_REQUEST (R281): A compare crossing requests a gate change, filtered by the minimum pulse rule. -/
  | pwmEdgeRequest (n x : Nat)
  /-- PWM_DEAD_TIME_END (R280): Dead time elapses and the partner gate turns on. -/
  | pwmDeadTimeEnd (n x : Nat)
  /-- PWM_TRIP (R283): A trip comparator change turns the PWM's gates off within 10 ns and latches the trip. -/
  | pwmTrip (n : Nat) (level : Nat)
  /-- TRIP_CLEAR (R284): A write of 1 to TRIP_STAT.LATCHED clears a latched trip when every comparator is inactive. -/
  | tripClear (m : Master) (n : Nat)
  /-- HR_CAL (R276): Delay-line calibration leaving 24 to 40 taps clears CAL_OK and edges fall on the 1.25 ns grid. -/
  | hrCal (n taps : Nat)
  /-- PWM_SYNC_START (R287): An enabled PWM starts counting at its sync instant: next cycle, master zero, or implement-time target. -/
  | pwmSyncStart (n : Nat)
  /-- LE_SAMPLE_TRIGGER (R292): An LE trigger starts a sample or counts an overload if the previous sample is incomplete. -/
  | leSampleTrigger (n : Nat)
  /-- LE_SLOT_START (R293): A slot's current loop starts once its predecessor is done and its inputs are fresh, and the sample's later loops
  follow. -/
  | leSlotStart (le slot : Nat)
  /-- LE_PAIR_MISMATCH (R307): A datapath mismatch stops the LE in PAIR_HALT and latches line 3 or 4. -/
  | lePairMismatch (le slot step : Nat)
  /-- PARAM_COMMIT (R309): Writing STAGE 0 moves all staged loop parameters into force from the next loop start. -/
  | paramCommit (m : Master) (n : Nat)
  /-- AX_ENABLE (R310): Setting AXn.CTRL.EN clears the slot state and sets the reference to the captured position, refused unless PWM SRC is LE. -/
  | axEnable (m : Master) (n : Nat)
  /-- AX_DISABLE (R310): Clearing AXn.CTRL.EN stops the Profile Unit under the loops, then turns the axis off. -/
  | axDisable (m : Master) (n : Nat)
  /-- SNAP_REQ (R312): A slot mask written to SNAP_REQ requests a snapshot at the end of the next completed sample. -/
  | snapReq (m : Master) (le : Nat) (v : Word)
  /-- REP_CLEAR (R323): REP_CTRL.CLEAR with LEARN_EN 0 starts clearing the axis bins. -/
  | repClear (m : Master) (n : Nat)
  /-- REP_CLEAR_DONE (R323): All bins are cleared and CLEARING ends, starting a stored learning enable. -/
  | repClearDone (n : Nat)
  /-- REP_CTRL_ENABLE (R326): Setting PLAY_EN or LEARN_EN is accepted or refused with BAD_REP or ABSENT_FEATURE. -/
  | repCtrlEnable (m : Master) (n : Nat) (play learn : Bool)
  /-- REP_FADE_TIMEOUT (R321): No bin crossed for 100 ms while ψ falls sets ψ to 0. -/
  | repFadeTimeout (n : Nat)
  /-- PROF_STOP (R340): PROF_CMD.STOP starts a stop at STOP_DECEL ending in STOPPED. -/
  | profStop (m : Master) (n : Nat)
  /-- PROF_GO (R340): PROF_CMD.GO moves a STOPPED Profile Unit to READY. -/
  | profGo (m : Master) (n : Nat)
  /-- PROF_REFUSED_CLEAR (R341): A W1C clear of PROF_REFUSED takes effect only while RESTRICT_START is not in force. -/
  | profRefusedClear (m : Master) (n : Nat)
  /-- VM_LOAD (R335): VM_LOAD moves the staged virtual master values into force together, ignored when NET is set. -/
  | vmLoad (m : Master) (n : Nat)
  /-- LATCH_EDGE (R343): An accepted latch input transition forms a 12-word record at its latch instant. -/
  | latchEdge (k : Nat) (level : Bool) (back : Nat)
  /-- LAT_RECORD_PUSH (R344): A FIFO record is pushed to its bound queue once the queue has room. -/
  | latRecordPush (k : Nat)
  /-- LAT_NEXT (R344): A 1 written to NEXT drops the oldest record of an input's FIFO. -/
  | latNext (m : Master) (k : Nat)
  /-- ACT_CMD_OPEN (R348): CMD.OPEN opens a channel or answers a refusal code. -/
  | actCmdOpen (m : Master) (k : Nat)
  /-- ACT_CMD_CLOSE (R349): CMD.CLOSE turns the channel off and enters CLOSING or OFF; never refused. -/
  | actCmdClose (m : Master) (k : Nat)
  /-- ACT_CLEAR_TRIP (R372): CMD.CLEAR_TRIP ends TRIPPED and enters OFF. -/
  | actClearTrip (m : Master) (k : Nat)
  /-- ACT_SAMPLE (R351): Every 1 µs a channel samples current and drain, driving boost-off, chop, catch, finish and diagnosis. -/
  | actSample (k : Nat) (current : Int) (drain : DrainSample)
  /-- ACT_CHOP_TOFF_END (R353): HOLD_TOFF elapses and the gate turns on again. -/
  | actChopToffEnd (k : Nat)
  /-- ACT_BOOST_TMAX (R352): BOOST_TMAX after peak start turns the boost switch off. -/
  | actBoostTmax (k : Nat)
  /-- ACT_PEAK_END (R352): The peak ends PEAK_EXT after the catch or at PEAK_TMAX and hold starts. -/
  | actPeakEnd (k : Nat)
  /-- ACT_FINISH_WINDOW_END (R364): The finish window ends without a finish, setting NO_FINISH and ending CLOSING. -/
  | actFinishWindowEnd (k : Nat)
  /-- NOZZLE_COIL_ON (R355): At a computed grid coil-on instant the NOZZLE channel starts a peak. -/
  | nozzleCoilOn (k : Nat)
  /-- NOZZLE_COIL_OFF (R355): At a computed coil-off instant the NOZZLE channel turns off and enters CLOSING. -/
  | nozzleCoilOff (k : Nat)
  /-- BOOST_WAIT_TIMEOUT (R362): BOOST_WAIT elapsing in WAIT_BOOST starts the peak without boost. -/
  | boostWaitTimeout (k : Nat)
  /-- BOOST_RAIL_READY (R362): The rail becoming ready in WAIT_BOOST starts the peak with boost. -/
  | boostRailReady (k : Nat)
  /-- ACT_TRIP (R372): A channel trip comparator turns its gates off, abandons the operation and counts toward TRIPPED. -/
  | actTrip (k : Nat)
  /-- ACT_TRIP_RETRY (R372): RETRY_MS after a trip a channel still commanded open restarts with a peak. -/
  | actTripRetry (k : Nat)
  /-- ACT_THERMAL_UPDATE (R373): Every 1 ms the coil temperature model updates and the warn, derate and off levels act. -/
  | actThermalUpdate (k : Nat)
  /-- GROUP_SHORT_CHECK (R371): Every 10 µs the group residual is compared with GRP_SHORT_TH for line 72+g. -/
  | groupShortCheck (g : Nat) (current : Int)
  /-- ACT_DIAG_PERIODIC (R368): A gate held steady for 1 ms gets an on-state or off-state check. -/
  | actDiagPeriodic (k : Nat)
  /-- PROP_PERIOD_START (R357): A PROP channel starts a period at PWM_FREQ, applying the latest LE duty. -/
  | propPeriodStart (k : Nat)
  /-- LAMP_PERIOD_START (R359): A LAMP channel starts a period at LAMP_DUTY. -/
  | lampPeriodStart (k : Nat)
  /-- INRUSH_END (R359): INRUSH_T after the OPEN the lamp's inrush chopping ends. -/
  | inrushEnd (k : Nat)
  /-- ACT_SLOT_BIND (R357): A BIND write binds a PROP channel to an LE actuator slot, refused if busy or absent. -/
  | actSlotBind (m : Master) (k : Nat) (v : Word)
  /-- LAT_OPEN_WRITE (R366): A write of LAT_OPEN or LAT_CLOSE sets the learned latency, refused outside limits. -/
  | latOpenWrite (m : Master) (k : Nat) (close : Bool) (v : Word)
  /-- BST_RAIL_SAMPLE (R361): Every 1 µs the rail is sampled to stop or resume switching, track readiness and detect OV and UV. -/
  | bstRailSample (x microvolts : Nat)
  /-- BST_ILIM (R360): BSTx_ISNS reaching ILIM turns the boost gate off for TOFF. -/
  | bstIlim (x : Nat)
  /-- BST_TOFF_END (R360): TOFF elapses and the boost gate turns on again below TARGET. -/
  | bstToffEnd (x : Nat)
  /-- BST_CHARGE_TIMEOUT (R361): A rail not ready within CHARGE_TMAX of enable enters FAULT. -/
  | bstChargeTimeout (x : Nat)
  /-- INCR_COMMIT (R378): A write of x_INCR_HI moves the staged increment into force at the next TICK, refused outside ±1000 ppm. -/
  | incrCommit (m : Master) (x : Nat) (v : Word)
  /-- LANE_ADJ (R379): A write of x_ADJ delivers a correction, replacing the unapplied slew and driving the lane state machine. -/
  | laneAdj (m : Master) (x : Nat) (v : Word)
  /-- LANE_STEP (R380): STEP_CMD.GO steps the lane by the staged value or is refused with STEP_STATE. -/
  | laneStep (m : Master) (x : Nat) (v : Word)
  /-- FEED_TIMEOUT (R381): No correction for FEED_TIMEOUT moves ACQUIRE to FREE or TRACK to HOLDOVER. -/
  | feedTimeout (x : Nat)
  /-- HOLDOVER_LIMIT (R381): HOLDOVER lasting HOLDOVER_LIMIT makes the lane INVALID. -/
  | holdoverLimit (x : Nat)
  /-- ERR_BUDGET_EXCEEDED (R381): ERR_EST exceeding ERR_BUDGET in HOLDOVER makes the lane INVALID. -/
  | errBudgetExceeded (x : Nat)
  /-- SEL_WRITE (R386): A change of SEL_CFG.SEL switches the selected lane, loading BRIDGE so that IT does not step. -/
  | selWrite (m : Master) (v : Word)
  /-- AUTO_SELECT (R387): With AUTO set the TSU switches to the other lane when the selected lane is worse. -/
  | autoSelect
  /-- BRIDGE_DONE (R386): BRIDGE slewing reaches 0 and latches BRIDGE_DONE. -/
  | bridgeDone
  /-- AGREE_CHECK (R388): Every 1 µs A−B is compared with AGREE_WINDOW and TIME_OK may fall. -/
  | agreeCheck
  /-- TIME_OK_RISE (R388): TIME_OK rises after its conditions have held for OK_HOLD. -/
  | timeOkRise
  /-- SNAP (R391): A write of SNAP captures TICK, IT, both lanes and states at one instant. -/
  | snap (m : Master)
  /-- PPS_OUT_PULSE (R392): IT reaching a whole second raises PPS_OUT. -/
  | ppsOutPulse
  /-- PPS_OUT_END (R392): PPS_OUT falls after WIDTH. -/
  | ppsOutEnd
  /-- PPS_IN_EDGE (R393): An accepted PPS_IN edge captures TICK, IT and both lanes. -/
  | ppsInEdge (rising : Bool) (back : Nat)
  /-- TSU_ALARM (R394): IT reaching ALk_TIME fires the alarm, acting on TPINk and rearming or disabling it. -/
  | tsuAlarm (k : Nat)
  /-- TPIN_PULSE_END (R394): An alarm pulse on TPINk ends after WIDTH. -/
  | tpinPulseEnd (k : Nat)
  /-- SCH_INSERT (R396): An action record from a queue or SECT frame is inserted with its fire time, or rejected. -/
  | schInsert
  /-- SCH_FIRE (R400): An entry whose fire time is reached fires, is suppressed, dropped or skipped, and writes its completion. -/
  | schFire (upset : Upset)
  /-- SCH_CANCEL (R406): A write of an ID to CANCEL removes every entry with that ID, completing them CANCELLED. -/
  | schCancel (m : Master) (ident : Nat)
  /-- SCH_FLUSH (R407): CMD.FLUSH empties the calendar without completions, refused while enabled. -/
  | schFlush (m : Master)
  /-- SCH_COMPLETION_PUSH (R404): A completion record in the FIFO is pushed to the completion queue once it has room. -/
  | schCompletionPush
  /-- CAN_INTEGRATED (R414): 11 consecutive recessive bits end INTEGRATING. -/
  | canIntegrated (n : Nat)
  /-- CAN_FRAME_RECEIVED (R419): A valid received frame is filtered and stored in an RX buffer, a queue FIFO or discarded. -/
  | canFrameReceived (n : Nat) (frame : CanFrame) (back : Nat)
  /-- CAN_RXB_SNAPSHOT (R420): A read of RX buffer word 0 copies the whole buffer into the master's read shadow. -/
  | canRxbSnapshot (m : Master) (n b : Nat)
  /-- CAN_RXB_NEW_CLEAR (R420): A write of word 0 with bit 31 clears NEW only when SEQ matches. -/
  | canRxbNewClear (m : Master) (n b : Nat) (v : Word)
  /-- CAN_RX_QUEUE_PUSH (R421): A frame record in the FIFO is pushed to its queue once it has room. -/
  | canRxQueuePush (n : Nat)
  /-- CAN_TXCOMMIT (R422): TXCOMMIT moves a staging buffer into its active copy, at once or after the attempt on the bus. -/
  | canTxcommit (m : Master) (n : Nat) (v : Word)
  /-- CAN_TXREQ (R423): TXREQ makes a free buffer pending, refused for a buffer owned by the matrix. -/
  | canTxreq (m : Master) (n : Nat) (v : Word)
  /-- CAN_TXCANCEL (R424): TXCANCEL ends a request CANCELLED, or is late when its attempt is on the bus. -/
  | canTxcancel (m : Master) (n : Nat) (v : Word)
  /-- CAN_ARBITRATION_START (R423): At each arbitration start the controller offers the window frame or the lowest pending free buffer. -/
  | canArbitrationStart (n : Nat)
  /-- CAN_TX_DONE (R423): A transmission succeeds, setting TX_OK and TXDONE. -/
  | canTxDone (n delay : Nat)
  /-- CAN_TX_ERROR (R423): Lost arbitration or a bus error leads to retry, ABANDONED or SLOT_MISSED, and error counting. -/
  | canTxError (n : Nat) (how : TxFail) (lec : Nat)
  /-- CAN_RECOVER (R415): CMD.RECOVER starts bus-off recovery. -/
  | canRecover (m : Master) (n : Nat)
  /-- CAN_RECOVERY_DONE (R415): 128 occurrences of 11 recessive bits end recovery and the controller becomes error-active. -/
  | canRecoveryDone (n : Nat)
  /-- MTX_CYCLE_START (R425): A matrix cycle starts and pending entry writes take effect. -/
  | mtxCycleStart (n : Nat)
  /-- MTX_WINDOW_OPEN (R426): An entry's window opens and its buffer is offered. -/
  | mtxWindowOpen (n e : Nat)
  /-- MTX_WINDOW_CLOSE (R426): An entry's window closes, abandoning an unsent frame with SLOT_MISSED. -/
  | mtxWindowClose (n e : Nat)
  /-- KSW_FRAME_RX (R432): A received frame is learned, classified and forwarded cut-through or stored, or discarded. -/
  | kswFrameRx (port : Nat) (frame : List (BitVec 8)) (fcs : Bool)
  /-- KSW_EGRESS_START (R436): At a transmit opportunity a port sends the head frame of the highest open class, with TC correction and timestamp. -/
  | kswEgressStart (port : Nat) (read : EgressRead)
  /-- KSW_AGE_OUT (R432): A dynamic address entry ages out after AGE_TIME. -/
  | kswAgeOut (sa : Nat)
  /-- GCL_ENTRY_CHANGE (R437): The gate control list moves to its next entry or cycle start, applying a pending SWAP. -/
  | gclEntryChange (port : Nat)
  /-- STREAM_HISTORY_RESET (R439): No frame of a stream for RESET_MS restarts its elimination history. -/
  | streamHistoryReset (stream : Nat)
  /-- BEAT_TX (R451): Every BEAT_PERIOD with TX_EN the device sends its own BEAT on both ports. -/
  | beatTx
  /-- BEAT_AGE_CHECK (R452): Every 1 µs each enabled BEAT source's age is compared with BEAT_TIMEOUT for line 87. -/
  | beatAgeCheck
  /-- KNT_AUTH_UPDATE (R447): Every 1 ms the authentication rejections of the last second are compared with AUTH_TH for line 88. -/
  | kntAuthUpdate
  /-- SEQ_RESET (R446): KNT_CMD.SEQ_RESET empties every Knatis sequence state. -/
  | seqReset (m : Master)
  /-- POS_WRITE (R448): An opened write of KSW.POS sets the chain position directly. -/
  | posWrite (m : Master) (v : Word)
  /-- LTX_KICK (R454): A write to LTX_KICK starts sending owned local transmit descriptors in order. -/
  | ltxKick (m : Master)
  /-- MDIO_POLL (R455): Every 10 ms with POLL_EN the MAC reads the PHY status and latches link changes. -/
  | mdioPoll (port : Nat) (up : Bool)
  /-- MDIO_CMD (R455): A GO write to MDIO_CMD starts a clause 22 read or write. -/
  | mdioCmd (m : Master) (port : Nat) (v : Word)
  /-- MDIO_DONE (R455): An MDIO operation completes and latches MDIO_DONE. -/
  | mdioDone (port data : Nat)
  /-- LDL_ARM (R463): CMD.ARM moves a DISARMED capture to ARMING. -/
  | ldlArm (m : Master) (c : Nat)
  /-- LDL_DISARM (R463): CMD.DISARM returns the capture to DISARMED, truncating an open record. -/
  | ldlDisarm (m : Master) (c : Nat)
  /-- LDL_FIRE (R464): CMD.FIRE is a SOFT local trigger, acting only in ARMED. -/
  | ldlFire (m : Master) (c : Nat)
  /-- LDL_ARM_COMPLETE (R463): At the first window start after the arm the capture becomes ARMED and acts on a pending fire. -/
  | ldlArmComplete (c back : Nat)
  /-- LDL_SAMPLE (R459): At a sample instant the capture samples its probes, closes windows and tests a probe trigger. -/
  | ldlSample (c back : Nat)
  /-- LDL_EVENT_TRIGGER (R464): A rising edge of the selected event source fires an ARMED capture. -/
  | ldlEventTrigger (c : Nat)
  /-- LDL_TIME_TRIGGER (R464): Implement time reaching FIRE_AT fires an ARMED capture. -/
  | ldlTimeTrigger (c : Nat)
  /-- LDL_NET_FIRE_TIME (R465): A future network fire time is reached and fires the ARMED capture. -/
  | ldlNetFireTime (c : Nat)
  /-- LDL_RING_WRITE (R462): Window outputs waiting in the FIFO are written to the history ring when the bank serves them. -/
  | ldlRingWrite (c words : Nat)
  /-- LDL_RECORD_PUSH (R468): Delivered windows and the trailer are pushed to the record packet as the queue accepts them. -/
  | ldlRecordPush (c : Nat)
  /-- LDL_CAPTURE_DISABLE (R470): Clearing a capture's EN closes an open record with TRUNCATED and enters IDLE. -/
  | ldlCaptureDisable (m : Master) (c : Nat)
  /-- AON_SWITCH_TO_VBAT (R472): VIN below its threshold switches the AON domain to VBAT within 1 µs. -/
  | aonSwitchToVbat
  /-- AON_RETURN_TO_VIN (R472): VIN above threshold plus hysteresis for 100 µs returns the AON domain to VIN. -/
  | aonReturnToVin
  /-- AON_POR (R473): The AON supply below 1.70 V resets every AON register and sets LOST. -/
  | aonPor
  /-- RTC_CAL_DONE (R475): A calibration over 262 144 RTC periods stores N and loads RTC_TRIM under CAL_AUTO. -/
  | rtcCalDone (n : Nat)
  /-- XTAL32_FAIL (R476): No crystal edge for 4 ms switches the RTC to RC. -/
  | xtal32Fail
  /-- RTC_SET (R477): An opened write of SET_HI loads the RTC seconds and sets INTEGRITY. -/
  | rtcSet (m : Master) (v : Word)
  /-- RTC_ALARM (R479): RTC seconds reaching ALMk fire the alarm, wake the device where enabled, and rearm or disable it. -/
  | rtcAlarm (k : Nat)
  /-- WAKE_PIN_EDGE (R480): A filtered WAKE edge of the selected polarity wakes the device or is recorded as pending. -/
  | wakePinEdge (rising : Bool)
  /-- VBAT_MEASURE (R482): The ladder measures VBAT every 60 s, at a switch to VBAT or on CMD.MEASURE, and the gauge state is set. -/
  | vbatMeasure (millivolts drawn : Nat)
  /-- GAUGE_CAP_WRITE (R483): An opened write of GAUGE_CAP re-seats the gauge and re-evaluates its state. -/
  | gaugeCapWrite (m : Master) (v : Word)
  /-- PAD_WRITE (R510): A write to PADp sets slew, pull, filter and function, with per-field refusals. -/
  | padWrite (m : Master) (p : Nat) (v : Word)
  /-- GPIO_EDGE (R514): A selected edge of a pad's filtered level latches its GPIO edge cause. -/
  | gpioEdge (p : Nat) (level : Bool)
  /-- LDL_NET_ARM_TIME (R463): Implement time reaching the future time carried by an accepted TRIG ARM frame arms the capture. -/
  | ldlNetArmTime (c : Nat)
  /-- CAN_RX_ERROR (R409): An error detected while the controller receives a frame signals an error frame, counts REC and may change the error
  state. -/
  | canRxError (n lec : Nat) (eight : Bool)
  /-- CAN_PROTOCOL_EXCEPTION (R414): A recessive res bit with FD_EN and PXE_EN set enters protocol exception, increments PXE_CNT and returns the
  controller to INTEGRATING. -/
  | canProtocolException (n : Nat)
  /-- MIN_PULSE_STRETCH_END (R281): The stretched on-pulse reaches MIN_PULSE, its gate falls and the partner's delayed turn-on follows. -/
  | minPulseStretchEnd (n x : Nat)
  /-- ACT_DUTY_GATE_OFF (R357): Within a PROP or LAMP period, or at the end of a diagnostic stretch, the channel's gate turns off when its on-time
  ends. -/
  | actDutyGateOff (k : Nat)
  /-- ILLEGAL_ENCODING (R232): An SPE executing an undefined encoding raises the ILLEGAL exception at its own PC. -/
  | illegalEncoding (n : Nat) (w : Word)
  /-- POSTED_E_WRITE_DONE (R244): A posted STE write completes on the bus, freeing its post slot and raising BUS_ERROR at the next qualifying
  boundary on a bus error. -/
  | postedEWriteDone (n : Nat)
  /-- KSW_EGRESS_DONE (R454): A frame finishes on an egress port, clearing OWN of a local transmit descriptor, latching LTX_DONE and giving the
  port its next transmit opportunity. -/
  | kswEgressDone (port : Nat)
  deriving DecidableEq, Repr

end Sys2Proof
end

