-- ==== Sys2Proof/Decode.lean ====
section
/-! DEFINITION. Words that spell commands: the command table gives bits to no row, so none does. -/

namespace Sys2Proof

/-- The command that a word of `nbits` bits spells by the bits of spec/opcode_table.json: every row has an empty list of fields, so no
word spells a command. -/
def decodeTableWord (_nbits _w : Nat) : Option Instr := none

end Sys2Proof
end

