-- ==== Sys2Proof/Config.lean ====
section
/-! DEFINITION. What an implementation fixes and the spec leaves open, as constants with no body: no proof can see a value, so a
claim holds for every one. Each is named in the assumption log. -/

namespace Sys2Proof.Config

/-- A fresh free value: applied to the state's counter of draws (log entry 1). -/
opaque freeNat : Nat → Nat

/-- PAGE_CAP of a page class: R72 says that the block chapter defines it, and none does (log entry 5). -/
opaque pageCap : Nat → BitVec 32

/-- The factory offset and gain of an ADC core for a reference and a channel, applied to a raw Q1.23 value: R251 says that OTP holds
the trims, and no rule gives their values or their place (log entry 23). -/
opaque adcTrim : Nat → Nat → Nat → Int → Int

/-- Which of the Q1.23 values within 2^−21 of the sine the table of a Loop Engine gives for an angle (R298; log entry 26). -/
opaque sinTable : Nat → Nat

/-- SHA-512 of a message: the spec names the function and does not define it (R152, R154; log entry 22). -/
opaque sha512 : List (BitVec 8) → List (BitVec 8)

/-- Ed25519 verification of RFC 8032: public key, message, signature (R151, R154; log entry 22). -/
opaque ed25519 : List (BitVec 8) → List (BitVec 8) → List (BitVec 8) → Bool

/-- AES-128 CMAC of NIST SP 800-38B: key, message, 16 bytes of tag (R444; log entry 22). -/
opaque cmac : List (BitVec 8) → List (BitVec 8) → List (BitVec 8)

end Sys2Proof.Config
end

