-- ==== Sys2Proof/Machine/Bits.lean ====
section
/-! DEFINITION. Bit fields of words, signed readings, saturation and small association tables: the helpers that every
block uses. -/

namespace Sys2Proof.Machine

/-- The field of `len` bits that begins at bit `lo`, as a number (notation of spec/00_scope.md: bits [lo+len-1:lo]). -/
def bits (w : Word) (lo len : Nat) : Nat := w.toNat / 2 ^ lo % 2 ^ len

/-- Bit `k` of a word. -/
def bit (w : Word) (k : Nat) : Bool := w.getLsbD k

/-- The word with 1s in the field of `len` bits from bit `lo`. -/
def fieldMask (lo len : Nat) : Word := BitVec.ofNat 32 ((2 ^ len - 1) * 2 ^ lo)

/-- `w` with the field of `len` bits from `lo` replaced by `v` (reduced to the field's width). -/
def putBits (w : Word) (lo len v : Nat) : Word :=
  (w &&& ~~~(fieldMask lo len)) ||| BitVec.ofNat 32 (v % 2 ^ len * 2 ^ lo)

/-- `w` with bit `k` set to `b`. -/
def putBit (w : Word) (k : Nat) (b : Bool) : Word := putBits w k 1 (if b then 1 else 0)

/-- The number `v`, taken as a two's complement number of `len` bits. -/
def signed (len v : Nat) : Int := if v % 2 ^ len < 2 ^ (len - 1) then (v % 2 ^ len : Nat) else (v % 2 ^ len : Nat) - (2 ^ len : Nat)

/-- The field of `len` bits from `lo`, as a two's complement number. -/
def sbits (w : Word) (lo len : Nat) : Int := signed len (bits w lo len)

/-- The low `len` bits of an integer, as a number. -/
def lowBits (len : Nat) (v : Int) : Nat := (v % (2 ^ len : Nat)).toNat

/-- `v` limited to the range `lo` to `hi`. -/
def clampI (lo hi v : Int) : Int := if v < lo then lo else if hi < v then hi else v

/-- `v` limited to a two's complement number of `len` bits. -/
def satS (len : Nat) (v : Int) : Int := clampI (-((2 ^ (len - 1) : Nat) : Int)) ((2 ^ (len - 1) : Nat) - 1) v

/-- A word that holds the low 32 bits of an integer. -/
def wordOfInt (v : Int) : Word := BitVec.ofNat 32 (lowBits 32 v)

/-- A word that holds the low 32 bits of a number. -/
def wordOf (v : Nat) : Word := BitVec.ofNat 32 v

/-- The 64-bit number held in two words, the low word first. -/
def pairNat (lo hi : Word) : Nat := hi.toNat * 2 ^ 32 + lo.toNat

/-- The high word of a number of up to 64 bits. -/
def hiWord (v : Nat) : Word := wordOf (v / 2 ^ 32)

/-- 16-bit rotation to the left (R109). -/
def rotl16 (v k : Nat) : Nat := (v * 2 ^ k + v / 2 ^ (16 - k)) % 2 ^ 16

/-- The numbers of the set bits of the low `n` bits of a word, in ascending order. -/
def setBitsOf (w : Word) (n : Nat) : List Nat := (List.range n).filter fun k => w.getLsbD k

/-- Convergent rounding: the nearest integer, an exact half to the even one (R215, R315, R460). -/
def convergent (x : Rat) : Int :=
  let f := x.floor
  let d := x - f
  if d < 1 / 2 then f else if 1 / 2 < d then f + 1 else if f % 2 = 0 then f else f + 1

/-- A sparse table: pairs of a key and a value, in rising key order, with no entry equal to the default. -/
def tabGet {α : Type} : List (Nat × α) → Nat → α → α
  | [], _, d => d
  | p :: r, k, d => if p.1 = k then p.2 else tabGet r k d

/-- Inserts an entry before the first entry with a larger key. -/
def tabInsert {α : Type} (p : Nat × α) : List (Nat × α) → List (Nat × α)
  | [] => [p]
  | q :: r => if p.1 < q.1 then p :: q :: r else q :: tabInsert p r

/-- The table with key `k` set to `v`; an entry equal to the default `d` is not listed. -/
def tabPut {α : Type} [DecidableEq α] (l : List (Nat × α)) (k : Nat) (v d : α) : List (Nat × α) :=
  let l' := l.filter (fun p => p.1 != k)
  if v = d then l' else tabInsert (k, v) l'

/-- The canonical form of a sparse table: keys rise strictly and no entry equals the default of its key. -/
def tabWf {α : Type} [DecidableEq α] (d : Nat → α) : List (Nat × α) → Bool
  | [] => true
  | p :: r => decide (p.2 ≠ d p.1) && r.all (fun q => decide (p.1 < q.1)) && tabWf d r

/-- Element `k` of a list, or `d` beyond its end. -/
def listGet {α : Type} (l : List α) (k : Nat) (d : α) : α := (l.drop k).headD d

/-- The list with element `k` replaced (unchanged beyond the end). -/
def listSet {α : Type} (l : List α) (k : Nat) (v : α) : List α := l.set k v

end Sys2Proof.Machine
end

