-- ==== Sys2Proof/Machine/PadTab.lean ====
section
/-! DEFINITION. The ball map (spec/26_package_pins.md R502 to R506, R509, R510): pad type, owning page and reset value of
`PADp` for every ball. Rows count from A = 1 to AF = 25 and columns from 1 to 25, so p = 25 × (row − 1) + (column − 1). -/

namespace Sys2Proof.Machine

/-- Row index 1 to 25 of a pad index (R502). -/
def padRow (p : Nat) : Nat := p / 25 + 1

/-- Column number 1 to 25 of a pad index (R502). -/
def padCol (p : Nat) : Nat := p % 25 + 1

/-- Pad types (R505). -/
inductive PadType
  | pwr | dio | dhp | dout | odn | ain | xo | aon
  deriving DecidableEq, Repr

/-- PADp.TYPE codes (R505). -/
def padTypeCode : PadType → Nat
  | .pwr => 0 | .dio => 1 | .dhp => 2 | .dout => 3 | .odn => 4 | .ain => 5 | .xo => 6 | .aon => 7

/-- Pad type of a ball (R503, R504). -/
def padType (p : Nat) : PadType :=
  let r := padRow p
  let c := padCol p
  if r ≤ 8 then
    if c = 25 then (if r = 1 ∨ r = 4 then .dout else .ain)                 -- BSTx_GATE; BSTx_ISNS, BSTx_FB, ACTG0/1_ISNS
    else if r ≤ 2 ∨ 7 ≤ r then .dout else .ain                             -- ACTk, ACTk_BH; ACTk_ISNS, ACTk_DRN
  else if r ≤ 15 then
    if c ≤ 8 then .ain                                                     -- ADC cores 0 to 6
    else if c = 9 then (if r = 9 then .ain else if r ≤ 11 then .xo else .aon)
    else if c ≤ 16 then .pwr                                               -- the centre block of R504
    else if c = 17 then (if r = 10 then .odn else if 14 ≤ r then .dout else .dio)
    else if r ≤ 13 then .ain                                               -- ADC cores 7 to 11
    else if r = 14 then (if c = 19 then .dio else if c = 20 then .odn else .dout)
    else .dio                                                              -- test port, IRQk_N
  else if c ≤ 16 then (if r ≤ 18 then .dio else if r = 19 then .ain else .dout)
  else if r = 19 then (if c ≤ 20 then .ain else .dio)
  else if r ≤ 22 then .dio
  else if c ≤ 20 then .dhp
  else if r = 23 then .dio
  else .pwr

/-- Page index of the unit that owns a ball's signal, where it belongs to one (R503). -/
def padOwner (p : Nat) : Option Nat :=
  let r := padRow p
  let c := padCol p
  if r ≤ 8 then
    if c = 25 then (if r ≤ 6 then some 0xA8 else some (0xA0 + (r - 7)))
    else if r ≤ 4 then some (0xA0 + (c - 1) / 8) else some (0xA0 + (c + 23) / 8)
  else if r ≤ 15 then
    if c ≤ 8 then some (0xB0 + (r - 9))
    else if 18 ≤ c ∧ r ≤ 13 then some (0xB0 + 7 + (r - 9))
    else if r = 15 ∧ 22 ≤ c then some 0x05                                 -- IRQk_N
    else none
  else if c ≤ 16 then (if r ≤ 18 then some (0xC0 + (c - 1)) else some (0x90 + (c - 1)))
  else if r = 16 then some 0xBC
  else if r = 17 then (if c ≤ 19 then some 0xD0 else some 0xBC)
  else if r = 18 then some 0xD0
  else if r = 19 then (if c ≤ 20 then some (0xA2 + (c - 17)) else if c = 21 then some 0xE0 else some 0xD0)
  else if r = 20 then (if c ≤ 22 then some (0xF0 + (c - 17) / 2) else some 0xE0)
  else if r = 21 then (if c ≤ 23 then some 0xFA else some 0xE0)
  else if r = 22 then some 0xF9
  else if c ≤ 20 then some 0x30
  else if r = 23 ∧ c ≤ 23 then some 0xBC
  else none

/-- The balls whose alternate is GPIO (R503, R510): DIO balls of ENC, LAT, SDM, CAN, Ethernet, time pins and IRQ. -/
def padHasGpio (p : Nat) : Bool :=
  match padType p, padOwner p with
  | .dio, some _ => true
  | _, _ => false

/-- The sigma-delta data input on a ball, if any (R503). -/
def padSdm (p : Nat) : Option Nat :=
  let r := padRow p
  let c := padCol p
  if r = 16 ∧ 17 ≤ c then some (4 + (c - 17))
  else if r = 17 ∧ 22 ≤ c then some (c - 22)
  else if r = 23 ∧ 21 ≤ c ∧ c ≤ 23 then some (13 + (c - 21))
  else none

/-- The ball belongs to a unit that is absent on the variant (R509). -/
def padAbsent (v : Variant) (p : Nat) : Bool :=
  match v with
  | .aq1680 => false
  | .aq1660 =>
    match padOwner p with
    | some o => (decide (0xA4 ≤ o ∧ o ≤ 0xA5)) || (decide (0x98 ≤ o ∧ o ≤ 0x9F)) || (decide (0xC8 ≤ o ∧ o ≤ 0xCF))
        || (decide (0xB8 ≤ o ∧ o ≤ 0xBB)) || (match padSdm p with | some k => decide (8 ≤ k) | none => false)
    | none => false
  | .aq1620 =>
    match padOwner p with
    | some o => (decide (0xA2 ≤ o ∧ o ≤ 0xA5)) || (decide (0x94 ≤ o ∧ o ≤ 0x9F)) || (decide (0xC4 ≤ o ∧ o ≤ 0xCF))
        || (decide (0xB4 ≤ o ∧ o ≤ 0xBB)) || decide (o = 0xBC) || decide (o = 0xF2) || decide (o = 0xFA)
        || (decide (o = 0xA8) && decide (4 ≤ padRow p))
    | none => false

/-- PULL applies to the ball (R510). -/
def padHasPull (v : Variant) (p : Nat) : Bool :=
  match padType p with
  | .dio | .dhp | .dout => true
  | .ain => padAbsent v p
  | _ => false

/-- SLEW applies to the ball (R510). -/
def padHasSlew (p : Nat) : Bool :=
  match padType p with
  | .dio | .dhp | .dout => true
  | _ => false

/-- ERR_IN_N, SAFE_FB and BOOT_SEL, to which FILT applies besides GPIO balls (R510). -/
def padFiltBall (p : Nat) : Bool :=
  let r := padRow p
  let c := padCol p
  decide (c = 17 ∧ (r = 13 ∨ r = 11 ∨ r = 12)) || decide (r = 14 ∧ c = 19)

/-- Reset value of `PADp` (R506, R509, R511 and the field table of `PADp`). -/
def padReset (v : Variant) (p : Nat) : BitVec 32 :=
  let t := padTypeCode (padType p)
  let r := padRow p
  let c := padCol p
  let absent := padAbsent v p
  let up : Bool := decide ((r = 15 ∧ (c = 19 ∨ c = 20)) ∨ (r = 13 ∧ c = 17))
  let pull := if padHasPull v p then (if up then 2 else 1) else 0
  let slew := if padHasSlew p then (if 20 ≤ r ∧ c ≤ 16 then 1 else 2) else 0
  BitVec.ofNat 32 ((if absent then 0x80000000 else 0) + 0x10000000 * t + (if absent then 0x01000000 else 0) + 0x10000 * pull + slew)

end Sys2Proof.Machine
end

