-- ==== Sys2Proof/Machine/RegNames.lean ====
section
/-! DEFINITION. The byte addresses of the registers (R40, R42 and the register tables of spec/), by name: one abbreviation
per row of a register table, a function of the instance where there are several. -/

namespace Sys2Proof.Machine.Reg

/-- First byte of the SYS page. -/
abbrev SYS : Nat := 0x40000000
abbrev SYS_CAP (k : Nat) : Nat := 0x40000040 + 4 * k
abbrev SYS_CFG : Nat := 0x40000050
abbrev SYS_RST_KEY : Nat := 0x40000054
abbrev SYS_RST_CAUSE : Nat := 0x40000058
abbrev SYS_ABSENT_ADDR : Nat := 0x4000005C
abbrev SYS_ABSENT_STAT : Nat := 0x40000060
/-- First byte of the CLK page. -/
abbrev CLK : Nat := 0x40001000
abbrev CLK_XTAL_CFG : Nat := 0x40001040
abbrev CLK_PLL_STAT : Nat := 0x40001044
abbrev CLK_SPREAD_CFG : Nat := 0x40001048
abbrev CLK_SPREAD_STAT : Nat := 0x4000104C
/-- First byte of the PWR page. -/
abbrev PWR : Nat := 0x40002000
abbrev PWR_REQ : Nat := 0x40002040
abbrev PWR_STATE : Nat := 0x40002044
abbrev PWR_ENTRY : Nat := 0x40002048
abbrev PWR_WAKE_CFG : Nat := 0x4000204C
abbrev PWR_WAKE_STAT : Nat := 0x40002050
abbrev PWR_RET_CFG : Nat := 0x40002054
abbrev PWR_SUP_STAT : Nat := 0x40002058
/-- First byte of the PAD page. -/
abbrev PAD : Nat := 0x40003000
abbrev PAD_RB_FIRST : Nat := 0x40003040
abbrev PAD_RB_CNT : Nat := 0x40003044
abbrev PAD_PADp (k : Nat) : Nat := 0x40003100 + 4 * k
/-- First byte of the GPIO page. -/
abbrev GPIO : Nat := 0x40004000
abbrev GPIO_EDGE (k : Nat) : Nat := 0x40004080 + 4 * k
abbrev GPIO_IN (k : Nat) : Nat := 0x40004100 + 4 * k
abbrev GPIO_OUT (k : Nat) : Nat := 0x40004180 + 4 * k
abbrev GPIO_OE (k : Nat) : Nat := 0x40004200 + 4 * k
/-- First byte of the EVT page. -/
abbrev EVT : Nat := 0x40005000
abbrev EVT_RAW (k : Nat) : Nat := 0x40005040 + 4 * k
abbrev EVT_SOFT : Nat := 0x40005048
abbrev EVT_SOFT_SET : Nat := 0x4000504C
abbrev EVT_IRQ_CFG : Nat := 0x40005050
abbrev EVT_PEND (k : Nat) : Nat := 0x40005060 + 4 * k
abbrev EVT_ROUTE (k : Nat) : Nat := 0x40005100 + 4 * k
/-- First byte of the TEMP page. -/
abbrev TEMP : Nat := 0x40006000
abbrev TEMP_T (k : Nat) : Nat := 0x40006040 + 4 * k
abbrev TEMP_TH : Nat := 0x40006050
abbrev TEMP_MAX : Nat := 0x40006054
abbrev TEMP_TSTAT : Nat := 0x40006058
/-- First byte of the REF page. -/
abbrev REF : Nat := 0x40007000
abbrev REF_SEL : Nat := 0x40007040
abbrev REF_DIFF : Nat := 0x40007044
abbrev REF_INST : Nat := 0x40007048
abbrev REF_C_DEV : Nat := 0x4000704C
abbrev REF_TH_DRIFT : Nat := 0x40007050
abbrev REF_TH_ABS : Nat := 0x40007054
abbrev REF_EXT_CFG : Nat := 0x40007058
abbrev REF_EXT_EXP : Nat := 0x4000705C
abbrev REF_EXT_TOL : Nat := 0x40007060
abbrev REF_EXT_VAL : Nat := 0x40007064
/-- First byte of the COX page. -/
abbrev COX : Nat := 0x40010000
abbrev COX_CFG : Nat := 0x40010040
abbrev COX_STOP_TIME : Nat := 0x40010044
abbrev COX_LIMIT_SCALE : Nat := 0x40010048
abbrev COX_RELEASE : Nat := 0x4001004C
abbrev COX_REL_STAT : Nat := 0x40010050
abbrev COX_RESTRICT : Nat := 0x40010054
abbrev COX_ACTIVE (k : Nat) : Nat := 0x40010058 + 4 * k
abbrev COX_LATCH (k : Nat) : Nat := 0x40010064 + 4 * k
abbrev COX_FIRST : Nat := 0x40010070
abbrev COX_FIRST_TICK (k : Nat) : Nat := 0x40010074 + 4 * k
abbrev COX_LOG_IDX : Nat := 0x4001007C
abbrev COX_CHECK_RES : Nat := 0x40010080
abbrev COX_WD_SEED : Nat := 0x40010084
abbrev COX_WD_WIN : Nat := 0x40010088
abbrev COX_WDQ : Nat := 0x4001008C
abbrev COX_WDA : Nat := 0x40010090
abbrev COX_WD_STAT : Nat := 0x40010094
abbrev COX_SPE_WD_WIN : Nat := 0x40010098
abbrev COX_SPEWD (k : Nat) : Nat := 0x4001009C + 4 * k
abbrev COX_LE_LIVE_MIN : Nat := 0x400100A4
abbrev COX_SW_FAULT : Nat := 0x400100A8
abbrev COX_LOG (k : Nat) : Nat := 0x40010400 + 4 * k
/-- First byte of the COX_FMAP page. -/
abbrev COX_FMAP : Nat := 0x40011000
abbrev COX_FMAP_ENTRY (k : Nat) : Nat := 0x40011040 + 4 * k
/-- First byte of the MEM page. -/
abbrev MEM : Nat := 0x40020000
abbrev MEM_CFG : Nat := 0x40020040
abbrev MEM_CE_CNT : Nat := 0x40020044
abbrev MEM_CE_LAST : Nat := 0x40020048
abbrev MEM_STARVE_STAT : Nat := 0x4002004C
abbrev MEM_INJECT : Nat := 0x40020050
abbrev MEM_ATOM_OPND (k : Nat) : Nat := 0x40020060 + 4 * k
abbrev MEM_LOG_IDX : Nat := 0x4002007C
abbrev MEM_RMAP_BASE (k : Nat) : Nat := 0x40020100 + 8 * k
abbrev MEM_RMAP_LIMIT (k : Nat) : Nat := 0x40020104 + 8 * k
abbrev MEM_LOG (k : Nat) : Nat := 0x40020200 + 4 * k
/-- First byte of the SKIM page. -/
abbrev SKIM : Nat := 0x40021000
abbrev SKIM_CFG : Nat := 0x40021040
abbrev SKIM_INTERVAL : Nat := 0x40021044
abbrev SKIM_PASS_CNT : Nat := 0x40021048
abbrev SKIM_POS : Nat := 0x4002104C
abbrev SKIM_PASS_TIME : Nat := 0x40021050
/-- First byte of the SEC page. -/
abbrev SEC : Nat := 0x40022000
abbrev SEC_LC_STATE : Nat := 0x40022040
abbrev SEC_LC_REQ : Nat := 0x40022044
abbrev SEC_LC_STAT : Nat := 0x40022048
abbrev SEC_WIPE : Nat := 0x4002204C
abbrev SEC_WIPE_STAT : Nat := 0x40022050
abbrev SEC_TAMPER_CFG : Nat := 0x40022054
abbrev SEC_TAMPER_STAT : Nat := 0x40022058
abbrev SEC_BOOT_STAT : Nat := 0x4002205C
abbrev SEC_VERIFY_ADDR : Nat := 0x40022060
abbrev SEC_VERIFY_CTRL : Nat := 0x40022064
abbrev SEC_VERIFY_STAT : Nat := 0x40022068
abbrev SEC_DBG_STAT : Nat := 0x4002206C
abbrev SEC_VIOL : Nat := 0x40022070
abbrev SEC_SLOT_CFG (k : Nat) : Nat := 0x40022080 + 4 * k
/-- First byte of the OTP page. -/
abbrev OTP : Nat := 0x40023000
abbrev OTP_PROG_ADDR : Nat := 0x40023040
abbrev OTP_PROG_DATA : Nat := 0x40023044
abbrev OTP_PROG_CMD : Nat := 0x40023048
abbrev OTP_PROG_STAT : Nat := 0x4002304C
abbrev OTP_LOAD_STAT : Nat := 0x40023050
/-- First byte of the AON page. -/
abbrev AON : Nat := 0x40024000
abbrev AON_AON_STAT : Nat := 0x40024040
abbrev AON_RTC_CFG : Nat := 0x40024044
abbrev AON_RTC_TRIM : Nat := 0x40024048
abbrev AON_RC_MEAS : Nat := 0x4002404C
abbrev AON_SEC (k : Nat) : Nat := 0x40024050 + 4 * k
abbrev AON_SUBSEC : Nat := 0x40024058
abbrev AON_SET_LO : Nat := 0x4002405C
abbrev AON_SET_HI : Nat := 0x40024060
abbrev AON_SEC_TICK (k : Nat) : Nat := 0x40024064 + 4 * k
abbrev AON_ALM_LO (k : Nat) : Nat := 0x40024070 + 16 * k
abbrev AON_ALM_HI (k : Nat) : Nat := 0x40024074 + 16 * k
abbrev AON_ALM_CFG (k : Nat) : Nat := 0x40024078 + 16 * k
abbrev AON_GAUGE_CAP : Nat := 0x40024090
abbrev AON_GAUGE_USED : Nat := 0x40024094
abbrev AON_GAUGE_CFG : Nat := 0x40024098
abbrev AON_VBAT_CFG : Nat := 0x4002409C
abbrev AON_CMD : Nat := 0x400240A0
abbrev AON_TAMPER_LATCH : Nat := 0x400240A4
abbrev AON_TAMPER_RTC : Nat := 0x400240A8
abbrev AON_BKP (k : Nat) : Nat := 0x40024100 + 4 * k
/-- First byte of the HPT page. -/
abbrev HPT : Nat := 0x40030000
abbrev HPT_CFG : Nat := 0x40030040
abbrev HPT_LAST : Nat := 0x40030044
abbrev HPT_CRC_CNT : Nat := 0x40030048
abbrev HPT_RETRY_CNT : Nat := 0x4003004C
abbrev HPT_BOOT : Nat := 0x40030050
abbrev HPT_FL_CFG : Nat := 0x40030054
abbrev HPT_FL_ADDR : Nat := 0x40030058
abbrev HPT_FL_DST : Nat := 0x4003005C
abbrev HPT_FL_LEN : Nat := 0x40030060
abbrev HPT_FL_STAT : Nat := 0x40030064
/-- First byte of the DMA page. -/
abbrev DMA : Nat := 0x40031000
abbrev DMA_CH_CFG (k : Nat) : Nat := 0x40031100 + 32 * k
abbrev DMA_CH_DESC (k : Nat) : Nat := 0x40031104 + 32 * k
abbrev DMA_CH_STAT (k : Nat) : Nat := 0x40031108 + 32 * k
abbrev DMA_CH_TRIG (k : Nat) : Nat := 0x4003110C + 32 * k
abbrev DMA_CH_TRIG_LOST (k : Nat) : Nat := 0x40031110 + 32 * k
abbrev DMA_CH_WORDS (k : Nat) : Nat := 0x40031114 + 32 * k
/-- First byte of the CHN page. -/
abbrev CHN : Nat := 0x40040000
abbrev CHN_LVL_PEND (k : Nat) : Nat := 0x40040040 + 4 * k
abbrev CHN_ERR_PEND (k : Nat) : Nat := 0x40040060 + 4 * k
abbrev CHN_ERR_Q : Nat := 0x40040080
abbrev CHN_VAT_FREE : Nat := 0x40040084
/-- First byte of the SPE pages. -/
abbrev SPE (n : Nat) : Nat := (0x40050000 + 0x1000 * n)
abbrev SPE_REP_CAP (n : Nat) : Nat := 0x40050040 + 0x1000 * n
abbrev SPE_PC (n : Nat) : Nat := 0x40050044 + 0x1000 * n
abbrev SPE_EXC (n : Nat) : Nat := 0x40050048 + 0x1000 * n
abbrev SPE_IPEND (n : Nat) (k : Nat) : Nat := 0x4005004C + 0x1000 * n + 4 * k
abbrev SPE_STACKS (n : Nat) : Nat := 0x40050054 + 0x1000 * n
abbrev SPE_LOCK_STAT (n : Nat) : Nat := 0x40050058 + 0x1000 * n
abbrev SPE_IPRIO (n : Nat) (k : Nat) : Nat := 0x40050060 + 0x1000 * n + 4 * k
/-- First byte of the LE pages. -/
abbrev LE (n : Nat) : Nat := (0x40060000 + 0x1000 * n)
abbrev LE_CFG (n : Nat) : Nat := 0x40060040 + 0x1000 * n
abbrev LE_SAMPLE_CNT (n : Nat) : Nat := 0x40060044 + 0x1000 * n
abbrev LE_LAST_DUR (n : Nat) : Nat := 0x40060048 + 0x1000 * n
abbrev LE_MAX_DUR (n : Nat) : Nat := 0x4006004C + 0x1000 * n
abbrev LE_OVERLOAD_CNT (n : Nat) : Nat := 0x40060050 + 0x1000 * n
abbrev LE_SLOT_STAT (n : Nat) : Nat := 0x40060054 + 0x1000 * n
abbrev LE_ACT_STAT (n : Nat) : Nat := 0x40060058 + 0x1000 * n
abbrev LE_PAIR_STAT (n : Nat) : Nat := 0x4006005C + 0x1000 * n
abbrev LE_SNAP_REQ (n : Nat) : Nat := 0x40060060 + 0x1000 * n
/-- First byte of the AX pages. -/
abbrev AX (n : Nat) : Nat := (0x40080000 + 0x1000 * n)
abbrev AX_LOOP_CFG (n : Nat) : Nat := 0x40080040 + 0x1000 * n
abbrev AX_PARAM_CTRL (n : Nat) : Nat := 0x40080044 + 0x1000 * n
abbrev AX_KP_D (n : Nat) : Nat := 0x40080048 + 0x1000 * n
abbrev AX_KI_D (n : Nat) : Nat := 0x4008004C + 0x1000 * n
abbrev AX_KP_Q (n : Nat) : Nat := 0x40080050 + 0x1000 * n
abbrev AX_KI_Q (n : Nat) : Nat := 0x40080054 + 0x1000 * n
abbrev AX_V_MAX (n : Nat) : Nat := 0x40080058 + 0x1000 * n
abbrev AX_ID_REF (n : Nat) : Nat := 0x4008005C + 0x1000 * n
abbrev AX_IQ_REF (n : Nat) : Nat := 0x40080060 + 0x1000 * n
abbrev AX_IQ_LIM (n : Nat) : Nat := 0x40080064 + 0x1000 * n
abbrev AX_LQ_W (n : Nat) : Nat := 0x40080068 + 0x1000 * n
abbrev AX_LD_W (n : Nat) : Nat := 0x4008006C + 0x1000 * n
abbrev AX_PSI_W (n : Nat) : Nat := 0x40080070 + 0x1000 * n
abbrev AX_ADV (n : Nat) : Nat := 0x40080074 + 0x1000 * n
abbrev AX_VEL_NORM (n : Nat) : Nat := 0x40080078 + 0x1000 * n
abbrev AX_KP_V (n : Nat) : Nat := 0x4008007C + 0x1000 * n
abbrev AX_KI_V (n : Nat) : Nat := 0x40080080 + 0x1000 * n
abbrev AX_VF_A (n : Nat) : Nat := 0x40080084 + 0x1000 * n
abbrev AX_FF_A (n : Nat) : Nat := 0x40080088 + 0x1000 * n
abbrev AX_VEL_LIM (n : Nat) : Nat := 0x4008008C + 0x1000 * n
abbrev AX_W_MAX (n : Nat) : Nat := 0x40080090 + 0x1000 * n
abbrev AX_POS_NORM (n : Nat) : Nat := 0x40080094 + 0x1000 * n
abbrev AX_KP_P (n : Nat) : Nat := 0x40080098 + 0x1000 * n
abbrev AX_KI_P (n : Nat) : Nat := 0x4008009C + 0x1000 * n
abbrev AX_FF_V (n : Nat) : Nat := 0x400800A0 + 0x1000 * n
abbrev AX_FE_LIM (n : Nat) : Nat := 0x400800A4 + 0x1000 * n
abbrev AX_STILL_W (n : Nat) : Nat := 0x400800A8 + 0x1000 * n
abbrev AX_CFG (n : Nat) : Nat := 0x400800AC + 0x1000 * n
abbrev AX_LOOP_STAT (n : Nat) : Nat := 0x400800B0 + 0x1000 * n
abbrev AX_PROF_CFG (n : Nat) : Nat := 0x40080100 + 0x1000 * n
abbrev AX_PROF_CMD (n : Nat) : Nat := 0x40080104 + 0x1000 * n
abbrev AX_PROF_STAT (n : Nat) : Nat := 0x40080108 + 0x1000 * n
abbrev AX_PROF_REFUSED (n : Nat) : Nat := 0x4008010C + 0x1000 * n
abbrev AX_STOP_DECEL (n : Nat) : Nat := 0x40080110 + 0x1000 * n
abbrev AX_UNDERRUN_DECEL (n : Nat) : Nat := 0x40080114 + 0x1000 * n
abbrev AX_PROF_TP (n : Nat) : Nat := 0x40080118 + 0x1000 * n
abbrev AX_SP_LO (n : Nat) : Nat := 0x40080120 + 0x1000 * n
abbrev AX_SP_HI (n : Nat) : Nat := 0x40080124 + 0x1000 * n
abbrev AX_SP_VEL (n : Nat) : Nat := 0x40080128 + 0x1000 * n
abbrev AX_SP_ACC (n : Nat) : Nat := 0x4008012C + 0x1000 * n
abbrev AX_M (n : Nat) (k : Nat) : Nat := 0x40080130 + 0x1000 * n + 4 * k
abbrev AX_SEG_CNT (n : Nat) : Nat := 0x40080138 + 0x1000 * n
abbrev AX_UNDERRUN_CNT (n : Nat) : Nat := 0x4008013C + 0x1000 * n
abbrev AX_PROF_MARK (n : Nat) : Nat := 0x40080140 + 0x1000 * n
abbrev AX_MARK_IT (n : Nat) (k : Nat) : Nat := 0x40080144 + 0x1000 * n + 4 * k
abbrev AX_SLIP_CNT (n : Nat) : Nat := 0x4008014C + 0x1000 * n
abbrev AX_VM_CTRL (n : Nat) : Nat := 0x40080180 + 0x1000 * n
abbrev AX_VM_LOAD (n : Nat) : Nat := 0x40080184 + 0x1000 * n
abbrev AX_VM_P0 (n : Nat) (k : Nat) : Nat := 0x40080188 + 0x1000 * n + 4 * k
abbrev AX_VM_RATE (n : Nat) : Nat := 0x40080190 + 0x1000 * n
abbrev AX_VM_T0 (n : Nat) (k : Nat) : Nat := 0x40080194 + 0x1000 * n + 4 * k
abbrev AX_VM_POS (n : Nat) (k : Nat) : Nat := 0x4008019C + 0x1000 * n + 4 * k
abbrev AX_REP_CTRL (n : Nat) : Nat := 0x40080200 + 0x1000 * n
abbrev AX_REP_CFG (n : Nat) : Nat := 0x40080204 + 0x1000 * n
abbrev AX_REP_ALPHA (n : Nat) : Nat := 0x40080208 + 0x1000 * n
abbrev AX_REP_GAMMA (n : Nat) : Nat := 0x4008020C + 0x1000 * n
abbrev AX_REP_LEAD (n : Nat) : Nat := 0x40080210 + 0x1000 * n
abbrev AX_REP_VMIN (n : Nat) : Nat := 0x40080214 + 0x1000 * n
abbrev AX_REP_VMAX (n : Nat) : Nat := 0x40080218 + 0x1000 * n
abbrev AX_REP_BLIM (n : Nat) : Nat := 0x4008021C + 0x1000 * n
abbrev AX_REP_FADE (n : Nat) : Nat := 0x40080220 + 0x1000 * n
abbrev AX_REP_CONV_TH (n : Nat) : Nat := 0x40080224 + 0x1000 * n
abbrev AX_REP_STAT (n : Nat) : Nat := 0x40080228 + 0x1000 * n
abbrev AX_REP_PHI (n : Nat) : Nat := 0x4008022C + 0x1000 * n
abbrev AX_REP_CONV (n : Nat) : Nat := 0x40080230 + 0x1000 * n
abbrev AX_REP_REV_CNT (n : Nat) : Nat := 0x40080234 + 0x1000 * n
abbrev AX_REP_SKIP (n : Nat) : Nat := 0x40080238 + 0x1000 * n
/-- First byte of the PWM pages. -/
abbrev PWM (n : Nat) : Nat := (0x40090000 + 0x1000 * n)
abbrev PWM_CFG (n : Nat) : Nat := 0x40090040 + 0x1000 * n
abbrev PWM_TOP_SH (n : Nat) : Nat := 0x40090044 + 0x1000 * n
abbrev PWM_TOP (n : Nat) : Nat := 0x40090048 + 0x1000 * n
abbrev PWM_CMP_SH (n : Nat) (k : Nat) : Nat := 0x4009004C + 0x1000 * n + 4 * k
abbrev PWM_COMMIT (n : Nat) : Nat := 0x40090058 + 0x1000 * n
abbrev PWM_CMP (n : Nat) (k : Nat) : Nat := 0x4009005C + 0x1000 * n + 4 * k
abbrev PWM_DT (n : Nat) : Nat := 0x40090068 + 0x1000 * n
abbrev PWM_MIN_PULSE (n : Nat) : Nat := 0x4009006C + 0x1000 * n
abbrev PWM_XCMP (n : Nat) (k : Nat) : Nat := 0x40090070 + 0x1000 * n + 4 * k
abbrev PWM_SYNC_PHASE (n : Nat) : Nat := 0x40090080 + 0x1000 * n
abbrev PWM_LOCK_CFG (n : Nat) : Nat := 0x40090084 + 0x1000 * n
abbrev PWM_LOCK_ERR (n : Nat) : Nat := 0x40090088 + 0x1000 * n
abbrev PWM_TRIP_CFG (n : Nat) : Nat := 0x4009008C + 0x1000 * n
abbrev PWM_TRIP_SRC (n : Nat) : Nat := 0x40090090 + 0x1000 * n
abbrev PWM_TRIP_STAT (n : Nat) : Nat := 0x40090094 + 0x1000 * n
abbrev PWM_COUNT (n : Nat) : Nat := 0x40090098 + 0x1000 * n
abbrev PWM_PERIOD_CNT (n : Nat) : Nat := 0x4009009C + 0x1000 * n
abbrev PWM_SHADOW_MISS (n : Nat) : Nat := 0x400900A0 + 0x1000 * n
abbrev PWM_MP_CNT (n : Nat) : Nat := 0x400900A4 + 0x1000 * n
abbrev PWM_TRIP_CNT (n : Nat) : Nat := 0x400900A8 + 0x1000 * n
abbrev PWM_HR_STAT (n : Nat) : Nat := 0x400900AC + 0x1000 * n
/-- First byte of the ACTG pages. -/
abbrev ACTG (n : Nat) : Nat := (0x400A0000 + 0x1000 * n)
abbrev ACTG_CFG (n : Nat) (k : Nat) : Nat := 0x400A0040 + 0x1000 * n + 512 * k
abbrev ACTG_CMD (n : Nat) (k : Nat) : Nat := 0x400A0044 + 0x1000 * n + 512 * k
abbrev ACTG_STAT (n : Nat) (k : Nat) : Nat := 0x400A0048 + 0x1000 * n + 512 * k
abbrev ACTG_PEAK_ILIM (n : Nat) (k : Nat) : Nat := 0x400A004C + 0x1000 * n + 512 * k
abbrev ACTG_BOOST_I (n : Nat) (k : Nat) : Nat := 0x400A0050 + 0x1000 * n + 512 * k
abbrev ACTG_HOLD_I (n : Nat) (k : Nat) : Nat := 0x400A0054 + 0x1000 * n + 512 * k
abbrev ACTG_TPEAK (n : Nat) (k : Nat) : Nat := 0x400A0058 + 0x1000 * n + 512 * k
abbrev ACTG_TCHOP (n : Nat) (k : Nat) : Nat := 0x400A005C + 0x1000 * n + 512 * k
abbrev ACTG_CATCH_CFG (n : Nat) (k : Nat) : Nat := 0x400A0060 + 0x1000 * n + 512 * k
abbrev ACTG_FINISH_CFG (n : Nat) (k : Nat) : Nat := 0x400A0064 + 0x1000 * n + 512 * k
abbrev ACTG_LAT_OPEN (n : Nat) (k : Nat) : Nat := 0x400A0068 + 0x1000 * n + 512 * k
abbrev ACTG_LAT_CLOSE (n : Nat) (k : Nat) : Nat := 0x400A006C + 0x1000 * n + 512 * k
abbrev ACTG_LAT_OPEN_LIM (n : Nat) (k : Nat) : Nat := 0x400A0070 + 0x1000 * n + 512 * k
abbrev ACTG_LAT_CLOSE_LIM (n : Nat) (k : Nat) : Nat := 0x400A0074 + 0x1000 * n + 512 * k
abbrev ACTG_LRN_CFG (n : Nat) (k : Nat) : Nat := 0x400A0078 + 0x1000 * n + 512 * k
abbrev ACTG_LAST_OPEN (n : Nat) (k : Nat) : Nat := 0x400A007C + 0x1000 * n + 512 * k
abbrev ACTG_LAST_CLOSE (n : Nat) (k : Nat) : Nat := 0x400A0080 + 0x1000 * n + 512 * k
abbrev ACTG_LRN_CNT (n : Nat) (k : Nat) : Nat := 0x400A0084 + 0x1000 * n + 512 * k
abbrev ACTG_NOZ_PERIOD (n : Nat) (k : Nat) : Nat := 0x400A0088 + 0x1000 * n + 512 * k
abbrev ACTG_NOZ_DUTY (n : Nat) (k : Nat) : Nat := 0x400A008C + 0x1000 * n + 512 * k
abbrev ACTG_NOZ_PHASE (n : Nat) (k : Nat) : Nat := 0x400A0090 + 0x1000 * n + 512 * k
abbrev ACTG_NOZ_MIN_FLOW (n : Nat) (k : Nat) : Nat := 0x400A0094 + 0x1000 * n + 512 * k
abbrev ACTG_PWM_FREQ (n : Nat) (k : Nat) : Nat := 0x400A0098 + 0x1000 * n + 512 * k
abbrev ACTG_I_REF (n : Nat) (k : Nat) : Nat := 0x400A009C + 0x1000 * n + 512 * k
abbrev ACTG_PROP_KP (n : Nat) (k : Nat) : Nat := 0x400A00A0 + 0x1000 * n + 512 * k
abbrev ACTG_PROP_KI (n : Nat) (k : Nat) : Nat := 0x400A00A4 + 0x1000 * n + 512 * k
abbrev ACTG_PROP_KF (n : Nat) (k : Nat) : Nat := 0x400A00A8 + 0x1000 * n + 512 * k
abbrev ACTG_PROP_ILIM (n : Nat) (k : Nat) : Nat := 0x400A00AC + 0x1000 * n + 512 * k
abbrev ACTG_DITHER (n : Nat) (k : Nat) : Nat := 0x400A00B0 + 0x1000 * n + 512 * k
abbrev ACTG_ACT_SLOT (n : Nat) (k : Nat) : Nat := 0x400A00B4 + 0x1000 * n + 512 * k
abbrev ACTG_LAMP_DUTY (n : Nat) (k : Nat) : Nat := 0x400A00B8 + 0x1000 * n + 512 * k
abbrev ACTG_INRUSH_T (n : Nat) (k : Nat) : Nat := 0x400A00BC + 0x1000 * n + 512 * k
abbrev ACTG_DIAG_CFG (n : Nat) (k : Nat) : Nat := 0x400A00C0 + 0x1000 * n + 512 * k
abbrev ACTG_DIAG_TH (n : Nat) (k : Nat) : Nat := 0x400A00C4 + 0x1000 * n + 512 * k
abbrev ACTG_DIAG_N (n : Nat) (k : Nat) : Nat := 0x400A00C8 + 0x1000 * n + 512 * k
abbrev ACTG_DIAG_STAT (n : Nat) (k : Nat) : Nat := 0x400A00CC + 0x1000 * n + 512 * k
abbrev ACTG_TRIP_CFG (n : Nat) (k : Nat) : Nat := 0x400A00D0 + 0x1000 * n + 512 * k
abbrev ACTG_TRIP_CNT (n : Nat) (k : Nat) : Nat := 0x400A00D4 + 0x1000 * n + 512 * k
abbrev ACTG_BOOST_WAIT (n : Nat) (k : Nat) : Nat := 0x400A00D8 + 0x1000 * n + 512 * k
abbrev ACTG_TH_PARAM0 (n : Nat) (k : Nat) : Nat := 0x400A00E0 + 0x1000 * n + 512 * k
abbrev ACTG_TH_PARAM1 (n : Nat) (k : Nat) : Nat := 0x400A00E4 + 0x1000 * n + 512 * k
abbrev ACTG_TH_LEVELS (n : Nat) (k : Nat) : Nat := 0x400A00E8 + 0x1000 * n + 512 * k
abbrev ACTG_TH_SCALE (n : Nat) (k : Nat) : Nat := 0x400A00EC + 0x1000 * n + 512 * k
abbrev ACTG_TH_TEMP (n : Nat) (k : Nat) : Nat := 0x400A00F0 + 0x1000 * n + 512 * k
abbrev ACTG_SCALE (n : Nat) (k : Nat) : Nat := 0x400A00F4 + 0x1000 * n + 512 * k
abbrev ACTG_IRQ_EN_CH (n : Nat) (k : Nat) : Nat := 0x400A00F8 + 0x1000 * n + 512 * k
abbrev ACTG_IRQ_STAT_CH (n : Nat) (k : Nat) : Nat := 0x400A00FC + 0x1000 * n + 512 * k
abbrev ACTG_GRP_CFG (n : Nat) : Nat := 0x400A0200 + 0x1000 * n
abbrev ACTG_GRP_STAT (n : Nat) : Nat := 0x400A0204 + 0x1000 * n
abbrev ACTG_GRP_RESID (n : Nat) : Nat := 0x400A0208 + 0x1000 * n
abbrev ACTG_GRP_MAX_CLOSE (n : Nat) : Nat := 0x400A020C + 0x1000 * n
/-- First byte of the BST page. -/
abbrev BST : Nat := 0x400A8000
abbrev BST_X_CFG (k : Nat) : Nat := 0x400A8040 + 32 * k
abbrev BST_X_DIV (k : Nat) : Nat := 0x400A8044 + 32 * k
abbrev BST_X_READY (k : Nat) : Nat := 0x400A8048 + 32 * k
abbrev BST_X_LIM (k : Nat) : Nat := 0x400A804C + 32 * k
abbrev BST_X_SW (k : Nat) : Nat := 0x400A8050 + 32 * k
abbrev BST_X_VRAIL (k : Nat) : Nat := 0x400A8054 + 32 * k
abbrev BST_X_STAT (k : Nat) : Nat := 0x400A8058 + 32 * k
/-- First byte of the ADC pages. -/
abbrev ADC (n : Nat) : Nat := (0x400B0000 + 0x1000 * n)
abbrev ADC_CFG (n : Nat) : Nat := 0x400B0040 + 0x1000 * n
abbrev ADC_TRIG (n : Nat) (k : Nat) : Nat := 0x400B0044 + 0x1000 * n + 4 * k
abbrev ADC_TRES (n : Nat) (k : Nat) : Nat := 0x400B0054 + 0x1000 * n + 4 * k
abbrev ADC_PREEMPT (n : Nat) : Nat := 0x400B0064 + 0x1000 * n
abbrev ADC_OVERRUN (n : Nat) : Nat := 0x400B0068 + 0x1000 * n
abbrev ADC_CAL_OFS (n : Nat) (k : Nat) : Nat := 0x400B0080 + 0x1000 * n + 8 * k
abbrev ADC_CAL_GAIN (n : Nat) (k : Nat) : Nat := 0x400B0084 + 0x1000 * n + 8 * k
abbrev ADC_RES (n : Nat) (k : Nat) : Nat := 0x400B00C0 + 0x1000 * n + 4 * k
/-- First byte of the SDM page. -/
abbrev SDM : Nat := 0x400BC000
abbrev SDM_CLK_CFG : Nat := 0x400BC040
abbrev SDM_CFG (k : Nat) : Nat := 0x400BC100 + 16 * k
abbrev SDM_RES (k : Nat) : Nat := 0x400BC104 + 16 * k
abbrev SDM_CMP (k : Nat) : Nat := 0x400BC108 + 16 * k
/-- First byte of the ADCSEQ page. -/
abbrev ADCSEQ : Nat := 0x400BD000
abbrev ADCSEQ_ROUND_PERIOD : Nat := 0x400BD040
abbrev ADCSEQ_ROUND_CNT : Nat := 0x400BD044
abbrev ADCSEQ_LATE_CNT : Nat := 0x400BD048
abbrev ADCSEQ_CORE_TOL : Nat := 0x400BD04C
abbrev ADCSEQ_CORE_FAIL : Nat := 0x400BD050
abbrev ADCSEQ_LIST (k : Nat) : Nat := 0x400BD080 + 4 * k
/-- First byte of the ENC pages. -/
abbrev ENC (n : Nat) : Nat := (0x400C0000 + 0x1000 * n)
abbrev ENC_CFG (n : Nat) : Nat := 0x400C0040 + 0x1000 * n
abbrev ENC_CPR (n : Nat) : Nat := 0x400C0044 + 0x1000 * n
abbrev ENC_Z_CFG (n : Nat) : Nat := 0x400C0048 + 0x1000 * n
abbrev ENC_VEL_CFG (n : Nat) : Nat := 0x400C004C + 0x1000 * n
abbrev ENC_RAW (n : Nat) : Nat := 0x400C0050 + 0x1000 * n
abbrev ENC_POS (n : Nat) (k : Nat) : Nat := 0x400C0054 + 0x1000 * n + 4 * k
abbrev ENC_VEL (n : Nat) : Nat := 0x400C005C + 0x1000 * n
abbrev ENC_CAP_POS (n : Nat) (k : Nat) : Nat := 0x400C0060 + 0x1000 * n + 4 * k
abbrev ENC_CAP_EANG (n : Nat) : Nat := 0x400C0068 + 0x1000 * n
abbrev ENC_CAP_MANG (n : Nat) : Nat := 0x400C006C + 0x1000 * n
abbrev ENC_CAP_TICK (n : Nat) : Nat := 0x400C0070 + 0x1000 * n
abbrev ENC_Z_POS (n : Nat) : Nat := 0x400C0074 + 0x1000 * n
abbrev ENC_PERIOD (n : Nat) : Nat := 0x400C0078 + 0x1000 * n
abbrev ENC_ERR_CNTS (n : Nat) : Nat := 0x400C007C + 0x1000 * n
abbrev ENC_POS_SET_LO (n : Nat) : Nat := 0x400C0080 + 0x1000 * n
abbrev ENC_POS_SET_HI (n : Nat) : Nat := 0x400C0084 + 0x1000 * n
abbrev ENC_EANG_OFS (n : Nat) : Nat := 0x400C0088 + 0x1000 * n
/-- First byte of the LAT page. -/
abbrev LAT : Nat := 0x400D0000
abbrev LAT_CFG (k : Nat) : Nat := 0x400D0100 + 128 * k
abbrev LAT_AXSEL (k : Nat) : Nat := 0x400D0104 + 128 * k
abbrev LAT_STAT (k : Nat) : Nat := 0x400D0108 + 128 * k
abbrev LAT_LOST_CNT (k : Nat) : Nat := 0x400D010C + 128 * k
abbrev LAT_NEXT (k : Nat) : Nat := 0x400D0110 + 128 * k
abbrev LAT_SEQ (k : Nat) : Nat := 0x400D0114 + 128 * k
abbrev LAT_REC0 (k : Nat) : Nat := 0x400D0120 + 128 * k
abbrev LAT_REC1 (k : Nat) : Nat := 0x400D0124 + 128 * k
abbrev LAT_REC2 (k : Nat) : Nat := 0x400D0128 + 128 * k
abbrev LAT_REC3 (k : Nat) : Nat := 0x400D012C + 128 * k
abbrev LAT_REC4 (k : Nat) : Nat := 0x400D0130 + 128 * k
abbrev LAT_REC5 (k : Nat) : Nat := 0x400D0134 + 128 * k
abbrev LAT_REC6 (k : Nat) : Nat := 0x400D0138 + 128 * k
abbrev LAT_REC7 (k : Nat) : Nat := 0x400D013C + 128 * k
abbrev LAT_REC8 (k : Nat) : Nat := 0x400D0140 + 128 * k
abbrev LAT_REC9 (k : Nat) : Nat := 0x400D0144 + 128 * k
abbrev LAT_REC10 (k : Nat) : Nat := 0x400D0148 + 128 * k
abbrev LAT_REC11 (k : Nat) : Nat := 0x400D014C + 128 * k
/-- First byte of the LDL page. -/
abbrev LDL : Nat := 0x400D8000
abbrev LDL_FIRE_IGNORED : Nat := 0x400D8040
abbrev LDL_PRB (k : Nat) : Nat := 0x400D8080 + 4 * k
abbrev LDL_CFG (k : Nat) : Nat := 0x400D8100 + 64 * k
abbrev LDL_SCLK (k : Nat) : Nat := 0x400D8104 + 64 * k
abbrev LDL_PERIOD (k : Nat) : Nat := 0x400D8108 + 64 * k
abbrev LDL_WINDOW (k : Nat) : Nat := 0x400D810C + 64 * k
abbrev LDL_PRE (k : Nat) : Nat := 0x400D8110 + 64 * k
abbrev LDL_POST (k : Nat) : Nat := 0x400D8114 + 64 * k
abbrev LDL_TRIG (k : Nat) : Nat := 0x400D8118 + 64 * k
abbrev LDL_LEVEL (k : Nat) : Nat := 0x400D811C + 64 * k
abbrev LDL_TRIG_SKEW (k : Nat) : Nat := 0x400D8120 + 64 * k
abbrev LDL_FIRE_AT_LO (k : Nat) : Nat := 0x400D8124 + 64 * k
abbrev LDL_FIRE_AT_HI (k : Nat) : Nat := 0x400D8128 + 64 * k
abbrev LDL_HIST_BASE (k : Nat) : Nat := 0x400D812C + 64 * k
abbrev LDL_HIST_WORDS (k : Nat) : Nat := 0x400D8130 + 64 * k
abbrev LDL_CMD (k : Nat) : Nat := 0x400D8134 + 64 * k
abbrev LDL_STAT (k : Nat) : Nat := 0x400D8138 + 64 * k
abbrev LDL_ARM_IT_LO (k : Nat) : Nat := 0x400D8200 + 16 * k
abbrev LDL_ARM_IT_HI (k : Nat) : Nat := 0x400D8204 + 16 * k
abbrev LDL_SEQ (k : Nat) : Nat := 0x400D8208 + 16 * k
abbrev LDL_LOST_CNT (k : Nat) : Nat := 0x400D820C + 16 * k
/-- First byte of the TSU page. -/
abbrev TSU : Nat := 0x400E0000
abbrev TSU_TICK (k : Nat) : Nat := 0x400E0040 + 4 * k
abbrev TSU_IT (k : Nat) : Nat := 0x400E0048 + 4 * k
abbrev TSU_SEL_CFG : Nat := 0x400E0050
abbrev TSU_SEL_STAT : Nat := 0x400E0054
abbrev TSU_AGREE_WINDOW : Nat := 0x400E0058
abbrev TSU_OK_HOLD : Nat := 0x400E005C
abbrev TSU_SINGLE_OK : Nat := 0x400E0060
abbrev TSU_BRIDGE_SLEW : Nat := 0x400E0064
abbrev TSU_BRIDGE (k : Nat) : Nat := 0x400E0068 + 4 * k
abbrev TSU_AB_DIFF : Nat := 0x400E0070
abbrev TSU_SNAP : Nat := 0x400E0074
abbrev TSU_SNAP_STAT : Nat := 0x400E0078
abbrev TSU_S_REG (k : Nat) : Nat := 0x400E0080 + 4 * k
abbrev TSU_PPS_OUT_CFG : Nat := 0x400E00B0
abbrev TSU_PPS_IN_CFG : Nat := 0x400E00B4
abbrev TSU_PIN_REG (k : Nat) : Nat := 0x400E00B8 + 4 * k
abbrev TSU_PIN_OVR : Nat := 0x400E00CC
abbrev TSU_AL_CFG (k : Nat) : Nat := 0x400E0100 + 16 * k
abbrev TSU_AL_TIME_LO (k : Nat) : Nat := 0x400E0104 + 16 * k
abbrev TSU_AL_TIME_HI (k : Nat) : Nat := 0x400E0108 + 16 * k
abbrev TSU_AL_PERIOD (k : Nat) : Nat := 0x400E010C + 16 * k
abbrev TSU_L_CFG (k : Nat) : Nat := 0x400E0200 + 128 * k
abbrev TSU_L_STAT (k : Nat) : Nat := 0x400E0204 + 128 * k
abbrev TSU_L_SEC_LO (k : Nat) : Nat := 0x400E0208 + 128 * k
abbrev TSU_L_SEC_HI (k : Nat) : Nat := 0x400E020C + 128 * k
abbrev TSU_L_NS (k : Nat) : Nat := 0x400E0210 + 128 * k
abbrev TSU_L_FRAC (k : Nat) : Nat := 0x400E0214 + 128 * k
abbrev TSU_L_INCR_LO (k : Nat) : Nat := 0x400E0218 + 128 * k
abbrev TSU_L_INCR_HI (k : Nat) : Nat := 0x400E021C + 128 * k
abbrev TSU_L_ADJ (k : Nat) : Nat := 0x400E0220 + 128 * k
abbrev TSU_L_ADJ_LEFT (k : Nat) : Nat := 0x400E0224 + 128 * k
abbrev TSU_L_SLEW_MAX (k : Nat) : Nat := 0x400E0228 + 128 * k
abbrev TSU_L_STEP_LO (k : Nat) : Nat := 0x400E022C + 128 * k
abbrev TSU_L_STEP_HI (k : Nat) : Nat := 0x400E0230 + 128 * k
abbrev TSU_L_STEP_CMD (k : Nat) : Nat := 0x400E0234 + 128 * k
abbrev TSU_L_FEED (k : Nat) : Nat := 0x400E0238 + 128 * k
abbrev TSU_L_TRACK (k : Nat) : Nat := 0x400E023C + 128 * k
abbrev TSU_L_BUDGET (k : Nat) : Nat := 0x400E0240 + 128 * k
abbrev TSU_L_ERR_EST (k : Nat) : Nat := 0x400E0244 + 128 * k
abbrev TSU_L_HO_INCR_LO (k : Nat) : Nat := 0x400E0248 + 128 * k
abbrev TSU_L_HO_INCR_HI (k : Nat) : Nat := 0x400E024C + 128 * k
abbrev TSU_L_HO_TIME (k : Nat) : Nat := 0x400E0250 + 128 * k
abbrev TSU_L_CORR_CNT (k : Nat) : Nat := 0x400E0254 + 128 * k
abbrev TSU_L_OUTLIERS (k : Nat) : Nat := 0x400E0258 + 128 * k
/-- First byte of the SCH page. -/
abbrev SCH : Nat := 0x400E1000
abbrev SCH_CFG : Nat := 0x400E1040
abbrev SCH_LATE_LIMIT : Nat := 0x400E1044
abbrev SCH_OCCUPANCY : Nat := 0x400E1048
abbrev SCH_NEXT_F (k : Nat) : Nat := 0x400E104C + 4 * k
abbrev SCH_CANCEL : Nat := 0x400E1054
abbrev SCH_CANCEL_STAT : Nat := 0x400E1058
abbrev SCH_CMD : Nat := 0x400E105C
abbrev SCH_FIRED_CNT : Nat := 0x400E1060
abbrev SCH_LATE_CNT : Nat := 0x400E1064
abbrev SCH_DROP_CNT : Nat := 0x400E1068
abbrev SCH_SUPPR_CNT : Nat := 0x400E106C
abbrev SCH_REJECT_CNT : Nat := 0x400E1070
abbrev SCH_CMPL_LOST : Nat := 0x400E1074
abbrev SCH_DISCARD : Nat := 0x400E1078
abbrev SCH_CAL_ERR : Nat := 0x400E107C
abbrev SCH_LAST_CMPL (k : Nat) : Nat := 0x400E1080 + 4 * k
/-- First byte of the CAN pages. -/
abbrev CAN (n : Nat) : Nat := (0x400F0000 + 0x1000 * n)
abbrev CAN_CFG (n : Nat) : Nat := 0x400F0040 + 0x1000 * n
abbrev CAN_NBT (n : Nat) : Nat := 0x400F0044 + 0x1000 * n
abbrev CAN_DBT (n : Nat) : Nat := 0x400F0048 + 0x1000 * n
abbrev CAN_TDC (n : Nat) : Nat := 0x400F004C + 0x1000 * n
abbrev CAN_EASY_NBT (n : Nat) : Nat := 0x400F0050 + 0x1000 * n
abbrev CAN_EASY_DBT (n : Nat) : Nat := 0x400F0054 + 0x1000 * n
abbrev CAN_ECNT (n : Nat) : Nat := 0x400F0058 + 0x1000 * n
abbrev CAN_PSTAT (n : Nat) : Nat := 0x400F005C + 0x1000 * n
abbrev CAN_CMD (n : Nat) : Nat := 0x400F0060 + 0x1000 * n
abbrev CAN_TXREQ (n : Nat) : Nat := 0x400F0064 + 0x1000 * n
abbrev CAN_TXCANCEL (n : Nat) : Nat := 0x400F0068 + 0x1000 * n
abbrev CAN_TXCOMMIT (n : Nat) : Nat := 0x400F006C + 0x1000 * n
abbrev CAN_TXPEND (n : Nat) : Nat := 0x400F0070 + 0x1000 * n
abbrev CAN_TXDONE (n : Nat) : Nat := 0x400F0074 + 0x1000 * n
abbrev CAN_RXNEW (n : Nat) : Nat := 0x400F0078 + 0x1000 * n
abbrev CAN_RXB_CFG (n : Nat) : Nat := 0x400F007C + 0x1000 * n
abbrev CAN_RXQ_MAP (n : Nat) (k : Nat) : Nat := 0x400F0080 + 0x1000 * n + 4 * k
abbrev CAN_MTX_CTRL (n : Nat) : Nat := 0x400F0088 + 0x1000 * n
abbrev CAN_MTX_CYC (n : Nat) : Nat := 0x400F008C + 0x1000 * n
abbrev CAN_MTX_PHASE (n : Nat) : Nat := 0x400F0090 + 0x1000 * n
abbrev CAN_MTX_STAT (n : Nat) : Nat := 0x400F0094 + 0x1000 * n
abbrev CAN_SLOT_MISSED (n : Nat) : Nat := 0x400F0098 + 0x1000 * n
abbrev CAN_RX_LOST (n : Nat) : Nat := 0x400F009C + 0x1000 * n
abbrev CAN_PXE_CNT (n : Nat) : Nat := 0x400F00A0 + 0x1000 * n
abbrev CAN_DISCARD (n : Nat) : Nat := 0x400F00A4 + 0x1000 * n
abbrev CAN_RX_CNT (n : Nat) : Nat := 0x400F00A8 + 0x1000 * n
abbrev CAN_TX_CNT (n : Nat) : Nat := 0x400F00AC + 0x1000 * n
abbrev CAN_FLT_ID (n : Nat) (k : Nat) : Nat := 0x400F0100 + 0x1000 * n + 16 * k
abbrev CAN_FLT_MASK (n : Nat) (k : Nat) : Nat := 0x400F0104 + 0x1000 * n + 16 * k
abbrev CAN_FLT_CTL (n : Nat) (k : Nat) : Nat := 0x400F0108 + 0x1000 * n + 16 * k
abbrev CAN_TXB (n : Nat) (k : Nat) : Nat := 0x400F0300 + 0x1000 * n + 4 * k
abbrev CAN_RXB (n : Nat) (k : Nat) : Nat := 0x400F0800 + 0x1000 * n + 4 * k
abbrev CAN_MTX_A (n : Nat) (k : Nat) : Nat := 0x400F0D00 + 0x1000 * n + 8 * k
abbrev CAN_MTX_B (n : Nat) (k : Nat) : Nat := 0x400F0D04 + 0x1000 * n + 8 * k
/-- First byte of the KSW page. -/
abbrev KSW : Nat := 0x400F8000
abbrev KSW_CFG : Nat := 0x400F8040
abbrev KSW_MAC (k : Nat) : Nat := 0x400F8044 + 4 * k
abbrev KSW_AGE_TIME : Nat := 0x400F804C
abbrev KSW_BUF_BASE : Nat := 0x400F8050
abbrev KSW_BUF_SLOTS : Nat := 0x400F8054
abbrev KSW_PCP_MAP : Nat := 0x400F8058
abbrev KSW_P_CFG (k : Nat) : Nat := 0x400F805C + 4 * k
abbrev KSW_LRX_BASE : Nat := 0x400F8064
abbrev KSW_LRX_LEN : Nat := 0x400F8068
abbrev KSW_LTX_BASE : Nat := 0x400F806C
abbrev KSW_LTX_LEN : Nat := 0x400F8070
abbrev KSW_LTX_KICK : Nat := 0x400F8074
abbrev KSW_DROP_NOBUF : Nat := 0x400F8080
abbrev KSW_DROP_VLAN : Nat := 0x400F8084
abbrev KSW_TC_SKIP : Nat := 0x400F8088
abbrev KSW_ELIM_CNT : Nat := 0x400F808C
abbrev KSW_LRX_LOST : Nat := 0x400F8090
abbrev KSW_SECT_IGNORED : Nat := 0x400F8094
abbrev KSW_DISCARD : Nat := 0x400F8098
abbrev KSW_KNT_REJ : Nat := 0x400F809C
abbrev KSW_GCL_CTRL (k : Nat) : Nat := 0x400F80C0 + 16 * k
abbrev KSW_GCL_CYCLE (k : Nat) : Nat := 0x400F80C4 + 16 * k
abbrev KSW_GCL_BASE_LO (k : Nat) : Nat := 0x400F80C8 + 16 * k
abbrev KSW_GCL_BASE_HI (k : Nat) : Nat := 0x400F80CC + 16 * k
abbrev KSW_SE_LO (k : Nat) : Nat := 0x400F8100 + 8 * k
abbrev KSW_SE_HI (k : Nat) : Nat := 0x400F8104 + 8 * k
abbrev KSW_VLAN (k : Nat) : Nat := 0x400F8200 + 4 * k
abbrev KSW_STR_DA_LO (k : Nat) : Nat := 0x400F8300 + 16 * k
abbrev KSW_STR_DA_HI (k : Nat) : Nat := 0x400F8304 + 16 * k
abbrev KSW_STR_CFG (k : Nat) : Nat := 0x400F8308 + 16 * k
abbrev KSW_STR_STAT (k : Nat) : Nat := 0x400F830C + 16 * k
abbrev KSW_POS : Nat := 0x400F8600
abbrev KSW_GROUPS : Nat := 0x400F8604
abbrev KSW_KNT_CFG : Nat := 0x400F8608
abbrev KSW_KNT_CMD : Nat := 0x400F860C
abbrev KSW_BEAT_CFG : Nat := 0x400F8610
abbrev KSW_BEAT_TIMEOUT : Nat := 0x400F8614
abbrev KSW_BEAT_SRC (k : Nat) : Nat := 0x400F8618 + 4 * k
abbrev KSW_BEAT_AGE (k : Nat) : Nat := 0x400F8628 + 4 * k
abbrev KSW_GCL (k : Nat) : Nat := 0x400F8800 + 4 * k
/-- First byte of the MAC pages. -/
abbrev MAC (n : Nat) : Nat := (0x400F9000 + 0x1000 * n)
abbrev MAC_CFG (n : Nat) : Nat := 0x400F9040 + 0x1000 * n
abbrev MAC_PHY_DLY (n : Nat) : Nat := 0x400F9044 + 0x1000 * n
abbrev MAC_LINK_DLY (n : Nat) : Nat := 0x400F9048 + 0x1000 * n
abbrev MAC_LINK_STAT (n : Nat) : Nat := 0x400F904C + 0x1000 * n
abbrev MAC_MDIO_CMD (n : Nat) : Nat := 0x400F9050 + 0x1000 * n
abbrev MAC_MDIO_DATA (n : Nat) : Nat := 0x400F9054 + 0x1000 * n
abbrev MAC_RX_FRAMES (n : Nat) : Nat := 0x400F9058 + 0x1000 * n
abbrev MAC_TX_FRAMES (n : Nat) : Nat := 0x400F905C + 0x1000 * n
abbrev MAC_RX_FCS_ERR (n : Nat) : Nat := 0x400F9060 + 0x1000 * n
abbrev MAC_RX_OVERSIZE (n : Nat) : Nat := 0x400F9064 + 0x1000 * n
abbrev MAC_TX_STOMPED (n : Nat) : Nat := 0x400F9068 + 0x1000 * n
abbrev MAC_TX_UNDERRUN (n : Nat) : Nat := 0x400F906C + 0x1000 * n

end Sys2Proof.Machine.Reg
end

