-- ==== Sys2Proof/Machine/RegDef.lean ====
section
/-! DEFINITION. What a row of a register table says: access types of R9, safe directions of R53, page classes of R42. -/

namespace Sys2Proof.Machine

/-- Access type of a register (R9). `cz` is a counter marked as cleared by a write of 0 (R539); its mask gives the counter
fields. -/
inductive RegKind
  | rw | ro | w1c | w1s | wo | rwk | rwo | cz
  deriving DecidableEq, Repr

/-- Safe direction of a safety-relevant field (R53): up, down, each bit may only be set, each bit may only be cleared, or no
direction at all (the field keeps its value). `gain` is down in the value of a gain register, mantissa times 2^shift (R298). -/
inductive SafeDir
  | up | down | set | clear | fixed | gain
  deriving DecidableEq, Repr

/-- A safety-relevant field: `len` bits from bit `lo`, and its safe direction. -/
structure SafeField where
  lo : Nat
  len : Nat
  dir : SafeDir
  deriving DecidableEq, Repr

/-- A row of a register table: `cnt` registers at `off`, `off + stride`, …. `mask` is what a write can change, `oper` says that the
block chapter lists the register as operational (R55), `en` marks the enables of R26 that it holds (R54). -/
structure RegDef where
  off : Nat
  stride : Nat
  cnt : Nat
  kind : RegKind
  mask : Word
  reset : Word
  oper : Bool
  safe : List SafeField
  en : Word
  deriving DecidableEq, Repr

/-- The page classes of R42 (the CHN queue pages apart, which have no header: R45). -/
inductive PageClass
  | sys | clk | pwr | pad | gpio | evt | temp | ref | cox | cox_fmap | mem | skim | sec | otp | aon | hpt | dma | chn | spe | le
  | ax | pwm | actg | bst | adc | sdm | adcseq | enc | lat | ldl | tsu | sch | can | ksw | mac
  deriving DecidableEq, Repr

end Sys2Proof.Machine
end

