-- ==== Sys2Proof/Machine/RegTab.lean ====
section
/-! DEFINITION. The register tables of every page class, written from the register tables that close the chapters of spec/
(one row of a table here per row there): offset, repetition, access type of R9, writable bits, reset value, whether the
register is operational (R55), and its safety-relevant fields with their safe directions (R53). -/

namespace Sys2Proof.Machine

/-- Registers of the SYS page (spec/03_pages.md, its register table). -/
def tabSYS : List RegDef := [
  ⟨0x040, 4, 4, .ro, 0x00000000, 0x00000000, false, [], 0x0⟩,
  ⟨0x050, 0, 1, .rwk, 0x00000001, 0x00000000, false, [], 0x0⟩,
  ⟨0x054, 0, 1, .rwk, 0x00000000, 0x00000000, true, [], 0x0⟩,
  ⟨0x058, 0, 1, .ro, 0x00000000, 0x00000000, false, [], 0x0⟩,
  ⟨0x05C, 0, 1, .ro, 0x00000000, 0x00000000, true, [], 0x0⟩,
  ⟨0x060, 0, 1, .cz, 0x0000FFFF, 0x00000000, true, [], 0x0⟩]

/-- Registers of the CLK page (spec/04_clocks_power.md, its register table). -/
def tabCLK : List RegDef := [
  ⟨0x040, 0, 1, .rwk, 0x00000013, 0x00000002, false, [], 0x0⟩,
  ⟨0x044, 0, 1, .ro, 0x00000000, 0x00000007, false, [], 0x0⟩,
  ⟨0x048, 0, 1, .rwk, 0x007F0033, 0x00000000, false, [], 0x0⟩,
  ⟨0x04C, 0, 1, .ro, 0x00000000, 0x00000000, false, [], 0x0⟩]

/-- Registers of the PWR page (spec/04_clocks_power.md, its register table). -/
def tabPWR : List RegDef := [
  ⟨0x040, 0, 1, .rwk, 0x00000007, 0x00000000, false, [], 0x0⟩,
  ⟨0x044, 0, 1, .ro, 0x00000000, 0x00000000, false, [], 0x0⟩,
  ⟨0x048, 0, 1, .w1c, 0x80000000, 0x00000000, true, [], 0x0⟩,
  ⟨0x04C, 0, 1, .rw, 0x00000177, 0x00000000, false, [], 0x0⟩,
  ⟨0x050, 0, 1, .ro, 0x00000000, 0x0000000F, false, [], 0x0⟩,
  ⟨0x054, 0, 1, .rw, 0x00003FFF, 0x00003FFF, false, [], 0x0⟩,
  ⟨0x058, 0, 1, .ro, 0x00000000, 0x0000003F, false, [], 0x0⟩]

/-- Registers of the PAD page (spec/26_package_pins.md, its register table). -/
def tabPAD : List RegDef := [
  ⟨0x040, 0, 1, .w1c, 0x80000000, 0x00000000, true, [], 0x0⟩,
  ⟨0x044, 0, 1, .rw, 0x0000FFFF, 0x00000000, true, [], 0x0⟩,
  ⟨0x100, 4, 625, .rw, 0x01031F03, 0x00010002, false, [], 0x0⟩]

/-- Registers of the GPIO page (spec/26_package_pins.md, its register table). -/
def tabGPIO : List RegDef := [
  ⟨0x080, 4, 16, .rw, 0xB00003FF, 0x00000000, false, [], 0x80000000⟩,
  ⟨0x100, 4, 20, .ro, 0x00000000, 0x00000000, false, [], 0x0⟩,
  ⟨0x180, 4, 20, .rw, 0xFFFFFFFF, 0x00000000, false, [], 0x0⟩,
  ⟨0x200, 4, 20, .rw, 0xFFFFFFFF, 0x00000000, false, [], 0x0⟩]

/-- Registers of the EVT page (spec/03_pages.md, its register table). -/
def tabEVT : List RegDef := [
  ⟨0x040, 4, 2, .ro, 0x00000000, 0x00000000, false, [], 0x0⟩,
  ⟨0x048, 0, 1, .w1c, 0x0000000F, 0x00000000, true, [], 0x0⟩,
  ⟨0x04C, 0, 1, .w1s, 0x0000000F, 0x00000000, true, [], 0x0⟩,
  ⟨0x050, 0, 1, .rw, 0x00000F0F, 0x00000000, false, [], 0x0⟩,
  ⟨0x060, 4, 8, .ro, 0x00000000, 0x00000000, false, [], 0x0⟩,
  ⟨0x100, 4, 64, .rw, 0x0000CF3F, 0x00000000, false, [⟨15, 1, .set⟩], 0x0⟩]

/-- Registers of the TEMP page (spec/12_sensing.md, its register table). -/
def tabTEMP : List RegDef := [
  ⟨0x040, 4, 4, .ro, 0x00000000, 0x00000000, false, [], 0x0⟩,
  ⟨0x050, 0, 1, .rw, 0xFFFFFFFF, 0x09600870, false, [⟨0, 16, .down⟩, ⟨16, 16, .down⟩], 0x0⟩,
  ⟨0x054, 0, 1, .ro, 0x00000000, 0x00000000, false, [], 0x0⟩,
  ⟨0x058, 0, 1, .ro, 0x00000000, 0x00000000, false, [], 0x0⟩]

/-- Registers of the REF page (spec/12_sensing.md, its register table). -/
def tabREF : List RegDef := [
  ⟨0x040, 0, 1, .rw, 0x00000001, 0x00000000, false, [], 0x0⟩,
  ⟨0x044, 0, 1, .ro, 0x00000000, 0x00000000, false, [], 0x0⟩,
  ⟨0x048, 0, 1, .ro, 0x00000000, 0x00000000, false, [], 0x0⟩,
  ⟨0x04C, 0, 1, .ro, 0x00000000, 0x00000000, false, [], 0x0⟩,
  ⟨0x050, 0, 1, .rw, 0xFFFFFFFF, 0x00640028, false, [⟨0, 16, .down⟩, ⟨16, 16, .down⟩], 0x0⟩,
  ⟨0x054, 0, 1, .rw, 0xFFFFFFFF, 0x012C00C8, false, [⟨0, 16, .down⟩, ⟨16, 16, .down⟩], 0x0⟩,
  ⟨0x058, 0, 1, .rw, 0x8000000F, 0x00000000, false, [⟨31, 1, .set⟩], 0x0⟩,
  ⟨0x05C, 0, 1, .rw, 0x00FFFFFF, 0x00000000, false, [], 0x0⟩,
  ⟨0x060, 0, 1, .rw, 0x0000FFFF, 0x00000000, false, [], 0x0⟩,
  ⟨0x064, 0, 1, .ro, 0x00000000, 0x00000000, false, [], 0x0⟩]

/-- Registers of the COX page (spec/05_cox.md, its register table). -/
def tabCOX : List RegDef := [
  ⟨0x040, 0, 1, .rw, 0x0000013F, 0x00000000, false, [⟨0, 6, .clear⟩], 0x3F⟩,
  ⟨0x044, 0, 1, .rw, 0x000007FF, 0x000000C8, false, [⟨0, 11, .down⟩], 0x0⟩,
  ⟨0x048, 0, 1, .rw, 0x00FFFFFF, 0x007EB852, false, [⟨0, 24, .down⟩], 0x0⟩,
  ⟨0x04C, 0, 1, .rwk, 0x00000000, 0x00000000, true, [], 0x0⟩,
  ⟨0x050, 0, 1, .ro, 0x00000000, 0x00000000, false, [], 0x0⟩,
  ⟨0x054, 0, 1, .ro, 0x00000000, 0x00000100, false, [], 0x0⟩,
  ⟨0x058, 4, 3, .ro, 0x00000000, 0x00000000, false, [], 0x0⟩,
  ⟨0x064, 4, 3, .w1c, 0xFFFFFFFF, 0x00000000, true, [], 0x0⟩,
  ⟨0x070, 0, 1, .w1c, 0x80000000, 0x00000000, true, [], 0x0⟩,
  ⟨0x074, 4, 2, .ro, 0x00000000, 0x00000000, false, [], 0x0⟩,
  ⟨0x07C, 0, 1, .ro, 0x00000000, 0x00000000, false, [], 0x0⟩,
  ⟨0x080, 0, 1, .ro, 0x00000000, 0x00000000, false, [], 0x0⟩,
  ⟨0x084, 0, 1, .rwk, 0x0000FFFF, 0x00000000, false, [], 0x0⟩,
  ⟨0x088, 0, 1, .rw, 0xFFFFFFFF, 0x00000000, false, [], 0x0⟩,
  ⟨0x08C, 0, 1, .ro, 0x00000000, 0x00000000, false, [], 0x0⟩,
  ⟨0x090, 0, 1, .wo, 0x00000000, 0x00000000, true, [], 0x0⟩,
  ⟨0x094, 0, 1, .ro, 0x00000000, 0x00000000, false, [], 0x0⟩,
  ⟨0x098, 0, 1, .rw, 0xFFFFFFFF, 0x00000000, false, [], 0x0⟩,
  ⟨0x09C, 4, 2, .wo, 0x00000000, 0x00000000, true, [], 0x0⟩,
  ⟨0x0A4, 0, 1, .rw, 0xFFFFFFFF, 0x00040004, false, [], 0x0⟩,
  ⟨0x0A8, 0, 1, .w1s, 0x00000003, 0x00000000, true, [], 0x0⟩,
  ⟨0x400, 4, 128, .ro, 0x00000000, 0x00000000, false, [], 0x0⟩]

/-- Registers of the COX_FMAP page (spec/05_cox.md, its register table). -/
def tabCOXFMAP : List RegDef := [
  ⟨0x040, 4, 96, .rw, 0x0000FF1F, 0x00000000, false, [⟨0, 2, .up⟩, ⟨2, 1, .set⟩, ⟨3, 1, .set⟩, ⟨4, 1, .set⟩, ⟨8, 8, .down⟩], 0x0⟩]

/-- Registers of the MEM page (spec/06_memory.md, its register table). -/
def tabMEM : List RegDef := [
  ⟨0x040, 0, 1, .rw, 0x0000FFFF, 0x00001000, false, [], 0x0⟩,
  ⟨0x044, 0, 1, .cz, 0x0000FFFF, 0x00000000, true, [], 0x0⟩,
  ⟨0x048, 0, 1, .ro, 0x00000000, 0x00000000, true, [], 0x0⟩,
  ⟨0x04C, 0, 1, .cz, 0xFFFF0000, 0x00000000, true, [], 0x0⟩,
  ⟨0x050, 0, 1, .rwk, 0x8000007F, 0x00000000, true, [], 0x0⟩,
  ⟨0x060, 4, 5, .rw, 0xFFFFFFFF, 0x00000000, true, [], 0x0⟩,
  ⟨0x07C, 0, 1, .ro, 0x00000000, 0x00000000, true, [], 0x0⟩,
  ⟨0x100, 8, 32, .rw, 0xFFFFF001, 0x00000000, false, [], 0x0⟩,
  ⟨0x104, 8, 32, .rw, 0xFFFFF003, 0x00000000, false, [], 0x0⟩,
  ⟨0x200, 4, 64, .ro, 0x00000000, 0x00000000, true, [], 0x0⟩]

/-- Registers of the SKIM page (spec/06_memory.md, its register table). -/
def tabSKIM : List RegDef := [
  ⟨0x040, 0, 1, .rw, 0x00000F3F, 0x00000A3F, false, [⟨0, 1, .set⟩, ⟨1, 1, .set⟩, ⟨2, 1, .set⟩, ⟨3, 1, .set⟩, ⟨4, 1, .set⟩, ⟨5, 1, .set⟩, ⟨8, 1, .set⟩, ⟨9, 3, .down⟩], 0x0⟩,
  ⟨0x044, 0, 1, .rw, 0x0000FFFF, 0x00001194, false, [], 0x0⟩,
  ⟨0x048, 0, 1, .ro, 0x00000000, 0x00000000, true, [], 0x0⟩,
  ⟨0x04C, 0, 1, .ro, 0x00000000, 0x00000000, true, [], 0x0⟩,
  ⟨0x050, 0, 1, .ro, 0x00000000, 0x00000000, true, [], 0x0⟩]

/-- Registers of the SEC page (spec/07_security.md, its register table). -/
def tabSEC : List RegDef := [
  ⟨0x040, 0, 1, .ro, 0x00000000, 0x00000000, false, [], 0x0⟩,
  ⟨0x044, 0, 1, .rwk, 0x00000000, 0x00000000, true, [], 0x0⟩,
  ⟨0x048, 0, 1, .ro, 0x00000000, 0x00000000, false, [], 0x0⟩,
  ⟨0x04C, 0, 1, .rwk, 0x00000000, 0x00000000, true, [], 0x0⟩,
  ⟨0x050, 0, 1, .ro, 0x00000000, 0x00000000, false, [], 0x0⟩,
  ⟨0x054, 0, 1, .rw, 0x00001F1F, 0x00001F1F, false, [⟨0, 1, .set⟩, ⟨1, 1, .set⟩, ⟨2, 1, .set⟩, ⟨3, 1, .set⟩, ⟨4, 1, .set⟩, ⟨8, 1, .set⟩, ⟨9, 1, .set⟩, ⟨10, 1, .set⟩, ⟨11, 1, .set⟩, ⟨12, 1, .set⟩], 0x0⟩,
  ⟨0x058, 0, 1, .w1c, 0x0000001F, 0x00000000, true, [], 0x0⟩,
  ⟨0x05C, 0, 1, .ro, 0x00000000, 0x00000000, false, [], 0x0⟩,
  ⟨0x060, 0, 1, .rw, 0xFFFFFFFF, 0x00000000, false, [], 0x0⟩,
  ⟨0x064, 0, 1, .wo, 0x00000000, 0x00000000, true, [], 0x0⟩,
  ⟨0x068, 0, 1, .ro, 0x00000000, 0x00000000, false, [], 0x0⟩,
  ⟨0x06C, 0, 1, .ro, 0x00000000, 0x00000000, false, [], 0x0⟩,
  ⟨0x070, 0, 1, .ro, 0x00000000, 0x00000000, true, [], 0x0⟩,
  ⟨0x080, 4, 16, .rw, 0x00031F1F, 0x00000F0F, false, [⟨0, 1, .clear⟩, ⟨1, 1, .clear⟩, ⟨2, 1, .clear⟩, ⟨3, 1, .clear⟩, ⟨4, 1, .clear⟩, ⟨8, 1, .clear⟩, ⟨9, 1, .clear⟩, ⟨10, 1, .clear⟩, ⟨11, 1, .clear⟩, ⟨12, 1, .clear⟩, ⟨16, 1, .fixed⟩, ⟨17, 1, .set⟩], 0x0⟩]

/-- Registers of the OTP page (spec/07_security.md, its register table). -/
def tabOTP : List RegDef := [
  ⟨0x040, 0, 1, .rw, 0x00001FFC, 0x00000000, true, [], 0x0⟩,
  ⟨0x044, 0, 1, .rw, 0xFFFFFFFF, 0x00000000, true, [], 0x0⟩,
  ⟨0x048, 0, 1, .rwk, 0x00000000, 0x00000000, true, [], 0x0⟩,
  ⟨0x04C, 0, 1, .ro, 0x00000000, 0x00000000, false, [], 0x0⟩,
  ⟨0x050, 0, 1, .ro, 0x00000000, 0xC0000000, false, [], 0x0⟩]

/-- Registers of the AON page (spec/23_always_on.md, its register table). -/
def tabAON : List RegDef := [
  ⟨0x040, 0, 1, .ro, 0x00000000, 0x40000000, false, [], 0x0⟩,
  ⟨0x044, 0, 1, .rw, 0x80000010, 0x80000000, false, [], 0x0⟩,
  ⟨0x048, 0, 1, .rw, 0xFFFFFFFF, 0x00000000, false, [], 0x0⟩,
  ⟨0x04C, 0, 1, .ro, 0x00000000, 0x00000000, false, [], 0x0⟩,
  ⟨0x050, 4, 2, .ro, 0x00000000, 0x00000000, false, [], 0x0⟩,
  ⟨0x058, 0, 1, .ro, 0x00000000, 0x00000000, false, [], 0x0⟩,
  ⟨0x05C, 0, 1, .rw, 0xFFFFFFFF, 0x00000000, true, [], 0x0⟩,
  ⟨0x060, 0, 1, .rwk, 0x000000FF, 0x00000000, true, [], 0x0⟩,
  ⟨0x064, 4, 2, .ro, 0x00000000, 0x00000000, false, [], 0x0⟩,
  ⟨0x070, 16, 2, .rw, 0xFFFFFFFF, 0x00000000, false, [], 0x0⟩,
  ⟨0x074, 16, 2, .rw, 0x000000FF, 0x00000000, false, [], 0x0⟩,
  ⟨0x078, 16, 2, .rw, 0x80FFFFFF, 0x00000000, false, [], 0x80000000⟩,
  ⟨0x090, 0, 1, .rwk, 0xFFFFFFFF, 0x00000000, false, [], 0x0⟩,
  ⟨0x094, 0, 1, .ro, 0x00000000, 0x00000000, false, [], 0x0⟩,
  ⟨0x098, 0, 1, .rw, 0x0000FFFF, 0x00000A14, false, [], 0x0⟩,
  ⟨0x09C, 0, 1, .rw, 0x0000003F, 0x0000000E, false, [⟨0, 6, .up⟩], 0x0⟩,
  ⟨0x0A0, 0, 1, .wo, 0x00000000, 0x00000000, true, [], 0x0⟩,
  ⟨0x0A4, 0, 1, .ro, 0x00000000, 0x00000000, false, [], 0x0⟩,
  ⟨0x0A8, 0, 1, .ro, 0x00000000, 0x00000000, false, [], 0x0⟩,
  ⟨0x100, 4, 64, .rw, 0xFFFFFFFF, 0x00000000, true, [], 0x0⟩]

/-- Registers of the HPT page (spec/09_host.md, its register table). -/
def tabHPT : List RegDef := [
  ⟨0x040, 0, 1, .rw, 0x0000FF13, 0x00000800, false, [], 0x0⟩,
  ⟨0x044, 0, 1, .ro, 0x00000000, 0x000F0000, true, [], 0x0⟩,
  ⟨0x048, 0, 1, .cz, 0xFFFFFFFF, 0x00000000, true, [], 0x0⟩,
  ⟨0x04C, 0, 1, .rw, 0x0000FFFF, 0x00000000, true, [], 0x0⟩,
  ⟨0x050, 0, 1, .ro, 0x00000000, 0x00000000, false, [], 0x0⟩,
  ⟨0x054, 0, 1, .rw, 0x1F1FFF03, 0x00080000, false, [], 0x0⟩,
  ⟨0x058, 0, 1, .rw, 0xFFFFFFFF, 0x00000000, true, [], 0x0⟩,
  ⟨0x05C, 0, 1, .rw, 0xFFFFFFFF, 0x00000000, true, [], 0x0⟩,
  ⟨0x060, 0, 1, .rw, 0x000FFFFF, 0x00000000, true, [], 0x0⟩,
  ⟨0x064, 0, 1, .ro, 0x00000000, 0x00000000, false, [], 0x0⟩]

/-- Registers of the DMA page (spec/09_host.md, its register table). -/
def tabDMA : List RegDef := [
  ⟨0x100, 32, 16, .rw, 0x00000011, 0x00000000, false, [], 0x1⟩,
  ⟨0x104, 32, 16, .rw, 0xFFFFFFE0, 0x00000000, true, [], 0x0⟩,
  ⟨0x108, 32, 16, .ro, 0x00000000, 0x00000000, false, [], 0x0⟩,
  ⟨0x10C, 32, 16, .w1s, 0x00000001, 0x00000000, true, [], 0x0⟩,
  ⟨0x110, 32, 16, .cz, 0x0000FFFF, 0x00000000, true, [], 0x0⟩,
  ⟨0x114, 32, 16, .rw, 0xFFFFFFFF, 0x00000000, true, [], 0x0⟩]

/-- Registers of the CHN page (spec/08_churn.md, its register table). -/
def tabCHN : List RegDef := [
  ⟨0x040, 4, 8, .ro, 0x00000000, 0x00000000, false, [], 0x0⟩,
  ⟨0x060, 4, 8, .ro, 0x00000000, 0x00000000, false, [], 0x0⟩,
  ⟨0x080, 0, 1, .ro, 0x00000000, 0x00000000, false, [], 0x0⟩,
  ⟨0x084, 0, 1, .ro, 0x00000000, 0x00000000, false, [], 0x0⟩]

/-- Registers of the SPE pages (spec/10_spe_model.md, its register table). -/
def tabSPE : List RegDef := [
  ⟨0x040, 0, 1, .rw, 0x0000FFFF, 0x00000100, false, [], 0x0⟩,
  ⟨0x044, 0, 1, .ro, 0x00000000, 0x00000000, false, [], 0x0⟩,
  ⟨0x048, 0, 1, .ro, 0x00000000, 0x00000000, false, [], 0x0⟩,
  ⟨0x04C, 4, 2, .ro, 0x00000000, 0x00000000, false, [], 0x0⟩,
  ⟨0x054, 0, 1, .ro, 0x00000000, 0x00000000, false, [], 0x0⟩,
  ⟨0x058, 0, 1, .ro, 0x00000000, 0x00000000, false, [], 0x0⟩,
  ⟨0x060, 4, 4, .rw, 0xFFFFFFFF, 0x00000000, false, [], 0x0⟩]

/-- Registers of the LE pages (spec/14_loops.md, its register table). -/
def tabLE : List RegDef := [
  ⟨0x040, 0, 1, .rw, 0x00000F07, 0x00000000, false, [], 0x0⟩,
  ⟨0x044, 0, 1, .ro, 0x00000000, 0x00000000, true, [], 0x0⟩,
  ⟨0x048, 0, 1, .ro, 0x00000000, 0x00000000, false, [], 0x0⟩,
  ⟨0x04C, 0, 1, .cz, 0x0000FFFF, 0x00000000, true, [], 0x0⟩,
  ⟨0x050, 0, 1, .rw, 0x0000FFFF, 0x00000000, true, [], 0x0⟩,
  ⟨0x054, 0, 1, .ro, 0x00000000, 0x00000000, false, [], 0x0⟩,
  ⟨0x058, 0, 1, .ro, 0x00000000, 0x00000000, false, [], 0x0⟩,
  ⟨0x05C, 0, 1, .ro, 0x00000000, 0x00000000, false, [], 0x0⟩,
  ⟨0x060, 0, 1, .rw, 0xFFFFFFFF, 0x00000000, true, [], 0x0⟩]

/-- Registers of the AX pages (spec/14_loops.md, its register table). -/
def tabAXa : List RegDef := [
  ⟨0x040, 0, 1, .rw, 0x01F3FF77, 0x00A00000, false, [], 0x0⟩,
  ⟨0x044, 0, 1, .rw, 0x00000001, 0x00000000, true, [], 0x0⟩,
  ⟨0x048, 0, 1, .rw, 0x1FFFFFFF, 0x00000000, false, [], 0x0⟩,
  ⟨0x04C, 0, 1, .rw, 0x1FFFFFFF, 0x00000000, false, [], 0x0⟩,
  ⟨0x050, 0, 1, .rw, 0x1FFFFFFF, 0x00000000, false, [], 0x0⟩,
  ⟨0x054, 0, 1, .rw, 0x1FFFFFFF, 0x00000000, false, [], 0x0⟩,
  ⟨0x058, 0, 1, .rw, 0x00FFFFFF, 0x007AE148, false, [⟨0, 24, .down⟩], 0x0⟩,
  ⟨0x05C, 0, 1, .rw, 0x00FFFFFF, 0x00000000, false, [], 0x0⟩,
  ⟨0x060, 0, 1, .rw, 0x00FFFFFF, 0x00000000, false, [], 0x0⟩,
  ⟨0x064, 0, 1, .rw, 0x00FFFFFF, 0x00000000, false, [⟨0, 24, .down⟩], 0x0⟩,
  ⟨0x068, 0, 1, .rw, 0x1FFFFFFF, 0x00000000, false, [], 0x0⟩,
  ⟨0x06C, 0, 1, .rw, 0x1FFFFFFF, 0x00000000, false, [], 0x0⟩,
  ⟨0x070, 0, 1, .rw, 0x1FFFFFFF, 0x00000000, false, [], 0x0⟩,
  ⟨0x074, 0, 1, .rw, 0x000000FF, 0x00000060, false, [], 0x0⟩,
  ⟨0x078, 0, 1, .rw, 0x1FFFFFFF, 0x00000000, false, [], 0x0⟩,
  ⟨0x07C, 0, 1, .rw, 0x1FFFFFFF, 0x00000000, false, [], 0x0⟩,
  ⟨0x080, 0, 1, .rw, 0x1FFFFFFF, 0x00000000, false, [], 0x0⟩,
  ⟨0x084, 0, 1, .rw, 0x00FFFFFF, 0x00000000, false, [], 0x0⟩,
  ⟨0x088, 0, 1, .rw, 0x1FFFFFFF, 0x00000000, false, [], 0x0⟩,
  ⟨0x08C, 0, 1, .rw, 0x00FFFFFF, 0x00000000, false, [⟨0, 24, .down⟩], 0x0⟩,
  ⟨0x090, 0, 1, .rw, 0x00FFFFFF, 0x007FFFFF, false, [⟨0, 24, .down⟩], 0x0⟩,
  ⟨0x094, 0, 1, .rw, 0x1FFFFFFF, 0x00000000, false, [], 0x0⟩,
  ⟨0x098, 0, 1, .rw, 0x1FFFFFFF, 0x00000000, false, [], 0x0⟩,
  ⟨0x09C, 0, 1, .rw, 0x1FFFFFFF, 0x00000000, false, [], 0x0⟩]

/-- Registers of the AX pages (spec/14_loops.md, its register table). -/
def tabAXb : List RegDef := [
  ⟨0x0A0, 0, 1, .rw, 0x1FFFFFFF, 0x00000000, false, [], 0x0⟩,
  ⟨0x0A4, 0, 1, .rw, 0xFFFFFFFF, 0x00001000, false, [⟨0, 32, .down⟩], 0x0⟩,
  ⟨0x0A8, 0, 1, .rw, 0x00FFFFFF, 0x00002000, false, [], 0x0⟩,
  ⟨0x0AC, 0, 1, .rw, 0x80000000, 0x80000000, false, [⟨31, 1, .set⟩], 0x0⟩,
  ⟨0x0B0, 0, 1, .ro, 0x00000000, 0x00000000, true, [], 0x0⟩,
  ⟨0x100, 0, 1, .rw, 0x0000007F, 0x00000000, false, [], 0x0⟩,
  ⟨0x104, 0, 1, .wo, 0x00000000, 0x00000000, true, [], 0x0⟩,
  ⟨0x108, 0, 1, .ro, 0x00000000, 0x00000000, false, [], 0x0⟩,
  ⟨0x10C, 0, 1, .w1c, 0x00000001, 0x00000000, true, [], 0x0⟩,
  ⟨0x110, 0, 1, .rw, 0xFFFFFFFF, 0x01000000, false, [⟨0, 32, .up⟩], 0x0⟩,
  ⟨0x114, 0, 1, .rw, 0xFFFFFFFF, 0x01000000, false, [⟨0, 32, .up⟩], 0x0⟩,
  ⟨0x118, 0, 1, .ro, 0x00000000, 0x00000000, false, [], 0x0⟩,
  ⟨0x120, 0, 1, .ro, 0x00000000, 0x00000000, false, [], 0x0⟩,
  ⟨0x124, 0, 1, .ro, 0x00000000, 0x00000000, false, [], 0x0⟩,
  ⟨0x128, 0, 1, .ro, 0x00000000, 0x00000000, false, [], 0x0⟩,
  ⟨0x12C, 0, 1, .ro, 0x00000000, 0x00000000, false, [], 0x0⟩,
  ⟨0x130, 4, 2, .ro, 0x00000000, 0x00000000, false, [], 0x0⟩,
  ⟨0x138, 0, 1, .ro, 0x00000000, 0x00000000, true, [], 0x0⟩,
  ⟨0x13C, 0, 1, .rw, 0x0000FFFF, 0x00000000, true, [], 0x0⟩,
  ⟨0x140, 0, 1, .ro, 0x00000000, 0x00000000, false, [], 0x0⟩,
  ⟨0x144, 4, 2, .ro, 0x00000000, 0x00000000, false, [], 0x0⟩,
  ⟨0x14C, 0, 1, .rw, 0x0000FFFF, 0x00000000, true, [], 0x0⟩,
  ⟨0x180, 0, 1, .rw, 0x8000010F, 0x00000000, false, [], 0x80000000⟩,
  ⟨0x184, 0, 1, .wo, 0x00000000, 0x00000000, true, [], 0x0⟩]

/-- Registers of the AX pages (spec/14_loops.md, its register table). -/
def tabAXc : List RegDef := [
  ⟨0x188, 4, 2, .rw, 0xFFFFFFFF, 0x00000000, false, [], 0x0⟩,
  ⟨0x190, 0, 1, .rw, 0xFFFFFFFF, 0x00000000, false, [], 0x0⟩,
  ⟨0x194, 4, 2, .rw, 0xFFFFFFFF, 0x00000000, false, [], 0x0⟩,
  ⟨0x19C, 4, 2, .ro, 0x00000000, 0x00000000, false, [], 0x0⟩,
  ⟨0x200, 0, 1, .rw, 0x00000003, 0x00000000, true, [], 0x0⟩,
  ⟨0x204, 0, 1, .rw, 0x000F0137, 0x00000000, false, [], 0x0⟩,
  ⟨0x208, 0, 1, .rw, 0x00FFFFFF, 0x007FFFFF, false, [], 0x0⟩,
  ⟨0x20C, 0, 1, .rw, 0x1FFFFFFF, 0x00000000, false, [], 0x0⟩,
  ⟨0x210, 0, 1, .rw, 0x000003FF, 0x00000000, false, [], 0x0⟩,
  ⟨0x214, 0, 1, .rw, 0x00FFFFFF, 0x00000000, false, [], 0x0⟩,
  ⟨0x218, 0, 1, .rw, 0x00FFFFFF, 0x007FFFFF, false, [], 0x0⟩,
  ⟨0x21C, 0, 1, .rw, 0x00FFFFFF, 0x00100000, false, [⟨0, 24, .down⟩], 0x0⟩,
  ⟨0x220, 0, 1, .rw, 0x000000FF, 0x00000004, false, [], 0x0⟩,
  ⟨0x224, 0, 1, .rw, 0x00FFFFFF, 0x00000000, false, [], 0x0⟩,
  ⟨0x228, 0, 1, .ro, 0x00000000, 0x00000000, true, [], 0x0⟩,
  ⟨0x22C, 0, 1, .ro, 0x00000000, 0x00000000, true, [], 0x0⟩,
  ⟨0x230, 0, 1, .ro, 0x00000000, 0x00000000, true, [], 0x0⟩,
  ⟨0x234, 0, 1, .ro, 0x00000000, 0x00000000, true, [], 0x0⟩,
  ⟨0x238, 0, 1, .cz, 0x0000FFFF, 0x00000000, true, [], 0x0⟩]

/-- Registers of the AX pages (spec/14_loops.md, its register table). -/
def tabAX : List RegDef := tabAXa ++ tabAXb ++ tabAXc

/-- Registers of the PWM pages (spec/13_pwm.md, its register table). -/
def tabPWM : List RegDef := [
  ⟨0x040, 0, 1, .rw, 0x0F7F3113, 0x00000000, false, [], 0x0⟩,
  ⟨0x044, 0, 1, .rw, 0x00FFFFFF, 0x0004E200, false, [], 0x0⟩,
  ⟨0x048, 0, 1, .ro, 0x00000000, 0x0004E200, false, [], 0x0⟩,
  ⟨0x04C, 4, 3, .rw, 0x00FFFFFF, 0x00FFFFFF, false, [], 0x0⟩,
  ⟨0x058, 0, 1, .wo, 0x00000000, 0x00000000, true, [], 0x0⟩,
  ⟨0x05C, 4, 3, .ro, 0x00000000, 0x00FFFFFF, false, [], 0x0⟩,
  ⟨0x068, 0, 1, .rw, 0xFFFFFFFF, 0x02800280, false, [], 0x0⟩,
  ⟨0x06C, 0, 1, .rw, 0x0000FFFF, 0x00000500, false, [], 0x0⟩,
  ⟨0x070, 4, 4, .rw, 0xC0FFFFFF, 0x00000000, false, [], 0x0⟩,
  ⟨0x080, 0, 1, .rw, 0x00FFFFFF, 0x00000000, false, [], 0x0⟩,
  ⟨0x084, 0, 1, .rw, 0x000000FF, 0x00000010, false, [], 0x0⟩,
  ⟨0x088, 0, 1, .ro, 0x00000000, 0x00000000, false, [], 0x0⟩,
  ⟨0x08C, 0, 1, .rw, 0x830003FF, 0x800003FF, false, [⟨31, 1, .set⟩, ⟨0, 10, .down⟩], 0x0⟩,
  ⟨0x090, 0, 1, .rw, 0xFFFFFFFF, 0x00000000, false, [], 0x0⟩,
  ⟨0x094, 0, 1, .w1c, 0x00000001, 0x00000000, true, [], 0x0⟩,
  ⟨0x098, 0, 1, .ro, 0x00000000, 0x00000000, false, [], 0x0⟩,
  ⟨0x09C, 0, 1, .rw, 0xFFFFFFFF, 0x00000000, true, [], 0x0⟩,
  ⟨0x0A0, 0, 1, .cz, 0x0000FFFF, 0x00000000, true, [], 0x0⟩,
  ⟨0x0A4, 0, 1, .cz, 0xFFFFFFFF, 0x00000000, true, [], 0x0⟩,
  ⟨0x0A8, 0, 1, .cz, 0x0000FFFF, 0x00000000, true, [], 0x0⟩,
  ⟨0x0AC, 0, 1, .ro, 0x00000000, 0x80000020, false, [], 0x0⟩]

/-- Registers of the ACTG pages (spec/17_actuators.md, its register table). -/
def tabACTGa : List RegDef := [
  ⟨0x040, 512, 8, .rw, 0x80070337, 0x00060000, false, [⟨17, 1, .set⟩], 0x80000000⟩,
  ⟨0x044, 512, 8, .wo, 0x00000000, 0x00000000, true, [], 0x0⟩,
  ⟨0x048, 512, 8, .ro, 0x00000000, 0x00000000, false, [], 0x0⟩,
  ⟨0x04C, 512, 8, .rw, 0x00FFFFFF, 0x00000000, false, [], 0x0⟩,
  ⟨0x050, 512, 8, .rw, 0x00FFFFFF, 0x00000000, false, [], 0x0⟩,
  ⟨0x054, 512, 8, .rw, 0x00FFFFFF, 0x00000000, false, [], 0x0⟩,
  ⟨0x058, 512, 8, .rw, 0xFFFFFFFF, 0x1F400000, false, [], 0x0⟩,
  ⟨0x05C, 512, 8, .rw, 0xFFFFFFFF, 0x03E80014, false, [], 0x0⟩,
  ⟨0x060, 512, 8, .rw, 0xFFFFFFFF, 0x01F4028F, false, [], 0x0⟩,
  ⟨0x064, 512, 8, .rw, 0xFFFFFFFF, 0x00000000, false, [], 0x0⟩,
  ⟨0x068, 512, 8, .rw, 0xFFFFFFFF, 0x00000000, true, [], 0x0⟩,
  ⟨0x06C, 512, 8, .rw, 0xFFFFFFFF, 0x00000000, true, [], 0x0⟩,
  ⟨0x070, 512, 8, .rw, 0xFFFFFFFF, 0xFFFF0000, false, [], 0x0⟩,
  ⟨0x074, 512, 8, .rw, 0xFFFFFFFF, 0xFFFF0000, false, [], 0x0⟩,
  ⟨0x078, 512, 8, .rw, 0x8007FFFF, 0x00000000, false, [], 0x0⟩,
  ⟨0x07C, 512, 8, .ro, 0x00000000, 0x00000000, false, [], 0x0⟩,
  ⟨0x080, 512, 8, .ro, 0x00000000, 0x00000000, false, [], 0x0⟩,
  ⟨0x084, 512, 8, .rw, 0xFFFFFFFF, 0x00000000, true, [], 0x0⟩,
  ⟨0x088, 512, 8, .rw, 0x000FFFFF, 0x0001046B, false, [], 0x0⟩,
  ⟨0x08C, 512, 8, .rw, 0x00FFFFFF, 0x00000000, true, [], 0x0⟩,
  ⟨0x090, 512, 8, .rw, 0x000FFFFF, 0x00000000, false, [], 0x0⟩,
  ⟨0x094, 512, 8, .rw, 0x0000FFFF, 0x00001388, false, [], 0x0⟩,
  ⟨0x098, 512, 8, .rw, 0x0000FFFF, 0x000007D0, false, [], 0x0⟩,
  ⟨0x09C, 512, 8, .rw, 0x00FFFFFF, 0x00000000, true, [], 0x0⟩]

/-- Registers of the ACTG pages (spec/17_actuators.md, its register table). -/
def tabACTGb : List RegDef := [
  ⟨0x0A0, 512, 8, .rw, 0x1FFFFFFF, 0x00000000, false, [], 0x0⟩,
  ⟨0x0A4, 512, 8, .rw, 0x1FFFFFFF, 0x00000000, false, [], 0x0⟩,
  ⟨0x0A8, 512, 8, .rw, 0x1FFFFFFF, 0x00000000, false, [], 0x0⟩,
  ⟨0x0AC, 512, 8, .rw, 0x1FFFFFFF, 0x00000000, false, [⟨0, 29, .gain⟩], 0x0⟩,
  ⟨0x0B0, 512, 8, .rw, 0xFFFFFFFF, 0x00000000, false, [], 0x0⟩,
  ⟨0x0B4, 512, 8, .rw, 0x8100001F, 0x00000000, false, [], 0x0⟩,
  ⟨0x0B8, 512, 8, .rw, 0x00FFFFFF, 0x00000000, true, [], 0x0⟩,
  ⟨0x0BC, 512, 8, .rw, 0x0000FFFF, 0x00000032, false, [], 0x0⟩,
  ⟨0x0C0, 512, 8, .rw, 0xFFFFFFFF, 0x4E201770, false, [], 0x0⟩,
  ⟨0x0C4, 512, 8, .rw, 0xFFFFFFFF, 0x00000000, false, [], 0x0⟩,
  ⟨0x0C8, 512, 8, .rw, 0xFFFF00FF, 0x01000004, false, [], 0x0⟩,
  ⟨0x0CC, 512, 8, .ro, 0x00000000, 0x00000000, false, [], 0x0⟩,
  ⟨0x0D0, 512, 8, .rw, 0x8FFF03FF, 0x800003FF, false, [⟨31, 1, .set⟩, ⟨0, 10, .down⟩], 0x0⟩,
  ⟨0x0D4, 512, 8, .rw, 0x0000FFFF, 0x00000000, true, [], 0x0⟩,
  ⟨0x0D8, 512, 8, .rw, 0x0000FFFF, 0x00000064, false, [], 0x0⟩,
  ⟨0x0E0, 512, 8, .rw, 0xFFFFFFFF, 0x00000000, false, [], 0x0⟩,
  ⟨0x0E4, 512, 8, .rw, 0xFFFFFFFF, 0x02580280, false, [], 0x0⟩,
  ⟨0x0E8, 512, 8, .rw, 0x00FFFFFF, 0x00B4A08C, false, [⟨0, 8, .down⟩, ⟨8, 8, .down⟩, ⟨16, 8, .down⟩], 0x0⟩,
  ⟨0x0EC, 512, 8, .rw, 0x00FFFFFF, 0x00666666, false, [], 0x0⟩,
  ⟨0x0F0, 512, 8, .ro, 0x00000000, 0x00000000, false, [], 0x0⟩,
  ⟨0x0F4, 512, 8, .rw, 0xFFFFFFFF, 0x00000000, false, [], 0x0⟩,
  ⟨0x0F8, 512, 8, .rw, 0x00003FFF, 0x00000000, true, [], 0x0⟩,
  ⟨0x0FC, 512, 8, .w1c, 0x00003FFF, 0x00000000, true, [], 0x0⟩,
  ⟨0x200, 0, 1, .rw, 0xFFFFFFFF, 0x01F47D00, false, [⟨16, 16, .down⟩], 0x0⟩]

/-- Registers of the ACTG pages (spec/17_actuators.md, its register table). -/
def tabACTGc : List RegDef := [
  ⟨0x204, 0, 1, .ro, 0x00000000, 0x00000000, false, [], 0x0⟩,
  ⟨0x208, 0, 1, .ro, 0x00000000, 0x00000000, false, [], 0x0⟩,
  ⟨0x20C, 0, 1, .ro, 0x00000000, 0x00000000, false, [], 0x0⟩]

/-- Registers of the ACTG pages (spec/17_actuators.md, its register table). -/
def tabACTG : List RegDef := tabACTGa ++ tabACTGb ++ tabACTGc

/-- Registers of the BST page (spec/17_actuators.md, its register table). -/
def tabBST : List RegDef := [
  ⟨0x040, 32, 2, .rw, 0x8000FFFF, 0x00000000, false, [], 0x80000000⟩,
  ⟨0x044, 32, 2, .rw, 0x0000FFFF, 0x00001E00, false, [], 0x0⟩,
  ⟨0x048, 32, 2, .rw, 0x0000FFFF, 0x00000000, false, [], 0x0⟩,
  ⟨0x04C, 32, 2, .rw, 0xFFFFFFFF, 0x00000000, false, [⟨16, 16, .down⟩], 0x0⟩,
  ⟨0x050, 32, 2, .rw, 0x03FFFFFF, 0x03000A0A, false, [], 0x0⟩,
  ⟨0x054, 32, 2, .ro, 0x00000000, 0x00000000, false, [], 0x0⟩,
  ⟨0x058, 32, 2, .ro, 0x00000000, 0x00000000, false, [], 0x0⟩]

/-- Registers of the ADC pages (spec/12_sensing.md, its register table). -/
def tabADC : List RegDef := [
  ⟨0x040, 0, 1, .rw, 0x0000001F, 0x0000000A, false, [], 0x0⟩,
  ⟨0x044, 4, 4, .rw, 0xFF0F300F, 0x00000000, false, [], 0x80000000⟩,
  ⟨0x054, 4, 4, .ro, 0x00000000, 0x00000000, false, [], 0x0⟩,
  ⟨0x064, 0, 1, .cz, 0x0000FFFF, 0x00000000, false, [], 0x0⟩,
  ⟨0x068, 0, 1, .cz, 0x0000FFFF, 0x00000000, false, [], 0x0⟩,
  ⟨0x080, 8, 8, .rw, 0x00FFFFFF, 0x00000000, false, [], 0x0⟩,
  ⟨0x084, 8, 8, .rw, 0x9F00FFFF, 0x00008000, false, [], 0x0⟩,
  ⟨0x0C0, 4, 16, .ro, 0x00000000, 0x00000000, false, [], 0x0⟩]

/-- Registers of the SDM page (spec/12_sensing.md, its register table). -/
def tabSDM : List RegDef := [
  ⟨0x040, 0, 1, .rw, 0x00000F07, 0x00000000, false, [], 0x0⟩,
  ⟨0x100, 16, 16, .rw, 0xFFCF3700, 0x00000000, false, [⟨29, 1, .set⟩], 0x0⟩,
  ⟨0x104, 16, 16, .ro, 0x00000000, 0x00000000, false, [], 0x0⟩,
  ⟨0x108, 16, 16, .rw, 0xFFFFFFFF, 0x7FFF8000, false, [], 0x0⟩]

/-- Registers of the ADCSEQ page (spec/12_sensing.md, its register table). -/
def tabADCSEQ : List RegDef := [
  ⟨0x040, 0, 1, .rw, 0x0000FFFF, 0x00000064, false, [], 0x0⟩,
  ⟨0x044, 0, 1, .ro, 0x00000000, 0x00000000, true, [], 0x0⟩,
  ⟨0x048, 0, 1, .rw, 0x0000FFFF, 0x00000000, false, [], 0x0⟩,
  ⟨0x04C, 0, 1, .rw, 0x0000FFFF, 0x00000032, false, [⟨0, 16, .down⟩], 0x0⟩,
  ⟨0x050, 0, 1, .ro, 0x00000000, 0x00000000, false, [], 0x0⟩,
  ⟨0x080, 4, 12, .rw, 0xFFFFFFFF, 0xFFFFFFFF, false, [], 0x0⟩]

/-- Registers of the ENC pages (spec/12_sensing.md, its register table). -/
def tabENC : List RegDef := [
  ⟨0x040, 0, 1, .rw, 0xE01F0F07, 0x80000100, false, [⟨31, 1, .set⟩], 0x0⟩,
  ⟨0x044, 0, 1, .rw, 0x00FFFFFF, 0x00001000, false, [], 0x0⟩,
  ⟨0x048, 0, 1, .rw, 0xC00000FF, 0x00000000, false, [⟨31, 1, .set⟩], 0x0⟩,
  ⟨0x04C, 0, 1, .rw, 0x0000FFFF, 0x00002710, false, [], 0x0⟩,
  ⟨0x050, 0, 1, .ro, 0x00000000, 0x00000000, false, [], 0x0⟩,
  ⟨0x054, 4, 2, .ro, 0x00000000, 0x00000000, false, [], 0x0⟩,
  ⟨0x05C, 0, 1, .ro, 0x00000000, 0x00000000, false, [], 0x0⟩,
  ⟨0x060, 4, 2, .ro, 0x00000000, 0x00000000, false, [], 0x0⟩,
  ⟨0x068, 0, 1, .ro, 0x00000000, 0x00000000, false, [], 0x0⟩,
  ⟨0x06C, 0, 1, .ro, 0x00000000, 0x00000000, false, [], 0x0⟩,
  ⟨0x070, 0, 1, .ro, 0x00000000, 0x00000000, false, [], 0x0⟩,
  ⟨0x074, 0, 1, .ro, 0x00000000, 0x00000000, false, [], 0x0⟩,
  ⟨0x078, 0, 1, .ro, 0x00000000, 0x00000000, false, [], 0x0⟩,
  ⟨0x07C, 0, 1, .rw, 0xFFFFFFFF, 0x00000000, false, [], 0x0⟩,
  ⟨0x080, 0, 1, .rw, 0xFFFFFFFF, 0x00000000, false, [], 0x0⟩,
  ⟨0x084, 0, 1, .rwk, 0xFFFFFFFF, 0x00000000, false, [], 0x0⟩,
  ⟨0x088, 0, 1, .rw, 0x00FFFFFF, 0x00000000, false, [], 0x0⟩]

/-- Registers of the LAT page (spec/16_profiles.md, its register table). -/
def tabLAT : List RegDef := [
  ⟨0x100, 128, 16, .rw, 0xB11F00FF, 0x00000000, false, [], 0x80000000⟩,
  ⟨0x104, 128, 16, .rw, 0x8F8F8F8F, 0x00000000, false, [], 0x0⟩,
  ⟨0x108, 128, 16, .ro, 0x00000000, 0x00000000, false, [], 0x0⟩,
  ⟨0x10C, 128, 16, .rw, 0x0000FFFF, 0x00000000, true, [], 0x0⟩,
  ⟨0x110, 128, 16, .wo, 0x00000000, 0x00000000, true, [], 0x0⟩,
  ⟨0x114, 128, 16, .ro, 0x00000000, 0x00000000, false, [], 0x0⟩,
  ⟨0x120, 128, 16, .ro, 0x00000000, 0x00000000, false, [], 0x0⟩,
  ⟨0x124, 128, 16, .ro, 0x00000000, 0x00000000, false, [], 0x0⟩,
  ⟨0x128, 128, 16, .ro, 0x00000000, 0x00000000, false, [], 0x0⟩,
  ⟨0x12C, 128, 16, .ro, 0x00000000, 0x00000000, false, [], 0x0⟩,
  ⟨0x130, 128, 16, .ro, 0x00000000, 0x00000000, false, [], 0x0⟩,
  ⟨0x134, 128, 16, .ro, 0x00000000, 0x00000000, false, [], 0x0⟩,
  ⟨0x138, 128, 16, .ro, 0x00000000, 0x00000000, false, [], 0x0⟩,
  ⟨0x13C, 128, 16, .ro, 0x00000000, 0x00000000, false, [], 0x0⟩,
  ⟨0x140, 128, 16, .ro, 0x00000000, 0x00000000, false, [], 0x0⟩,
  ⟨0x144, 128, 16, .ro, 0x00000000, 0x00000000, false, [], 0x0⟩,
  ⟨0x148, 128, 16, .ro, 0x00000000, 0x00000000, false, [], 0x0⟩,
  ⟨0x14C, 128, 16, .ro, 0x00000000, 0x00000000, false, [], 0x0⟩]

/-- Registers of the LDL page (spec/22_ladle.md, its register table). -/
def tabLDL : List RegDef := [
  ⟨0x040, 0, 1, .rw, 0x0000FFFF, 0x00000000, true, [], 0x0⟩,
  ⟨0x080, 4, 32, .rw, 0xB00F01FF, 0x00000000, false, [], 0x80000000⟩,
  ⟨0x100, 64, 4, .rw, 0xB30001FF, 0x00000000, false, [], 0x80000000⟩,
  ⟨0x104, 64, 4, .rw, 0xCF300000, 0x00000000, false, [], 0x0⟩,
  ⟨0x108, 64, 4, .rw, 0x00FFFFFF, 0x00000004, false, [], 0x0⟩,
  ⟨0x10C, 64, 4, .rw, 0x0000FFFF, 0x00000000, false, [], 0x0⟩,
  ⟨0x110, 64, 4, .rw, 0x0000FFFF, 0x00000000, false, [], 0x0⟩,
  ⟨0x114, 64, 4, .rw, 0x0000FFFF, 0x00000001, false, [], 0x0⟩,
  ⟨0x118, 64, 4, .rw, 0xF31F3F00, 0x00000000, false, [], 0x0⟩,
  ⟨0x11C, 64, 4, .rw, 0xFFFFFFFF, 0x00000000, false, [], 0x0⟩,
  ⟨0x120, 64, 4, .rw, 0x0000FFFF, 0x00000000, false, [], 0x0⟩,
  ⟨0x124, 64, 4, .rw, 0xFFFFFFFF, 0x00000000, false, [], 0x0⟩,
  ⟨0x128, 64, 4, .rw, 0xFFFFFFFF, 0x00000000, false, [], 0x0⟩,
  ⟨0x12C, 64, 4, .rw, 0xFFFFFFFC, 0x00000000, false, [], 0x0⟩,
  ⟨0x130, 64, 4, .rw, 0x000FFFFF, 0x00000000, false, [], 0x0⟩,
  ⟨0x134, 64, 4, .wo, 0x00000000, 0x00000000, true, [], 0x0⟩,
  ⟨0x138, 64, 4, .ro, 0x00000000, 0x00000000, false, [], 0x0⟩,
  ⟨0x200, 16, 4, .ro, 0x00000000, 0x00000000, false, [], 0x0⟩,
  ⟨0x204, 16, 4, .ro, 0x00000000, 0x00000000, false, [], 0x0⟩,
  ⟨0x208, 16, 4, .ro, 0x00000000, 0x00000000, false, [], 0x0⟩,
  ⟨0x20C, 16, 4, .rw, 0x0000FFFF, 0x00000000, true, [], 0x0⟩]

/-- Registers of the TSU page (spec/18_time.md, its register table). -/
def tabTSUa : List RegDef := [
  ⟨0x040, 4, 2, .ro, 0x00000000, 0x00000000, false, [], 0x0⟩,
  ⟨0x048, 4, 2, .ro, 0x00000000, 0x00000000, false, [], 0x0⟩,
  ⟨0x050, 0, 1, .rw, 0x00000101, 0x00000100, false, [], 0x0⟩,
  ⟨0x054, 0, 1, .ro, 0x00000000, 0x00000000, false, [], 0x0⟩,
  ⟨0x058, 0, 1, .rw, 0x00FFFFFF, 0x0000C350, false, [⟨0, 24, .down⟩], 0x0⟩,
  ⟨0x05C, 0, 1, .rw, 0x0000FFFF, 0x00000064, false, [], 0x0⟩,
  ⟨0x060, 0, 1, .rw, 0x00000001, 0x00000000, false, [⟨0, 1, .clear⟩], 0x0⟩,
  ⟨0x064, 0, 1, .rw, 0x0000FFFF, 0x00000032, false, [], 0x0⟩,
  ⟨0x068, 4, 2, .ro, 0x00000000, 0x00000000, false, [], 0x0⟩,
  ⟨0x070, 0, 1, .ro, 0x00000000, 0x00000000, false, [], 0x0⟩,
  ⟨0x074, 0, 1, .wo, 0x00000000, 0x00000000, true, [], 0x0⟩,
  ⟨0x078, 0, 1, .ro, 0x00000000, 0x00000000, false, [], 0x0⟩,
  ⟨0x080, 4, 10, .ro, 0x00000000, 0x00000000, false, [], 0x0⟩,
  ⟨0x0B0, 0, 1, .rw, 0x800FFFFF, 0x00000000, false, [], 0x80000000⟩,
  ⟨0x0B4, 0, 1, .rw, 0xB01F00FF, 0x00000000, false, [], 0x80000000⟩,
  ⟨0x0B8, 4, 5, .ro, 0x00000000, 0x00000000, false, [], 0x0⟩,
  ⟨0x0CC, 0, 1, .rw, 0x0000FFFF, 0x00000000, true, [], 0x0⟩,
  ⟨0x100, 16, 4, .rw, 0x8300FFFF, 0x00000000, false, [], 0x80000000⟩,
  ⟨0x104, 16, 4, .rw, 0xFFFFFFFF, 0x00000000, false, [], 0x0⟩,
  ⟨0x108, 16, 4, .rw, 0xFFFFFFFF, 0x00000000, false, [], 0x0⟩,
  ⟨0x10C, 16, 4, .rw, 0xFFFFFFFF, 0x00000000, false, [], 0x0⟩,
  ⟨0x200, 128, 2, .rw, 0x80FF0300, 0x00000000, false, [], 0x80000000⟩,
  ⟨0x204, 128, 2, .ro, 0x00000000, 0x00000000, false, [], 0x0⟩,
  ⟨0x208, 128, 2, .ro, 0x00000000, 0x00000000, false, [], 0x0⟩]

/-- Registers of the TSU page (spec/18_time.md, its register table). Of x_BUDGET the table says 'safe direction down' once, after its two fields:
the model reads it as said of both (log entry 126). -/
def tabTSUb : List RegDef := [
  ⟨0x20C, 128, 2, .ro, 0x00000000, 0x00000000, false, [], 0x0⟩,
  ⟨0x210, 128, 2, .ro, 0x00000000, 0x00000000, false, [], 0x0⟩,
  ⟨0x214, 128, 2, .ro, 0x00000000, 0x00000000, false, [], 0x0⟩,
  ⟨0x218, 128, 2, .rw, 0xFFFFFFFF, 0x00000000, true, [], 0x0⟩,
  ⟨0x21C, 128, 2, .rw, 0x000000FF, 0x00000005, true, [], 0x0⟩,
  ⟨0x220, 128, 2, .wo, 0x00000000, 0x00000000, true, [], 0x0⟩,
  ⟨0x224, 128, 2, .ro, 0x00000000, 0x00000000, false, [], 0x0⟩,
  ⟨0x228, 128, 2, .rw, 0x0000FFFF, 0x000000C8, false, [], 0x0⟩,
  ⟨0x22C, 128, 2, .rw, 0xFFFFFFFF, 0x00000000, true, [], 0x0⟩,
  ⟨0x230, 128, 2, .rw, 0xFFFFFFFF, 0x00000000, true, [], 0x0⟩,
  ⟨0x234, 128, 2, .wo, 0x00000000, 0x00000000, true, [], 0x0⟩,
  ⟨0x238, 128, 2, .rw, 0xFFFFFFFF, 0x00FA003C, false, [⟨16, 16, .down⟩, ⟨0, 16, .down⟩], 0x0⟩,
  ⟨0x23C, 128, 2, .rw, 0xFFFF00FF, 0x03E80004, false, [], 0x0⟩,
  ⟨0x240, 128, 2, .rw, 0xFFFFFFFF, 0x006407D0, false, [⟨0, 16, .down⟩, ⟨16, 16, .down⟩], 0x0⟩,
  ⟨0x244, 128, 2, .ro, 0x00000000, 0x00000000, false, [], 0x0⟩,
  ⟨0x248, 128, 2, .ro, 0x00000000, 0x00000000, false, [], 0x0⟩,
  ⟨0x24C, 128, 2, .ro, 0x00000000, 0x00000000, false, [], 0x0⟩,
  ⟨0x250, 128, 2, .ro, 0x00000000, 0x00000000, false, [], 0x0⟩,
  ⟨0x254, 128, 2, .ro, 0x00000000, 0x00000000, true, [], 0x0⟩,
  ⟨0x258, 128, 2, .rw, 0x0000FFFF, 0x00000000, true, [], 0x0⟩]

/-- Registers of the TSU page (spec/18_time.md, its register table). -/
def tabTSU : List RegDef := tabTSUa ++ tabTSUb

/-- Registers of the SCH page (spec/19_scheduler.md, its register table). -/
def tabSCH : List RegDef := [
  ⟨0x040, 0, 1, .rw, 0x00000003, 0x00000003, false, [], 0x0⟩,
  ⟨0x044, 0, 1, .rw, 0xFFFFFFFF, 0x004C4B40, false, [⟨0, 32, .down⟩], 0x0⟩,
  ⟨0x048, 0, 1, .ro, 0x00000000, 0x00000000, false, [], 0x0⟩,
  ⟨0x04C, 4, 2, .ro, 0x00000000, 0x00000000, false, [], 0x0⟩,
  ⟨0x054, 0, 1, .wo, 0x00000000, 0x00000000, true, [], 0x0⟩,
  ⟨0x058, 0, 1, .ro, 0x00000000, 0x00000000, false, [], 0x0⟩,
  ⟨0x05C, 0, 1, .wo, 0x00000000, 0x00000000, true, [], 0x0⟩,
  ⟨0x060, 0, 1, .rw, 0xFFFFFFFF, 0x00000000, true, [], 0x0⟩,
  ⟨0x064, 0, 1, .rw, 0x0000FFFF, 0x00000000, true, [], 0x0⟩,
  ⟨0x068, 0, 1, .rw, 0x0000FFFF, 0x00000000, true, [], 0x0⟩,
  ⟨0x06C, 0, 1, .rw, 0x0000FFFF, 0x00000000, true, [], 0x0⟩,
  ⟨0x070, 0, 1, .rw, 0x0000FFFF, 0x00000000, true, [], 0x0⟩,
  ⟨0x074, 0, 1, .rw, 0x0000FFFF, 0x00000000, true, [], 0x0⟩,
  ⟨0x078, 0, 1, .rw, 0x0000FFFF, 0x00000000, true, [], 0x0⟩,
  ⟨0x07C, 0, 1, .rw, 0x0000FFFF, 0x00000000, true, [], 0x0⟩,
  ⟨0x080, 4, 4, .ro, 0x00000000, 0x00000000, false, [], 0x0⟩]

/-- Registers of the CAN pages (spec/20_can.md, its register table). -/
def tabCANa : List RegDef := [
  ⟨0x040, 0, 1, .rw, 0x00111310, 0x00000000, false, [], 0x0⟩,
  ⟨0x044, 0, 1, .rw, 0xFFFF7FFF, 0x3E7E1F01, false, [], 0x0⟩,
  ⟨0x048, 0, 1, .rw, 0x0F1F0F1F, 0x091C0900, false, [], 0x0⟩,
  ⟨0x04C, 0, 1, .rw, 0x807F0000, 0x00000000, false, [], 0x0⟩,
  ⟨0x050, 0, 1, .rw, 0xFFFF7FFF, 0x00000000, false, [], 0x0⟩,
  ⟨0x054, 0, 1, .rw, 0x0F1F0F1F, 0x00000000, false, [], 0x0⟩,
  ⟨0x058, 0, 1, .ro, 0x00000000, 0x00000000, false, [], 0x0⟩,
  ⟨0x05C, 0, 1, .ro, 0x00000000, 0x00000000, false, [], 0x0⟩,
  ⟨0x060, 0, 1, .wo, 0x00000000, 0x00000000, true, [], 0x0⟩,
  ⟨0x064, 0, 1, .w1s, 0x0000FFFF, 0x00000000, true, [], 0x0⟩,
  ⟨0x068, 0, 1, .w1s, 0x0000FFFF, 0x00000000, true, [], 0x0⟩,
  ⟨0x06C, 0, 1, .w1s, 0x0000FFFF, 0x00000000, true, [], 0x0⟩,
  ⟨0x070, 0, 1, .ro, 0x00000000, 0x00000000, false, [], 0x0⟩,
  ⟨0x074, 0, 1, .w1c, 0x0000FFFF, 0x00000000, true, [], 0x0⟩,
  ⟨0x078, 0, 1, .ro, 0x00000000, 0x00000000, false, [], 0x0⟩,
  ⟨0x07C, 0, 1, .rw, 0x0000FFFF, 0x00000000, false, [], 0x0⟩,
  ⟨0x080, 4, 2, .rw, 0x01FF01FF, 0x01FF01FF, false, [], 0x0⟩,
  ⟨0x088, 0, 1, .rw, 0x00000001, 0x00000000, false, [], 0x1⟩,
  ⟨0x08C, 0, 1, .rw, 0x07FFFFFF, 0x00002710, false, [], 0x0⟩,
  ⟨0x090, 0, 1, .rw, 0x00FFFFFF, 0x00000000, false, [], 0x0⟩,
  ⟨0x094, 0, 1, .ro, 0x00000000, 0x00000000, false, [], 0x0⟩,
  ⟨0x098, 0, 1, .rw, 0x0000FFFF, 0x00000000, true, [], 0x0⟩,
  ⟨0x09C, 0, 1, .rw, 0x0000FFFF, 0x00000000, true, [], 0x0⟩,
  ⟨0x0A0, 0, 1, .rw, 0x0000FFFF, 0x00000000, true, [], 0x0⟩]

/-- Registers of the CAN pages (spec/20_can.md, its register table). -/
def tabCANb : List RegDef := [
  ⟨0x0A4, 0, 1, .rw, 0x0000FFFF, 0x00000000, true, [], 0x0⟩,
  ⟨0x0A8, 0, 1, .rw, 0xFFFFFFFF, 0x00000000, true, [], 0x0⟩,
  ⟨0x0AC, 0, 1, .rw, 0xFFFFFFFF, 0x00000000, true, [], 0x0⟩,
  ⟨0x100, 16, 32, .rw, 0xFFFFFFFF, 0x00000000, false, [], 0x0⟩,
  ⟨0x104, 16, 32, .rw, 0xFFFFFFFF, 0x00000000, false, [], 0x0⟩,
  ⟨0x108, 16, 32, .rw, 0xB393000F, 0x00000000, false, [], 0x80000000⟩,
  ⟨0x300, 4, 320, .rw, 0xFFFFFFFF, 0x00000000, true, [], 0x0⟩,
  ⟨0x800, 4, 320, .ro, 0x00000000, 0x00000000, true, [], 0x0⟩,
  ⟨0xD00, 8, 64, .rw, 0xCFFFFFFF, 0x00000000, false, [], 0x80000000⟩,
  ⟨0xD04, 8, 64, .rw, 0xFFFF073F, 0x00000000, false, [], 0x0⟩]

/-- Registers of the CAN pages (spec/20_can.md, its register table). -/
def tabCAN : List RegDef := tabCANa ++ tabCANb

/-- Registers of the KSW page (spec/21_knatis.md, its register table). -/
def tabKSWa : List RegDef := [
  ⟨0x040, 0, 1, .rw, 0x80010310, 0x00000000, false, [], 0x0⟩,
  ⟨0x044, 0, 1, .rw, 0xFFFFFFFF, 0x00000000, false, [], 0x0⟩,
  ⟨0x048, 0, 1, .rw, 0x0000FFFF, 0x00000000, false, [], 0x0⟩,
  ⟨0x04C, 0, 1, .rw, 0x0000FFFF, 0x0000012C, false, [], 0x0⟩,
  ⟨0x050, 0, 1, .rw, 0xFFFFFFFF, 0x00000000, false, [], 0x0⟩,
  ⟨0x054, 0, 1, .rw, 0x000000FF, 0x00000000, false, [], 0x0⟩,
  ⟨0x058, 0, 1, .rw, 0x00FFFFFF, 0x00FAC688, false, [], 0x0⟩,
  ⟨0x05C, 4, 2, .rw, 0x0FFF0710, 0x00010000, false, [], 0x0⟩,
  ⟨0x064, 0, 1, .rw, 0xFFFFFFFF, 0x00000000, false, [], 0x0⟩,
  ⟨0x068, 0, 1, .rw, 0xFFFFFFFF, 0x00000000, false, [], 0x0⟩,
  ⟨0x06C, 0, 1, .rw, 0xFFFFFFFF, 0x00000000, false, [], 0x0⟩,
  ⟨0x070, 0, 1, .rw, 0xFFFFFFFF, 0x00000000, false, [], 0x0⟩,
  ⟨0x074, 0, 1, .wo, 0x00000000, 0x00000000, true, [], 0x0⟩,
  ⟨0x080, 0, 1, .rw, 0x0000FFFF, 0x00000000, true, [], 0x0⟩,
  ⟨0x084, 0, 1, .rw, 0x0000FFFF, 0x00000000, true, [], 0x0⟩,
  ⟨0x088, 0, 1, .rw, 0x0000FFFF, 0x00000000, true, [], 0x0⟩,
  ⟨0x08C, 0, 1, .rw, 0x0000FFFF, 0x00000000, true, [], 0x0⟩,
  ⟨0x090, 0, 1, .rw, 0x0000FFFF, 0x00000000, true, [], 0x0⟩,
  ⟨0x094, 0, 1, .rw, 0x0000FFFF, 0x00000000, true, [], 0x0⟩,
  ⟨0x098, 0, 1, .rw, 0x0000FFFF, 0x00000000, true, [], 0x0⟩,
  ⟨0x09C, 0, 1, .rw, 0x0000FFFF, 0x00000000, true, [], 0x0⟩,
  ⟨0x0C0, 16, 2, .rw, 0xC000007F, 0x00000000, false, [], 0x80000000⟩,
  ⟨0x0C4, 16, 2, .rw, 0xFFFFFFFF, 0x00000000, false, [], 0x0⟩,
  ⟨0x0C8, 16, 2, .rw, 0xFFFFFFFF, 0x00000000, false, [], 0x0⟩,
  ⟨0x0CC, 16, 2, .rw, 0xFFFFFFFF, 0x00000000, false, [], 0x0⟩]

/-- Registers of the KSW page (spec/21_knatis.md, its register table). -/
def tabKSWb : List RegDef := [
  ⟨0x100, 8, 32, .rw, 0xFFFFFFFF, 0x00000000, false, [], 0x0⟩,
  ⟨0x104, 8, 32, .rw, 0x87F0FFFF, 0x00000000, false, [], 0x0⟩,
  ⟨0x200, 4, 16, .rw, 0x80070FFF, 0x00000000, false, [], 0x0⟩,
  ⟨0x300, 16, 32, .rw, 0xFFFFFFFF, 0x00000000, false, [], 0x0⟩,
  ⟨0x304, 16, 32, .rw, 0xFFFFFFFF, 0x00000000, false, [], 0x0⟩,
  ⟨0x308, 16, 32, .rw, 0xE0FF8FFF, 0x00000000, false, [], 0x80000000⟩,
  ⟨0x30C, 16, 32, .ro, 0x00000000, 0x00000000, true, [], 0x0⟩,
  ⟨0x600, 0, 1, .rwk, 0x8000007F, 0x00000000, false, [], 0x0⟩,
  ⟨0x604, 0, 1, .rw, 0x0000FFFF, 0x00000000, false, [], 0x0⟩,
  ⟨0x608, 0, 1, .rw, 0x9F1FFFFF, 0x00000000, false, [⟨16, 5, .set⟩], 0x0⟩,
  ⟨0x60C, 0, 1, .wo, 0x00000000, 0x00000000, true, [], 0x0⟩,
  ⟨0x610, 0, 1, .rw, 0x8000FFFF, 0x00001388, false, [], 0x0⟩,
  ⟨0x614, 0, 1, .rw, 0x0000FFFF, 0x00000014, false, [⟨0, 16, .down⟩], 0x0⟩,
  ⟨0x618, 4, 4, .rw, 0x800000FF, 0x00000000, false, [⟨31, 1, .set⟩], 0x0⟩,
  ⟨0x628, 4, 4, .ro, 0x00000000, 0x00000000, false, [], 0x0⟩,
  ⟨0x800, 4, 256, .rw, 0xFFFFFFFF, 0x00000000, false, [], 0x0⟩]

/-- Registers of the KSW page (spec/21_knatis.md, its register table). -/
def tabKSW : List RegDef := tabKSWa ++ tabKSWb

/-- Registers of the MAC pages (spec/21_knatis.md, its register table). -/
def tabMAC : List RegDef := [
  ⟨0x040, 0, 1, .rw, 0x001F0100, 0x00000000, false, [], 0x0⟩,
  ⟨0x044, 0, 1, .rw, 0xFFFFFFFF, 0x00000000, false, [], 0x0⟩,
  ⟨0x048, 0, 1, .rw, 0xFFFFFFFF, 0x00000000, false, [], 0x0⟩,
  ⟨0x04C, 0, 1, .ro, 0x00000000, 0x00000000, false, [], 0x0⟩,
  ⟨0x050, 0, 1, .rw, 0x87FFFFFF, 0x00000000, true, [], 0x0⟩,
  ⟨0x054, 0, 1, .ro, 0x00000000, 0x00000000, false, [], 0x0⟩,
  ⟨0x058, 0, 1, .rw, 0xFFFFFFFF, 0x00000000, true, [], 0x0⟩,
  ⟨0x05C, 0, 1, .rw, 0xFFFFFFFF, 0x00000000, true, [], 0x0⟩,
  ⟨0x060, 0, 1, .rw, 0x0000FFFF, 0x00000000, true, [], 0x0⟩,
  ⟨0x064, 0, 1, .rw, 0x0000FFFF, 0x00000000, true, [], 0x0⟩,
  ⟨0x068, 0, 1, .rw, 0x0000FFFF, 0x00000000, true, [], 0x0⟩,
  ⟨0x06C, 0, 1, .rw, 0x0000FFFF, 0x00000000, true, [], 0x0⟩]

/-- The register table of a page class. -/
def regTable : PageClass → List RegDef
  | .sys => tabSYS
  | .clk => tabCLK
  | .pwr => tabPWR
  | .pad => tabPAD
  | .gpio => tabGPIO
  | .evt => tabEVT
  | .temp => tabTEMP
  | .ref => tabREF
  | .cox => tabCOX
  | .cox_fmap => tabCOXFMAP
  | .mem => tabMEM
  | .skim => tabSKIM
  | .sec => tabSEC
  | .otp => tabOTP
  | .aon => tabAON
  | .hpt => tabHPT
  | .dma => tabDMA
  | .chn => tabCHN
  | .spe => tabSPE
  | .le => tabLE
  | .ax => tabAX
  | .pwm => tabPWM
  | .actg => tabACTG
  | .bst => tabBST
  | .adc => tabADC
  | .sdm => tabSDM
  | .adcseq => tabADCSEQ
  | .enc => tabENC
  | .lat => tabLAT
  | .ldl => tabLDL
  | .tsu => tabTSU
  | .sch => tabSCH
  | .can => tabCAN
  | .ksw => tabKSW
  | .mac => tabMAC

end Sys2Proof.Machine
end

