-- ==== Sys2Proof/Machine/State.lean ====
section
/-! DEFINITION. The state of the block as plain data. Every register of the register pages has one home, the table `regs`
(an address that is not listed holds its reset value); what the spec gives the machine beyond its registers stands in one
structure per block below. No field is a function. -/

namespace Sys2Proof.Machine

/-- The key state of one register page (R50, R51): no sequence, a sequence begun by a master at a time, or an opening it owns.
Times are SYS cycles counted since the reset. -/
inductive KeyState
  | idle
  | first (owner since : Nat)
  | opened (owner since : Nat)
  deriving DecidableEq, Repr

/-- The last bus answer (R5, R41, R47): the word read and whether a bus error was returned. -/
structure BusAnswer where
  data : Word := 0
  error : Bool := false
  deriving DecidableEq, Repr

/-- Register-page state that is no register. -/
structure Pages where
  /-- Key state per page index (R50). 03_pages.md; reset idle everywhere. -/
  keys : List (Nat × KeyState) := []
  /-- Page indices whose LOCK has been written since the reset (R52). 03_pages.md; reset none. -/
  lockWritten : List (Nat × Bool) := []
  /-- Page indices whose PAGE_CRC is being recomputed (R56). 03_pages.md; reset none. -/
  crcBusy : List (Nat × Bool) := []
  /-- Event sources whose present assertion has already triggered DMA (R68). 03_pages.md; reset none. -/
  dmaSeen : List Nat := []
  /-- Event sources of EVENT triggers that the Ladle has seen asserted (R464). 22_ladle.md; reset none. -/
  ldlSeen : List Nat := []
  /-- The last bus answer of a command's access (R5, R41, R47). 03_pages.md; reset: no data, no error. -/
  answer : BusAnswer := {}
  /-- The debug access port is attached (R64). 03_pages.md; reset: not attached. -/
  debugAttached : Bool := false
  deriving DecidableEq, Repr

/-- Where the power ladder stands (R84, R88 to R95). -/
inductive PwrPhase
  /-- In the state that PWR.STATE.CUR names, with no transition in progress. -/
  | steady
  /-- An accepted entry to the state with this code is halting blocks (R89). -/
  | entering (target : Nat)
  /-- A wake runs: the state code it started from (6 for a reset), its step 1 to 4, the attempt 1 to 4 of that step, whether the
  100 µs pause after a failed attempt is in progress, and the state code it ends in (R91, R94, R95). -/
  | waking (fromCode step attempt : Nat) (pausing : Bool) (dest : Nat)
  /-- Held in reset: before a first power-up, or while a supply is below its threshold or PORST_N is low (R81, R82). -/
  | held
  deriving DecidableEq, Repr

/-- The divider of one branch clock (R74, R75, R77). -/
structure Branch where
  /-- Root periods since the last edge of the branch (R75). 04_clocks_power.md; reset 0. -/
  age : Nat := 0
  /-- The period in progress is stretched by one root period (R77). 04_clocks_power.md; reset: no. -/
  stretch : Bool := false
  /-- The accumulator of d(t) × N, in units of 1/256 000 000 (R77). 04_clocks_power.md; reset 0. -/
  acc : Nat := 0
  /-- Root periods that the last complete period lasted: what the divider reports to the time-keeping logic (R75); 0 before the first.
  04_clocks_power.md; reset 0. -/
  last : Nat := 0
  /-- Edges since the reset (R75). 04_clocks_power.md; reset 0. -/
  edges : Nat := 0
  deriving DecidableEq, Repr

/-- What the device does to a ball: nothing, drives a level, or drives a signal that changes all the time (R503, R506). -/
inductive PadDrive
  | off | level (high : Bool) | moving
  deriving DecidableEq, Repr

/-- The last driven edge of a ball (R32). -/
structure PadEdge where
  /-- What the device did to the ball at the last TICK (R32). 02_hazards.md; reset: not driven. -/
  drive : PadDrive := .off
  /-- TICK of the change to that (R32). 02_hazards.md; reset 0. -/
  since : Nat := 0
  deriving DecidableEq, Repr

/-- The power ladder, the supplies and the clocks beyond their registers. -/
structure Power where
  /-- Phase of the power ladder (R88–R95). 04_clocks_power.md; at LOGIC_RDY: steady. -/
  phase : PwrPhase := .steady
  /-- Supplies below their undervoltage threshold (R81). 04_clocks_power.md; reset: per supplies, none. -/
  under : List Supply := []
  /-- Supplies above their overvoltage threshold (R81). 04_clocks_power.md; reset: per supplies, none. -/
  above : List Supply := []
  /-- Retries of the wake in progress (R95, PWR.WAKE_STAT.RETRIES). 04_clocks_power.md; reset 0. -/
  retries : Nat := 0
  /-- TICK at which the modulation periods of the rate in force are counted from (R78). 04_clocks_power.md; reset 0. -/
  modOrigin : Nat := 0
  /-- TICK of the SPREAD_CFG write that is pending (R78). 04_clocks_power.md; reset 0. -/
  spreadSince : Nat := 0
  /-- Wake enables that govern the present HOLD, MOORED or BEACHED (R91); the AON domain keeps this copy. 04_clocks_power.md;
  reset 0. -/
  wakeHeld : Word := 0
  /-- PWR.RET_CFG as read at the entry to HOLD (R93). 04_clocks_power.md; reset 0. -/
  retHeld : Word := 0
  /-- A branch clock is outside the ±8% window of the Cox (R80). 04_clocks_power.md; reset: no. -/
  window : Bool := false
  /-- A pending wake from an RTC alarm, recorded in BEACHED (R90). 04_clocks_power.md; reset: none. -/
  pendRtc : Bool := false
  /-- A pending wake from the WAKE pin, recorded in BEACHED (R90). 04_clocks_power.md; reset: none. -/
  pendPin : Bool := false
  /-- The AON domain holds FAULT_N low after a failed wake (R95). 04_clocks_power.md; reset: not held. -/
  wakeFault : Bool := false
  /-- The AON domain has lost its supply since it was last set up (R90, R473): the next return of VIN is a first power-up.
  04_clocks_power.md; at LOGIC_RDY: no. -/
  aonLost : Bool := false
  /-- Branch clocks by number: SPE 0, PWM 1, SYS 2, PER 3, CAN 4, ADC 5, ETH 6 (R74); one that is not listed is at reset.
  04_clocks_power.md; reset none listed. -/
  branches : List (Nat × Branch) := []
  /-- Nanoseconds until RESET_N, held low from outside while the device drives it, has read high for 1 µs (R85). 04_clocks_power.md;
  reset 0. -/
  resetLow : Nat := 0
  /-- Last filtered level that reached each ball from outside (R508, R512, R514); a ball that is not listed has the level of its pull.
  26_package_pins.md; reset: per board, none listed. -/
  levels : List (Nat × Bool) := []
  /-- Balls that the board holds at a level against the device's driver, with that level (R32, R513). 26_package_pins.md; reset: per board,
  none. -/
  stuck : List (Nat × Bool) := []
  /-- Last driven edge of each ball (R32); a ball that is not listed is not driven since the reset. 02_hazards.md; reset none listed. -/
  edges : List (Nat × PadEdge) := []
  /-- State code that a wake running as a reset started from: 6 for a reset, 4 for MOORED, 5 for BEACHED (R95). 04_clocks_power.md;
  reset 6. -/
  wokeFrom : Nat := 6
  /-- XTAL_CFG and FL_CFG with the value that the last device reset loaded from OTP, where it is not the register's reset value (R63, R156).
  04_clocks_power.md; reset none: OTP is blank. -/
  loaded : List (Nat × Word) := []
  deriving DecidableEq, Repr

/-- What a latched line applies: the class and the restriction mask of its entry at the latch (R102). -/
structure CoxLatch where
  cls : Nat
  mask : Nat
  deriving DecidableEq, Repr

/-- Host watchdog of the Cox (R109). -/
structure CoxWd where
  /-- The watchdog is active (R109). 05_cox.md; reset: no. -/
  active : Bool := false
  /-- Start of the window in progress, ps of supervision-oscillator time (R109). 05_cox.md; reset 0. -/
  start : Nat := 0
  /-- WIN_OPEN of the window in progress, µs (R109). 05_cox.md; reset 0. -/
  wopen : Nat := 0
  /-- WIN_CLOSE of the window in progress, µs (R109). 05_cox.md; reset 0. -/
  wclose : Nat := 0
  /-- WD_SEED when the question in force was published (R109). 05_cox.md; reset 0. -/
  seedAt : Nat := 0
  deriving DecidableEq, Repr

/-- Windowed watchdog of one SPE (R110). -/
structure CoxSpeWd where
  /-- The watchdog has had its first service write (R110). 05_cox.md; reset: no. -/
  active : Bool := false
  /-- Supervision-oscillator time of the last service write or error, ps (R110). 05_cox.md; reset 0. -/
  last : Nat := 0
  /-- The next service value is 0x0000_00A5 (R110). 05_cox.md; reset: yes. -/
  nextA5 : Bool := true
  deriving DecidableEq, Repr

/-- The Cox safety island beyond its registers. -/
structure Cox where
  /-- Supervision-oscillator time since the reset, in ps (R80). 05_cox.md; reset 0. -/
  ps : Nat := 0
  /-- Consecutive present checks per line (R99). 05_cox.md; reset 0 for every line. -/
  count : List (Nat × Nat) := []
  /-- Lines that latched and whose condition has not been found absent since (R99). 05_cox.md; reset none. -/
  stuck : List (Nat × Bool) := []
  /-- Class and mask held by each latched line (R102). 05_cox.md; reset none. -/
  held : List (Nat × CoxLatch) := []
  /-- Start-up test in progress, 1 to 6; 0 outside CHECK (R107). 05_cox.md; reset 0. -/
  test : Nat := 0
  /-- CHECK was entered from OFF and leaves out test 5 (R108). 05_cox.md; reset: no. -/
  fromOff : Bool := false
  /-- Supervision-oscillator time at which CHECK began, ps (R107). 05_cox.md; reset 0. -/
  checkStart : Nat := 0
  /-- A controlled stop's end by STOP_TIME, ps of supervision-oscillator time, while STOPPING (R103). 05_cox.md; reset none. -/
  stopEnd : Option Nat := none
  /-- Time OFF was entered with one of lines 0 to 4 latched, ps (R106). 05_cox.md; reset none. -/
  offSince : Option Nat := none
  /-- SAFE_OFF_N is driven high (R28, R106). 05_cox.md; reset low. -/
  safeOffN : Bool := false
  /-- SAFE_PULSE toggles at 50 kHz (R28, R106). 05_cox.md; reset stopped, low. -/
  safePulse : Bool := false
  /-- Groups whose ACT_SENn is driven high (R106). 05_cox.md; reset none. -/
  actSen : List Nat := []
  /-- Time path 2 was last enabled or disabled, ps (R31). 05_cox.md; reset 0. -/
  pathSince : Nat := 0
  /-- Time test 6 of CHECK began, ps (R107). 05_cox.md; reset 0. -/
  pulseStart : Nat := 0
  /-- A readback of test 6 was wrong (R107). 05_cox.md; reset: no. -/
  pulseBad : Bool := false
  /-- The host watchdog (R109). 05_cox.md; reset: not active. -/
  wd : CoxWd := {}
  /-- The watchdog of SPE0 (R110). 05_cox.md; reset: not active. -/
  spe0 : CoxSpeWd := {}
  /-- The watchdog of SPE1 (R110). 05_cox.md; reset: not active. -/
  spe1 : CoxSpeWd := {}
  /-- LE0 sample count at its last liveness reading (R111). 05_cox.md; reset 0. -/
  live0 : Nat := 0
  /-- LE1 sample count at its last liveness reading (R111). 05_cox.md; reset 0. -/
  live1 : Nat := 0
  /-- ps of the last event of each event-type line (R99). 05_cox.md; reset none. -/
  lastEvent : List (Nat × Nat) := []
  deriving DecidableEq, Repr

/-- What the code of a memory word would show at its next read (R123, R124, R540): a single-bit error, an uncorrectable error
with its syndrome, or the poison syndrome. A word that is not listed has a valid code. -/
inductive EccState
  | single (syndrome : Nat)
  | uncorrectable (syndrome : Nat)
  | poison
  deriving DecidableEq, Repr

/-- The Skimmer beyond its registers. -/
structure Skimmer where
  /-- Index in the visiting order of the memory of the next block (R130). 06_memory.md; reset 0, the first memory. -/
  memIdx : Nat := 0
  /-- Number of the next block in that memory (R130). 06_memory.md; reset 0. -/
  block : Nat := 0
  /-- Address of the block in hand, while its words are served from the save buffer (R130, R131). 06_memory.md; reset none. -/
  inHand : Option Nat := none
  /-- The block in hand is marched (the settings with which it started, R130). 06_memory.md; reset: no. -/
  march : Bool := false
  /-- TICK at which the last block started (R130). 06_memory.md; reset 0. -/
  lastStart : Nat := 0
  /-- The next block is the first of a pass (R135). 06_memory.md; reset: yes. -/
  fresh : Bool := true
  /-- No block has started since the last reset or wake: the first one does not wait for the interval (R130, R135). 06_memory.md; reset: yes. -/
  anew : Bool := true
  /-- TICK at which the pass in progress began (R132). 06_memory.md; reset 0. -/
  passStart : Nat := 0
  /-- TICK of the end of the last background pass, or of the last reset or wake from HOLD (R133). 06_memory.md; reset 0. -/
  limitFrom : Nat := 0
  deriving DecidableEq, Repr

/-- An uncorrectable or poisoned word as it was detected (R129). -/
structure Detection where
  /-- TICK of the detection (R129). 06_memory.md; reset 0. -/
  tick : Nat
  /-- Slot of the MEM error log that holds its entry (R129). 06_memory.md; reset 0. -/
  slot : Nat
  /-- Only the Skimmer has detected it so far (R129). 06_memory.md; reset: no. -/
  skim : Bool
  deriving DecidableEq, Repr

/-- Words with a single-bit error that MEM still has to write back (R123), and detections of this cycle (R129). -/
structure MemCtl where
  /-- Addresses of corrected words whose write-back has not happened yet (R123). 06_memory.md; reset none. -/
  writeBack : List Nat := []
  /-- Words that a reader or the Skimmer has detected in the last cycle with a detection: the other one does not report them again in that cycle
  (R129). 06_memory.md; reset none. -/
  detected : List (Nat × Detection) := []
  deriving DecidableEq, Repr

/-- Phase of a life-cycle transition (R142). -/
inductive LcPhase
  | idle
  | programming (target : Nat)
  | wiping (target : Nat)
  deriving DecidableEq, Repr

/-- An image verification in progress (R153): header address, target SPE and the code of the master that started it. -/
structure Verify where
  addr : Nat
  spe : Nat
  master : Nat
  deriving DecidableEq, Repr

/-- A word being programmed into OTP (R157): its byte offset and value. -/
structure OtpProg where
  off : Nat
  value : Word
  deriving DecidableEq, Repr

/-- Life cycle, wipes, tamper and debug lock beyond their registers. -/
structure Security where
  /-- Life-cycle transition in progress (R142). 07_security.md; reset idle. -/
  lc : LcPhase := .idle
  /-- TICK at which the wipe in progress started (R145). 07_security.md; reset none. -/
  wipeStart : Option Nat := none
  /-- A wipe has failed since the reset (R147). 07_security.md; reset: no. -/
  wipeFailed : Bool := false
  /-- A wipe waits for MEM_RDY of a wake from HOLD (R146). 07_security.md; reset: no. -/
  wipeDue : Option Nat := none
  /-- Tamper sources whose condition is present now (R148, R149). 07_security.md; reset none. -/
  tamperNow : List Nat := []
  /-- Life-cycle state before a transition to SCRAPPED, which takes effect at the next reset (R143). 07_security.md; reset 0. -/
  lcBefore : Nat := 0
  /-- An accepted unlock opens the port when its wipe has ended (R154). 07_security.md; reset: no. -/
  unlocking : Bool := false
  /-- The challenge of the last read of the locked debug mailbox (R154). 07_security.md; reset none. -/
  challenge : Option (BitVec 128) := none
  /-- SPEs whose program memory is trusted (R153). 07_security.md; reset none. -/
  trusted : List Nat := []
  /-- Image verification in progress (R153). 07_security.md; reset none. -/
  verify : Option Verify := none
  /-- SCRAPPED was in force at the last reset, so the units of R143 are gated. 07_security.md; reset per OTP: no. -/
  scrapped : Bool := false
  deriving DecidableEq, Repr

/-- One stored copy of an OTP word (R155, R156): the data its code word stands for, and how many of its bits differ from it. -/
structure OtpCopy where
  data : Word
  errors : Nat
  deriving DecidableEq, Repr

/-- The OTP array: it survives every reset. -/
structure Otp where
  /-- Programmed words by byte offset; a word not listed is blank, 0 (R155). 07_security.md; kept through reset. -/
  words : List (Nat × Word) := []
  /-- Words whose two copies are not both sound and equal, with the copies (R155, R156). 07_security.md; kept through reset; at first none. -/
  worn : List (Nat × (OtpCopy × OtpCopy)) := []
  /-- Programming in progress (R157). 07_security.md; reset none. -/
  prog : Option OtpProg := none
  deriving DecidableEq, Repr

/-- A stored queue word (R163): its data, whether its parity check will fail, whether it is a packet length word, a reserved slot
of an open packet (R171), marked by an abandon, or the length word of an abandoned packet, which has tag ABANDON (R173). -/
structure QWord where
  data : Word
  badParity : Bool := false
  length : Bool := false
  reserved : Bool := false
  abandoned : Bool := false
  dropLength : Bool := false
  deriving DecidableEq, Repr

/-- One Churn queue beyond its registers (R158). -/
structure Queue where
  /-- Head buffer, next word first, at most 8 (R158). 08_churn.md; reset empty. -/
  head : List QWord := []
  /-- Words in the Vat middle, oldest first (R158). 08_churn.md; reset empty. -/
  middle : List QWord := []
  /-- Tail buffer, oldest first, at most 8 (R158). 08_churn.md; reset empty. -/
  tail : List QWord := []
  /-- Word offset in the region of the oldest middle word: the middle is a ring in the Vat (R158). 08_churn.md; reset 0. -/
  midStart : Nat := 0
  /-- A packet is open (R171). 08_churn.md; reset: no. -/
  pktOpen : Bool := false
  /-- Payload words pushed into the open packet (R171). 08_churn.md; reset 0. -/
  pktLen : Nat := 0
  /-- The packet was abandoned under DROP: pushes are refused until the next open (R173). 08_churn.md; reset: no. -/
  refusing : Bool := false
  /-- The last push was refused (R170, STAT.LAST_PUSH_REFUSED). 08_churn.md; reset: no. -/
  lastRefused : Bool := false
  /-- The tail is full while a spill waits for its bank (R170, STAT.SPILL_WAIT). 08_churn.md; reset: no. -/
  spillWait : Bool := false
  /-- The queue is halted with LENGTH_LOST (R174). 08_churn.md; reset: no. -/
  lengthLost : Bool := false
  /-- A flush is in progress (R177). 08_churn.md; reset: no. -/
  flushing : Bool := false
  deriving DecidableEq, Repr

/-- The 8 header bytes of a host port transaction (R186) as their fields. -/
structure HpHeader where
  op : Nat
  len : Nat
  addr : Nat
  seq : Nat
  flags : Nat
  deriving DecidableEq, Repr

/-- A host port transaction in progress (R184): its header, whether the header's CRC was good, whether every phase has passed, its result
and detail so far, and whether one of its CRCs was wrong. -/
structure HpTrans where
  hdr : HpHeader
  good : Bool
  complete : Bool
  result : Nat
  detail : Nat
  crcBad : Bool
  deriving DecidableEq, Repr

/-- The host port beyond its registers. -/
structure HostPort where
  /-- HP_CS_N is low (R184). 09_host.md; reset high. -/
  csLow : Bool := false
  /-- TICK of the last HP_CS_N fall or HP_CLK edge (R193). 09_host.md; reset 0. -/
  quietSince : Nat := 0
  /-- Lane code in force (R181). 09_host.md; reset 0, 1-lane. -/
  lanes : Nat := 0
  /-- DDR in force (R181). 09_host.md; reset SDR. -/
  ddr : Bool := false
  /-- Lane mode that takes effect at the next rise of HP_CS_N (R181, R193). 09_host.md; reset none. -/
  pendingMode : Option (Nat × Bool) := none
  /-- The last transaction with a good header CRC (R191). 09_host.md; reset none. -/
  prev : Option HpHeader := none
  /-- The result of that transaction (R191). 09_host.md; reset 0xF, RESET. -/
  prevResult : Nat := 15
  /-- The transaction in progress (R184). 09_host.md; reset none. -/
  cur : Option HpTrans := none
  /-- The replay buffer: the words read by the last read, each with the result code of its access (R191). 09_host.md; reset empty. -/
  replay : List (Word × Nat) := []
  /-- Consecutive transactions with a CRC error (R189). 09_host.md; reset 0. -/
  fails : Nat := 0
  /-- The six status bytes of the last transaction, and the data words it sent to the host (R184, R187). 09_host.md; reset none. -/
  status : List Byte := []
  sent : List Word := []
  /-- The CRC-16 that followed each read burst of the last transaction, oldest first (R184, R185). 09_host.md; reset none. -/
  sentCrcs : List (BitVec 16) := []
  deriving DecidableEq, Repr

/-- States of a DMA channel (CHn.STAT.STATE). -/
inductive DmaState
  | idle | fetch | waitTrig | run | waitOwn | waitPacket | done | error | stopping
  deriving DecidableEq, Repr

/-- One DMA channel beyond its registers (R195 to R199). -/
structure DmaChan where
  /-- Channel state (R197). 09_host.md; reset idle. -/
  st : DmaState := .idle
  /-- Address of the descriptor in hand (R197). 09_host.md; reset 0. -/
  desc : Nat := 0
  /-- Word 0 of the descriptor in hand (R196). 09_host.md; reset 0. -/
  w0 : Word := 0
  /-- SRC of the descriptor in hand (R196). 09_host.md; reset 0. -/
  src : Nat := 0
  /-- DST of the descriptor in hand (R196). 09_host.md; reset 0. -/
  dst : Nat := 0
  /-- NEXT of the descriptor in hand (R196). 09_host.md; reset 0. -/
  next : Nat := 0
  /-- Words moved for the descriptor in hand (R196 COUNT). 09_host.md; reset 0. -/
  moved : Nat := 0
  /-- Words still to move of the packet in hand, once its length word is known (R198). 09_host.md; reset none. -/
  pktLeft : Option Nat := none
  /-- A packet longer than LENGTH is being discarded (R196 TRUNCATED). 09_host.md; reset: no. -/
  truncated : Bool := false
  /-- Index of the first POISON word (R199). 09_host.md; reset none. -/
  poison : Option Nat := none
  /-- Pending triggers, 0 to 15 (R197). 09_host.md; reset 0. -/
  pend : Nat := 0
  /-- A trigger came in WAIT_OWN and waits for what the new fetch finds (R197, corner case). 09_host.md; reset: no. -/
  asked : Bool := false
  deriving DecidableEq, Repr

/-- Phase of a standalone boot (R203): while the signature is verified, the mask of SPEs to start, whether the signature is good, and
whether the image is loaded unchecked. -/
inductive BootPhase
  | none
  | waitTest5
  | verifying (startMask : Nat) (good unchecked : Bool)
  | ended
  deriving DecidableEq, Repr

/-- A flash command that the port forms in controller mode (R202). -/
structure FlashCmd where
  /-- Command byte, on HP_IO[0]. -/
  cmd : Nat
  /-- Data lines of the address phase and of the data phase. -/
  addrLanes : Nat
  dataLanes : Nat
  /-- Address bytes, most significant first. -/
  addr : List Byte
  /-- Dummy cycles, the mode byte among them. -/
  dummy : Nat
  /-- HP_CLK is 200 MHz / `div`. -/
  div : Nat
  /-- Bytes read. -/
  len : Nat
  deriving DecidableEq, Repr

/-- Boot and controller mode beyond their registers. -/
structure Boot where
  /-- BOOT_SEL[1:0] as last sampled (R200). 09_host.md; after a reset: per the board, 00 unless a ball was brought high. -/
  pins : Nat := 0
  /-- Phase of a standalone boot (R203). 09_host.md; reset none. -/
  phase : BootPhase := .none
  /-- Flash byte address of the image header (R200). 09_host.md; reset 0. -/
  imageAt : Nat := 0
  /-- The flash command that the port formed last (R202). 09_host.md; reset none. -/
  flash : Option FlashCmd := none
  /-- The port is in controller mode (R202, R205). 09_host.md; reset: target mode. -/
  controller : Bool := false
  /-- Word addresses that the load in progress has written (R205). 09_host.md; reset none. -/
  written : List Nat := []
  /-- SPE program memories written by the load in progress (R203). 09_host.md; reset none. -/
  loadedSpes : List Nat := []
  deriving DecidableEq, Repr

/-- One entry of an SPE's system stack (R225, R227, R245): a call pushes a PC alone; an interrupt or exception pushes PC, SR and
the hidden REP count. -/
structure SpeFrame where
  pc : Nat
  status : Option (Nat × Nat) := none
  /-- The entry of an exception (R227). 10_spe_model.md; reset: no. -/
  exc : Bool := false
  deriving DecidableEq, Repr

/-- One loop-stack entry (R224): the LC of the enclosing loop, the first and the last instruction of the body. -/
structure SpeLoop where
  lc : Nat
  first : Nat
  last : Nat
  deriving DecidableEq, Repr

/-- A register write that later instructions see from a given instruction on (R219): register code of R235, the bits it writes,
their value, the instruction number from which it is seen. -/
structure SpeWrite where
  code : Nat
  mask : Nat
  value : Nat
  seenFrom : Nat
  deriving DecidableEq, Repr

/-- A branch in its delay slots (R219, R245): slots left, the target, and what an RTI restores there (SR and REP count). -/
structure SpeBranch where
  slots : Nat
  target : Nat
  restore : Option (Nat × Nat) := none
  isRti : Bool := false
  deriving DecidableEq, Repr

/-- What a frozen pipeline waits for (R221, R244): an E read, a third posted E write, or a queue pop. -/
inductive SpeStall
  | read (rd addr : Nat)
  | write (addr : Nat) (value : Word)
  | pop (rd queue : Nat)
  deriving DecidableEq, Repr

/-- One Signal Processing Engine beyond its registers on the bus. -/
structure Spe where
  /-- Registers by the codes of R235 (D, A, P, S, B, L, IX, LC, SR), as far as their writes are seen. 10_spe_model.md R211; reset 0,
  SR 0. -/
  file : List (Nat × Nat) := []
  /-- Register writes not yet seen (R219). 10_spe_model.md; reset none. -/
  queued : List SpeWrite := []
  /-- Number of the next instruction since the enable, the clock of R219's slots. 10_spe_model.md; reset 0. -/
  count : Nat := 0
  /-- PC of the next instruction (R206, R211). 10_spe_model.md; reset 0. -/
  pc : Nat := 0
  /-- The hidden REP count (R222). 10_spe_model.md; reset 0. -/
  rep : Nat := 0
  /-- Iterations left in the REP chunk in progress (R223). 10_spe_model.md; reset 0. -/
  chunk : Nat := 0
  /-- A REP has executed and its target has not begun (R220). 10_spe_model.md; reset: no. -/
  repFresh : Bool := false
  /-- A branch in its delay slots (R219). 10_spe_model.md; reset none. -/
  branch : Option SpeBranch := none
  /-- The system stack, top first, at most 16 entries (R211). 10_spe_model.md; reset empty. -/
  stack : List SpeFrame := []
  /-- The loop stack, top first, at most 4 entries (R211). 10_spe_model.md; reset empty. -/
  loops : List SpeLoop := []
  /-- An exception has been taken, and the RTI of its entry has not come (R227). 10_spe_model.md; reset: no. -/
  excActive : Bool := false
  /-- A BUS_ERROR exception waits for the next qualifying boundary (R227). 10_spe_model.md; reset: no. -/
  busError : Bool := false
  /-- E writes posted and not yet complete, oldest first (R244). 10_spe_model.md; reset none. -/
  posted : List (Nat × Word) := []
  /-- What the frozen pipeline waits for (R221). 10_spe_model.md; reset nothing. -/
  stall : Option SpeStall := none
  /-- A debug halt waits for the next qualifying boundary (R231). 10_spe_model.md; reset: no. -/
  haltAsked : Bool := false
  /-- A single step is in progress (R231). 10_spe_model.md; reset: no. -/
  stepping : Bool := false
  /-- Program breakpoints, at most 4 (R231). 10_spe_model.md; reset none. -/
  breakpoints : List Nat := []
  /-- Data watchpoints on X (0), Y (1) or E (2) addresses, at most 2 (R231). 10_spe_model.md; reset none. -/
  watchpoints : List (Nat × Nat) := []
  /-- STAT.STATE to which a resume returns (R231). 10_spe_model.md; reset 0. -/
  resumeTo : Nat := 0
  deriving DecidableEq, Repr

/-- What an ADC core has in hand (R252 to R255). Times are in TICKs. -/
inductive AdcWork
  | idle
  /-- A sequencer conversion of a channel. -/
  | seq (ch : Nat)
  /-- A direct conversion of a slot, and its channel. -/
  | direct (slot ch : Nat)
  deriving DecidableEq, Repr

/-- One ADC core beyond its registers. -/
structure Adc where
  /-- Conversion in hand (R254). 12_sensing.md; reset none. -/
  work : AdcWork := .idle
  /-- Sequencer channel abandoned by a direct trigger, to be reissued (R254). 12_sensing.md; reset none. -/
  again : Option Nat := none
  /-- Channels of the round still to convert (R255). 12_sensing.md; reset none. -/
  todo : List Nat := []
  /-- The core takes part in the round in progress (R255). 12_sensing.md; reset: no. -/
  inRound : Bool := false
  /-- Instant, in root periods, at which the conversion in hand started: that of its compare, where it is a direct one (R252, R254).
  12_sensing.md; reset 0. -/
  since : Int := 0
  /-- TICK of the last round the core completed, or of its enable (R256). 12_sensing.md; reset 0. -/
  lastRound : Nat := 0
  /-- Result of the unselected reference in the last completed round, and of VREF_C (R255). 12_sensing.md; reset 0, 0. -/
  unsel : Int := 0
  vrefC : Int := 0
  deriving DecidableEq, Repr

/-- One sigma-delta input beyond its registers (R258 to R260). -/
structure Sdm where
  /-- Instant, in root periods, of the compare that restarted the window in progress (R259). 12_sensing.md; reset none. -/
  winStart : Option Int := none
  /-- TICK of the last output of the free-running decimator (R259). 12_sensing.md; reset none. -/
  lastOut : Option Nat := none
  /-- Compares that came before the previous window had completed (R259); no register shows them (log entry 112). 12_sensing.md; reset 0. -/
  overruns : Nat := 0
  /-- Comparator outputs above HI and below LO (R260). 12_sensing.md; reset inactive. -/
  hi : Bool := false
  lo : Bool := false
  /-- The input is stuck (R260). 12_sensing.md; reset: no. -/
  stuck : Bool := false
  deriving DecidableEq, Repr

/-- Sensing beyond its registers: the sequencer, the reference monitor, the die sensors. -/
structure Sense where
  /-- A round is in progress (R255). 12_sensing.md; reset: no. -/
  inRound : Bool := false
  /-- A round start came while one was in progress (R255). 12_sensing.md; reset: no. -/
  late : Bool := false
  /-- TICK from which the next round is due (R255). 12_sensing.md; reset 0. -/
  nextRound : Nat := 0
  /-- TICK since which the sequencer has run without a halt (R256, R272). 12_sensing.md; reset 0. -/
  seqFrom : Nat := 0
  /-- TICK of the last completed round (R257). 12_sensing.md; reset 0. -/
  lastRound : Nat := 0
  /-- Line 31 reports because no round completes (R257). 12_sensing.md; reset: no. -/
  blind : Bool := false
  /-- Core to whose list the round in progress appended channel 11 (R264). 12_sensing.md; reset none. -/
  ext : Option Nat := none
  /-- Reference selected for the rounds (R263): REF.SEL as taken at the last round start. 12_sensing.md; reset A. -/
  selNow : Nat := 0
  /-- DIFF with its fraction, in units of 0.01% (R261). 12_sensing.md; reset 0. -/
  diff : Rat := 0
  /-- Sum and number of the values of x in the millisecond in progress (R261). 12_sensing.md; reset 0, 0. -/
  xSum : Rat := 0
  xCount : Nat := 0
  /-- Lines 30 and 31 report for DIFF, with their hysteresis (R262). 12_sensing.md; reset: no. -/
  warn : Bool := false
  drift : Bool := false
  /-- The external reference was outside its tolerance at the last check (R264): EXT_MISMATCH's condition. 12_sensing.md; reset: no. -/
  extFar : Bool := false
  /-- Lines 34 and 35 report for the die temperature, with their hysteresis (R265). 12_sensing.md; reset: no. -/
  tWarn : Bool := false
  tHigh : Bool := false
  deriving DecidableEq, Repr

/-- What a capture sees of a position input at every instant before `until_` that no older mark covers (R269): the integer part of POS, RAW, the
instants of its last two edges and the direction of the last. -/
structure EncMark where
  until_ : Int
  pos : Int
  raw : Word
  last : Option Int
  prev : Option Int
  back : Bool
  deriving DecidableEq, Repr

/-- One position input beyond its registers (R266 to R271). Instants are in root periods of 1.25 ns. -/
structure Enc where
  /-- Accepted levels of A, B and Z (R266). 12_sensing.md; reset low. -/
  a : Bool := false
  b : Bool := false
  z : Bool := false
  /-- Integer part of POS (R267). 12_sensing.md; reset 0. -/
  pos : Int := 0
  /-- Instants of the last edge and the one before it (R267). 12_sensing.md; reset none. -/
  last : Option Int := none
  prev : Option Int := none
  /-- The last edge counted down (R267). 12_sensing.md; reset: up. -/
  back : Bool := false
  /-- RAW and instant of the last edge before the previous capture (R268). 12_sensing.md; reset none. -/
  capPos : Int := 0
  capEdge : Option Int := none
  /-- A Z edge has come since the enable (R270). 12_sensing.md; reset: no. -/
  zSeen : Bool := false
  /-- RAW at the last Z edge (R270). 12_sensing.md; reset 0. -/
  zRaw : Nat := 0
  /-- What captures at the instants of the last second see, newest first (R269; log entry 125). 12_sensing.md; reset none. -/
  past : List EncMark := []
  /-- Instant of the last accepted change of B (R266, STEPDIR). 12_sensing.md; reset none. -/
  lastB : Option Int := none
  /-- Instant of the last step (R266, STEPDIR). 12_sensing.md; reset none. -/
  lastStep : Option Int := none
  /-- Line 40+n reports for this input (R270): an error has come and no capture since has been free of one. 12_sensing.md;
  reset: no. -/
  bad : Bool := false
  /-- POS_HI as the last read of POS_LO left it (R267). 12_sensing.md; reset none. -/
  snapHi : Option Word := none
  deriving DecidableEq, Repr

/-- One phase of a PWM (R275 to R281). Instants are in HR units of 78.125 ps. -/
structure PwmPhase where
  /-- The high side is requested (R275). 13_pwm.md; reset: no. -/
  req : Bool := false
  /-- Gates before ranks 1 to 3 of R286. 13_pwm.md; reset off. -/
  high : Bool := false
  low : Bool := false
  /-- Instants at which dead time ends and a gate turns on (R280). 13_pwm.md; reset none. -/
  highOn : Option Int := none
  lowOn : Option Int := none
  /-- The crossing of the half period in progress has been followed (R275). 13_pwm.md; reset: no. -/
  crossed : Bool := false
  /-- The pulse in progress is dropped (R281). 13_pwm.md; reset: no. -/
  dropHigh : Bool := false
  dropLow : Bool := false
  /-- Earliest instant at which the pulse in progress may end, where MIN_PULSE stretches it (R281). 13_pwm.md; reset none. -/
  ext : Option Int := none
  /-- Instant at which a stretched pulse ends (R281). 13_pwm.md; reset none. -/
  stretchEnd : Option Int := none
  deriving DecidableEq, Repr

/-- A set of compares that a Loop Engine slot commits (R277, R298): the TICK of its commit, the words of U, V and W, and whether its shadow
miss has been counted already (R278). -/
structure DutySet where
  at_ : Nat
  u : Word
  v : Word
  w : Word
  counted : Bool
  deriving DecidableEq, Repr

/-- What a PWM counter did until an instant in HR units (R457): whether it ran, its direction, the begin of its half period and TOP, and whether
a freeze held it for the TICK. -/
structure PwmMark where
  until_ : Int
  run : Bool
  down : Bool
  half : Int
  top : Nat
  stands : Bool
  deriving DecidableEq, Repr

/-- One PWM beyond its registers. Instants are in HR units since the reset. -/
structure Pwm where
  /-- The counter runs: the PWM has passed its sync start (R287). 13_pwm.md; reset: no. -/
  run : Bool := false
  /-- The counter counts down (R273). 13_pwm.md; reset up. -/
  down : Bool := false
  /-- Instant at which the half period in progress began, and its length (R273, R288). 13_pwm.md; reset 0, 0. -/
  half : Int := 0
  len : Nat := 0
  /-- Correction left for the down-count of this period (R288). 13_pwm.md; reset 0. -/
  corr : Int := 0
  /-- TICKs of the first and of the last COMMIT since the last load point (R277). 13_pwm.md; reset none. -/
  commit : Option Nat := none
  commitLast : Option Nat := none
  /-- Sets of the Loop Engine slot that have not loaded, oldest first (R277, R278, R18). 13_pwm.md; reset none. -/
  sets : List DutySet := []
  /-- A Loop Engine sample was triggered since the last load point and has not committed (R278). 13_pwm.md; reset: no. -/
  leOpen : Bool := false
  /-- Extra compares in force (R279). 13_pwm.md; reset 0 (OFF). -/
  xcmp : List Word := [0, 0, 0, 0]
  /-- Extra compares that have fired in the half period in progress (R279). 13_pwm.md; reset none. -/
  fired : List Nat := []
  /-- Occurrences of ZERO, PERIOD, XCMP0 to XCMP3 since the last latch (R290). 13_pwm.md; reset 0. -/
  presc : List Nat := [0, 0, 0, 0, 0, 0]
  /-- Phases U, V, W. 13_pwm.md; reset off. -/
  u : PwmPhase := {}
  v : PwmPhase := {}
  w : PwmPhase := {}
  /-- Level of the ball PWMn_ISNS in µV, and the output of its comparator (R282). 13_pwm.md; reset 0, inactive. -/
  isns : Nat := 0
  cmp : Bool := false
  /-- Instant of the trip in force (R285). 13_pwm.md; reset 0. -/
  tripAt : Nat := 0
  /-- Outputs are off until the next load point after a cleared trip (R284). 13_pwm.md; reset: no. -/
  resume : Bool := false
  /-- A trip occurred in the carrier period in progress (R283). 13_pwm.md; reset: no. -/
  tripNow : Bool := false
  /-- The carrier runs free because its master or both lanes were lost (R288, R289). 13_pwm.md; reset: no. -/
  lost : Bool := false
  /-- A freeze has held the counter in the half period in progress (R64). 13_pwm.md; reset: no. -/
  held : Bool := false
  /-- The follower's counter is exactly in step with its master's (R287, R289). 13_pwm.md; reset: no. -/
  locked : Bool := false
  /-- TICK from which the enabled PWM waits for its start: its enable, or the entry to ROW when that came later (R87, R287). 13_pwm.md;
  reset 0. -/
  enabledAt : Nat := 0
  /-- What the counter did in the last 100 µs, newest first (R457). 22_ladle.md; reset none. -/
  past : List PwmMark := []
  deriving DecidableEq, Repr

/-- One axis slot of a Loop Engine (R292 to R312). Values are Q1.23 unless said otherwise. -/
structure AxSlot where
  /-- LE inputs U, V, W, auxiliary (R253). 14_loops.md; reset 0. -/
  inputs : List Int := [0, 0, 0, 0]
  /-- Inputs marked fresh (R253, R293). 14_loops.md; reset none. -/
  fresh : List Nat := []
  /-- TICK from which the inputs delivered last count as fresh (R253). 14_loops.md; reset 0. -/
  freshAt : Nat := 0
  /-- State words in the order of R311. 14_loops.md; reset 0. -/
  iD : Int := 0
  iQ : Int := 0
  vD : Int := 0
  vQ : Int := 0
  intD : Int := 0
  intQ : Int := 0
  w : Int := 0
  intV : Int := 0
  h : Int := 0
  wRef : Int := 0
  intP : Int := 0
  e : Int := 0
  /-- Samples since the axis was enabled (R294, R311). 14_loops.md; reset 0. -/
  samples : Nat := 0
  /-- CAP_EANG of the previous sample (R298 step 9). 14_loops.md; reset none. -/
  lastEang : Option Nat := none
  /-- Loop parameters 0x048 to 0x0AC in force while STAGE is 1 (R309). 14_loops.md; reset none. -/
  inForce : List Word := []
  /-- Position error of the last position loop and velocity error of the last velocity loop, for learning (R316). 14_loops.md;
  reset 0. -/
  errV : Int := 0
  errP : Int := 0
  /-- Held position-loop output: the velocity reference of the next sample (R301). 14_loops.md; reset 0. -/
  posOut : Int := 0
  /-- Consecutive velocity samples below STILL_W during a controlled stop (R304). 14_loops.md; reset 0. -/
  still : Nat := 0
  /-- TICK at which the current ramp of CURRENT_ONLY started (R304). 14_loops.md; reset none. -/
  ramp : Option Nat := none
  /-- Instant of the next sample in root periods, once extra compare TRIG_CMP has fired (R292). 14_loops.md; reset none. -/
  due : Option Int := none
  /-- TICK of the last sample instant (R293). 14_loops.md; reset none. -/
  capAt : Option Nat := none
  /-- That instant in root periods (R292, R334). 14_loops.md; reset 0. -/
  instant : Int := 0
  /-- Loop parameters as copied at the start of the slot's current loop (R17). 14_loops.md; reset none. -/
  copy : List Word := []
  /-- REP_CTRL, REP_ALPHA to REP_FADE and REP_CONV_TH as copied there (R17). 15_repetitive.md; reset none. -/
  repCopy : List Word := []
  /-- TICK of the last write of STAGE 0 (R309). 14_loops.md; reset none. -/
  stageAt : Option Nat := none
  /-- The last velocity loop's output was limited (R300). 14_loops.md; reset: no. -/
  limVel : Bool := false
  /-- The axis has been turned off: its PWM behaves as at rank 2 of R286 (R310). 14_loops.md; reset: no. -/
  off : Bool := false
  deriving DecidableEq, Repr

/-- A piece of a sample's work that follows the last current loop (R16): the velocity loop, position loop or learning update of an axis, or
an actuator slot. -/
inductive LeWork
  | vel (n : Nat)
  | pos (n : Nat)
  | learn (n : Nat)
  | act (a : Nat)
  deriving DecidableEq, Repr

/-- One Loop Engine beyond its registers. -/
structure LoopEngine where
  /-- TICK of the trigger of the sample in progress (R292). 14_loops.md; reset none. -/
  trig : Option Nat := none
  /-- Next axis slot whose current loop is to start (R293). 14_loops.md; reset 0. -/
  next : Nat := 0
  /-- TICK at which the work of the slot before is done (R293, R296). 14_loops.md; reset 0. -/
  ready : Nat := 0
  /-- Work of the sample that is still to start, once the last current loop has started (R16, R296). 14_loops.md; reset none. -/
  work : Option (List LeWork) := none
  /-- Samples since the enable, for ACT_DIV (R302). 14_loops.md; reset 0. -/
  samples : Nat := 0
  /-- The overload line reports: a trigger met an incomplete sample and no sample has completed since (R306). 14_loops.md;
  reset: no. -/
  overloaded : Bool := false
  /-- PAIR_HALT (R307). 14_loops.md; reset: no. -/
  halted : Bool := false
  /-- TICKs of the trigger before the last one and of the last one (R293). 14_loops.md; reset none. -/
  prev : Option Nat := none
  last : Option Nat := none
  deriving DecidableEq, Repr

/-- Repetitive learning of one axis beyond its registers (R313 to R326). -/
structure Rep where
  /-- Bin index at the last sample instant and at the last learning update (R313, R314). 15_repetitive.md; reset 0, none. -/
  j : Nat := 0
  jUpd : Option Nat := none
  /-- Bin index and fraction of the sample in progress, as its slot's loop took them (R315, R316). 15_repetitive.md; reset 0, 0. -/
  jAt : Nat := 0
  fracAt : Nat := 0
  /-- d is −1 (R314). 15_repetitive.md; reset +1. -/
  back : Bool := false
  /-- Interpolation fraction of the last sample instant as numerator over 2^24 (R313). 15_repetitive.md; reset 0. -/
  frac : Nat := 0
  /-- ψ (R321). 15_repetitive.md; reset 0. -/
  psi : Rat := 0
  /-- Bins that j has crossed and that ψ has not followed yet (R321). 15_repetitive.md; reset 0. -/
  moved : Nat := 0
  /-- TICK of the last crossing of a bin (R321). 15_repetitive.md; reset 0. -/
  crossed : Nat := 0
  /-- Bins still to cross before a reversal's freeze ends (R319). 15_repetitive.md; reset 0. -/
  revLeft : Nat := 0
  /-- Accumulated |e| and its number of updates (R325). 15_repetitive.md; reset 0, 0. -/
  sum : Nat := 0
  count : Nat := 0
  /-- A clear is in progress (R323). 15_repetitive.md; reset: no. -/
  clearing : Bool := false
  deriving DecidableEq, Repr

/-- The segment that a Profile Unit has in progress, with what R331 to R340 fix at its start. Positions are 48.16 counts, velocities
Q24.8 counts/s, `k` the profile samples since the start. -/
inductive Segment
  | none
  | pvt (p0 v0 delta v1 : Int) (dur k : Nat)
  | gear (p0 m0 r0n : Int) (r0d : Nat) (num : Int) (den engage dur k : Nat)
  | cam (p0 m0 : Int) (logN first cyc : Nat) (slave : Int) (dur : Nat)
  | dwell (dur k : Nat)
  | hold
  | sync (cyc phase : Nat) (prevM : Int)
  | stopPhase (p0 v0 : Int) (decel : Nat) (target : Int) (k : Nat)
  deriving DecidableEq, Repr

/-- Where a deceleration to rest leads (R339, R340): READY after an underrun, STOPPED after a commanded stop, IDLE after the clearing of
CTRL.EN. -/
inductive StopEnd
  | ready | stopped | idle
  deriving DecidableEq, Repr

/-- A deceleration in progress (R339, R340): the outputs at its start, the deceleration, the samples since, and what rest leads to. -/
structure Decel where
  p0 : Int
  v0 : Int
  rate : Nat
  k : Nat
  ends : StopEnd
  deriving DecidableEq, Repr

/-- One Profile Unit and virtual master beyond their registers. -/
structure Prof where
  /-- Segment in progress (R331). 16_profiles.md; reset none. -/
  seg : Segment := .none
  /-- Deceleration in progress (R339, R340). 16_profiles.md; reset none. -/
  dec : Option Decel := none
  /-- p* as delivered, 48.16 counts (R328). 16_profiles.md; reset 0. -/
  p : Int := 0
  /-- v_p as delivered, Q24.8 counts/s (R328). 16_profiles.md; reset 0. -/
  v : Int := 0
  /-- a_p as delivered, counts/s² (R328). 16_profiles.md; reset 0. -/
  a : Int := 0
  /-- POS and VEL of ENC MIDX at the axis's last sample instant (R334). 16_profiles.md; reset 0, 0. -/
  encM : Int × Int := (0, 0)
  /-- p* and v_p of AX MIDX as they stood at the last trigger of the Loop Engine (R334). 16_profiles.md; reset 0, 0. -/
  axM : Int × Int := (0, 0)
  /-- Ratio NUM/DEN of the preceding segment when that was a GEAR (R336). 16_profiles.md; reset none. -/
  lastRatio : Option (Int × Nat) := none
  /-- A refusal of the start at the head of the queue has been reported (R341). 16_profiles.md; reset: no. -/
  refusedOnce : Bool := false
  /-- SP_HI as the last read of SP_LO left it (16_profiles.md R328). 16_profiles.md; reset none. -/
  snapHi : Option Word := none
  /-- Virtual master in force: P0, RATE, T0 (R335). 16_profiles.md; reset 0, 0, 0. -/
  vmP0 : Int := 0
  vmRate : Int := 0
  vmT0 : Nat := 0
  /-- The last segment taken was a bad one: the condition of line 40+n (R332). 16_profiles.md; reset: no. -/
  badSeg : Bool := false
  deriving DecidableEq, Repr

/-- One position-latch record (R343): its 12 words. -/
structure LatRecord where
  words : List Word
  deriving DecidableEq, Repr

/-- One position-latch input beyond its registers (R342 to R344). -/
structure LatIn where
  /-- FIFO of records, oldest first, at most 4 (R344). 16_profiles.md; reset empty. -/
  fifo : List LatRecord := []
  /-- Accepted level of the input (R342). 16_profiles.md; reset: low. -/
  level : Bool := false
  /-- Root instant of the last accepted transition (R342). 16_profiles.md; reset none. -/
  last : Option Int := none
  deriving DecidableEq, Repr

/-- One actuator channel beyond its registers (R345 to R375). Times are in TICKs; instants of implement time are in ns. -/
structure ActChan where
  /-- ACTk drives the external low-side switch on (R345). 17_actuators.md; reset low. -/
  gate : Bool := false
  /-- ACTk_BH drives the boost switch on (R345). 17_actuators.md; reset low. -/
  boost : Bool := false
  /-- Channel registers 0x04C to 0x0F4 as taken at the last phase or period start (R347). 17_actuators.md; reset none. -/
  held : List Word := []
  /-- λ in Q1.23, taken at the last phase or period start (R358). 17_actuators.md; reset 1. -/
  lam : Nat := 0x800000
  /-- TICK at which the peak, the wait or the period in progress started (R352, R357, R362). 17_actuators.md; reset 0. -/
  start : Nat := 0
  /-- Implement time at which the OPEN acted (R363). 17_actuators.md; reset 0. -/
  openIt : Nat := 0
  /-- TICK at which a chop's off-time ends (R352, R353). 17_actuators.md; reset none. -/
  chopEnd : Option Nat := none
  /-- Catch search: in progress (R363). 17_actuators.md; reset: no. -/
  seek : Bool := false
  /-- Catch search: running maximum M (R363). 17_actuators.md; reset 0. -/
  imax : Int := 0
  /-- Catch search: running minimum m once the dip has started (R363). 17_actuators.md; reset none. -/
  imin : Option Int := none
  /-- Learned latencies computed in the present TICK, which its end stores (R365, R366). 17_actuators.md; reset none. -/
  learnOpen : Option Word := none
  learnClose : Option Word := none
  /-- TICKs of the last writes of LAT_OPEN and LAT_CLOSE, which win over an update of the same cycle (R366). 17_actuators.md; reset none. -/
  wroteOpen : Option Nat := none
  wroteClose : Option Nat := none
  /-- A trip has ended a diagnostic stretch of the period in progress, which counts as blind (R370, R372). 17_actuators.md; reset: no. -/
  spoiled : Bool := false
  /-- TICK of the catch (R352). 17_actuators.md; reset none. -/
  caught : Option Nat := none
  /-- Finish search: in progress, with the implement time of gate-off (R364). 17_actuators.md; reset none. -/
  offIt : Option Nat := none
  /-- TICK of gate-off of the closing (R364). 17_actuators.md; reset 0. -/
  offTick : Nat := 0
  /-- Finish search: a sample above PLATEAU_TH has come (R364). 17_actuators.md; reset: no. -/
  plateau : Bool := false
  /-- The opening is excluded from learning (R365). 17_actuators.md; reset: no. -/
  exOpen : Bool := false
  /-- The closing is excluded from learning (R365). 17_actuators.md; reset: no. -/
  exClose : Bool := false
  /-- Consecutive opening outliers, all inside the limits (R366). 17_actuators.md; reset 0. -/
  outOpen : Nat := 0
  /-- Consecutive closing outliers, all inside the limits (R366). 17_actuators.md; reset 0. -/
  outClose : Nat := 0
  /-- Coil-on instant computed for a NOZZLE train, implement time (R355). 17_actuators.md; reset none. -/
  nextOn : Option Nat := none
  /-- Coil-off instant computed for a NOZZLE train, implement time (R355). 17_actuators.md; reset none. -/
  nextOff : Option Nat := none
  /-- Grid number j of the last coil-off computed (R355). 17_actuators.md; reset none. -/
  grid : Option Nat := none
  /-- The pulse of the coil-on computed is skipped (R355). 17_actuators.md; reset: no. -/
  skip : Bool := false
  /-- TICK at which a trip's restart is due (R372). 17_actuators.md; reset none. -/
  retryAt : Option Nat := none
  /-- Consecutive restarts after trips (R372). 17_actuators.md; reset 0. -/
  retries : Nat := 0
  /-- Coil temperature rise θ in K (R373). 17_actuators.md; reset 0. -/
  theta : Rat := 0
  /-- Sum of i², in Q2.46 of I_FS², and number of samples of the millisecond in progress (R373). 17_actuators.md; reset 0, 0. -/
  sumSq : Nat := 0
  samples : Nat := 0
  /-- TICK of the enable or of the last update of the temperature (R373). 17_actuators.md; reset 0. -/
  thFrom : Nat := 0
  /-- TH_WARN level in force (R373). 17_actuators.md; reset: no. -/
  thWarn : Bool := false
  /-- Duty delivered by the LE slot, Q1.23 (R357). 17_actuators.md; reset 0. -/
  duty : Int := 0
  /-- Duty applied in the period in progress, Q1.23 (R357, R359). 17_actuators.md; reset 0. -/
  applied : Int := 0
  /-- A period of the present ON has begun (R357, R359). 17_actuators.md; reset: no. -/
  begun : Bool := false
  /-- TICK at which the gate turns off in the period or stretch in progress (R357). 17_actuators.md; reset none. -/
  onEnd : Option Nat := none
  /-- Sum and number of current samples with the gate on in the period in progress (R357). 17_actuators.md; reset 0, 0. -/
  onSum : Int := 0
  onCount : Nat := 0
  /-- Averaged current i of the last complete period (R357). 17_actuators.md; reset 0. -/
  avg : Int := 0
  /-- TICK at which INRUSH_T ends (R359). 17_actuators.md; reset none. -/
  inrushEnd : Option Nat := none
  /-- TICK at which the channel entered ON, the origin of the dither (R357). 17_actuators.md; reset 0. -/
  onSince : Nat := 0
  /-- TICK of the last change of the gate (R368). 17_actuators.md; reset 0. -/
  gateSince : Nat := 0
  /-- TICK of the last change of the gate or check of a steady gate (R368). 17_actuators.md; reset 0. -/
  diagSince : Nat := 0
  /-- Length of the last complete on-interval since the enable, TICKs (R368). 17_actuators.md; reset none. -/
  lastOn : Option Nat := none
  /-- A check has run in the diagnostic period in progress (R368). 17_actuators.md; reset: no. -/
  checked : Bool := false
  /-- Last current sample of the last complete on-interval (R368). 17_actuators.md; reset 0. -/
  onI : Int := 0
  /-- Last current and drain samples (R351). 17_actuators.md; reset 0, 0. -/
  cur : Int := 0
  drn : Int := 0
  /-- Consecutive failed open-load checks (R369). 17_actuators.md; reset 0. -/
  olFails : Nat := 0
  /-- The on-time of the next period is to be stretched (R370). 17_actuators.md; reset: no. -/
  stretch : Bool := false
  /-- The on-time in progress is a diagnostic stretch (R370). 17_actuators.md; reset: no. -/
  stretching : Bool := false
  deriving DecidableEq, Repr

/-- The current of a group's supply (R351, R371). -/
structure GroupSense where
  /-- Last sample of ACTGg_ISNS, Q1.23 (R351). 17_actuators.md; reset 0. -/
  cur : Int := 0
  /-- TICK of that sample (R351). 17_actuators.md; reset none. -/
  since : Option Nat := none
  /-- TICK of the last short check (R371). 17_actuators.md; reset none. -/
  checked : Option Nat := none
  deriving DecidableEq, Repr

/-- One boost controller beyond its registers (R360, R361). -/
structure Boost where
  /-- BSTx_GATE is on (R360). 17_actuators.md; reset low. -/
  gate : Bool := false
  /-- Switching has stopped at TARGET and resumes 1% below it (R360). 17_actuators.md; reset: no. -/
  satisfied : Bool := false
  /-- TICK at which TOFF ends (R360). 17_actuators.md; reset none. -/
  toffEnd : Option Nat := none
  /-- TICK of the enable (R361). 17_actuators.md; reset 0. -/
  since : Nat := 0
  /-- The rail has become ready since the enable (R361). 17_actuators.md; reset: no. -/
  wasReady : Bool := false
  /-- TICK since which the rail has stayed below UV (R361). 17_actuators.md; reset none. -/
  uvSince : Option Nat := none
  deriving DecidableEq, Repr

/-- One TSU lane beyond its registers (R377 to R383). Times are in units of 2⁻³² × 10⁻⁶ ns. -/
structure Lane where
  /-- Lane time (R377). 18_time.md; reset 0. -/
  time : Nat := 0
  /-- INCR in force, 8.32 ns (R377). 18_time.md; reset 5.0. -/
  incr : Nat := 0x500000000
  /-- INCR that moves into force at the next TICK (R378). 18_time.md; reset none. -/
  incrNext : Option Nat := none
  /-- Slew still to be added (R379). 18_time.md; reset 0. -/
  left : Int := 0
  /-- INCR values in force at the last 16 corrections, newest first (R382). 18_time.md; reset none. -/
  hist : List Nat := []
  /-- |o| of the last correction, ns (R382). 18_time.md; reset 0. -/
  lastAbs : Nat := 0
  /-- TICK of the last correction (R381). 18_time.md; reset 0. -/
  fed : Nat := 0
  /-- Consecutive corrections within TRACK_TH in ACQUIRE, or beyond it in TRACK (R381). 18_time.md; reset 0. -/
  run : Nat := 0
  /-- TICK at which HOLDOVER was entered (R381). 18_time.md; reset 0. -/
  hoSince : Nat := 0
  /-- INCR at which HOLDOVER runs (R382). 18_time.md; reset 5.0. -/
  hoIncr : Nat := 0x500000000
  deriving DecidableEq, Repr

/-- The course of a lane from a TICK on (R377 to R379): its time there, its rate and the most its slew moves in a TICK, and the slew still to be
added. -/
structure LaneCourse where
  time : Nat
  rate : Nat
  most : Nat
  left : Int
  deriving DecidableEq, Repr

/-- The course of both lanes, of BRIDGE and of the selection from TICK `from_` on (R377, R386): the time of an instant that lies back is read off
the course that held there (R343, R393). -/
structure TimeCourse where
  from_ : Nat
  a : LaneCourse
  b : LaneCourse
  bridge : Int
  most : Nat
  sel : Nat
  deriving DecidableEq, Repr

/-- The time unit beyond its registers. -/
structure Tsu where
  /-- Lane A (R377). 18_time.md; reset 0 s. -/
  a : Lane := {}
  /-- Lane B (R377). 18_time.md; reset 0 s. -/
  b : Lane := {}
  /-- BRIDGE in units of 2⁻³² × 10⁻⁶ ns (R386). 18_time.md; reset 0. -/
  bridge : Int := 0
  /-- BRIDGE has been loaded and its end has not been latched (R386). 18_time.md; reset: no. -/
  bridging : Bool := false
  /-- TICK since which the conditions of TIME_OK have held (R388). 18_time.md; reset none. -/
  okSince : Option Nat := none
  /-- Courses of the lanes and of implement time in the last second, newest first (R343, R377, R393; log entry 125). 18_time.md; reset none. -/
  courses : List TimeCourse := []
  /-- Read snapshots per master and register group: 16·master + group, value + 1 (R376, R377; 0 TICK, 1 IT, 2 lane A, 3 lane B).
  18_time.md; reset none. -/
  snaps : List (Nat × Nat) := []
  /-- The selection in force is an automatic change, and its lane has stayed valid since (R387). 18_time.md; reset: no. -/
  autoKept : Bool := false
  /-- TICK of the last write of SEL (R387). 18_time.md; reset none. -/
  selWrote : Option Nat := none
  /-- Accepted level of PPS_IN and root instant of its last accepted edge (R393). 18_time.md; reset low, none. -/
  ppsLevel : Bool := false
  ppsAt : Option Int := none
  /-- Last whole second pulsed on PPS_OUT (R392). 18_time.md; reset 0. -/
  ppsLast : Nat := 0
  /-- Whole second of implement time at the last enable of PPS_OUT, or lower where a step back has led below it: no later second is one that
  implement time reached before the enable (R392). 18_time.md; reset 0. -/
  ppsFrom : Nat := 0
  /-- TICK at which the PPS_OUT pulse ends, while PPS_OUT is high (R392). 18_time.md; reset none, low. -/
  ppsEnd : Option Nat := none
  /-- The last PPS_IN capture has not been read (R393). 18_time.md; reset: no. -/
  pinUnread : Bool := false
  /-- Levels of TPIN0 to TPIN3 (R394). 18_time.md; reset low. -/
  tpin : List (Nat × Bool) := []
  /-- TICKs at which pulses on TPIN0 to TPIN3 end, plus 1 (R394). 18_time.md; reset none. -/
  tpinEnd : List (Nat × Nat) := []
  deriving DecidableEq, Repr

/-- One entry of the scheduler's calendar (R395, R399): its words, its fire time, its source, its
place in calendar memory, and whether it fires with LATE (R401, R407). -/
structure CalEntry where
  slot : Nat
  kind : Nat
  ident : Nat
  noComp : Bool
  target : Nat
  time : Nat
  fire : Nat
  knatis : Bool
  late : Bool
  deriving DecidableEq, Repr

/-- The scheduler beyond its registers. -/
structure Sched where
  /-- Calendar entries in insertion order, at most 1024 (R398). 19_scheduler.md; reset empty. -/
  cal : List CalEntry := []
  /-- Completion FIFO, oldest first, at most 16 records of four words (R404). 19_scheduler.md; reset empty. -/
  fifo : List (List Word) := []
  /-- Queue that the next round of insertions starts from (R396). 19_scheduler.md; reset 0. -/
  rrFrom : Nat := 0
  /-- Actions of accepted SECT frames that wait for insertion, oldest first (R396). 19_scheduler.md; reset none. -/
  knatis : List (List Word) := []
  /-- Channels that a CLOSE of the calendar reached, with the TICK: an OPEN follows in the next SYS cycle (R400). 19_scheduler.md; reset none. -/
  closed : List (Nat × Nat) := []
  /-- TICK at which CANCEL_STAT.BUSY falls (R406). 19_scheduler.md; reset 0. -/
  cancelEnd : Nat := 0
  deriving DecidableEq, Repr

/-- One TX buffer beyond its staging words, which are the registers TXBb_W1 to W19 (R422). -/
structure CanTx where
  /-- Active copy of words 1 to 19 (R422). 20_can.md; reset 0. -/
  active : List Word := []
  /-- A free request is pending (R423). 20_can.md; reset: no. -/
  pending : Bool := false
  /-- RESULT (R422). 20_can.md; reset NONE. -/
  result : Nat := 0
  /-- CANCEL_LATE and WIN_OVERRUN (R424, R426). 20_can.md; reset 0. -/
  cancelLate : Bool := false
  winOverrun : Bool := false
  /-- Successful transmissions, modulo 256 (R422). 20_can.md; reset 0. -/
  count : Nat := 0
  /-- TICK[31:0] at the SOF of the last successful transmission (R422). 20_can.md; reset 0. -/
  stamp : Word := 0
  /-- A commit waits for the end of the attempt on the bus, with the master that wrote it (R422). 20_can.md; reset none. -/
  commitDue : Option Master := none
  /-- TICK of the last cancel (R424). 20_can.md; reset none. -/
  cancelAt : Option Nat := none
  deriving DecidableEq, Repr

/-- An attempt on the bus (R422 to R424): the buffer, the matrix entry whose window it uses and the start of that window in ns of implement
time, the TICK of its SOF and the words sent. -/
structure CanAttempt where
  buf : Nat
  entry : Option Nat
  start : Int := 0
  sof : Nat
  words : List Word
  deriving DecidableEq, Repr

/-- An open window of the matrix (R426): its entry, buffer and SINGLE, its start and close in ns of implement time, whether its frame has
ended, and whether it has closed while its frame was on the bus. -/
structure CanWin where
  entry : Nat
  buf : Nat
  single : Bool
  start : Int
  close : Int
  done : Bool
  closed : Bool
  deriving DecidableEq, Repr

/-- One CAN controller beyond its registers. -/
structure Can where
  /-- PSTAT.STATE while the controller is not halted (R414, R415). 20_can.md; reset INTEGRATING. -/
  st : Nat := 0
  /-- TEC and REC (R409, R414). 20_can.md; reset 0. -/
  tec : Nat := 0
  recErr : Nat := 0
  /-- PSTAT.LEC, the measured delay and TDC_OVF (R412). 20_can.md; reset 0. -/
  lec : Nat := 0
  delay : Nat := 0
  tdcOvf : Bool := false
  /-- The attempt on the bus (R422). 20_can.md; reset none. -/
  onBus : Option CanAttempt := none
  /-- TX buffers by number; one that is not listed is at reset (R422). 20_can.md; reset none listed. -/
  tx : List (Nat × CanTx) := []
  /-- Read shadows per master code: the buffer and its 20 words (R420). 20_can.md; reset none. -/
  shadow : List (Nat × (Nat × List Word)) := []
  /-- Records that wait for their queues, oldest first, at most 4: queue and words (R421). 20_can.md; reset none. -/
  fifo : List (Nat × List Word) := []
  /-- Matrix entries in force, words A and B (R425). 20_can.md; reset 0. -/
  force : List (Nat × (Word × Word)) := []
  /-- Last cycle that has started (R425, R428). 20_can.md; reset none. -/
  cycle : Option Int := none
  /-- Last window instance of each entry, by its cycle number; the cycle before the one in which an entry took effect bounds it from below
(R425, R428). 20_can.md; reset none. -/
  lastInst : List (Nat × Int) := []
  /-- Open windows (R426). 20_can.md; reset none. -/
  wins : List CanWin := []
  deriving DecidableEq, Repr

/-- A frame that waits for an egress port (R434, R436, R454). -/
structure OutFrame where
  /-- Bytes from the DA to the last byte before the FCS; empty for a frame held in a buffer slot. -/
  data : List Byte := []
  /-- Number of those bytes. -/
  len : Nat := 0
  /-- Buffer slot that holds them (R434). -/
  slot : Option Nat := none
  /-- Traffic class (R435). -/
  cls : Nat := 0
  /-- Ingress port and TICK of its SFD there; none for a frame of this device. -/
  ingress : Option (Nat × Nat) := none
  /-- Transmit descriptor that the frame belongs to (R454). -/
  ltx : Option Nat := none
  /-- TICK before which the preamble does not start (R448). -/
  notBefore : Nat := 0
  /-- The port strips the tag (R435). -/
  strip : Bool := false
  /-- TICK at which it joined its queue (R433). -/
  since : Nat := 0
  deriving DecidableEq, Repr

/-- A frame on the wire of an egress port: its bytes, the TICK of its SFD, and whether its FCS leaves inverted (R433, R434, R440). -/
structure Wire where
  bytes : List Byte
  sfd : Nat
  bad : Bool
  frame : OutFrame
  deriving DecidableEq, Repr

/-- Elimination history of a stream (R439): newest number, the last 32 numbers seen as bits (bit k: newest − k), TICK of the last arrival. -/
structure StreamHist where
  newest : Nat
  seen : Nat
  last : Nat
  deriving DecidableEq, Repr

/-- The Knatis switch and protocol beyond their registers. -/
structure Ksw where
  /-- TICK at which the age of each supervised BEAT source started, plus 1, by source (R452). 21_knatis.md; reset none. -/
  beat : List (Nat × Nat) := []
  /-- Sources whose age had reached BEAT_TIMEOUT at the last check (R452). 21_knatis.md; reset none. -/
  beatOver : List Nat := []
  /-- TICKs of the authentication rejections of the preceding second, newest first (R447). 21_knatis.md; reset none. -/
  rejects : List Nat := []
  /-- Line 88 reports, as last updated (R447). 21_knatis.md; reset: no. -/
  auth : Bool := false
  /-- Dynamic address entries: address, port, TICK of the last frame (R432). 21_knatis.md; reset none. -/
  dyn : List (Nat × (Nat × Nat)) := []
  /-- Elimination histories by stream; one that is not listed is empty (R439). 21_knatis.md; reset none. -/
  hist : List (Nat × StreamHist) := []
  /-- Frames that wait, by 8 × port + class, oldest first (R436). 21_knatis.md; reset none. -/
  queues : List (Nat × List OutFrame) := []
  /-- Frame on the wire of each egress port (R436). 21_knatis.md; reset none. -/
  wires : List (Nat × Wire) := []
  /-- TICK from which each egress port is idle, the gap after its last frame included (R433). 21_knatis.md; reset 0. -/
  idleFrom : List (Nat × Nat) := []
  /-- TICK of the last change of each port's link (R433). 21_knatis.md; reset 0. -/
  linkAt : List (Nat × Nat) := []
  /-- Oper entries of each port's gate control list (R437). 21_knatis.md; reset none. -/
  oper : List (Nat × List Word) := []
  /-- List cycle and entry that each port is in (R437). 21_knatis.md; reset none. -/
  gate : List (Nat × (Int × Nat)) := []
  /-- Last accepted SEQ by 8 × SRC + TYPE; none where the state is empty (R446). 21_knatis.md; reset none. -/
  seqs : List (Nat × Nat) := []
  /-- Next sequence number of the device's own frames by TYPE (R448). 21_knatis.md; reset 0. -/
  own : List (Nat × Nat) := []
  /-- Next descriptor of the receive ring and of the transmit ring (R454). 21_knatis.md; reset 0, 0. -/
  lrx : Nat := 0
  ltx : Nat := 0
  /-- Transmit descriptors one copy of whose frame has left and been stamped, while another has not (R454). 21_knatis.md; reset none. -/
  stamped : List Nat := []
  /-- MDIO operation in progress on each port, as its command word (R455). 21_knatis.md; reset none. -/
  mdio : List (Nat × Word) := []
  /-- Ports whose PHY has its link up, as last seen (R431, R455). 21_knatis.md; reset none. -/
  phy : List Nat := []
  /-- TICK from which the next own BEAT is counted (R451). 21_knatis.md; reset 0. -/
  beatFrom : Nat := 0
  deriving DecidableEq, Repr

/-- What a probe has seen in the window in progress (R460): first, smallest and largest sample, their sum and the sum of their squares. -/
structure LdlAcc where
  first : Int
  least : Int
  most : Int
  sum : Int
  squares : Nat
  deriving DecidableEq, Repr

/-- A window (R459, R466): its number since arm completion, its start in ns of implement time and in root periods, the place of its first
word among all words written for the ring, its number of words, and whether a step closed it short (R461). -/
structure LdlWin where
  num : Nat
  start : Nat
  root : Int
  place : Nat := 0
  len : Nat := 0
  stepped : Bool := false
  deriving DecidableEq, Repr

/-- The open record of a capture (R466 to R468). -/
structure LdlRec where
  /-- Trigger instant in ns of implement time and in root periods, and the TICK of the fire. -/
  trigIt : Nat
  trigRoot : Int
  firedAt : Nat
  /-- Number of window 0, once it is known: below 0 where its place on the grid lies before arm completion. -/
  zero : Option Int := none
  /-- Number of the next window to deliver. -/
  next : Nat := 0
  /-- Windows delivered before window 0 and from it. -/
  before : Nat := 0
  after : Nat := 0
  /-- The packet is open, and the header has been handed on. -/
  opened : Bool := false
  header : Bool := false
  /-- Words handed on that the queue has not yet accepted, with the mark of R468. -/
  out : List (Word × Bool) := []
  /-- The first of them, or the open of the packet, has been refused under STALL and is held (R170). -/
  held : Bool := false
  /-- Flags of the trailer. -/
  preArm : Bool := false
  preShort : Bool := false
  step : Bool := false
  net : Bool := false
  timeOk : Bool := false
  poison : Bool := false
  /-- The trailer has been handed on. -/
  trailer : Bool := false
  deriving DecidableEq, Repr

/-- One capture beyond its registers. -/
structure LdlCap where
  /-- STAT.STATE: 0 IDLE, 1 DISARMED, 2 ARMING, 3 ARMED, 4 FIRED, 5 DONE (R463). 22_ladle.md; reset IDLE. -/
  st : Nat := 0
  /-- Implement time and root instant of the arm (R463). 22_ladle.md; reset 0, 0. -/
  armFrom : Nat := 0
  armRoot : Int := 0
  /-- Future times of network arms (R463). 22_ladle.md; reset none. -/
  netArm : List Nat := []
  /-- Pending network fire, kept for arm completion (R465). 22_ladle.md; reset none. -/
  pending : Option Nat := none
  /-- Future time of a network fire (R465). 22_ladle.md; reset none. -/
  netFire : Option Nat := none
  /-- Window in progress, its samples, and what its probes have seen, by probe (R459, R460). 22_ladle.md; reset none. -/
  win : Option LdlWin := none
  samples : Nat := 0
  acc : List (Nat × LdlAcc) := []
  /-- Number of the next window (R466). 22_ladle.md; reset 0. -/
  nextNum : Nat := 0
  /-- Root instants of the extra compare or of the Loop Engine triggers whose samples have not been taken yet, oldest first (R459).
  22_ladle.md; reset none. -/
  due : List Int := []
  /-- Root instant of the last sample, and the largest window place formed (R459, R461). 22_ladle.md; reset none. -/
  last : Option Int := none
  lastPlace : Option Nat := none
  /-- A step of implement time has come while the page was frozen with a window in progress (R64, R461). 22_ladle.md; reset: no. -/
  stepped : Bool := false
  /-- Starts of the windows since arm completion, newest first (R466). 22_ladle.md; reset none. -/
  starts : List LdlWin := []
  /-- Windows whose outputs are in the ring or wait for it, oldest first (R462). 22_ladle.md; reset none. -/
  wins : List LdlWin := []
  /-- Numbers of windows lost at the full FIFO, and of windows overwritten before they were pushed, newest first (R462). 22_ladle.md;
  reset none. -/
  lost : List Nat := []
  gone : List Nat := []
  /-- The 64-word FIFO of words that wait for the ring, oldest first, and the words of one window of more than 64 that follow into it (R462).
  22_ladle.md; reset none. -/
  fifo : List Word := []
  coming : List Word := []
  /-- Words written to the ring since the arm (R462). 22_ladle.md; reset 0. -/
  written : Nat := 0
  /-- Previous sample of the trigger probe (R464). 22_ladle.md; reset none. -/
  prev : Option Int := none
  /-- TICK of a rising edge of the event source of an EVENT trigger that has not been acted on (R464). 22_ladle.md; reset none. -/
  evAt : Option Nat := none
  /-- FIRE_AT value that implement time has already reached (R464). 22_ladle.md; reset none. -/
  timeSeen : Option Nat := none
  /-- Open record (R466). 22_ladle.md; reset none. -/
  record : Option LdlRec := none
  deriving DecidableEq, Repr

/-- The Ladle beyond its registers. -/
structure Ladle where
  /-- Captures by number; one that is not listed is at reset (R458). 22_ladle.md; reset none listed. -/
  caps : List (Nat × LdlCap) := []
  /-- Group currents, by group (R351, R371, R456). 17_actuators.md; reset empty. -/
  group : List (Nat × GroupSense) := []
  /-- By signal ID: the publications by the source block in the last 100 µs, newest first, each as its TICK and the value before it (R457).
  22_ladle.md; reset none. -/
  fresh : List (Nat × List (Nat × Int)) := []
  deriving DecidableEq, Repr

/-- The always-on domain beyond its registers: it survives every reset but its own (R473). -/
structure Aon where
  /-- RTC in units of 10⁻⁹ × 1/32 768 s (R474). 23_always_on.md; AON reset 0. -/
  rtc : Nat := 0
  /-- Phase of the RTC oscillator in fs (R474). 23_always_on.md; AON reset 0. -/
  phase : Nat := 0
  /-- The RTC runs from the crystal (R474, R476). 23_always_on.md; AON reset: RC. -/
  onXtal : Bool := false
  /-- SEC_HI and SUBSEC snapshot per master code (R477). 23_always_on.md; reset none. -/
  snap : List (Nat × Nat) := []
  /-- The AON domain has reset and LOST has not been latched at a LOGIC_RDY since (R480). 23_always_on.md; at LOGIC_RDY: latched. -/
  lostToLatch : Bool := false
  /-- A wake from the WAKE pin is to be named at LOGIC_RDY (R480). 23_always_on.md; reset: no. -/
  namePin : Bool := false
  /-- A wake recorded in BEACHED is to be named at LOGIC_RDY (R480). 23_always_on.md; reset: no. -/
  namePending : Bool := false
  /-- RTC periods that the measurement in progress has counted, 262 144 where it is complete (R475). 23_always_on.md; AON reset 0. -/
  meas : Nat := 0
  /-- GAUGE_WARN has latched since the last re-seat (R484). 23_always_on.md; AON reset: no. -/
  warned : Bool := false
  deriving DecidableEq, Repr

/-- Which faults end a run. No command of this block ends in one: every access the spec forbids has an answer there (a bus error,
an error code, an ignored write), and that answer is a next state. -/
inductive Fault
  /-- A command whose effect the spec does not give at all. Raised by nothing in this model; safe. -/
  | noEffectGiven
  deriving DecidableEq, Repr

/-- Why a command is refused. -/
inductive Refusal
  /-- The command has no meaning in this model yet. Raised by a refused arm of exec only; safe. -/
  | notModelled (mnemonic : String)
  deriving DecidableEq, Repr

/-- The state of the block. -/
structure State where
  /-- The variant that the factory fuses fix (R1, 00_scope.md). Kept through every reset. DESIGN CHOICE: AQ-1680 (log entry 2). -/
  variant : Variant := .aq1680
  /-- TICK: elapsed root time in units of 5 ns, which is also one SYS cycle without spread (R76, R376; 04_clocks_power.md,
  18_time.md). Reset 0. -/
  now : Nat := 0
  /-- The registers of every page, by byte address; an address that is not listed holds its reset value (R72 and the register
  tables). Reset: nothing listed. -/
  regs : List (Nat × Word) := []
  /-- Register-page state that is no register (03_pages.md). -/
  pages : Pages := {}
  /-- Power ladder, supplies, clocks (04_clocks_power.md). -/
  power : Power := {}
  /-- The Cox (05_cox.md). -/
  cox : Cox := {}
  /-- Memory: system SRAM, Vat, SPE, LE and secure memories, by byte address (R40, R114; 06_memory.md). An address that is not
  listed reads 0 (R84). Reset: nothing listed. -/
  mem : List Host.Cell := []
  /-- Words whose code is not valid, by word address (R123, R124; 06_memory.md). Reset: none (R84). -/
  ecc : List (Nat × EccState) := []
  /-- The Skimmer (06_memory.md). -/
  skim : Skimmer := {}
  /-- MEM's own bookkeeping (06_memory.md). -/
  memctl : MemCtl := {}
  /-- Life cycle, wipes, tamper (07_security.md). -/
  sec : Security := {}
  /-- The OTP array (07_security.md). -/
  otp : Otp := {}
  /-- The Churn queues by number; a queue that is not listed is empty and idle (08_churn.md). -/
  queues : List (Nat × Queue) := []
  /-- The host port (09_host.md). -/
  host : HostPort := {}
  /-- The DMA channels by number; one that is not listed is idle (09_host.md). -/
  dma : List (Nat × DmaChan) := []
  /-- The channel last served at each DMA priority level, plus 1 (R195; 09_host.md). Reset none. -/
  dmaLast : List (Nat × Nat) := []
  /-- Boot (09_host.md). -/
  boot : Boot := {}
  /-- SPE0 and SPE1 by number; one that is not listed is at reset (10_spe_model.md). -/
  spes : List (Nat × Spe) := []
  /-- The always-on domain (23_always_on.md). -/
  aon : Aon := {}
  /-- Profile Units and virtual masters by axis; one that is not listed is at reset (16_profiles.md). -/
  profs : List (Nat × Prof) := []
  /-- Position-latch inputs by number; one that is not listed is at reset (16_profiles.md). -/
  lats : List (Nat × LatIn) := []
  /-- Actuator channels by number 0 to 47; one that is not listed is at reset (17_actuators.md). -/
  acts : List (Nat × ActChan) := []
  /-- Boost controllers A (0) and B (1); one that is not listed is at reset (17_actuators.md). -/
  bsts : List (Nat × Boost) := []
  /-- The time unit (18_time.md). -/
  tsu : Tsu := {}
  /-- The scheduler (19_scheduler.md). -/
  sch : Sched := {}
  /-- ADC cores by number; one that is not listed is at reset (12_sensing.md). -/
  adcs : List (Nat × Adc) := []
  /-- Sigma-delta inputs by number; one that is not listed is at reset (12_sensing.md). -/
  sdms : List (Nat × Sdm) := []
  /-- Sequencer, reference monitor, die sensors (12_sensing.md). -/
  sense : Sense := {}
  /-- Position inputs by number; one that is not listed is at reset (12_sensing.md). -/
  encs : List (Nat × Enc) := []
  /-- PWMs by number; one that is not listed is at reset (13_pwm.md). -/
  pwms : List (Nat × Pwm) := []
  /-- Axis slots by axis number; one that is not listed is at reset (14_loops.md). -/
  axes : List (Nat × AxSlot) := []
  /-- Loop Engines by number; one that is not listed is at reset (14_loops.md). -/
  loops : List (Nat × LoopEngine) := []
  /-- Repetitive learning by axis; one that is not listed is at reset (15_repetitive.md). -/
  reps : List (Nat × Rep) := []
  /-- CAN controllers by number; one that is not listed is at reset (20_can.md). -/
  cans : List (Nat × Can) := []
  /-- The Knatis switch and protocol (21_knatis.md). -/
  ksw : Ksw := {}
  /-- The Ladle (22_ladle.md). -/
  ldl : Ladle := {}
  /-- The model's own counter of free values drawn, not the spec's (log entry 1). DESIGN CHOICE: 0 at reset. -/
  freeCtr : Nat := 0
  /-- The commands that wait, first in first out; the model's own, not the spec's. Reset empty. -/
  pending : List Instr := []
  deriving DecidableEq, Repr

/-- The machine right after reset: the instant at which the first power-up sets LOGIC_RDY (R84, R94), with every register at its
reset value, every memory cleared to zero, the Cox in INIT and no command waiting. RST_CAUSE holds POR and PORST, the PWR cause WAKE_DONE
and the AON cause LOST have latched (R94, R480). -/
def State.reset : State := { regs := [(0x40000058, 0x00000003), (0x40002018, 0x00000002), (0x40024018, 0x00080000)] }

end Sys2Proof.Machine
end

