-- ==== Sys2Proof/Machine/Ops.lean ====
section
/-! DEFINITION. The named operations over the state: the address map and page presence (R10, R40 to R46), reading and
writing registers (R9), fields and counters, error records (R57, R58), causes and event sources (R65 to R68), memory bytes in
canonical form, and free values. -/

namespace Sys2Proof.Machine

/-- What a command answers. -/
abbrev Answer := Host.Outcome State Fault Refusal

/-! ## The variant (R2) -/

/-- Servo axes, also PWM and ENC instances (R2, R10). -/
def axesOf : Variant → Nat | .aq1680 => 16 | .aq1660 => 8 | .aq1620 => 4
/-- Actuator groups of 8 channels (R2). -/
def groupsOf : Variant → Nat | .aq1680 => 6 | .aq1660 => 4 | .aq1620 => 2
/-- SAR ADC cores (R2). -/
def adcsOf : Variant → Nat | .aq1680 => 12 | .aq1660 => 8 | .aq1620 => 4
/-- Signal Processing Engines, also Loop Engines (R2). -/
def enginesOf : Variant → Nat | .aq1680 => 2 | .aq1660 => 1 | .aq1620 => 1
/-- CAN FD controllers (R2). -/
def cansOf : Variant → Nat | .aq1680 => 3 | .aq1660 => 3 | .aq1620 => 2
/-- Knatis external ports, also MAC instances (R2). -/
def portsOf : Variant → Nat | .aq1680 => 2 | .aq1660 => 2 | .aq1620 => 1
/-- Churn queues (R2). -/
def queuesOf : Variant → Nat | .aq1680 => 256 | .aq1660 => 256 | .aq1620 => 128
/-- Sigma-delta inputs (R2). -/
def sdmsOf : Variant → Nat | .aq1680 => 16 | .aq1660 => 8 | .aq1620 => 0
/-- Ladle probes (R2). -/
def probesOf : Variant → Nat | .aq1680 => 32 | .aq1660 => 16 | .aq1620 => 0
/-- Vat size in KiB (R2). -/
def vatKiB : Variant → Nat | .aq1680 => 2048 | .aq1660 => 1024 | .aq1620 => 512
/-- System SRAM size in KiB (R2). -/
def sramKiB : Variant → Nat | .aq1680 => 512 | .aq1660 => 512 | .aq1620 => 256
/-- Boost controllers (R2). -/
def boostsOf : Variant → Nat | .aq1680 => 2 | .aq1660 => 2 | .aq1620 => 1
/-- Repetitive learning is present (R2). -/
def repPresent : Variant → Bool | .aq1620 => false | _ => true

/-- SYS.CAP0 to CAP3 (R71). -/
def capWord : Variant → Nat → Word
  | .aq1680, 0 => 0x80302610 | .aq1680, 1 => 0x2280100C | .aq1680, 2 => 0x32002000 | .aq1680, _ => 0x20084100
  | .aq1660, 0 => 0x60202408 | .aq1660, 1 => 0x11800808 | .aq1660, 2 => 0x32001000 | .aq1660, _ => 0x10084100
  | .aq1620, 0 => 0x20101204 | .aq1620, 1 => 0x11000004 | .aq1620, 2 => 0x21010000 | .aq1620, _ => 0x08044080

/-- The code of a master in ERR_CODE and the other records (R58). -/
def masterCode : Master → Nat
  | .host => 0 | .dma => 1 | .spe0 => 2 | .spe1 => 3 | .debug => 4

/-- The SPE as a master (R206). -/
def speMaster (n : Nat) : Master := if n = 0 then .spe0 else .spe1

/-! ## The address map (R40, R42, R46) -/

/-- First byte of the register pages (R40). -/
def pageZero : Nat := 0x40000000

/-- Address of a page (R42). -/
def pageAddr (p : Nat) : Nat := pageZero + 0x1000 * p

/-- The page an address of the register space falls in (R40). -/
def pageOf (a : Nat) : Nat := a / 0x1000 % 0x400

/-- Whether an address lies in the register pages (R40). -/
def isRegAddr (a : Nat) : Bool := decide (pageZero ≤ a) && decide (a < 0x40400000)

/-- Class and instance of a page index; none where the table of R42 allocates no page with a header. -/
def pageClass (p : Nat) : Option (PageClass × Nat) :=
  if p < 0x10 then
    match p with
    | 0 => some (.sys, 0) | 1 => some (.clk, 0) | 2 => some (.pwr, 0) | 3 => some (.pad, 0) | 4 => some (.gpio, 0)
    | 5 => some (.evt, 0) | 6 => some (.temp, 0) | 7 => some (.ref, 0) | _ => none
  else if p = 0x10 then some (.cox, 0) else if p = 0x11 then some (.cox_fmap, 0)
  else if p = 0x20 then some (.mem, 0) else if p = 0x21 then some (.skim, 0) else if p = 0x22 then some (.sec, 0)
  else if p = 0x23 then some (.otp, 0) else if p = 0x24 then some (.aon, 0)
  else if p = 0x30 then some (.hpt, 0) else if p = 0x31 then some (.dma, 0) else if p = 0x40 then some (.chn, 0)
  else if 0x50 ≤ p ∧ p ≤ 0x51 then some (.spe, p - 0x50) else if 0x60 ≤ p ∧ p ≤ 0x61 then some (.le, p - 0x60)
  else if 0x80 ≤ p ∧ p ≤ 0x8F then some (.ax, p - 0x80) else if 0x90 ≤ p ∧ p ≤ 0x9F then some (.pwm, p - 0x90)
  else if 0xA0 ≤ p ∧ p ≤ 0xA5 then some (.actg, p - 0xA0) else if p = 0xA8 then some (.bst, 0)
  else if 0xB0 ≤ p ∧ p ≤ 0xBB then some (.adc, p - 0xB0) else if p = 0xBC then some (.sdm, 0)
  else if p = 0xBD then some (.adcseq, 0) else if 0xC0 ≤ p ∧ p ≤ 0xCF then some (.enc, p - 0xC0)
  else if p = 0xD0 then some (.lat, 0) else if p = 0xD8 then some (.ldl, 0)
  else if p = 0xE0 then some (.tsu, 0) else if p = 0xE1 then some (.sch, 0)
  else if 0xF0 ≤ p ∧ p ≤ 0xF2 then some (.can, p - 0xF0) else if p = 0xF8 then some (.ksw, 0)
  else if 0xF9 ≤ p ∧ p ≤ 0xFA then some (.mac, p - 0xF9) else none

/-- The class code of PAGE_ID[31:24] (R42). -/
def classCode : PageClass → Nat
  | .sys => 0x01 | .clk => 0x02 | .pwr => 0x03 | .pad => 0x04 | .gpio => 0x05 | .evt => 0x06 | .temp => 0x07 | .ref => 0x08
  | .cox => 0x10 | .cox_fmap => 0x11 | .mem => 0x20 | .skim => 0x21 | .sec => 0x22 | .otp => 0x23 | .aon => 0x24
  | .hpt => 0x30 | .dma => 0x31 | .chn => 0x40 | .spe => 0x50 | .le => 0x60 | .ax => 0x80 | .pwm => 0x90 | .actg => 0xA0
  | .bst => 0xA8 | .adc => 0xB0 | .sdm => 0xBC | .adcseq => 0xBD | .enc => 0xC0 | .lat => 0xD0 | .ldl => 0xD8
  | .tsu => 0xE0 | .sch => 0xE1 | .can => 0xF0 | .ksw => 0xF8 | .mac => 0xF9

/-- Instances of a page class on a variant (R10). -/
def instancesOf (v : Variant) : PageClass → Nat
  | .ax | .pwm | .enc => axesOf v
  | .actg => groupsOf v
  | .adc => adcsOf v
  | .sdm => if sdmsOf v = 0 then 0 else 1
  | .spe | .le => enginesOf v
  | .can => cansOf v
  | .mac => portsOf v
  | .ldl => if probesOf v = 0 then 0 else 1
  | _ => 1

/-- The page classes that stay present in SCRAPPED (R143). -/
def scrappedKeeps : PageClass → Bool
  | .sys | .pwr | .sec | .otp | .aon | .hpt => true
  | _ => false

/-- A page with a header is present (R10, R43, R143). -/
def pagePresent (v : Variant) (scrapped : Bool) (p : Nat) : Bool :=
  match pageClass p with
  | some (c, i) => decide (i < instancesOf v c) && (!scrapped || scrappedKeeps c)
  | none => false

/-- A page index is one of the CHN queue pages (R45). -/
def isQueuePage (p : Nat) : Bool := decide (0x41 ≤ p) && decide (p ≤ 0x48)

/-- The queue page is present (R10, R45). -/
def queuePagePresent (v : Variant) (scrapped : Bool) (p : Nat) : Bool :=
  isQueuePage p && decide ((p - 0x41) * 32 < queuesOf v) && !scrapped

/-- Address of register `off` of queue `q` (R45). -/
def qAddr (q off : Nat) : Nat := 0x40041000 + 0x80 * q + off

/-- Index of a register among the repetitions of its table row. -/
def RegDef.index (d : RegDef) (off : Nat) : Option Nat :=
  if d.cnt ≤ 1 then (if off = d.off then some 0 else none)
  else if d.off ≤ off ∧ (off - d.off) % d.stride = 0 ∧ (off - d.off) / d.stride < d.cnt then some ((off - d.off) / d.stride)
  else none

/-- The table row of the register at an offset, and its index there. -/
def findIn : List RegDef → Nat → Option (RegDef × Nat)
  | [], _ => none
  | d :: r, off => match d.index off with
    | some k => some (d, k)
    | none => findIn r off

/-- The table row of the register at an offset of a page class, and its index there. -/
def findReg (c : PageClass) (off : Nat) : Option (RegDef × Nat) := findIn (regTable c) off

/-- Registers of a feature that is absent inside a present page (R6): repetitive learning, boost controller B, sigma-delta
inputs, the lists of absent ADC cores, Ladle probes, the second external port of the Knatis switch. Which single bits of a register shared with
present units are fields of an absent feature the spec leaves open, but for the wake enable of CAN2 (`wakeCfgWrite`): log entry 117. -/
def featureAbsent (v : Variant) (c : PageClass) (off : Nat) : Bool :=
  match c with
  | .ax => !repPresent v && decide (0x200 ≤ off) && decide (off < 0x280)
  | .bst => decide (boostsOf v = 1) && decide (0x060 ≤ off) && decide (off < 0x080)
  | .sdm => decide (0x100 + 0x10 * sdmsOf v ≤ off) && decide (off < 0x200)
  | .adcseq => decide (0x080 + 4 * adcsOf v ≤ off) && decide (off < 0x0B0)
  | .ldl => decide (0x080 + 4 * probesOf v ≤ off) && decide (off < 0x100)
  | .ksw => decide (portsOf v = 1) && (decide (off = 0x060) || (decide (0x0D0 ≤ off) && decide (off < 0x0E0)) || decide (0xA00 ≤ off ∧ off < 0xC00))
  | _ => false

/-- The enable bits of a register row, as R6 means them for an absent feature: the enables of R26, IN_EN of a sigma-delta input, and
PLAY_EN and LEARN_EN of repetitive learning. -/
def featureEnables (c : PageClass) (d : RegDef) : Word :=
  match c with
  | .sdm => if d.off = 0x100 then 0x80000000 else d.en
  | .ax => if d.off = 0x200 then 0x00000003 else d.en
  | _ => d.en

/-- Reset value of entry `n` of COX_FMAP: default class, mask, debounce and FIXED of line `n` (R97, R100). -/
def fmapReset (n : Nat) : Word :=
  if n ≤ 14 then 0x80000103
  else if n ≤ 22 then 0x00000103                       -- CHECK_FAIL, PLL_UNLOCK, CLK_WINDOW, undervoltages: C3
  else if n ≤ 25 then 0x00000102                       -- watchdogs: C2
  else if n ≤ 27 then 0x00000103                       -- LE liveness: C3
  else if n ≤ 29 then 0x00000102                       -- LE overload: C2
  else if n = 30 then 0x00000111                       -- REF_DRIFT_WARN: C1 LIMIT
  else if n ≤ 33 then 0x00000102                       -- REF_DRIFT, REF_STEP, REF_C_RANGE: C2
  else if n = 34 then 0x00000111                       -- TEMP_WARN: C1 LIMIT
  else if n ≤ 37 then 0x00000102                       -- TEMP_HIGH, MEM_SAFETY, SKIM_FAIL: C2
  else if n = 38 then 0x00000103                       -- ERR_IN: C3
  else if n = 39 then 0x00000100                       -- EVT_ROUTED: C0
  else if n ≤ 55 then 0x00000102                       -- AXn_FAULT: C2
  else if n ≤ 71 then 0x00000109                       -- PWMn_TRIP: C1 RESTRICT_START
  else if n ≤ 77 then 0x00000403                       -- ACTGn_SHORT: C3, debounce 4
  else if n ≤ 83 then 0x00000100                       -- ACTGn_DIAG: C0
  else if n ≤ 85 then 0x00000105                       -- BST_FAULT, TIME_OK: C1 RESTRICT_OPEN
  else if n = 86 then 0x00000101                       -- TIME_SINGLE: C1, no mask
  else if n = 87 then 0x00000102                       -- KNT_BEAT: C2
  else if n = 88 then 0x00000105                       -- KNT_AUTH: C1 RESTRICT_OPEN
  else if n = 89 then 0x00000102                       -- SCH_FAULT: C2
  else if n = 90 then 0x00000100                       -- CHN_LENGTH_LOST: C0
  else if n = 91 then 0x00000102                       -- SEC_TAMPER: C2
  else if n = 92 then 0x00000100                       -- HPT_CRC: C0
  else if n = 93 then 0x00000103                       -- OTP_INTEGRITY: C3
  else if n = 94 then 0x00000102                       -- SW_STOP: C2
  else 0x00000103                                      -- SW_OFF: C3

/-- Reset value of a register of a page class. -/
def classReset (v : Variant) (c : PageClass) (inst off : Nat) : Word :=
  if off = 0x000 then BitVec.ofNat 32 (0x015A + (0x1000000 * classCode c + 0x10000 * inst))
  else if off = 0x004 then Config.pageCap (classCode c)
  else if off = 0x00C then 0x00000004
  else if off < 0x040 then 0
  else if featureAbsent v c off then 0
  else match findReg c off with
    | none => 0
    | some (d, k) =>
      match c with
      | .sys => if d.off = 0x040 then capWord v k else d.reset
      | .cox_fmap => fmapReset k
      | .pad => if d.off = 0x100 then padReset v k else d.reset
      | _ => d.reset

/-- Reset value of the register word at an address (R72 and the register tables); 0 for every other address. -/
def resetWord (v : Variant) (a : Nat) : Word :=
  match pageClass (pageOf a) with
  | some (c, i) => classReset v c i (a % 0x1000)
  | none => 0

/-! ## Registers, fields, counters -/

/-- The stored value of a register word (R9). -/
def State.rd (s : State) (a : Nat) : Word := tabGet s.regs a (resetWord s.variant a)

/-- The state with a register word set: the one operation that writes a register. -/
def State.wr (s : State) (a : Nat) (v : Word) : State := { s with regs := tabPut s.regs a v (resetWord s.variant a) }

/-- The field of `len` bits from `lo` of a register. -/
def State.fld (s : State) (a lo len : Nat) : Nat := bits (s.rd a) lo len

/-- The same field as a two's complement number. -/
def State.sfld (s : State) (a lo len : Nat) : Int := sbits (s.rd a) lo len

/-- Bit `k` of a register. -/
def State.flag (s : State) (a k : Nat) : Bool := bit (s.rd a) k

/-- Sets a field of a register. -/
def State.setFld (s : State) (a lo len v : Nat) : State := s.wr a (putBits (s.rd a) lo len v)

/-- Sets one bit of a register. -/
def State.setFlag (s : State) (a k : Nat) (b : Bool) : State := s.wr a (putBit (s.rd a) k b)

/-- A 64-bit register pair, low word first. -/
def State.rd64 (s : State) (a : Nat) : Nat := pairNat (s.rd a) (s.rd (a + 4))

/-- Sets a 64-bit register pair, low word first. -/
def State.wr64 (s : State) (a : Nat) (v : Nat) : State := (s.wr a (wordOf v)).wr (a + 4) (hiWord v)

/-- A saturating 16-bit counter field at bit `lo` counts one event (R57, R496). -/
def State.satInc (s : State) (a lo : Nat) : State :=
  if s.fld a lo 16 < 0xFFFF then s.setFld a lo 16 (s.fld a lo 16 + 1) else s

/-- A saturating 16-bit counter field counts `n` events. -/
def State.satAdd (s : State) (a lo n : Nat) : State := s.setFld a lo 16 (min 0xFFFF (s.fld a lo 16 + n))

/-- A 32-bit wrapping counter counts one event. -/
def State.wrapInc (s : State) (a : Nat) : State := s.wr a (s.rd a + 1)

/-- A 32-bit wrapping counter counts `n` events. -/
def State.wrapAdd (s : State) (a n : Nat) : State := s.wr a (s.rd a + wordOf n)

/-- The page at an index is present in this state (R10, R143). -/
def State.hasPage (s : State) (p : Nat) : Bool := pagePresent s.variant s.sec.scrapped p

/-- The device is in ROW, the one state that runs the axis PWMs, the Loop Engines, the actuators and the boost (R87). -/
def inRow (s : State) : Bool := decide (s.fld Reg.PWR_STATE 0 3 = 0)

/-- SYS cycles since the reset (R75): the edges of SYS_CLK, branch 2. -/
def sysCycles (s : State) : Nat := (tabGet s.power.branches 2 {}).edges

/-- Draws a free value: the counter that the free values of Config are applied to moves on (log entry 1). -/
def State.drawn (s : State) : State := { s with freeCtr := s.freeCtr + 1 }

/-- A free value from `lo` to `hi`, drawn only where the two differ (log entry 1). -/
def State.freeIn (s : State) (lo hi : Int) : Int × State :=
  if hi ≤ lo then (lo, s) else (lo + ((Config.freeNat s.freeCtr : Nat) : Int) % (hi - lo + 1), s.drawn)

/-- A rational brought to an integer where the spec names no rounding: an exact value stays, any other becomes one of its two
neighbours, a free choice (log entry 24). -/
def State.narrow (s : State) (x : Rat) : Int × State := s.freeIn x.floor x.ceil

/-! ## Errors (R57, R58) -/

/-- Records an error on a page: ERR_CODE keeps the first, ERR_CNT counts every one and saturates (R57). -/
def State.error (s : State) (base cls num detail : Nat) : State :=
  let s1 := if s.rd (base + 0x20) = 0 then s.wr (base + 0x20) (BitVec.ofNat 32 (0x1000000 * cls + 0x10000 * num + detail % 0x10000)) else s
  s1.satInc (base + 0x24) 0

/-- The detail of an error about a register: master and byte offset (R58). -/
def errDetail (m off : Nat) : Nat := 0x1000 * m + off % 0x1000

/-- An ACCESS error about the register at an address (R58). -/
def State.accessError (s : State) (a num : Nat) (m : Master) : State :=
  s.error (pageAddr (pageOf a)) 1 num (errDetail (masterCode m) (a % 0x1000))

/-- A CONTROL error about the register at an address (R58). -/
def State.controlError (s : State) (a num : Nat) (m : Master) : State :=
  s.error (pageAddr (pageOf a)) 2 num (errDetail (masterCode m) (a % 0x1000))

/-- A BLOCK error about the register at an address (R58; the detail has the same layout, as the examples of R79 show). -/
def State.blockError (s : State) (a num : Nat) (m : Master) : State :=
  s.error (pageAddr (pageOf a)) 3 num (errDetail (masterCode m) (a % 0x1000))

/-- A BLOCK error that block hardware finds (master 0xF, R58). -/
def State.hwError (s : State) (a num : Nat) : State :=
  s.error (pageAddr (pageOf a)) 3 num (errDetail 0xF (a % 0x1000))

/-- The error of a queue block with a master code: CHN.ERR_CODE, CHN.ERR_Q (R180). -/
def State.queueErrorBy (s : State) (q cls num off code : Nat) : State :=
  let s1 := if s.rd (Reg.CHN + 0x20) = 0 then s.wr Reg.CHN_ERR_Q (wordOf (q % 256)) else s
  s1.error Reg.CHN cls num (errDetail code off)

/-- The BLOCK, CONTROL or ACCESS error of a queue block that a master causes (R180). -/
def State.queueError (s : State) (q cls num off : Nat) (m : Master) : State := s.queueErrorBy q cls num off (masterCode m)

/-! ## Causes and event sources (R65 to R68) -/

/-- A cause of a page latches (R65): a rising edge of its IRQ_RAW bit that is not held. -/
def State.cause (s : State) (base k : Nat) : State := s.setFlag (base + 0x18) k true

/-- A cause latches when a condition holds. -/
def State.causeIf (s : State) (c : Bool) (base k : Nat) : State := if c then s.cause base k else s

/-- The present instant in root periods (R76). -/
def rootNow (s : State) : Int := s.now * 4

/-- A source block publishes a value of Ladle signal `id` over the value `old`, which a sample instant in this SYS cycle or before it
still sees; publications of the last 100 µs are kept (R457; log entry 133). -/
def State.publish (s : State) (id : Nat) (old : Int) : State :=
  let l := tabGet s.ldl.fresh id []
  if (l.head?.map Prod.fst) == some s.now then s
  else { s with ldl := { s.ldl with fresh := tabPut s.ldl.fresh id ((s.now, old) :: l.takeWhile fun p => decide (s.now ≤ p.1 + 20000)) [] } }

/-- A cause that is a level: IRQ_RAW follows it, and its rising edge latches (R65). -/
def State.level (s : State) (base k : Nat) (b : Bool) : State :=
  let s1 := if b && !(s.flag (base + 0x10) k) then s.cause base k else s
  s1.setFlag (base + 0x10) k b

/-- A queue's cause latches in Qn.IRQ_STAT (R179). -/
def State.queueCause (s : State) (q k : Nat) : State := s.setFlag (qAddr q 0x34) k true

/-- A page drives a source with the causes of a mask: some of them is latched and enabled (R66). -/
def pageDrives (s : State) (base : Nat) (mask : Word) : Bool :=
  decide (s.rd (base + 0x18) &&& s.rd (base + 0x14) &&& mask ≠ 0)

/-- Some page of a run of `n` pages from `base` drives the source. -/
def anyPage (s : State) (base : Nat) (mask : Word) : Nat → Bool
  | 0 => false
  | n + 1 => pageDrives s (base + 0x1000 * n) mask || anyPage s base mask n

/-- Queue `q` has a cause of the mask latched and enabled (R179). -/
def queueDrives (s : State) (mask : Word) (q : Nat) : Bool :=
  decide (s.rd (qAddr q 0x34) &&& s.rd (qAddr q 0x30) &&& mask ≠ 0)

/-- The causes of a PWM page (spec/13_pwm.md, cause list). -/
def pwmCauses : Word := 0x000007FF

/-- Event source `n` is asserted (R66, R67, R70). A page of an absent unit has no cause latched, so it drives nothing. -/
def sourceOn (s : State) (n : Nat) : Bool :=
  let all : Word := 0xFFFFFFFF
  match n with
  | 0 => pageDrives s Reg.COX 0x0000000F
  | 1 => pageDrives s Reg.COX 0x00000010
  | 2 => pageDrives s Reg.PWR all || pageDrives s Reg.SYS all || pageDrives s Reg.PAD all
  | 3 => pageDrives s Reg.CLK all
  | 4 => pageDrives s Reg.MEM all
  | 5 => pageDrives s Reg.SKIM all
  | 6 => pageDrives s Reg.SEC all || pageDrives s Reg.OTP 0x00000004
  | 7 => pageDrives s Reg.HPT all
  | 8 => pageDrives s Reg.DMA all
  | 35 => pageDrives s Reg.BST all
  | 36 => anyPage s (Reg.ADC 0) all 12 || pageDrives s Reg.SDM all || pageDrives s Reg.ADCSEQ all
  | 37 => pageDrives s Reg.REF all
  | 38 => pageDrives s Reg.TEMP all
  | 39 => anyPage s (Reg.ENC 0) all 16
  | 40 => pageDrives s Reg.LAT all
  | 41 => pageDrives s Reg.LDL all
  | 42 => pageDrives s Reg.TSU 0x0000001F
  | 43 => pageDrives s Reg.TSU 0x00001F00
  | 44 => pageDrives s Reg.TSU 0x0F1F0000
  | 45 => pageDrives s Reg.SCH all
  | 49 => pageDrives s (Reg.MAC 0) all
  | 50 => pageDrives s (Reg.MAC 1) all
  | 51 => pageDrives s Reg.KSW 0x0000003F
  | 52 => pageDrives s Reg.KSW 0x03FF0000
  | 53 => (List.range 256).any (queueDrives s 0x00000003)
  | 54 => (List.range 256).any (queueDrives s 0x00003F00)
  | 55 => pageDrives s Reg.AON 0x0000000F
  | 56 => pageDrives s Reg.AON 0x00000F00
  | 57 => pageDrives s Reg.AON 0x000F0000
  | 58 => pageDrives s Reg.GPIO all
  | 59 => pageDrives s Reg.OTP 0x00000003
  | 60 => s.flag Reg.EVT_SOFT 0
  | 61 => s.flag Reg.EVT_SOFT 1
  | 62 => s.flag Reg.EVT_SOFT 2
  | 63 => s.flag Reg.EVT_SOFT 3
  | n =>
    if n ≤ 10 then pageDrives s (Reg.SPE (n - 9)) all
    else if n ≤ 12 then pageDrives s (Reg.LE (n - 11)) all
    else if n ≤ 28 then pageDrives s (Reg.AX (n - 13)) all || pageDrives s (Reg.PWM (n - 13)) all
    else if n ≤ 34 then pageDrives s (Reg.ACTG (n - 29)) all
    else if 46 ≤ n ∧ n ≤ 48 then pageDrives s (Reg.CAN (n - 46)) all
    else false

/-- The causes that a page class has (the cause lists of the block chapters); every other bit is reserved (R48). -/
def causeMask : PageClass → Word
  | .sys => 0x00000001 | .clk => 0x00000007 | .pwr => 0x0000000F | .pad => 0x00000100 | .gpio => 0x0000FFFF | .evt => 0
  | .temp => 0x00000007 | .ref => 0x0000003F | .cox => 0x0000001F | .cox_fmap => 0 | .mem => 0x00000007 | .skim => 0x00000007
  | .sec => 0x0000007F | .otp => 0x00000007 | .aon => 0x000F0F0F | .hpt => 0x0000007F | .dma => 0xFFFFFFFF | .chn => 0
  | .spe => 0x00000007 | .le => 0x0000000F | .ax => 0x01FF030F | .pwm => pwmCauses | .actg => 0x000003FF | .bst => 0x00000033
  | .adc => 0x00000007 | .sdm => 0x00000007 | .adcseq => 0x00000003 | .enc => 0x0000003F | .lat => 0xFFFFFFFF
  | .ldl => 0x3F3F3F3F | .tsu => 0x0F1F1F1F | .sch => 0x0000007F | .can => 0x000003FF | .ksw => 0x03FF003F
  | .mac => 0x0000001F

/-- The causes of the page at an index. -/
def pageCauses (p : Nat) : Word := match pageClass p with | some (c, _) => causeMask c | none => 0

/-- Sources that have deasserted may trigger DMA and the Ladle again at their next rising edge (R68, R464). -/
def State.srcRefresh (s : State) : State :=
  { s with pages := { s.pages with dmaSeen := s.pages.dmaSeen.filter (sourceOn s), ldlSeen := s.pages.ldlSeen.filter (sourceOn s) } }

/-- Some source routed to the destination bit `b` of EVT.ROUTEn is asserted (R68). -/
def routedOn (s : State) (b : Nat) : Bool :=
  (List.range 64).any fun n => s.flag (Reg.EVT_ROUTE n) b && sourceOn s n

/-- The level of IRQk_N: driven low while LINE_EN is 1 and a routed source is asserted (R68). -/
def irqLow (s : State) (k : Nat) : Bool := s.flag Reg.EVT_IRQ_CFG (8 + k) && routedOn s k

/-- The line is high-impedance, held high by its pull-up: while LINE_EN is 0 in either drive mode, and while nothing asserts an open-drain
line. A push-pull line that is enabled and not low is driven high (R68, R194). -/
def irqHighZ (s : State) (k : Nat) : Bool :=
  !(irqLow s k) && (!(s.flag Reg.EVT_IRQ_CFG (8 + k)) || s.flag Reg.EVT_IRQ_CFG k)

/-- A bus error is reported through the event source of the master (R41): HPT.BUS_ERROR for the host, a BUS_ERROR exception for an
SPE (R227), the ERR cause of a channel for DMA (an access that names no channel: a free choice). The debug access port has no source. -/
def State.busErrorCause (s : State) (m : Master) : State :=
  match m with
  | .host => s.cause Reg.HPT 2
  | .dma => s.drawn.cause Reg.DMA (16 + Config.freeNat s.freeCtr % 16)
  | .spe0 => { s with spes := tabPut s.spes 0 { tabGet s.spes 0 {} with busError := true } {} }
  | .spe1 => { s with spes := tabPut s.spes 1 { tabGet s.spes 1 {} with busError := true } {} }
  | .debug => s

/-- The level that reaches a ball from outside: what the board holds it at against a driver, else the last one reported, else that of its
pull (R506, R512). -/
def pinLevel (s : State) (p : Nat) : Bool :=
  match s.power.stuck.find? (fun x => x.1 == p) with
  | some x => x.2
  | none => match s.power.levels.find? (fun x => x.1 == p) with
    | some x => x.2
    | none => decide (s.fld (Reg.PAD_PADp p) 16 2 = 2)

/-- Pad index of the ball in a row and a column (R502). -/
def ballAt (row col : Nat) : Nat := 25 * (row - 1) + (col - 1)

/-- BOOT_SEL[1:0] as balls M17 and L17 stand (R200, R503, R508). -/
def bootPins (s : State) : Nat := (if pinLevel s (ballAt 12 17) then 2 else 0) + (if pinLevel s (ballAt 11 17) then 1 else 0)

/-- Masters can use the bus: the device is in ROW, PADDLE or EASY, or on its way between them, and not in reset (R87, R91). -/
def busUp (s : State) : Bool :=
  match s.power.phase with
  | .steady => decide (s.fld Reg.PWR_STATE 0 3 ≤ 2)
  | .entering _ => true
  | .waking f _ _ _ _ => decide (f = 1 ∨ f = 2)
  | .held => false

/-! ## Memory bytes (R40, R114) -/

/-- The byte at an address; an address that is not listed reads 0 (R84). -/
def memGet : List Host.Cell → Nat → Byte
  | [], _ => 0
  | c :: r, a => if c.1 = a then c.2 else memGet r a

/-- Inserts a cell before the first cell with a larger address. -/
def cellInsert (p : Host.Cell) : List Host.Cell → List Host.Cell
  | [] => [p]
  | q :: r => if p.1 < q.1 then p :: q :: r else q :: cellInsert p r

/-- The memory with one byte set, in canonical form: a byte equal to 0 is not listed. -/
def memPut (l : List Host.Cell) (a : Nat) (b : Byte) : List Host.Cell :=
  let l' := l.filter (fun c => c.1 != a)
  if b = 0 then l' else cellInsert (a, b) l'

/-- The canonical form of memory: addresses rise strictly and no cell equals what an unlisted address reads as. -/
def Memory.wf : List Host.Cell → Bool
  | [] => true
  | c :: r => decide (c.2 ≠ 0) && r.all (fun q => decide (c.1 < q.1)) && Memory.wf r

/-- A byte of memory. -/
def State.byteAt (s : State) (a : Nat) : Byte := memGet s.mem a

/-- Sets a byte of memory. -/
def State.putByte (s : State) (a : Nat) (b : Byte) : State := { s with mem := memPut s.mem a b }

/-- The stored word at an aligned address, little-endian (R40), without any check of its code. -/
def State.rawWord (s : State) (a : Nat) : Word :=
  BitVec.ofNat 32 ((s.byteAt a).toNat + 0x100 * (s.byteAt (a + 1)).toNat + 0x10000 * (s.byteAt (a + 2)).toNat
    + 0x1000000 * (s.byteAt (a + 3)).toNat)

/-- Sets the four bytes of a word, little-endian. -/
def State.putRaw (s : State) (a : Nat) (v : Word) : State :=
  (((s.putByte a (v.extractLsb' 0 8)).putByte (a + 1) (v.extractLsb' 8 8)).putByte (a + 2) (v.extractLsb' 16 8)).putByte
    (a + 3) (v.extractLsb' 24 8)

/-- The code state of a word. -/
def State.eccAt (s : State) (a : Nat) : Option EccState := tabGet (s.ecc.map fun p => (p.1, some p.2)) a none

/-- Records or clears the code state of a word. -/
def State.setEcc (s : State) (a : Nat) (e : Option EccState) : State :=
  let l' := s.ecc.filter (fun p => p.1 != a)
  { s with ecc := match e with
    | none => l'
    | some x => tabInsert (a, x) l' }

/-- Stores a full word with a valid code (R124). -/
def State.putWord (s : State) (a : Nat) (v : Word) : State := (s.putRaw a v).setEcc a none

end Sys2Proof.Machine
end

