-- ==== Sys2Proof/Machine/Wipe.lean ====
section
/-! DEFINITION. What a tamper event does while the device is powered (spec/07_security.md R144 to R150): the start of a wipe, the Skimmer
block that it discards, and the DEBUG tamper of a locked debug access port (R148). -/

namespace Sys2Proof.Machine

/-! ## The visiting order of the Skimmer (R130) -/

/-- A run of addresses that the Skimmer visits: first byte, size in bytes, enable bit of SKIM.CFG. -/
structure SkimRun where
  base : Nat
  size : Nat
  en : Nat
  deriving DecidableEq, Repr

/-- The visiting order: the MEM ID table (R114, R130). -/
def skimRuns (v : Variant) : List SkimRun :=
  [⟨0, sramKiB v * 1024, 0⟩, ⟨0x10000000, vatKiB v * 1024, 1⟩]
    ++ (List.range (enginesOf v)).flatMap (fun n =>
      let b := 0x20000000 + 0x100000 * n
      [⟨b, 0x10000, 2⟩, ⟨b + 0x10000, 0x10000, 2⟩, ⟨b + 0x50000, 0x10000, 2⟩, ⟨b + 0x20000, 0x10000, 2⟩, ⟨b + 0x60000, 0x10000, 2⟩])
    ++ (List.range (enginesOf v)).flatMap (fun n =>
      let b := 0x50000000 + 0x100000 * n
      [⟨b, 0x8000, 3⟩, ⟨b + 0x8000, 0x8000, 3⟩])
    ++ [⟨0xFC000000, 0x8000, 4⟩, ⟨0x30000000, 0x4000, 5⟩]

/-- The first enabled run from index `i` on, and its index. -/
def nextRun (s : State) (i : Nat) : Option (Nat × SkimRun) :=
  (((skimRuns s.variant).zipIdx.drop i).find? fun p => s.flag Reg.SKIM_CFG p.1.en).map fun p => (p.2, p.1)

/-- The end of a pass (R132). PASS_TIME counts whole ms and stays at its largest value (log entry 100). -/
def skimPassEnd (s : State) : State :=
  let k := s.skim
  let s1 := (((s.wrapInc Reg.SKIM_PASS_CNT).wr Reg.SKIM_PASS_TIME (wordOf (min 0xFFFF ((s.now - k.passStart) / 200000)))).cause
    Reg.SKIM 0)
  { s1 with skim := { k with memIdx := 0, block := 0, inHand := none, fresh := true, limitFrom := s.now } }

/-- The position after the block in hand (R130). A wake has put the next pass to the first block (R135). -/
def skimAdvance (s : State) : State :=
  let k := s.skim
  if k.fresh then { s with skim := { k with inHand := none } }
  else match (skimRuns s.variant)[k.memIdx]? with
  | none => s
  | some r =>
    let last := decide (r.size ≤ 64 * (k.block + 1)) || !(s.flag Reg.SKIM_CFG r.en)
    if !last then { s with skim := { k with block := k.block + 1, inHand := none } }
    else match nextRun s (k.memIdx + 1) with
      | some (i, _) => { s with skim := { k with memIdx := i, block := 0, inHand := none } }
      | none => skimPassEnd s

/-! ## Wipes (R144 to R146) -/

/-- A wipe of secure memory starts with a trigger bit of WIPE_STAT (R145, R146). -/
def beginWipe (trig : Nat) (s : State) : State :=
  let w := putBits (s.rd Reg.SEC_WIPE_STAT) 16 5 0
  { (s.wr Reg.SEC_WIPE_STAT (putBit (putBit w trig true) 31 true)) with sec := { s.sec with wipeStart := some s.now, wipeDue := none } }

/-- A wipe trigger while the device runs (R146): it joins the wipe in progress, or starts one, and a Skimmer block of secure memory that is
in hand is discarded. -/
def wipeNow (trig : Nat) (s : State) : State :=
  if s.sec.wipeStart ≠ none then (s.setFlag Reg.SEC_WIPE_STAT trig true).setFlag Reg.SEC_WIPE_STAT 20 true
  else
    let s1 := beginWipe trig s
    match s1.skim.inHand with
    | some a => if 0x30000000 ≤ a ∧ a < 0x30004000 then skimAdvance s1 else s1
    | none => s1

/-! ## The locked debug access port (R139, R148 to R150) -/

/-- The life-cycle code in force. -/
def lcState (s : State) : Nat := s.fld Reg.SEC_LC_STATE 0 3

/-- The life-cycle state whose permissions hold: SCRAPPED takes effect only at the next reset (R139, R143). -/
def lcRule (s : State) : Nat := if lcState s = 4 ∧ s.sec.scrapped = false then s.sec.lcBefore else lcState s

/-- WIPE[b] of TAMPER_CFG: 1 in DEPLOYED and RETURNED (R149). -/
def tamperWipes (s : State) (b : Nat) : Bool :=
  s.flag Reg.SEC_TAMPER_CFG b || decide (lcRule s = 2 ∨ lcRule s = 3)

/-- Backup words 32 to 63 are cleared (R150, R481). -/
def clearBackup (s : State) : State := (List.range 32).foldl (fun t k => t.wr (Reg.AON_BKP (32 + k)) 0) s

/-- The debug access port is locked: DEPLOYED without an accepted unlock, or SCRAPPED (R139). -/
def debugLocked (s : State) : Bool :=
  (decide (lcRule s = 2) && !(s.flag Reg.SEC_DBG_STAT 31)) || decide (lcRule s = 4)

/-- A transaction of the locked debug access port outside the unlock mailbox (R148): a DEBUG tamper event, which clears the backup words and,
on the rising edge of its latch bit, is reported and starts a wipe where TAMPER_CFG or the life cycle says so (R149, R150). -/
def dbgTamper (s : State) : State :=
  let s1 := clearBackup s
  if s.flag Reg.AON_TAMPER_LATCH 4 then s1
  else
    let s2 := ((s1.setFlag Reg.AON_TAMPER_LATCH 4 true).wr Reg.AON_TAMPER_RTC (wordOf (s.aon.rtc / 32768000000000))).cause Reg.SEC 1
    if tamperWipes s 4 then wipeNow 17 s2 else s2

end Sys2Proof.Machine
end

