-- ==== Sys2Proof/Machine/Access.lean ====
section
/-! DEFINITION. The rules every register write obeys before a block sees it (spec/03_pages.md): keys (R50, R51), LOCK (R52),
the lock checks (R53, R54), PAGE_CRC (R55, R56), error and absent-page records (R44, R57, R539). -/

namespace Sys2Proof.Machine

/-! ## Keys -/

/-- SYS cycles within which the second key word must come, and after which an unused opening lapses (R50). -/
def keyWindow : Nat := 64
def openingWindow : Nat := 256

/-- The key state of a page as it stands now: a sequence or an opening past its window has lapsed (R50). -/
def keyNow (s : State) (page : Nat) : KeyState :=
  match tabGet s.pages.keys page .idle with
  | .first o t => if t + keyWindow < sysCycles s then .idle else .first o t
  | .opened o t => if t + openingWindow < sysCycles s then .idle else .opened o t
  | .idle => .idle

/-- Sets the key state of a page. -/
def State.setKey (s : State) (page : Nat) (k : KeyState) : State :=
  { s with pages := { s.pages with keys := tabPut s.pages.keys page k .idle } }

/-- The master owns an opening on the page, so its next write there is opened (R50 step 3). -/
def holdsOpening (s : State) (page : Nat) (m : Master) : Bool :=
  match keyNow s page with
  | .opened o _ => decide (o = masterCode m)
  | _ => false

/-- A write of the owning master to the page consumes its opening, whatever register it targets (R50). -/
def State.consumeKey (s : State) (page : Nat) (m : Master) : State :=
  if holdsOpening s page m then s.setKey page .idle else s

/-- A write to a page's KEY register (R50, R51). -/
def keyWrite (m : Master) (page : Nat) (v : Word) (s : State) : State :=
  let c := masterCode m
  let refuse := (s.setKey page .idle).accessError (pageAddr page + 0x2C) 0x03 m
  let fresh := if v = 0x0000C0A7 then s.setKey page (.first c (sysCycles s)) else refuse
  match keyNow s page with
  | .idle => fresh
  | .first o _ => if o = c ∧ v = 0x00003F58 then s.setKey page (.opened c (sysCycles s)) else refuse
  | .opened o _ => if o = c then fresh else refuse

/-- A sequence whose second word has not come in time lapses without an error (R50). -/
def keySequenceLapse (page : Nat) (s : State) : State :=
  match tabGet s.pages.keys page .idle with
  | .first _ t => if t + keyWindow < sysCycles s then s.setKey page .idle else s
  | _ => s

/-- An opening that no write has consumed in time lapses without an error (R50). -/
def keyOpeningLapse (page : Nat) (s : State) : State :=
  match tabGet s.pages.keys page .idle with
  | .opened _ t => if t + openingWindow < sysCycles s then s.setKey page .idle else s
  | _ => s

/-! ## Locks -/

/-- CFG_LOCK of a page (R53). -/
def cfgLocked (s : State) (page : Nat) : Bool := s.flag (pageAddr page + 0x28) 0

/-- SAFE_LOCK of a page (R53). -/
def safeLocked (s : State) (page : Nat) : Bool := s.flag (pageAddr page + 0x28) 1

/-- The value of a gain register in units of 2^−39: its mantissa in Q1.23 times 2^shift (R298). -/
def gainUnits (w : Word) : Int := sbits w 0 24 * 2 ^ (sbits w 24 5 + 16).toNat

/-- A move of one safety-relevant field from `old` to `new` keeps to its safe direction (R53). -/
def safeMove (f : SafeField) (old new : Word) : Bool :=
  let o := bits old f.lo f.len
  let n := bits new f.lo f.len
  match f.dir with
  | .up => decide (o ≤ n)
  | .down => decide (n ≤ o)
  | .set => decide (o &&& n = o)
  | .clear => decide (o &&& n = n)
  | .fixed => decide (o = n)
  | .gain => decide (gainUnits new ≤ gainUnits old)

/-- Every safety-relevant field of a register moves safely (R53). -/
def safeMoves (d : RegDef) (old new : Word) : Bool := d.safe.all fun f => safeMove f old new

/-- The register is a configuration register (R55): RW, RWK or RWO and not operational; a counter cleared by a write of 0 is an RW register
(R539). -/
def isConfig (d : RegDef) : Bool :=
  match d.kind with
  | .rw | .rwk | .rwo | .cz => !d.oper
  | _ => false

/-- What a write of `v` stores in a register that holds `old`: reserved and read-only bits keep their value (R48). -/
def storeValue (d : RegDef) (old v : Word) : Word := (old &&& ~~~d.mask) ||| (v &&& d.mask)

/-- The enables of R26 that a write of `v` clears. -/
def clearedEnables (d : RegDef) (old v : Word) : Word := old &&& d.en &&& ~~~v

/-! ## PAGE_CRC (R55, R56) -/

/-- One byte through the reflected CRC-32 of IEEE 802.3. -/
def crc32Byte (crc : BitVec 32) (b : Nat) : BitVec 32 :=
  let step (c : BitVec 32) : BitVec 32 := if c.getLsbD 0 then (c >>> 1) ^^^ 0xEDB88320#32 else c >>> 1
  step (step (step (step (step (step (step (step (crc ^^^ BitVec.ofNat 32 b))))))))

/-- A word enters a CRC as four bytes, least significant first (R55). -/
def crc32Word (crc : BitVec 32) (w : Word) : BitVec 32 :=
  crc32Byte (crc32Byte (crc32Byte (crc32Byte crc (bits w 0 8)) (bits w 8 8)) (bits w 16 8)) (bits w 24 8)

/-- CRC-32 of a list of words (R55). -/
def crc32Words (ws : List Word) : BitVec 32 := ~~~(ws.foldl crc32Word 0xFFFFFFFF#32)

/-- Offsets of the configuration registers of a class: those of every table row, in ascending order (R55). -/
def configOffsets (c : PageClass) : List Nat :=
  let offs := (regTable c).flatMap fun d =>
    if isConfig d then (if d.cnt ≤ 1 then [d.off] else (List.range d.cnt).map fun k => d.off + d.stride * k) else []
  offs.mergeSort (fun a b => decide (a ≤ b))

/-- PAGE_CRC over the configuration registers of a page as they stand: the LOCK word, then the registers from offset 0x040 upward;
for CHN also the five registers of each present queue (R55, R180). -/
def pageCrc (s : State) (page : Nat) : Word :=
  match pageClass page with
  | none => 0
  | some (c, _) =>
    let own := s.rd (pageAddr page + 0x28) :: (configOffsets c).map fun o => s.rd (pageAddr page + o)
    let queues := if c = .chn then
        (List.range (queuesOf s.variant)).flatMap fun q => [0x10, 0x14, 0x18, 0x20, 0x24].map fun o => s.rd (qAddr q o)
      else []
    crc32Words (own ++ queues)

/-- A write that changes a configuration register starts a recomputation of PAGE_CRC (R56). -/
def State.crcTouch (s : State) (page : Nat) : State :=
  { s with pages := { s.pages with crcBusy := tabPut s.pages.crcBusy page true false } }

/-- The recomputation of a page's PAGE_CRC ends (R56). The value itself is no state: it is what the registers hold (R55). -/
def pageCrcUpdate (page : Nat) (s : State) : State :=
  { s with pages := { s.pages with crcBusy := tabPut s.pages.crcBusy page false false } }

/-! ## The common front of a register write -/

/-- The front of every write to a register from offset 0x040 upward: the opening is consumed, the locks are checked, then the
key; `eff` is the block's own effect of storing a value. Where a lock refuses the write, the enables it clears are cleared all
the same (R50 to R54). -/
def regWrite (d : RegDef) (a : Nat) (m : Master) (v : Word) (eff : Word → State → State) (s : State) : State :=
  let page := pageOf a
  let opened := holdsOpening s page m
  let s1 := s.consumeKey page m
  let old := s.rd a
  let new := storeValue d old v
  let kept := old &&& ~~~(clearedEnables d old v)
  let refused (num : Nat) : State :=
    let s2 := if kept = old then s1 else eff kept s1
    if kept = old ∨ kept ≠ new then s2.accessError a num m else s2
  let s3 :=
    if isConfig d && cfgLocked s page then refused 0x02
    else if safeLocked s page && !(safeMoves d old new) then refused 0x02
    else if d.kind = .rwk ∧ opened = false then s1.accessError a 0x04 m
    else eff v s1
  if isConfig d ∧ s3.rd a ≠ old then s3.crcTouch page else s3

/-- Storing the writable bits: the effect of a plain register (R9). -/
def plainStore (d : RegDef) (a : Nat) (v : Word) (s : State) : State := s.wr a (storeValue d (s.rd a) v)

/-- Clearing the bits written as 1 (R9, W1C). -/
def w1cStore (d : RegDef) (a : Nat) (v : Word) (s : State) : State := s.wr a (s.rd a &&& ~~~(v &&& d.mask))

/-- A counter field of 16 bits at bit `lo` written with `v` (R539): a 0 clears it, any other value is ignored. -/
def czField (a lo len : Nat) (v : Word) (s : State) : State := if bits v lo len = 0 then s.setFld a lo len 0 else s

/-- A write to a register of counters that clear by a write of 0 (R539): each field is decided by what is written to it. -/
def czStore (d : RegDef) (a : Nat) (v : Word) (s : State) : State :=
  if d.mask = 0xFFFFFFFF then czField a 16 16 v (czField a 0 16 v s)
  else if d.mask = 0xFFFF0000 then czField a 16 16 v s
  else czField a 0 16 v s

/-! ## The header registers that no block changes (R52, R57, R65) -/

/-- LOCK is written once after a reset; later writes are refused (R52). -/
def lockWrite (m : Master) (page : Nat) (v : Word) (s : State) : State :=
  let a := pageAddr page + 0x28
  let s1 := s.consumeKey page m
  if tabGet s.pages.lockWritten page false then s1.accessError a 0x05 m
  else
    let s2 := { s1 with pages := { s1.pages with lockWritten := tabPut s1.pages.lockWritten page true false } }
    let s3 := s2.wr a (v &&& 0x3)
    if v &&& 0x3 = 0 then s3 else s3.crcTouch page

/-- A write of 0 to ERR_CNT clears it and ERR_CODE; any other value is ignored (R57, R539). -/
def errCntWrite (m : Master) (page : Nat) (v : Word) (s : State) : State :=
  let s1 := s.consumeKey page m
  if bits v 0 16 = 0 then (s1.wr (pageAddr page + 0x24) 0).wr (pageAddr page + 0x20) 0 else s1

/-- A write to IRQ_EN of a page: the causes that may drive their sources (R66). -/
def irqEnWrite (m : Master) (page : Nat) (v : Word) (s : State) : State :=
  ((s.consumeKey page m).wr (pageAddr page + 0x14) (v &&& pageCauses page)).srcRefresh

/-- A W1C write to IRQ_STAT (R65). -/
def irqStatClear (m : Master) (page : Nat) (v : Word) (s : State) : State :=
  let a := pageAddr page + 0x18
  ((s.consumeKey page m).wr a (s.rd a &&& ~~~v)).srcRefresh

/-- A 1 written to IRQ_SET latches the cause and changes nothing else (R65). -/
def irqSet (m : Master) (page : Nat) (v : Word) (s : State) : State :=
  let a := pageAddr page + 0x18
  (s.consumeKey page m).wr a (s.rd a ||| (v &&& pageCauses page))

/-! ## SOFT events (R70) -/

/-- A 1 written to EVT.SOFT_SET sets a SOFT event. -/
def softSet (m : Master) (v : Word) (s : State) : State :=
  (s.consumeKey 0x05 m).wr Reg.EVT_SOFT (s.rd Reg.EVT_SOFT ||| (v &&& 0xF))

/-- A 1 written to EVT.SOFT clears a SOFT event. -/
def softClear (m : Master) (v : Word) (s : State) : State :=
  ((s.consumeKey 0x05 m).wr Reg.EVT_SOFT (s.rd Reg.EVT_SOFT &&& ~~~(v &&& 0xF))).srcRefresh

/-! ## Accesses that reach no register (R5, R41, R44, R47) -/

/-- The state with the answer of the last access set. -/
def State.answer (s : State) (data : Word) (error : Bool) : State :=
  { s with pages := { s.pages with answer := { data := data, error := error } } }

/-- The record of an access to an absent page, an unallocated index or an absent queue page (R44). -/
def absentRecord (m : Master) (a : Nat) (write : Bool) (s : State) : State :=
  let st := Reg.SYS_ABSENT_STAT
  let s1 := if s.flag st 31 then s else
    ((((s.wr Reg.SYS_ABSENT_ADDR (wordOf a)).setFlag st 31 true).setFlag st 28 write).setFld st 24 4 (masterCode m))
  (s1.satInc st 0).cause Reg.SYS 0

/-- An access to an absent page: it reads 0 or is ignored, is recorded, and returns a bus error to the host port while
SYS.CFG.ABSENT_BUSERR is 1 (R4, R5). -/
def absentAccess (m : Master) (a : Nat) (write : Bool) (s : State) : State :=
  let err := s.flag Reg.SYS_CFG 0 && decide (m = .host)
  let s1 := absentRecord m a write s
  (if err then s1.busErrorCause m else s1).answer 0 err

/-- A bus error to the master, reported through its own source (R41). -/
def busError (m : Master) (s : State) : State := (s.busErrorCause m).answer 0 true

/-- A narrow or misaligned access to a present register page: a bus error and ACCESS/WIDTH (R47). -/
def narrowAccess (m : Master) (a : Nat) (s : State) : State :=
  let p := pageOf a
  let s1 := if isQueuePage p then s.queueError ((p - 0x41) * 32 + (a % 0x1000) / 0x80) 1 0x01 (a % 0x80) m
    else s.accessError a 0x01 m
  busError m s1

/-- A write of 0 to SYS.ABSENT_STAT clears the count and the record; any other value is ignored (R44, R539). -/
def absentStatWrite (m : Master) (v : Word) (s : State) : State :=
  let s1 := s.consumeKey 0x00 m
  if bits v 0 16 = 0 then (s1.wr Reg.SYS_ABSENT_STAT 0).wr Reg.SYS_ABSENT_ADDR 0 else s1

/-- The debug access port may make an access (R139, R154): freely while it is open; after an accepted unlock in DEPLOYED it only reads
SPE memories and SPE registers; otherwise it makes none. An access to secure memory then goes to its slot, which does not grant it (R138).
Other masters are not concerned. -/
def debugMay (s : State) (m : Master) (a : Nat) (write : Bool) : Bool :=
  let lc := lcRule s
  decide (m ≠ .debug) || decide (lc ≠ 2 ∧ lc ≠ 4)
    || (decide (lc = 2) && s.flag Reg.SEC_DBG_STAT 31
        && ((!write && (decide (0x20000000 ≤ a ∧ a < 0x20200000) || decide (0x40050000 ≤ a ∧ a < 0x40052000)))
            || decide (0x30000000 ≤ a ∧ a < 0x30004000)))

/-- The debug access port counts as attached from its first command on (R64, log entry 31). -/
def State.attach (s : State) (m : Master) : State :=
  if m = .debug then { s with pages := { s.pages with debugAttached := true } } else s

/-- A command of a master at an address: nothing happens while no master can use the bus, or where the debug access port may not; an attempt
of the locked port is a tamper event (R148). -/
def mastered (m : Master) (a : Nat) (write : Bool) (f : State → State) (s : State) : State :=
  if busUp s && debugMay s m a write then f (s.attach m)
  else if busUp s && decide (m = .debug) && debugLocked s then dbgTamper s
  else s

/-- A register command of a master at an address: an absent page answers as R5 says; otherwise the register's own rules apply. -/
def regRow (m : Master) (a : Nat) (f : State → State) (s : State) : State :=
  mastered m a true (fun s => if s.hasPage (pageOf a) then f s else absentAccess m a true s) s

/-- FREEZE may be set, and holds: DEVELOP with the debug access port attached (R64, R139). -/
def freezeOk (s : State) : Bool := decide (lcRule s = 1) && s.pages.debugAttached

/-- The block of a page is frozen (R64): a FREEZE set in DEVELOP holds nothing once the device has left it. -/
def frozen (s : State) (page : Nat) : Bool := s.flag (pageAddr page + 0x008) 2 && freezeOk s

/-- An event of a block: a frozen block does not advance its state (R64). -/
def live (page : Nat) (f : State → State) (s : State) : State := if frozen s page then s else f s

/-- The table row of a register by class and offset, with a fallback that stores nothing. -/
def defOf (c : PageClass) (off : Nat) : RegDef :=
  match findReg c off with
  | some (d, _) => d
  | none => ⟨off, 0, 1, .ro, 0, 0, true, [], 0⟩

/-- A write to a register that no block rule treats apart, by its access type (R9): an absent feature ignores it, and reports the
setting of an enable of it (R6); RO and WO registers of no action ignore it. -/
def genericWrite (c : PageClass) (d : RegDef) (a : Nat) (m : Master) (v : Word) (s : State) : State :=
  if featureAbsent s.variant c (a % 0x1000) then
    let s1 := s.consumeKey (pageOf a) m
    if v &&& featureEnables c d ≠ 0 then s1.controlError a 0x02 m else s1
  else match d.kind with
    | .rw | .rwk | .rwo => regWrite d a m v (plainStore d a) s
    | .w1c => regWrite d a m v (w1cStore d a) s
    | .cz => regWrite d a m v (czStore d a) s
    | .w1s => regWrite d a m v (fun v s => s.wr a (s.rd a ||| (v &&& d.mask))) s
    | .ro | .wo => s.consumeKey (pageOf a) m

/-- A write that is stored when the value it would leave is legal, and refused as a whole with a BLOCK error otherwise. -/
def checkedWrite (d : RegDef) (a num : Nat) (m : Master) (v : Word) (legal : Word → Bool) (s : State) : State :=
  regWrite d a m v
    (fun v s =>
      let n := storeValue d (s.rd a) v
      if legal n then s.wr a n else s.blockError a num m) s

/-- A write to a register that its block refuses with BLOCK/RUNNING while `running`: the clearing of an enable acts, and only the
other fields are refused (R54). -/
def runningWrite (d : RegDef) (a num : Nat) (m : Master) (v : Word) (running : Bool) (clear eff : Word → State → State)
    (s : State) : State :=
  regWrite d a m v
    (fun v s =>
      if running then
        let old := s.rd a
        let kept := old &&& ~~~(clearedEnables d old v)
        let s1 := if kept = old then s else clear kept s
        if kept = old ∨ kept ≠ storeValue d old v then s1.blockError a num m else s1
      else eff v s) s

end Sys2Proof.Machine
end

