-- ==== Sys2Proof/Machine/LdlBase.lean ====
section
/-! DEFINITION. What other blocks do to the captures of the Ladle (spec/22_ladle.md): the sample instants that they give, the step of implement
time that closes a window, and the event sources that they watch. -/

namespace Sys2Proof.Machine

/-- A capture beyond its registers. -/
def cap (s : State) (c : Nat) : LdlCap := tabGet s.ldl.caps c {}
def State.setCap (s : State) (c : Nat) (x : LdlCap) : State := { s with ldl := { s.ldl with caps := tabPut s.ldl.caps c x {} } }

/-- The Ladle runs: present, enabled, in ROW (R470). -/
def ldlOn (s : State) : Bool :=
  busUp s && s.hasPage 0xD8 && s.flag (Reg.LDL + 0x008) 0 && !(frozen s 0xD8) && decide (s.fld Reg.PWR_STATE 0 3 = 0)

/-! ## Configuration of a capture (R458, R459) -/

/-- The enabled probes of a capture, in ascending index. -/
def capProbes (s : State) (c : Nat) : List Nat :=
  (List.range (probesOf s.variant)).filter fun k => s.flag (Reg.LDL_PRB k) 31 && decide (s.fld (Reg.LDL_PRB k) 28 2 = c)

/-- Output words of a probe's window, and of a capture's (R458). -/
def probeWords (s : State) (k : Nat) : Nat :=
  max 1 ((List.range 4).filter fun b => s.flag (Reg.LDL_PRB k) (16 + b)).length
def windowWords (s : State) (c : Nat) : Nat := (capProbes s c).foldl (fun n k => n + probeWords s k) 0

/-- W, PRE, POST, ring length, sample source. -/
def capW (s : State) (c : Nat) : Nat := s.fld (Reg.LDL_WINDOW c) 0 16 + 1
def capPre (s : State) (c : Nat) : Nat := if s.fld (Reg.LDL_CFG c) 28 2 = 2 then 0 else s.fld (Reg.LDL_PRE c) 0 16
def capPost (s : State) (c : Nat) : Nat := s.fld (Reg.LDL_POST c) 0 16
def ringWords (s : State) (c : Nat) : Nat := s.fld (Reg.LDL_HIST_WORDS c) 0 20
def byPeriod (s : State) (c : Nat) : Bool := decide (s.fld (Reg.LDL_SCLK c) 30 2 = 0)
def streams (s : State) (c : Nat) : Bool := decide (s.fld (Reg.LDL_CFG c) 28 2 = 2)

/-- Sample period and window length in ns of implement time under PERIOD. -/
def gridNs (s : State) (c : Nat) : Nat := 5 * s.fld (Reg.LDL_PERIOD c) 0 24
def windowNs (s : State) (c : Nat) : Nat := gridNs s c * capW s c

/-- The source that a capture's TRIG selects. -/
def trigSource (s : State) (c : Nat) : Nat := s.fld (Reg.LDL_TRIG c) 28 4

/-! ## Windows that close (R460 to R462) -/

/-- Causes of capture `c`: ARMED 0, FIRED 1, DONE 2, OVERFLOW 3, PRE_ARM 4, LOST 5. -/
def capCause (c k : Nat) (s : State) : State := s.cause Reg.LDL (8 * c + k)

/-- The open record still needs a window of this number: back-to-back records need every one, and while window 0 is not known it is none of
those that have started (R466, R469). -/
def recNeeds (s : State) (c num : Nat) : Bool :=
  match (cap s c).record with
  | some r =>
    decide (r.next ≤ num) && (streams s c || match r.zero with
      | some z => decide ((num : Int) < z + capPost s c)
      | none => decide ((cap s c).nextNum ≤ num + capPre s c))
  | none => false

/-- Window `num` is lost: at the full FIFO, or (`gone`) because it would be overwritten before it is pushed (R462). -/
def windowLost (c num : Nat) (gone : Bool) (s : State) : State :=
  let s1 := capCause c 3 (s.satInc (Reg.LDL_LOST_CNT c) 0)
  let x := cap s1 c
  s1.setCap c (if gone then { x with gone := num :: x.gone.take 65535 } else { x with lost := num :: x.lost.take 65535 })

/-- Output words of a probe for a window of `n` samples (R460). -/
def probeOut (s : State) (k n : Nat) (a : LdlAcc) : List Word :=
  let red := s.fld (Reg.LDL_PRB k) 16 4
  if red = 0 then [wordOfInt a.first]
  else (if red % 2 = 1 then [wordOfInt a.least] else []) ++ (if red / 2 % 2 = 1 then [wordOfInt a.most] else [])
    ++ (if red / 4 % 2 = 1 then [wordOfInt (convergent ((a.sum : Rat) / (n : Rat)))] else [])
    ++ (if red / 8 % 2 = 1 then [wordOf (a.squares / (n * 32768))] else [])

/-- The window in progress closes with the samples it holds; its outputs enter the FIFO, or are lost where it has no room for them. Of a window
of more than 64 words the rest follows into a FIFO that stood empty (log entry 132). -/
def closeWindow (c : Nat) (stepped : Bool) (s : State) : State :=
  let x := cap s c
  match x.win with
  | none => s
  | some w =>
    let outs := (capProbes s c).flatMap fun k => match x.acc.find? fun p => p.1 == k with
      | some p => probeOut s k x.samples p.2
      | none => []
    let y := { x with win := none, samples := 0, acc := [] }
    if x.fifo ≠ [] ∧ 64 < x.fifo.length + outs.length then windowLost c w.num false (s.setCap c y)
    else
      let all := y.fifo ++ y.coming ++ outs
      s.setCap c { y with wins := y.wins ++ [{ w with place := x.written + x.fifo.length + x.coming.length, len := outs.length, stepped := stepped }],
                          fifo := all.take 64, coming := all.drop 64 }

/-- Implement time steps (R461): it closes each window in progress under PERIOD; that of a frozen page closes at its next sample. -/
def ldlStepped (s : State) : State :=
  (List.range 4).foldl (fun t c =>
    if byPeriod t c && (cap t c).win.isSome then
      if frozen t 0xD8 then t.setCap c { cap t c with stepped := true } else closeWindow c true t
    else t) s

/-! ## Sample instants from other blocks (R459) -/

/-- Extra compare `k` of PWM `n` fires (source 1), or Loop Engine `n` is triggered (source 2), at root instant `t`: a sample instant of the
captures that select it. Instants of the last 100 µs wait for their sample. -/
def ldlDue (src n k : Nat) (t : Int) (s : State) : State :=
  if ldlOn s then
    (List.range 4).foldl (fun u c =>
      let x := cap u c
      let a := Reg.LDL_SCLK c
      if x.st ≠ 0 ∧ u.fld a 30 2 = src ∧ u.fld a 24 4 = n ∧ (src = 2 ∨ u.fld a 20 2 = k) then
        u.setCap c { x with due := (x.due.filter fun d => decide (rootNow s ≤ d + 80000)) ++ [t] }
      else u) s
  else s

/-! ## Event sources (R464) -/

/-- The event source of a capture. -/
def trigEvent (s : State) (c : Nat) : Nat := s.fld (Reg.LDL_TRIG c) 8 6

/-- The rising edge that a capture has not acted on: one in the present TICK, or the one noted. -/
def eventEdge (s : State) (c : Nat) : Option Nat :=
  if sourceOn s (trigEvent s c) && !(s.pages.ldlSeen.contains (trigEvent s c)) && ldlOn s then some s.now else (cap s c).evAt

/-- The captures with an EVENT trigger look at their sources: the edges of the present TICK are noted. -/
def eventsLook (s : State) : State :=
  let cs := (List.range 4).filter fun c => trigSource s c = 2
  let s1 := cs.foldl (fun t c => t.setCap c { cap t c with evAt := eventEdge s c }) s
  { s1 with pages := { s1.pages with ldlSeen := (cs.map (trigEvent s)).filter (sourceOn s) } }

end Sys2Proof.Machine
end

