-- ==== Sys2Proof/Machine/Tsu.lean ====
section
/-! DEFINITION. Lanes A and B: the time unit (spec/18_time.md): TICK, lanes, implement time, agreement, snapshots, PPS, alarms and
time pins. -/

namespace Sys2Proof.Machine

/-- Units of a lane time in one ns: 2³² × 10⁶ (log entry 10). -/
def laneUnit : Nat := 4294967296000000

/-- Lane A (0) or B (1). -/
def laneOf (s : State) (x : Nat) : Lane := if x = 0 then s.tsu.a else s.tsu.b

/-- Sets lane A or B. -/
def State.setLane (s : State) (x : Nat) (l : Lane) : State :=
  { s with tsu := if x = 0 then { s.tsu with a := l } else { s.tsu with b := l } }

/-- State code of a lane (R381). -/
def laneState (s : State) (x : Nat) : Nat := s.fld (Reg.TSU_L_STAT x) 0 4

/-- TRACK and HOLDOVER are valid (R381). -/
def laneValid (s : State) (x : Nat) : Bool := decide (laneState s x = 3 ∨ laneState s x = 4)

/-- A lane's time in whole ns (R377). -/
def Lane.ns (l : Lane) : Nat := l.time / laneUnit

/-- The selected lane (R386). -/
def selLane (s : State) : Nat := s.fld Reg.TSU_SEL_CFG 0 1

/-- Implement time: the selected lane plus BRIDGE, in ns modulo 2⁶⁴ (R385). -/
def implementTime (s : State) : Nat :=
  (((((laneOf s (selLane s)).time : Int) + s.tsu.bridge) / laneUnit) % (2 ^ 64 : Nat)).toNat

/-- TIME_OK (R388). -/
def timeOk (s : State) : Bool := s.flag Reg.TSU_SEL_STAT 31

/-- Exactly one lane is valid, it is the selected one, and SINGLE_OK permits it (R389). -/
def timeSingle (s : State) : Bool :=
  s.flag Reg.TSU_SINGLE_OK 0 && (laneValid s 0 != laneValid s 1) && laneValid s (selLane s)

/-- The instantaneous rate of a lane in units per TICK, its slew apart (R377, R382). -/
def Lane.rate (l : Lane) (st : Nat) : Nat := if st = 0 then 0 else if st = 4 then l.hoIncr * 1000000 else l.incr * 1000000

/-- What a slew of `left` moves in one TICK at `ppm` (R379, R386). -/
def slewStep (ppm ticks : Nat) (left : Int) : Int :=
  let most : Int := 5 * ppm * 4294967296 * ticks
  clampI (-most) most left

/-- The part of a slew of `left` that has passed `d` root periods after its begin, at most `most` per TICK; before the begin, none. -/
def slewed (most : Nat) (left : Int) (d : Int) : Int :=
  let m : Int := most * max 0 d / 4
  clampI (-m) m left

/-- The time of a course `d` root periods after its begin. -/
def LaneCourse.at (l : LaneCourse) (d : Int) : Int := l.time + l.rate * d / 4 + slewed l.most l.left d

/-- The course some TICKs on, where nothing has changed it. -/
def LaneCourse.after (l : LaneCourse) (ticks : Nat) : LaneCourse :=
  { l with time := (l.at (4 * ticks)).toNat, left := l.left - slewed l.most l.left (4 * ticks) }

/-- The course of time some TICKs on, where nothing has changed it. -/
def TimeCourse.after (c : TimeCourse) (ticks : Nat) : TimeCourse :=
  { c with from_ := c.from_ + ticks, a := c.a.after ticks, b := c.b.after ticks, bridge := c.bridge - slewed c.most c.bridge (4 * ticks) }

/-- The present course of a lane: a staged INCR counts, and a frozen or disabled lane stands. -/
def laneCourse (s : State) (x : Nat) : LaneCourse :=
  let l := laneOf s x
  let st := if frozen s 0xE0 then 0 else laneState s x
  { time := l.time, rate := { l with incr := l.incrNext.getD l.incr }.rate st
    most := if st = 0 then 0 else 5 * s.fld (Reg.TSU_L_SLEW_MAX x) 0 16 * 4294967296, left := l.left }

/-- The present course of time, with the TICK from which it holds. -/
def courseNow (s : State) (from_ : Nat) : TimeCourse :=
  { from_ := from_, a := laneCourse s 0, b := laneCourse s 1, bridge := s.tsu.bridge
    most := if frozen s 0xE0 then 0 else 5 * s.fld Reg.TSU_BRIDGE_SLEW 0 16 * 4294967296, sel := selLane s }

/-- The newest course that had begun at an instant in root periods; before all of them, the oldest. -/
def courseAt (t : Int) (c : TimeCourse) : List TimeCourse → TimeCourse
  | [] => c
  | p :: r => if (c.from_ : Int) * 4 ≤ t then c else courseAt t p r

/-- The courses up to the first that had begun by a TICK. -/
def recentCourses (since : Int) : List TimeCourse → List TimeCourse
  | [] => []
  | c :: r => if (c.from_ : Int) ≤ since then [c] else c :: recentCourses since r

/-- A TICK ends at which the present course began to hold: it is noted where the newest noted one does not lead to it. -/
def noteCourse (from_ : Nat) (s : State) : State :=
  let c := courseNow s from_
  let known := match s.tsu.courses with
    | p :: _ => decide (p.after (from_ - p.from_) = c)
    | [] => false
  if known then s
  else { s with tsu := { s.tsu with courses := c :: recentCourses ((from_ : Int) - 200000000) s.tsu.courses } }

/-- Root time, implement time and both lanes at an instant `d` root periods (1.25 ns) before now, in the order TICK, IT, A, B (R393,
R343): what they were there, whatever has changed since. -/
def timesBefore (s : State) (d : Int) : Nat × Nat × Nat × Nat :=
  let t : Int := (s.now : Int) * 4 - d
  let c := courseAt t (courseNow s s.now) s.tsu.courses
  let e : Int := t - c.from_ * 4
  let it : Int := ((if c.sel = 0 then c.a else c.b).at e + (c.bridge - slewed c.most c.bridge e)) / laneUnit
  ((t / 4).toNat, (it % (2 ^ 64 : Nat)).toNat, (c.a.at e / laneUnit).toNat, (c.b.at e / laneUnit).toNat)

/-! ## The passing of TICKs (R76, R377 to R379, R386) -/

/-- One lane over a step of `ticks` TICKs: its rate, its slew share, and a staged INCR that comes into force. -/
def Lane.advance (l : Lane) (st ppm ticks : Nat) : Lane :=
  let l1 := match l.incrNext with
    | none => l
    | some i => { l with incr := i, incrNext := none }
  if st = 0 then l1
  else
    let d := slewStep ppm ticks l1.left
    { l1 with time := (((l1.time + l1.rate st * ticks : Nat) : Int) + d).toNat, left := l1.left - d }

/-- The time unit over a step of `ticks` TICKs, which ends now. -/
def tsuAdvance (ticks : Nat) (s0 : State) : State :=
  let s := noteCourse (s0.now - ticks) s0
  let lane (x : Nat) : Lane := (laneOf s x).advance (laneState s x) (s.fld (Reg.TSU_L_SLEW_MAX x) 0 16) ticks
  let d := slewStep (s.fld Reg.TSU_BRIDGE_SLEW 0 16) ticks s.tsu.bridge
  live 0xE0 (fun s => { s with tsu := { s.tsu with a := lane 0, b := lane 1, bridge := s.tsu.bridge - d } }) s

/-! ## Lane states (R381 to R383) -/

/-- First cause bit of a lane: 0 for A, 8 for B. -/
def laneBit (x : Nat) : Nat := 8 * x

/-- A change of a lane's state latches its causes (R381); a selected lane that is no longer valid ends what an automatic change holds
(R387). -/
def State.laneTo (s0 : State) (x st : Nat) : State :=
  if laneState s0 x = st then s0
  else
    let s := if selLane s0 = x ∧ st ≠ 3 ∧ st ≠ 4 then { s0 with tsu := { s0.tsu with autoKept := false } } else s0
    let s1 := (s.setFld (Reg.TSU_L_STAT x) 0 4 st).cause Reg.TSU (laneBit x)
    let s2 := s1.causeIf (decide (st = 4)) Reg.TSU (laneBit x + 1)
    s2.causeIf (decide (st = 5)) Reg.TSU (laneBit x + 2)

/-- A lane follows its enable and the enable of the TSU (R381, R383): enabling resumes from the frozen value in FREE. -/
def laneRefresh (x : Nat) (s : State) : State :=
  let on := s.flag (Reg.TSU_L_CFG x) 31 && s.flag (Reg.TSU + 0x008) 0
  if on && decide (laneState s x = 0) then
    (s.setLane x { laneOf s x with hist := [], run := 0, fed := s.now }).laneTo x 1
  else if !on && decide (laneState s x ≠ 0) then s.laneTo x 0
  else s

/-- The mean of the INCR values of the last corrections, or the INCR in force when none has come (R382). The spec states no rounding to
the 2⁻³² ns of `x_HO_INCR`: a mean between two of its values is one of the two, by a free value. -/
def laneMean (s : State) (l : Lane) : Int × State :=
  if l.hist = [] then (l.incr, s) else s.narrow ((l.hist.foldl (· + ·) 0 : Nat) / (l.hist.length : Nat) : Rat)

/-- A correction: a write of the measured offset to x_ADJ (R379, R381). A DISABLED lane stays so, and slews once it is enabled. -/
def correction (x : Nat) (o : Int) (s : State) : State :=
  let st := laneState s x
  let l := laneOf s x
  let th := s.fld (Reg.TSU_L_TRACK x) 16 16
  let n := max 1 (s.fld (Reg.TSU_L_TRACK x) 0 8)
  let far := decide (th < o.natAbs)
  let run := if st = 2 then (if far then 0 else l.run + 1) else if st = 3 then (if far then l.run + 1 else 0) else 0
  let nxt :=
    if st = 0 then 0
    else if st = 1 ∨ st = 5 then 2
    else if st = 4 then (if far then 2 else 3)
    else if st = 2 then (if n ≤ run then 3 else 2)
    else if n ≤ run then 2 else 3
  let l1 := { l with left := -o * laneUnit, hist := (l.incr :: l.hist).take 16, lastAbs := o.natAbs, fed := s.now,
                     run := if nxt = st then run else 0 }
  let s1 := (s.setLane x l1).wrapInc (Reg.TSU_L_CORR_CNT x)
  let s2 := if st = 3 ∧ far then (s1.satInc (Reg.TSU_L_OUTLIERS x) 0).cause Reg.TSU (laneBit x + 4) else s1
  s2.laneTo x nxt

/-- No correction for FEED_TIMEOUT: ACQUIRE returns to FREE, TRACK enters HOLDOVER at the mean rate (R381, R382). -/
def feedTimeout (x : Nat) (s : State) : State :=
  let st := laneState s x
  let l := laneOf s x
  if l.fed + s.fld (Reg.TSU_L_FEED x) 16 16 * 200000 ≤ s.now then
    if st = 2 then s.laneTo x 1
    else if st = 3 then
      let p := laneMean s l
      let h := p.1.toNat
      let s1 := p.2.setLane x { l with hoSince := s.now, hoIncr := h, run := 0 }
      ((s1.wr (Reg.TSU_L_HO_INCR_LO x) (wordOf h)).wr (Reg.TSU_L_HO_INCR_HI x) (hiWord h)).laneTo x 4
    else s
  else s

/-- ERR_EST in ns (R382). -/
def errEst (s : State) (x : Nat) : Nat :=
  let l := laneOf s x
  if laneState s x = 4 then l.lastAbs + s.fld (Reg.TSU_L_BUDGET x) 16 16 * (s.now - l.hoSince) / 200000000 else l.lastAbs

/-- HOLDOVER has lasted HOLDOVER_LIMIT (R381). -/
def holdoverLimit (x : Nat) (s : State) : State :=
  if laneState s x = 4 ∧ (laneOf s x).hoSince + s.fld (Reg.TSU_L_FEED x) 0 16 * 200000000 ≤ s.now then s.laneTo x 5 else s

/-- ERR_EST exceeds ERR_BUDGET in HOLDOVER (R381): compared before its fraction of a ns is dropped. -/
def errBudgetExceeded (x : Nat) (s : State) : State :=
  let l := laneOf s x
  if laneState s x = 4 ∧ s.fld (Reg.TSU_L_BUDGET x) 0 16 * 10 * 200000000
      < l.lastAbs * 200000000 + s.fld (Reg.TSU_L_BUDGET x) 16 16 * (s.now - l.hoSince) then s.laneTo x 5 else s

/-! ## Register writes -/

/-- The INCR of a lane is inside ±1000 ppm of 5 ns (R378). -/
def incrLegal (i : Nat) : Bool := decide (4995 * 4294967296 ≤ i * 1000) && decide (i * 1000 ≤ 5005 * 4294967296)

/-- A write to x_INCR_HI moves the staged fraction and the integer part into force at the next TICK (R378). -/
def incrCommitWrite (m : Master) (x : Nat) (v : Word) (s : State) : State :=
  let a := Reg.TSU_L_INCR_HI x
  regWrite (defOf .tsu 0x21C) a m v
    (fun v s =>
      let i := bits v 0 8 * 4294967296 + (s.rd (Reg.TSU_L_INCR_LO x)).toNat
      if incrLegal i then (s.wr a (v &&& 0xFF)).setLane x { laneOf s x with incrNext := some i }
      else s.blockError a 0x01 m) s

/-- A write to x_ADJ (R379). -/
def laneAdjWrite (m : Master) (x : Nat) (v : Word) (s : State) : State :=
  correction x (sbits v 0 32) (s.consumeKey 0xE0 m)

/-- The time a lane shows after a step; where the sum would be below zero the spec states no time, and a free value stands for it. -/
def steppedTime (s : State) (t : Int) : Nat := if 0 ≤ t then t.toNat else Config.freeNat s.freeCtr

/-- The calendar over a step of implement time (R401, R403): an entry that a forward step passes is late; one whose fire time is ahead of
the new time waits for it. -/
def calStepped (old new : Nat) (cal : List CalEntry) : List CalEntry :=
  cal.map fun e => { e with late := decide (e.fire ≤ new) && (e.late || decide (old < e.fire)) }

/-- A write to x_STEP_CMD (R380). -/
def laneStepWrite (m : Master) (x : Nat) (v : Word) (s : State) : State :=
  let a := Reg.TSU_L_STEP_CMD x
  let opened := holdsOpening s 0xE0 m
  let s1 := s.consumeKey 0xE0 m
  if bit v 0 then
    let st := laneState s x
    if st = 1 ∨ st = 2 ∨ ((st = 3 ∨ st = 4) ∧ bit v 1 ∧ opened) then
      let d := signed 64 (s.rd64 (Reg.TSU_L_STEP_LO x))
      let l := laneOf s x
      let t : Int := (l.time : Int) + d * laneUnit
      let s2 := if t < 0 then s1.drawn else s1
      let s3 := (s2.setLane x { l with time := steppedTime s t, left := 0 }).cause Reg.TSU (laneBit x + 3)
      if selLane s = x then ldlStepped
        { s3 with tsu := { s3.tsu with ppsFrom := min s3.tsu.ppsFrom (implementTime s3 / 1000000000) }
                  sch := { s3.sch with cal := calStepped (implementTime s) (implementTime s3) s3.sch.cal } }
      else s3
    else s1.blockError a 0x02 m
  else s1

/-- The selection changes: BRIDGE takes old lane − new lane, so implement time does not step (R386). -/
def selectLane (x : Nat) (s : State) : State :=
  if selLane s = x then s
  else
    let d : Int := ((laneOf s (selLane s)).time : Int) - ((laneOf s x).time : Int)
    let s1 := (s.setFld Reg.TSU_SEL_CFG 0 1 x).cause Reg.TSU 18
    { s1 with tsu := { s1.tsu with bridge := s1.tsu.bridge + d, bridging := true, autoKept := false } }

/-- A write to SEL_CFG (R386). -/
def selCfgWrite (m : Master) (v : Word) (s : State) : State :=
  let a := Reg.TSU_SEL_CFG
  regWrite (defOf .tsu 0x050) a m v
    (fun v s => selectLane (bits v 0 1) ({ s with tsu := { s.tsu with selWrote := some s.now } }.setFlag a 8 (bit v 8))) s

/-- With AUTO set, the TSU leaves a selected lane that is worse than the other (R387); one that an automatic change selected it leaves only once
that lane is not valid. A write to SEL in the same cycle wins. -/
def autoSelect (s : State) : State :=
  let x := selLane s
  let y := 1 - x
  if s.tsu.selWrote ≠ some s.now ∧ s.flag Reg.TSU_SEL_CFG 8 && ((decide (laneState s x = 4) && decide (laneState s y = 3) && !s.tsu.autoKept)
      || (!(laneValid s x) && laneValid s y)) then
    let s1 := (selectLane y s).crcTouch 0xE0
    { s1 with tsu := { s1.tsu with autoKept := true } }
  else s

/-- BRIDGE has reached 0 (R386). -/
def bridgeDone (s : State) : State :=
  if s.tsu.bridging && decide (s.tsu.bridge = 0) then
    { (s.cause Reg.TSU 19) with tsu := { s.tsu with bridging := false } }
  else s

/-- The conditions of TIME_OK at a comparison (R388, R389). -/
def timeConditions (s : State) : Bool :=
  let d : Int := ((laneOf s 0).ns : Int) - (laneOf s 1).ns
  s.flag (Reg.TSU + 0x008) 0 &&
    (if laneValid s 0 && laneValid s 1 then decide (d.natAbs ≤ s.fld Reg.TSU_AGREE_WINDOW 0 24) else timeSingle s)

/-- The comparison of the lanes, every 1 µs (R388). -/
def agreeCheck (s : State) : State :=
  let d : Int := ((laneOf s 0).ns : Int) - (laneOf s 1).ns
  let s1 := (s.publish 0x1A8 (s.sfld Reg.TSU_AB_DIFF 0 32)).wr Reg.TSU_AB_DIFF (wordOfInt (clampI (-2147483647) 2147483647 d))
  if timeConditions s then
    { s1 with tsu := { s1.tsu with okSince := some (s1.tsu.okSince.getD s.now) } }
  else
    let s2 := { s1 with tsu := { s1.tsu with okSince := none } }
    if timeOk s then (s2.setFlag Reg.TSU_SEL_STAT 31 false).cause Reg.TSU 16 else s2

/-- TIME_OK rises once its conditions have held for OK_HOLD (R388). -/
def timeOkRise (s : State) : State :=
  match s.tsu.okSince with
  | some t =>
    if !(timeOk s) && timeConditions s && decide (t + s.fld Reg.TSU_OK_HOLD 0 16 * 200000 ≤ s.now) then
      (s.setFlag Reg.TSU_SEL_STAT 31 true).cause Reg.TSU 17
    else s
  | none => s

/-- Seconds and nanoseconds of a lane (R377). -/
def Lane.sec (l : Lane) : Nat := l.ns / 1000000000 % 2 ^ 48

/-- A write of 1 to SNAP captures TICK, IT, both lanes and their states at one instant (R391). -/
def snapWrite (m : Master) (v : Word) (s : State) : State :=
  let s1 := s.consumeKey 0xE0 m
  if bit v 0 then
    let it := implementTime s
    let la := laneOf s 0
    let lb := laneOf s 1
    let s2 := (s1.wr64 (Reg.TSU_S_REG 0) s.now).wr64 (Reg.TSU_S_REG 2) it
    let s3 := (s2.wr64 (Reg.TSU_S_REG 4) la.sec).wr (Reg.TSU_S_REG 6) (wordOf (la.ns % 1000000000))
    let s4 := (s3.wr64 (Reg.TSU_S_REG 7) lb.sec).wr (Reg.TSU_S_REG 9) (wordOf (lb.ns % 1000000000))
    s4.wr Reg.TSU_SNAP_STAT (BitVec.ofNat 32 (0x80000000 + laneState s 1 * 16 + laneState s 0))
  else s1

/-- A write to x_CFG (R383, R384): both lanes may not take one domain while both are enabled; port 1 is an absent feature of the
AQ-1620. -/
def laneCfgWrite (m : Master) (x : Nat) (v : Word) (s : State) : State :=
  let a := Reg.TSU_L_CFG x
  let d := defOf .tsu 0x200
  regWrite d a m v
    (fun v s =>
      let noPort1 := decide (portsOf s.variant = 1) && bit v 9
      let v1 := if noPort1 then v &&& ~~~0x00000200#32 else v
      let n := storeValue d (s.rd a) v1
      let other := s.rd (Reg.TSU_L_CFG (1 - x))
      if bit n 31 && bit other 31 && decide (bits n 16 8 = bits other 16 8) then s.blockError a 0x03 m
      else
        let s1 := laneRefresh x (s.wr a n)
        if noPort1 then s1.controlError a 0x02 m else s1) s

/-! ## PPS, alarms and time pins (R392 to R394) -/

/-- Whole seconds of implement time. -/
def itSecond (s : State) : Nat := implementTime s / 1000000000

/-- A write to PPS_OUT_CFG; seconds that implement time reaches from the enable on are pulsed (R392). -/
def ppsOutCfgWrite (m : Master) (v : Word) (s : State) : State :=
  let a := Reg.TSU_PPS_OUT_CFG
  let d := defOf .tsu 0x0B0
  regWrite d a m v
    (fun v s =>
      let n := storeValue d (s.rd a) v
      if bit n 31 && (decide (bits n 0 20 = 0) || decide (500000 < bits n 0 20)) then s.blockError a 0x01 m
      else
        let rise := bit n 31 && !(s.flag a 31)
        let s1 := s.wr a n
        if rise then { s1 with tsu := { s1.tsu with ppsFrom := itSecond s } } else s1) s

/-- Implement time has reached a whole second above the last one pulsed: PPS_OUT rises (R392). -/
def ppsOutPulse (s : State) : State :=
  if s.flag Reg.TSU_PPS_OUT_CFG 31 && decide (max s.tsu.ppsLast s.tsu.ppsFrom < itSecond s) then
    { s with tsu := { s.tsu with ppsLast := itSecond s, ppsEnd := some (s.now + s.fld Reg.TSU_PPS_OUT_CFG 0 20 * 200) } }
  else s

/-- PPS_OUT falls after WIDTH (R392). -/
def ppsOutEnd (s : State) : State :=
  match s.tsu.ppsEnd with
  | some t => if t ≤ s.now then { s with tsu := { s.tsu with ppsEnd := none } } else s
  | none => s

/-- A PER_CLK sample in root periods: 10 ns in ROW and PADDLE, 40 ns in EASY (R74, R87). -/
def perSample (s : State) : Int := if s.fld Reg.PWR_STATE 0 3 = 2 then 32 else 8

/-- An edge of PPS_IN whose transition reached the ball `back` root periods ago: it passes the filter of FILT samples, and is captured where
EDGE selects it (R342, R393). -/
def ppsInEdge (rising : Bool) (back : Nat) (s0 : State) : State :=
  let cfg := s0.rd Reg.TSU_PPS_IN_CFG
  let at_ : Int := 4 * (s0.now : Int) - back
  let passes := match s0.tsu.ppsAt with
    | some p => decide ((bits cfg 16 5 : Nat) * perSample s0 ≤ at_ - p)
    | none => true
  if s0.tsu.ppsLevel = rising ∨ passes = false then s0
  else
  let s := { s0 with tsu := { s0.tsu with ppsLevel := rising, ppsAt := some at_ } }
  if bit cfg 31 && (decide (bits cfg 28 2 = 0) == rising) then
    let t := timesBefore s ((back : Int) + sbits cfg 0 8)
    let s1 := ((s.wr (Reg.TSU_PIN_REG 0) (wordOf t.1)).wr64 (Reg.TSU_PIN_REG 1) t.2.1).wr (Reg.TSU_PIN_REG 3)
      (wordOf (t.2.2.1 % 1000000000))
    let s2 := (s1.wr (Reg.TSU_PIN_REG 4) (wordOf (t.2.2.2 % 1000000000))).cause Reg.TSU 20
    let s3 := if s.tsu.pinUnread then s2.satInc Reg.TSU_PIN_OVR 0 else s2
    { s3 with tsu := { s3.tsu with pinUnread := true } }
  else s

/-- Level of TPINk driven by an alarm (R394). -/
def State.setTpin (s : State) (k : Nat) (b : Bool) : State :=
  { s with tsu := { s.tsu with tpin := tabPut s.tsu.tpin k b false } }

/-- Alarm k fires: implement time has reached ALk_TIME (R394). -/
def tsuAlarm (k : Nat) (s : State) : State :=
  let cfg := s.rd (Reg.TSU_AL_CFG k)
  if k < 4 ∧ bit cfg 31 ∧ s.rd64 (Reg.TSU_AL_TIME_LO k) ≤ implementTime s then
    let per := (s.rd (Reg.TSU_AL_PERIOD k)).toNat
    let s1 := if per = 0 then s.setFlag (Reg.TSU_AL_CFG k) 31 false
      else s.wr64 (Reg.TSU_AL_TIME_LO k) ((s.rd64 (Reg.TSU_AL_TIME_LO k) + per) % 2 ^ 64)
    let s2 := (s1.crcTouch 0xE0).cause Reg.TSU (24 + k)
    match bits cfg 24 2 with
    | 0 => s2
    | 1 => let s3 := s2.setTpin k true
           { s3 with tsu := { s3.tsu with tpinEnd := tabPut s3.tsu.tpinEnd k (s.now + bits cfg 0 16 * 200 + 1) 0 } }
    | 2 => noPulse (s2.setTpin k true)
    | _ => noPulse (s2.setTpin k false)
  else s
where
  /-- A level that an alarm sets outlasts a pulse in progress. -/
  noPulse (t : State) : State := { t with tsu := { t.tsu with tpinEnd := tabPut t.tsu.tpinEnd k 0 0 } }

/-- An alarm pulse on TPINk ends (R394). -/
def tpinPulseEnd (k : Nat) (s : State) : State :=
  let e := tabGet s.tsu.tpinEnd k 0
  if 0 < e ∧ e ≤ s.now + 1 then
    let s1 := s.setTpin k false
    { s1 with tsu := { s1.tsu with tpinEnd := tabPut s1.tsu.tpinEnd k 0 0 } }
  else s

/-! ## Register access by offset -/

/-- A write to a register of the TSU page from offset 0x040 upward; `k` is the index of the register among its repetitions. -/
def tsuWrite (d : RegDef) (k a : Nat) (m : Master) (v : Word) (s : State) : State :=
  match d.off with
  | 0x050 => selCfgWrite m v s
  | 0x064 => checkedWrite d a 0x01 m v (fun n => decide (1 ≤ n.toNat) && decide (n.toNat ≤ 1000)) s
  | 0x074 => snapWrite m v s
  | 0x0B0 => ppsOutCfgWrite m v s
  | 0x0B4 => checkedWrite d a 0x01 m v (fun n => decide (bits n 28 2 ≤ 1) && decide (bits n 16 5 ≤ 16)) s
  | 0x200 => laneCfgWrite m k v s
  | 0x21C => incrCommitWrite m k v s
  | 0x220 => laneAdjWrite m k v s
  | 0x228 => checkedWrite d a 0x01 m v (fun n => decide (1 ≤ n.toNat) && decide (n.toNat ≤ 1000)) s
  | 0x234 => laneStepWrite m k v s
  | _ => genericWrite .tsu d a m v s

/-- Key of a read snapshot: the master and the group it snapshots (R376, R377). -/
def snapKey (m : Master) (g : Nat) : Nat := 16 * masterCode m + g

/-- The snapshot of a group for a master, or the live value where the master has taken none. -/
def snapOr (s : State) (m : Master) (g live : Nat) : Nat :=
  match tabGet s.tsu.snaps (snapKey m g) 0 with
  | 0 => live
  | n + 1 => n

/-- Takes a snapshot of a group for a master. -/
def State.takeSnap (s : State) (m : Master) (g v : Nat) : State :=
  { s with tsu := { s.tsu with snaps := tabPut s.tsu.snaps (snapKey m g) (v + 1) 0 } }

/-- A read of a register of the TSU page whose value is not stored: the word and the state after it (R376, R377, R379, R382, R385,
R386, R393); none for a stored register. -/
def tsuRead (d : RegDef) (k a : Nat) (m : Master) (s : State) : Option (Word × State) :=
  match d.off with
  | 0x040 => some (if k = 0 then (wordOf s.now, s.takeSnap m 0 s.now) else (hiWord (snapOr s m 0 s.now), s))
  | 0x048 =>
    let it := implementTime s
    some (if k = 0 then (wordOf it, s.takeSnap m 1 it) else (hiWord (snapOr s m 1 it), s))
  | 0x054 =>
    let w := putBit (putBit (putBit (s.rd a) 30 (timeSingle s && timeOk s)) 4 (decide (s.tsu.bridge ≠ 0))) 0 (decide (selLane s = 1))
    some (w, s)
  | 0x068 =>
    let b : Nat := lowBits 64 (s.tsu.bridge / laneUnit)
    some (if k = 0 then wordOf b else hiWord b, s)
  | 0x0B8 => some (s.rd a, { s with tsu := { s.tsu with pinUnread := false } })
  | 0x208 =>
    let t := (laneOf s k).time
    some (wordOf (t / laneUnit / 1000000000), s.takeSnap m (2 + k) t)
  | 0x20C => some (wordOf (snapOr s m (2 + k) (laneOf s k).time / laneUnit / 1000000000 / 2 ^ 32 % 2 ^ 16), s)
  | 0x210 => some (wordOf (snapOr s m (2 + k) (laneOf s k).time / laneUnit % 1000000000), s)
  | 0x214 => some (wordOf (snapOr s m (2 + k) (laneOf s k).time % laneUnit / 1000000), s)
  | 0x224 => some (wordOfInt ((laneOf s k).left / laneUnit), s)
  | 0x244 => some (wordOf (errEst s k), s)
  | 0x250 => some (wordOf (if laneState s k = 4 then (s.now - (laneOf s k).hoSince) / 200000 else 0), s)
  | _ => none

/-! ## The commands of the time unit -/

/-- INCR_COMMIT (R378). -/
def execIncrCommit (m : Master) (x : Nat) (v : Word) (s : State) : Answer :=
  .next (if x < 2 then regRow m (Reg.TSU_L_INCR_HI x) (incrCommitWrite m x v) s else s)

/-- LANE_ADJ (R379). -/
def execLaneAdj (m : Master) (x : Nat) (v : Word) (s : State) : Answer :=
  .next (if x < 2 then regRow m (Reg.TSU_L_ADJ x) (laneAdjWrite m x v) s else s)

/-- LANE_STEP (R380): a write of x_STEP_CMD with GO set. -/
def execLaneStep (m : Master) (x : Nat) (v : Word) (s : State) : Answer :=
  .next (if x < 2 then regRow m (Reg.TSU_L_STEP_CMD x) (laneStepWrite m x (v ||| 1)) s else s)

/-- FEED_TIMEOUT (R381). -/
def execFeedTimeout (x : Nat) (s : State) : Answer :=
  .next (live 0xE0 (fun s => if x < 2 then feedTimeout x s else s) s)
/-- HOLDOVER_LIMIT (R381). -/
def execHoldoverLimit (x : Nat) (s : State) : Answer :=
  .next (live 0xE0 (fun s => if x < 2 then holdoverLimit x s else s) s)
/-- ERR_BUDGET_EXCEEDED (R381). -/
def execErrBudgetExceeded (x : Nat) (s : State) : Answer :=
  .next (live 0xE0 (fun s => if x < 2 then errBudgetExceeded x s else s) s)
/-- SEL_WRITE (R386). -/
def execSelWrite (m : Master) (v : Word) (s : State) : Answer := .next (regRow m Reg.TSU_SEL_CFG (selCfgWrite m v) s)

/-- AUTO_SELECT (R387). -/
def execAutoSelect (s : State) : Answer := .next (live 0xE0 autoSelect s)
/-- BRIDGE_DONE (R386). -/
def execBridgeDone (s : State) : Answer := .next (live 0xE0 bridgeDone s)
/-- AGREE_CHECK (R388). -/
def execAgreeCheck (s : State) : Answer := .next (live 0xE0 agreeCheck s)
/-- TIME_OK_RISE (R388). -/
def execTimeOkRise (s : State) : Answer := .next (live 0xE0 timeOkRise s)
/-- SNAP (R391). -/
def execSnap (m : Master) (s : State) : Answer := .next (regRow m Reg.TSU_SNAP (snapWrite m 1) s)

/-- PPS_OUT_PULSE (R392). -/
def execPpsOutPulse (s : State) : Answer := .next (live 0xE0 ppsOutPulse s)
/-- PPS_OUT_END (R392). -/
def execPpsOutEnd (s : State) : Answer := .next (live 0xE0 ppsOutEnd s)
/-- PPS_IN_EDGE (R393). -/
def execPpsInEdge (rising : Bool) (back : Nat) (s : State) : Answer := .next (live 0xE0 (ppsInEdge rising back) s)
/-- TSU_ALARM (R394). -/
def execTsuAlarm (k : Nat) (s : State) : Answer := .next (live 0xE0 (tsuAlarm k) s)
/-- TPIN_PULSE_END (R394). -/
def execTpinPulseEnd (k : Nat) (s : State) : Answer := .next (live 0xE0 (tpinPulseEnd k) s)
end Sys2Proof.Machine
end

