-- ==== Sys2Proof/Machine/Enc.lean ====
section
/-! DEFINITION. Position inputs (spec/12_sensing.md R266 to R272): counting, extension, velocity, index and captures. Instants are in
root periods of 1.25 ns. -/

namespace Sys2Proof.Machine

/-- A position input beyond its registers. -/
def enc (s : State) (n : Nat) : Enc := tabGet s.encs n {}

/-- Sets a position input. -/
def State.setEnc (s : State) (n : Nat) (e : Enc) : State := { s with encs := tabPut s.encs n e {} }

/-- An axis is enabled: AXn.CTRL.EN (R310). -/
def axisOn (s : State) (n : Nat) : Bool := s.flag (Reg.AX n + 0x008) 0

/-- MODE of a position input (R266). -/
def encMode (s : State) (n : Nat) : Nat := s.fld (Reg.ENC_CFG n) 0 3

/-- The input counts: present, enabled, in a mode that counts, in ROW, PADDLE or EASY (R266, R272). -/
def encCounts (s : State) (n : Nat) : Bool :=
  decide (n < axesOf s.variant) && s.flag (Reg.ENC n + 0x008) 0 && decide (1 ≤ encMode s n ∧ encMode s n ≤ 4) && busUp s

/-- The largest integer part of POS (R267). -/
def posMax : Int := 140737488355327

/-- What a position input shows now. -/
def encShown (s : State) (n : Nat) : EncMark :=
  let e := enc s n
  { until_ := rootNow s, pos := e.pos, raw := s.rd (Reg.ENC_RAW n), last := e.last, prev := e.prev, back := e.back }

/-- The oldest mark whose end lies after an instant; with none, what is shown now. -/
def markAt (t : Int) (shown : EncMark) : List EncMark → EncMark
  | [] => shown
  | m :: r => if t < m.until_ then markAt t m r else shown

/-- What a position input shows to a capture at an instant: the edges that reached the balls up to (2 + FILT) samples before it (R269). -/
def encAt (s : State) (n : Nat) (t : Int) : EncMark := markAt t (encShown s n) (enc s n).past

/-- What the input shows changes from an instant on: captures of earlier instants still see the present state. -/
def encMark (n : Nat) (from_ : Int) (s : State) : State :=
  let e := enc s n
  s.setEnc n { e with past := { encShown s n with until_ := from_ } :: e.past.filter fun m => decide (rootNow s < m.until_ + 800000000) }

/-- POS in 48.16 counts at an instant: the count, and with INTERP in QUAD or HALL the extrapolated fraction (R267, R269). -/
def posAt (s : State) (n : Nat) (at_ : Int) : Int :=
  let e := encAt s n at_
  let m := encMode s n
  if s.flag (Reg.ENC_CFG n) 30 && decide (m = 1 ∨ m = 2) then
    match e.last, e.prev with
    | some l, some p =>
      let f : Int := if l ≤ p then 0xFFFF else clampI 0 0xFFFF ((at_ - l) * 65536 / (l - p))
      e.pos * 65536 + (if e.back then -f else f)
    | _, _ => e.pos * 65536
  else e.pos * 65536

/-- An error of the input latches its cause, counts where it has a counter, and stands for line 40+n (R270). -/
def encError (n k : Nat) (s : State) : State :=
  let s1 := if k = 0 then s.satInc (Reg.ENC_ERR_CNTS n) 16 else if k = 1 then s.satInc (Reg.ENC_ERR_CNTS n) 0 else s
  (s1.setEnc n { enc s1 n with bad := true }).cause (Reg.ENC n) k

/-- Samples of the filter in root periods: 10 ns in ROW and PADDLE, 40 ns in EASY (R266, R272). -/
def encSample (s : State) : Int := perSample s

/-- Root periods from a transition at a ball until it counts: the synchroniser and the FILT equal samples of the filter (R266, R269). -/
def encDelay (s : State) (n : Nat) : Int := (s.fld (Reg.ENC_CFG n) 16 5 + 2 : Nat) * encSample s

/-- One count up or down for a transition at an instant: RAW wraps, POS saturates (R266, R267). -/
def encCount (n : Nat) (up : Bool) (at_ : Int) (s0 : State) : State :=
  let s := encMark n (at_ + encDelay s0 n) s0
  let up := up != s.flag (Reg.ENC_CFG n) 29
  let d : Int := if up then 1 else -1
  let e := enc s n
  let p := clampI (-posMax) posMax (e.pos + d)
  let s1 := (s.wr (Reg.ENC_RAW n) (s.rd (Reg.ENC_RAW n) + wordOfInt d)).setEnc n
    { e with pos := p, prev := e.last, last := some at_, back := !up }
  if p = e.pos then encError n 3 s1 else s1

/-- Steps between two states of a quadrature pair: A leading B counts up. Both changed: none (R266; direction log entry 20). -/
def quadStep (a b a' b' : Bool) : Option Bool :=
  if a ≠ a' ∧ b ≠ b' then none
  else if a ≠ a' then some (a' != b) else some (b' == a)

/-- Sector number of a Hall state; none for 000 and 111 (R266; order log entry 20). -/
def hallSector : Bool → Bool → Bool → Option Nat
  | true, false, false => some 0
  | true, true, false => some 1
  | false, true, false => some 2
  | false, true, true => some 3
  | false, false, true => some 4
  | true, false, true => some 5
  | _, _, _ => none

/-- A Z edge in QUAD mode, for a transition at an instant (R270). -/
def encIndex (n : Nat) (at_ : Int) (s : State) : State :=
  let e := enc s n
  let raw := (s.rd (Reg.ENC_RAW n)).toNat
  let zc := s.rd (Reg.ENC_Z_CFG n)
  let moved := (signed 32 (lowBits 32 ((raw : Int) - e.zRaw))).natAbs
  let cpr := s.fld (Reg.ENC_CPR n) 0 24
  let tol := bits zc 0 8
  let s1 := (s.setEnc n { e with zSeen := true, zRaw := raw }).cause (Reg.ENC n) 4
  let s2 := if bit zc 31 && e.zSeen then
      let t := s1.wr (Reg.ENC_Z_POS n) (wordOf raw)
      if cpr ≤ moved + tol ∧ moved ≤ cpr + tol then t else encError n 1 t
    else s1
  if bit zc 30 && !e.zSeen then
    let s3 := encMark n (at_ + encDelay s2 n) s2
    s3.setEnc n { enc s3 n with pos := 0 }
  else s2

/-- B changed too near a step in STEPDIR mode (R266). -/
def stepTooNear (s : State) (n : Nat) (t : Int) (other : Option Int) : Bool :=
  match other with
  | some u => decide (t - u ≤ encDelay s n)
  | none => false

/-- An edge in QUAD mode. -/
def quadEdge (n : Nat) (e : Enc) (a b z : Bool) (t : Int) (s : State) : State :=
  let s1 := if e.a = a ∧ e.b = b then s
    else match quadStep e.a e.b a b with
      | none => encError n 0 s
      | some up => encCount n up t s
  if z && !e.z then encIndex n t s1 else s1

/-- An edge in HALL mode. -/
def hallEdge (n : Nat) (e : Enc) (a b z : Bool) (t : Int) (s : State) : State :=
  match hallSector a b z with
  | none => encError n 2 s
  | some j => match hallSector e.a e.b e.z with
    | none => s
    | some i =>
      if j = i then s else if j = (i + 1) % 6 then encCount n true t s
      else if i = (j + 1) % 6 then encCount n false t s else encError n 2 s

/-- An edge in STEPDIR mode. -/
def stepEdge (n : Nat) (e : Enc) (a b : Bool) (t : Int) (s : State) : State :=
  let s1 := if b ≠ e.b ∧ stepTooNear s n t e.lastStep then encError n 0 s else s
  if a && !e.a then
    let s2 := if stepTooNear s1 n t (enc s1 n).lastB then encError n 0 s1 else s1
    let s3 := encCount n b t s2
    s3.setEnc n { enc s3 n with lastStep := some t }
  else s1

/-- An edge in PULSE mode: PERIOD is the time between the last two edges in ns. -/
def pulseEdge (n : Nat) (e : Enc) (a : Bool) (t : Int) (s : State) : State :=
  if a && !e.a then
    let s1 := encCount n true t s
    match e.last with
    | some l => s1.wr (Reg.ENC_PERIOD n) (wordOfInt ((t - l) * 5 / 4))
    | none => s1
  else s

/-- The levels that A, B and Z took `back` root periods before the present TICK have been held since: they are accepted once they have passed
the synchroniser and FILT equal samples (R266). An input that does not count follows its levels. -/
def encEdge (n : Nat) (a b z : Bool) (back : Nat) (s : State) : State :=
  if n < axesOf s.variant ∧ encDelay s n ≤ back then
    let e := enc s n
    let t := rootNow s - back
    let s1 := s.setEnc n { e with a := a, b := b, z := z, lastB := if b = e.b then e.lastB else some t }
    match encCounts s n, encMode s n with
    | true, 1 => quadEdge n e a b z t s1
    | true, 2 => hallEdge n e a b z t s1
    | true, 3 => stepEdge n e a b t s1
    | true, 4 => pulseEdge n e a t s1
    | _, _ => s1
  else s

/-- VEL is published. -/
def putVel (n : Nat) (w : Word) (s : State) : State := (s.publish (0x170 + n) (s.sfld (Reg.ENC_VEL n) 0 32)).wr (Reg.ENC_VEL n) w

/-- No edge for VEL_TIMEOUT sets VEL to 0 (R268). -/
def encVelTimeout (n : Nat) (s : State) : State :=
  if encCounts s n then
    let late := match (enc s n).last with
      | some l => decide (l + s.fld (Reg.ENC_VEL_CFG n) 0 16 * 800 ≤ rootNow s)
      | none => true
    if late then putVel n 0 s else s
  else s

/-- The velocity between two edges, in 1/256 counts/s (R268). -/
def velBetween (counts dt : Int) : Int := clampI (-2147483647) 2147483647 (counts * 256 * 800000000 / dt)

/-- The angles of a capture, as 24-bit fractions of a turn (R269). With CPR 0 the spec gives no value: a free value stands
there (log entry 1). -/
def encAngles (s : State) (n : Nat) (pos : Int) : (Nat × Nat) × State :=
  let cpr := s.fld (Reg.ENC_CPR n) 0 24
  let ofs := s.fld (Reg.ENC_EANG_OFS n) 0 24
  let pp := s.fld (Reg.ENC_CFG n) 8 4
  if cpr = 0 then
    let f := Config.freeNat s.freeCtr % 16777216
    ((f, (f * pp + ofs) % 16777216), s.drawn)
  else
    let per : Int := cpr * 65536
    let r := (pos % per).toNat
    ((r * 16777216 / per.toNat, (r * 16777216 * pp / per.toNat + ofs) % 16777216), s)

/-- The capture at the instant of an LE sample trigger (R268, R269). -/
def encCapture (n : Nat) (at_ : Int) (s : State) : State :=
  let e := encAt s n at_
  let pos := posAt s n at_
  let raw := e.raw.toNat
  let vel : Option Int := match e.last, (enc s n).capEdge with
    | some l, some c => if c < l then some (velBetween (signed 32 (lowBits 32 ((raw : Int) - (enc s n).capPos))) (l - c)) else none
    | _, _ => none
  let s1 := match vel with | some v => putVel n (wordOfInt v) s | none => s
  let ((mang, eang), s2) := encAngles s1 n pos
  let u := lowBits 64 pos
  let s3 := (((s2.wr (Reg.ENC_CAP_POS n 0) (wordOf u)).wr (Reg.ENC_CAP_POS n 1) (hiWord u)).wr (Reg.ENC_CAP_MANG n) (wordOf mang)).wr
    (Reg.ENC_CAP_EANG n) (wordOf eang)
  let s4 := s3.wr (Reg.ENC_CAP_TICK n) (wordOfInt (at_ / 4))
  s4.setEnc n { enc s4 n with capPos := raw, capEdge := e.last, bad := false }

/-- Captured position in 48.16 counts. -/
def capPos (s : State) (n : Nat) : Int := signed 64 (s.rd64 (Reg.ENC_CAP_POS n 0))

/-- Enable and disable of an input (R62, R270): the index history starts anew. -/
def encEnable (n : Nat) (s : State) : State := s.setEnc n { enc s n with zSeen := false }

/-- The load of POS and RAW by an opened write of POS_SET_HI (R271). -/
def posLoad (n : Nat) (v : Word) (s0 : State) : State :=
  let s := encMark n (rootNow s0) s0
  let p := clampI (-posMax) posMax (signed 64 (pairNat (s.rd (Reg.ENC_POS_SET_LO n)) v) / 65536)
  let s1 := (s.wr (Reg.ENC_POS_SET_HI n) v).wr (Reg.ENC_RAW n) (wordOfInt p)
  s1.setEnc n { enc s1 n with pos := p, capEdge := none }

/-- A write to a register of an ENC page from offset 0x040 upward (R266, R271). -/
def encWrite (d : RegDef) (_ a : Nat) (m : Master) (v : Word) (s : State) : State :=
  let n := a / 0x1000 % 0x10
  match d.off with
  | 0x040 =>
    regWrite d a m v (fun v s =>
      if axisOn s n then s.blockError a 0x01 m
      else if 5 ≤ bits v 0 3 then s.blockError a 0x02 m
      else s.wr a (storeValue d (s.rd a) v)) s
  | 0x044 => regWrite d a m v (fun v s => if axisOn s n then s.blockError a 0x01 m else s.wr a (storeValue d (s.rd a) v)) s
  | 0x084 => regWrite d a m v (fun v s => if axisOn s n then s.blockError a 0x01 m else posLoad n v s) s
  | _ => genericWrite .enc d a m v s

/-- A read of a register of an ENC page whose value is not stored (R267): a read of POS_LO takes a snapshot of POS_HI. -/
def encRead (d : RegDef) (k a : Nat) (_ : Master) (s : State) : Option (Word × State) :=
  let n := a / 0x1000 % 0x10
  match d.off, k with
  | 0x054, 0 =>
    let u := lowBits 64 (posAt s n (rootNow s))
    some (wordOf u, s.setEnc n { enc s n with snapHi := some (hiWord u) })
  | 0x054, _ => some ((enc s n).snapHi.getD (hiWord (lowBits 64 (posAt s n (rootNow s)))), s)
  | _, _ => none

/-- ENC_EDGE (R266). -/
def execEncEdge (n : Nat) (a b z : Bool) (back : Nat) (s : State) : Answer := .next (live (0xC0 + n) (encEdge n a b z back) s)
/-- ENC_VEL_TIMEOUT (R268). -/
def execEncVelTimeout (n : Nat) (s : State) : Answer := .next (live (0xC0 + n) (encVelTimeout n) s)
/-- POS_SET_HI (R271). -/
def execPosSetHi (m : Master) (n : Nat) (v : Word) (s : State) : Answer :=
  .next (if n < 16 then regRow m (Reg.ENC_POS_SET_HI n) (encWrite (defOf .enc 0x084) 0 (Reg.ENC_POS_SET_HI n) m v) s else s)

end Sys2Proof.Machine
end

