-- ==== Sys2Proof/Machine/Act.lean ====
section
/-! DEFINITION. Actuator channels, boost rails, catch and finish (spec/17_actuators.md). The short check of a group is completed in
Cox.lean, because it reports to a fault line. -/

namespace Sys2Proof.Machine

/-! ## Access to a channel -/

/-- A channel beyond its registers. -/
def chan (s : State) (k : Nat) : ActChan := tabGet s.acts k {}

/-- Sets a channel. -/
def State.setChan (s : State) (k : Nat) (c : ActChan) : State := { s with acts := tabPut s.acts k c {} }

/-- Address of a register of channel `k` (R345, R46). -/
def chReg (r : Nat → Nat → Nat) (k : Nat) : Nat := r (k / 8) (k % 8)

/-- State of a channel: STAT.STATE (R347). -/
def chState (s : State) (k : Nat) : Nat := s.fld (chReg Reg.ACTG_STAT k) 28 4

/-- A flag of a channel's STAT. -/
def chFlag (s : State) (k b : Nat) : Bool := s.flag (chReg Reg.ACTG_STAT k) b

/-- Sets a flag of a channel's STAT. -/
def State.chSet (s : State) (k b : Nat) (v : Bool) : State := s.setFlag (chReg Reg.ACTG_STAT k) b v

/-- Moves a channel to a state. -/
def State.chTo (s : State) (k st : Nat) : State := s.setFld (chReg Reg.ACTG_STAT k) 28 4 st

/-- CFG.MODE (R354). -/
def chMode (s : State) (k : Nat) : Nat := s.fld (chReg Reg.ACTG_CFG k) 0 3

/-- The channel and its group are enabled (R347). -/
def chEnabled (s : State) (k : Nat) : Bool := s.flag (Reg.ACTG (k / 8) + 0x008) 0 && s.flag (chReg Reg.ACTG_CFG k) 31

/-- The channel acts: it is enabled, and the device is in ROW; in a lower state an enable is stored and the outputs are off (R87, R89). -/
def chActs (s : State) (k : Nat) : Bool := inRow s && chEnabled s k

/-- ACT_SENg of the channel's group is high (R106). -/
def chSupplied (s : State) (k : Nat) : Bool := s.cox.actSen.contains (k / 8)

/-- The page cause of a channel follows its enabled causes (R375). -/
def chanIrq (k : Nat) (s : State) : State :=
  s.level (Reg.ACTG (k / 8)) (k % 8) (decide (s.rd (chReg Reg.ACTG_IRQ_STAT_CH k) &&& s.rd (chReg Reg.ACTG_IRQ_EN_CH k) ≠ 0))

/-- A cause of a channel latches (R375). -/
def State.chCause (s : State) (k b : Nat) : State := chanIrq k (s.setFlag (chReg Reg.ACTG_IRQ_STAT_CH k) b true)

/-- A cause of a channel latches when a condition holds. -/
def State.chCauseIf (s : State) (c : Bool) (k b : Nat) : State := if c then s.chCause k b else s

/-- State of the Cox (R104). -/
def coxState (s : State) : Nat := s.fld (Reg.COX + 0x00C) 4 4

/-- Path 1 forces the pads in INIT, CHECK, SAFE and OFF (R104). -/
def padsForced (s : State) : Bool := decide (coxState s ≠ 3) && decide (coxState s ≠ 4)

/-- RESTRICT_OPEN, RESTRICT_START and LIMIT in force (R101). -/
def restrictOpen (s : State) : Bool := s.flag Reg.COX_RESTRICT 2
def restrictStart (s : State) : Bool := s.flag Reg.COX_RESTRICT 3
def limitInForce (s : State) : Bool := s.flag Reg.COX_RESTRICT 4

/-- λ in Q1.23 (R358). -/
def lambdaNow (s : State) : Nat := if limitInForce s then s.fld Reg.COX_LIMIT_SCALE 0 24 else 0x800000

/-- The channel registers 0x04C to 0x0F4 as they stand (R347). -/
def liveRegs (s : State) (k : Nat) : List Word := (List.range 43).map fun j => s.rd (chReg Reg.ACTG_PEAK_ILIM k + 4 * j)

/-- A phase or period is in progress: WAIT_BOOST, PEAK, HOLD, ON or CLOSING (R347). -/
def inPhase (s : State) (k : Nat) : Bool := [2, 3, 4, 5, 7].contains (chState s k)

/-- A channel register as it is in force: `off` from 0x04C to 0x0F4. A phase or period keeps what it took at its start; outside one the
register acts as it stands (R347; DEDUCED, log entry 66). -/
def heldReg (s : State) (k off : Nat) : Word :=
  match inPhase s k, (chan s k).held with
  | true, w :: l => listGet (w :: l) ((off - 0x04C) / 4) 0
  | _, _ => s.rd (chReg Reg.ACTG_PEAK_ILIM k + (off - 0x04C))

/-- A phase or period starts: the channel takes its registers and λ (R347, R358). -/
def takePhase (k : Nat) (s : State) : State :=
  s.setChan k { chan s k with held := liveRegs s k, lam := lambdaNow s }

/-- A threshold field in Q1.23, and one in Q1.15 brought to Q1.23 (R351, R352). -/
def q23 (w : Word) : Int := sbits w 0 24
def q15 (w : Word) (lo : Nat) : Int := sbits w lo 16 * 256

/-- A current threshold scaled by λ (R352): the sample `i` is at or above `th`·λ. -/
def atLeast (i th : Int) (lam : Nat) : Bool := decide (th * lam ≤ i * 0x800000)

/-! ## The current of a group (R351, R371) -/

/-- The current of a group's supply. -/
def groupSense (s : State) (g : Nat) : GroupSense := tabGet s.ldl.group g {}

/-- Sets the current of a group's supply. -/
def State.setGroup (s : State) (g : Nat) (x : GroupSense) : State := { s with ldl := { s.ldl with group := tabPut s.ldl.group g x {} } }

/-- A sample of ACTGg_ISNS at the present TICK (R351): one is published an instant, and the last one given counts. -/
def groupSample (g : Nat) (i : Int) (s : State) : State :=
  let x := groupSense s g
  let s1 := if x.since = some s.now then s else s.publish (0x160 + g) (satS 24 x.cur)
  s1.setGroup g { x with cur := i, since := some s.now }

/-- The residual of a group in mA: its current minus the sum of its channels' currents, at their last samples (R371). -/
def groupResidual (s : State) (g : Nat) : Int :=
  let sum := (List.range 8).foldl (fun acc c => acc + (chan s (8 * g + c)).cur * s.fld (Reg.ACTG_SCALE g c) 16 16) 0
  ((groupSense s g).cur * s.fld (Reg.ACTG_GRP_CFG g) 0 16 - sum) / 8388608

/-! ## Open-load diagnosis (R368 to R370) -/

/-- A completed check with its result: the open-load count and flag, and the end of DIAG_BLIND and of a stretch asked for (R369, R370).
`how` is 1 on, 2 off, 3 stretched. -/
def diagResult (k how : Nat) (failed : Bool) (s : State) : State :=
  let st := chReg Reg.ACTG_DIAG_STAT k
  let s1 := (s.setFld st 30 2 how).setFld st 0 16 0
  let s2 := s1.chSet k 3 false
  let c := { chan s2 k with checked := true, stretch := false, stretching := false }
  let n := max 1 (bits (heldReg s k 0x0C8) 0 8)
  if failed then
    let f := c.olFails + 1
    let s3 := s2.setChan k { c with olFails := f }
    if n ≤ f ∧ chFlag s k 2 = false then (s3.chSet k 2 true).chCause k 6 else s3
  else (s2.setChan k { c with olFails := 0 }).chSet k 2 false

/-- The on-state check fails (R369). -/
def onCheckFails (s : State) (k : Nat) (i : Int) : Bool :=
  decide (i < q15 (heldReg s k 0x0C4) 0)

/-- The off-state check fails: the drain is low while the group residual is not (R369). -/
def offCheckFails (s : State) (k : Nat) : Bool :=
  decide ((chan s k).drn < q15 (heldReg s k 0x0C4) 16)
    && decide (groupResidual s (k / 8) ≤ (s.fld (Reg.ACTG_GRP_CFG (k / 8)) 16 16 : Nat))

/-- Diagnosis of a channel runs: OL_EN, and the group supplied (R369, R374). -/
def diagOn (s : State) (k : Nat) : Bool := s.flag (chReg Reg.ACTG_CFG k) 17 && chSupplied s k

/-- The end of a diagnostic period, one on-interval and the off-interval that ends now (R368, R370). A period whose stretch a trip ended has
no window (R372). An off-interval that no on-interval since the enable precedes is no period, and a period that has had its check gets no
second one. -/
def diagPeriod (k : Nat) (closing : Bool) (s0 : State) : State :=
  let s := s0.setChan k { chan s0 k with spoiled := false }
  let c := chan s k
  if diagOn s k && c.lastOn.isSome && !c.checked then
    let cfg := heldReg s k 0x0C0
    let on := c.lastOn.getD 0 * 5
    let off := (s.now - c.gateSince) * 5
    let spoiled := (chan s0 k).spoiled
    let onOk := decide (bits cfg 0 16 ≤ on) && decide (0 < on) && !spoiled
    let offOk := decide (bits cfg 16 16 ≤ off) && !closing && !spoiled
    if onOk && (!offOk || decide (off ≤ on)) then diagResult k 1 (onCheckFails s k c.onI) s
    else if offOk then diagResult k 2 (offCheckFails s k) s
    else
      let st := chReg Reg.ACTG_DIAG_STAT k
      let b := min 0xFFFF (s.fld st 0 16 + 1)
      let s1 := s.setFld st 0 16 b
      if max 1 (bits (heldReg s k 0x0C8) 16 16) ≤ b then
        let s2 := if chFlag s k 3 then s1 else (s1.chSet k 3 true).chCause k 7
        if s.flag (chReg Reg.ACTG_CFG k) 16 then s2.setChan k { chan s2 k with stretch := true } else s2
      else s1
  else s

/-- Drives the gate: a change ends an interval of the diagnosis (R368). -/
def setGate (k : Nat) (b : Bool) (s : State) : State :=
  let c := chan s k
  if c.gate = b then s
  else if b then
    let s1 := diagPeriod k (decide (chState s k = 7)) s
    s1.setChan k { chan s1 k with gate := true, gateSince := s.now, diagSince := s.now, checked := false }
  else s.setChan k { c with gate := false, lastOn := some (s.now - c.gateSince), onI := c.cur, gateSince := s.now, diagSince := s.now }

/-- Turns gate and boost switch off. -/
def gatesOff (k : Nat) (s : State) : State :=
  let s1 := setGate k false s
  s1.setChan k { chan s1 k with boost := false, chopEnd := none, onEnd := none, stretching := false }

/-- Ends the pattern and the measurements in progress (R347, R374). -/
def endPattern (k : Nat) (s : State) : State :=
  let s1 := gatesOff k s
  s1.setChan k { chan s1 k with seek := false, imin := none, caught := none, offIt := none, nextOn := none, nextOff := none,
                                grid := none, skip := false, retryAt := none, retries := 0, inrushEnd := none, stretch := false }

/-- The commanded state becomes closed and a train ends. -/
def commandClosed (k : Nat) (s : State) : State := (s.chSet k 0 false).chSet k 1 false

/-! ## Enables, forcing (R347, R367, R374) -/

/-- GRP_MAX_CLOSE: the largest LAT_CLOSE of the enabled channels; an increase latches CLOSE_MAX_UP (R367). -/
def grpMaxRefresh (g : Nat) (s : State) : State :=
  let a := Reg.ACTG_GRP_MAX_CLOSE g
  let v := ((List.range 8).filter fun c => chEnabled s (8 * g + c)).foldl
    (fun acc c => max acc (s.rd (Reg.ACTG_LAT_CLOSE g c)).toNat) 0
  (s.wr a (wordOf v)).causeIf (decide ((s.rd a).toNat < v)) (Reg.ACTG g) 9

/-- A channel becomes enabled (R347, R373): θ is 0, TH_TEMP reads T, no thermal level holds, and no on-interval has come. -/
def chanStart (k : Nat) (s : State) : State :=
  let s1 := s.setChan k { chan s k with theta := 0, sumSq := 0, samples := 0, thFrom := s.now, thWarn := false, gateSince := s.now,
                                        diagSince := s.now, lastOn := none, checked := false }
  (s1.chSet k 8 false).wr (chReg Reg.ACTG_TH_TEMP k) (wordOf (s.fld (chReg Reg.ACTG_TH_PARAM1 k) 0 16))

/-- A channel follows its enables, the power state and the forcing of the pads (R87, R347, R374). -/
def chanRefresh (k : Nat) (s : State) : State :=
  let st := chState s k
  if chActs s k then
    if st = 0 then (chanStart k s).chTo k (if padsForced s then 10 else 1)
    else if padsForced s then
      if st = 10 then s else (commandClosed k (endPattern k s)).chTo k 10
    else if st = 10 then s.chTo k 1 else s
  else if st = 0 then s else (commandClosed k (endPattern k s)).chTo k 0

/-! ### Boost controllers under the forcing of the pads (R25, R27, R360) -/

/-- A boost controller beyond its registers. -/
def bst (s : State) (x : Nat) : Boost := tabGet s.bsts x {}

/-- Sets a boost controller. -/
def State.setBst (s : State) (x : Nat) (b : Boost) : State := { s with bsts := tabPut s.bsts x b {} }

/-- STAT[1:0] of a controller: 0 OFF, 1 CHARGING, 2 READY, 3 FAULT. -/
def bstState (s : State) (x : Nat) : Nat := s.fld (Reg.BST_X_STAT x) 0 2

/-- A controller follows its enables and the power state: BST.CTRL.EN and x_CFG.EN in ROW (R87, R360, R361). FAULT latches until x_CFG.EN is
cleared. Switching stops while path 1 forces the gate pad low, and goes on when the forcing ends (R25, R27). -/
def bstRefresh (x : Nat) (s : State) : State :=
  let on := inRow s && s.flag (Reg.BST_X_CFG x) 31 && s.flag (Reg.BST + 0x008) 0
  let st := bstState s x
  let b := bst s x
  if on && decide (st = 0) then (s.setBst x { gate := !(padsForced s), since := s.now }).wr (Reg.BST_X_STAT x) 1
  else if !on && decide (st = 1 ∨ st = 2) then (s.setBst x {}).wr (Reg.BST_X_STAT x) 0
  else if st = 3 ∧ s.flag (Reg.BST_X_CFG x) 31 = false then (s.setBst x {}).wr (Reg.BST_X_STAT x) 0
  else if padsForced s then
    if b.gate = true ∨ b.toffEnd ≠ none then s.setBst x { b with gate := false, toffEnd := none } else s
  else if (st = 1 ∨ st = 2) ∧ b.gate = false ∧ b.toffEnd = none ∧ b.satisfied = false then s.setBst x { b with gate := true }
  else s

/-- Every channel and boost controller follows the forcing of the pads (R25, R27, R374). -/
def actForcing (s : State) : State :=
  (List.range (boostsOf s.variant)).foldl (fun s x => bstRefresh x s)
    ((List.range (8 * groupsOf s.variant)).foldl (fun s k => chanRefresh k s) s)

/-- The channels of a group follow the group's enable (R347). -/
def groupRefresh (g : Nat) (s : State) : State :=
  grpMaxRefresh g ((List.range 8).foldl (fun s c => chanRefresh (8 * g + c) s) s)

/-! ## Learning (R363 to R366) -/

/-- Truncation toward zero of an integer division by a positive number. -/
def truncDiv (a : Int) (b : Nat) : Int := if 0 ≤ a then a / b else -((-a) / b)

/-- The measurement `m` of an opening (`close` false) or a closing is stored, tested and learned (R365, R366). The learned value is stored at
the end of the TICK, unless a write lands in it (DESIGN CHOICE, log entry 129). -/
def learn (k : Nat) (close : Bool) (m : Nat) (excluded : Bool) (s : State) : State :=
  let lat := chReg (if close then Reg.ACTG_LAT_CLOSE else Reg.ACTG_LAT_OPEN) k
  let lim := heldReg s k (if close then 0x074 else 0x070)
  let cfg := heldReg s k 0x078
  let cnt := chReg Reg.ACTG_LRN_CNT k
  let s1 := (s.wr (chReg (if close then Reg.ACTG_LAST_CLOSE else Reg.ACTG_LAST_OPEN) k) (wordOf m)).chSet k 7 excluded
  if excluded then s1
  else
    let c := chan s k
    let run := if close then c.outClose else c.outOpen
    let old := (s.rd lat).toNat
    let inside := decide (bits lim 0 16 * 1000 ≤ m) && decide (m ≤ bits lim 16 16 * 1000)
    let jump := bits cfg 0 16 * 1000
    let jumps := decide (jump ≠ 0) && decide (jump < ((m : Int) - old).natAbs) && decide (run < 16)
    let setRun (n : Nat) (t : State) : State :=
      t.setChan k (if close then { chan t k with outClose := n } else { chan t k with outOpen := n })
    if !inside || jumps then
      ((setRun (if inside then run + 1 else 0) s1).satInc cnt 0).chCause k 4
    else
      let s2 := setRun 0 s1
      if bit cfg 31 && decide ((if close then c.wroteClose else c.wroteOpen) ≠ some s.now) then
        let new := some (wordOfInt ((old : Int) + truncDiv ((m : Int) - old) (2 ^ bits cfg 16 3)))
        s2.setChan k (if close then { chan s2 k with learnClose := new } else { chan s2 k with learnOpen := new })
      else s2

/-- The latencies that a channel has learned in the TICK are stored and counted (R365, R366). -/
def storeLearned (k : Nat) (s : State) : State :=
  let c := chan s k
  let s1 := match c.learnOpen with
    | some v => (s.wr (chReg Reg.ACTG_LAT_OPEN k) v).satInc (chReg Reg.ACTG_LRN_CNT k) 16
    | none => s
  let s2 := match c.learnClose with
    | some v => grpMaxRefresh (k / 8) ((s1.wr (chReg Reg.ACTG_LAT_CLOSE k) v).satInc (chReg Reg.ACTG_LRN_CNT k) 16)
    | none => s1
  if c.learnOpen = none ∧ c.learnClose = none then s else s2.setChan k { chan s2 k with learnOpen := none, learnClose := none }

/-- Every channel stores what it has learned in the TICK. -/
def actLearned (s : State) : State := s.acts.foldl (fun t p => storeLearned p.1 t) s

/-! ## Phases (R352 to R362) -/

/-- Boost rail `x` is ready: the controller is CHARGING or READY and the rail is at or above READY_THRESH (R360). -/
def railReady (s : State) (x : Nat) : Bool :=
  let st := s.fld (Reg.BST_X_STAT x) 0 2
  decide (st = 1 ∨ st = 2) && decide (s.fld (Reg.BST_X_READY x) 0 16 ≤ s.fld (Reg.BST_X_VRAIL x) 0 16)

/-- The search for the catch ends without one (R363). -/
def noCatch (k : Nat) (s : State) : State :=
  if (chan s k).seek then
    let s1 := ((s.setChan k { chan s k with seek := false }).chSet k 5 true).chCause k 2
    if chMode s k = 4 then (s1.chSet k 9 true).chCause k 13 else s1
  else s

/-- The peak starts (R352), with or without boost; the opening acted at implement time `it`. NO_CATCH and ENGAGE_FAIL speak of one opening,
and NO_FINISH of one closing (DEDUCED: each clears when the next one starts). -/
def startPeak (k it : Nat) (boost excluded : Bool) (s : State) : State :=
  let s1 := takePhase k (setGate k true s)
  let c := chan s1 k
  (((s1.setChan k { c with boost := boost, start := s.now, openIt := it, chopEnd := none, seek := true, imax := 0, imin := none,
                           caught := none, offIt := none, exOpen := excluded || limitInForce s }).chSet k 5 false).chSet k 9 false).chTo k 3

/-- The rail that BOOST_SEL names, if any: 0 for A, 1 for B (R352). -/
def boostRail (s : State) (k : Nat) : Option Nat :=
  match s.fld (chReg Reg.ACTG_CFG k) 4 2 with
  | 1 => some 0
  | 2 => some 1
  | _ => none

/-- A peak phase begins: it starts at once, waits for its rail, or is abandoned, as R362 decides. The answer is 0 STARTED or 7
ABORTED_BOOST. -/
def beginPeak (k it : Nat) (excluded : Bool) (s : State) : State × Nat :=
  match boostRail s k with
  | none => (startPeak k it false excluded (s.chSet k 4 false), 0)
  | some x =>
    if railReady s x then (startPeak k it true excluded (s.chSet k 4 false), 0)
    else
      let s1 := (s.chSet k 4 true).chCause k 5
      match s.fld (chReg Reg.ACTG_CFG k) 8 2 with
      | 1 =>
        let s2 := takePhase k s1
        ((s2.setChan k { chan s2 k with start := s.now, openIt := it }).chTo k 2, 0)
      | 2 => ((commandClosed k (endPattern k s1)).chTo k 1, 7)
      | _ => (startPeak k it false true s1, 0)

/-! ## NOZZLE grid (R355, R356) -/

/-- NOZ_PERIOD in ns. -/
def nozPeriod (s : State) (k : Nat) : Nat := s.fld (chReg Reg.ACTG_NOZ_PERIOD k) 0 20 * 1000

/-- The flow length F in ns (R355). A negative duty counts as 0. -/
def nozFlow (s : State) (k : Nat) : Nat := (q23 (s.rd (chReg Reg.ACTG_NOZ_DUTY k))).toNat * nozPeriod s k / 0x800000

/-- NOZ_MIN_FLOW in ns, as the phase in progress took it (R347). -/
def nozMin (s : State) (k : Nat) : Nat := bits (heldReg s k 0x094) 0 16 * 1000

/-- Learned latencies in ns (R355, R399). -/
def latOpen (s : State) (k : Nat) : Nat := (s.rd (chReg Reg.ACTG_LAT_OPEN k)).toNat
def latClose (s : State) (k : Nat) : Nat := (s.rd (chReg Reg.ACTG_LAT_CLOSE k)).toNat

/-- Grid instant g_j (R355). -/
def gridInstant (s : State) (k j : Nat) : Nat := j * nozPeriod s k + s.fld (chReg Reg.ACTG_NOZ_PHASE k) 0 20 * 1000

/-- Coil-on and coil-off instants of grid period j (R355). -/
def coilOn (s : State) (k j : Nat) : Nat := gridInstant s k j - latOpen s k
def coilOff (s : State) (k j : Nat) : Nat := gridInstant s k j + nozFlow s k - latClose s k

/-- The first grid period whose coil-off instant is at or after `t` (R356). -/
def firstOffGrid (s : State) (k t : Nat) : Nat :=
  let p := max 1 (nozPeriod s k)
  let base := s.fld (chReg Reg.ACTG_NOZ_PHASE k) 0 20 * 1000 + nozFlow s k
  (t + latClose s k - base + (p - 1)) / p

/-- The OPEN of a NOZZLE channel at implement time `it` computes its first coil-off (R356). -/
def nozzleFirst (k it : Nat) (s : State) : State :=
  let j := firstOffGrid s k (it + latOpen s k + nozMin s k)
  s.setChan k { chan s k with grid := some j, nextOff := some (coilOff s k j), nextOn := none, skip := false }

/-- The coil-on of the grid period after `j` is computed, with whether its pulse is skipped (R355). -/
def nozzleNextOn (k j : Nat) (s : State) : State :=
  s.setChan k { chan s k with grid := some (j + 1), nextOn := some (coilOn s k (j + 1)), nextOff := none,
                              skip := decide (nozFlow s k < nozMin s k) }

/-! ## OPEN and CLOSE (R348 to R350) -/

/-- The answer to an OPEN is recorded; every answer but STARTED and ALREADY_OPEN latches REFUSED (R348). -/
def answerOpen (k code : Nat) (s : State) : State :=
  (s.setFld (chReg Reg.ACTG_STAT k) 24 4 code).chCauseIf (decide (2 ≤ code)) k 12

/-- A PROP or LAMP channel enters ON (R357, R359). -/
def enterOn (k : Nat) (s : State) : State :=
  let s1 := takePhase k s
  let inr := if chMode s k = 3 then some (s.now + bits (heldReg s1 k 0x0BC) 0 16 * 200000) else none
  (s1.setChan k { chan s1 k with start := s.now, onSince := s.now, applied := 0, duty := 0, begun := false, onEnd := none, onSum := 0,
                                 onCount := 0, inrushEnd := inr }).chTo k 5

/-- The opening that an accepted OPEN begins, by mode, and its answer (R354). -/
def beginOpen (k it : Nat) (excluded : Bool) (s : State) : State × Nat :=
  let s1 := s.chSet k 0 true
  match chMode s k with
  | 1 => (enterOn k s1, 0)
  | 3 => (enterOn k s1, 0)
  | 2 => beginPeak k it excluded (nozzleFirst k it (takePhase k (s1.chSet k 1 true)))
  | _ => beginPeak k it excluded s1

/-- An OPEN that acts at implement time `it`; `cmd` says that it comes from a CMD write (R348, R350). The second component is the
answer. -/
def actOpen (k it : Nat) (cmd : Bool) (s : State) : State × Nat :=
  let st := chState s k
  let refuse (code : Nat) : State × Nat := (answerOpen k code s, code)
  if st = 0 then refuse 2
  else if st = 10 then refuse 8
  else if st = 8 then refuse 6
  else if st = 9 then refuse 5
  else if st = 2 ∨ st = 3 ∨ st = 4 ∨ st = 5 ∨ (st = 6 ∧ chFlag s k 1) then refuse 1
  else if cmd && restrictOpen s then refuse 3
  else if !(chSupplied s k) then refuse 4
  else
    let inClosing := decide (st = 7)
    let c := chan s k
    let s1 := s.setChan k { c with offIt := none, retryAt := none, retries := 0 }
    let r := beginOpen k it inClosing s1
    (answerOpen k r.2 r.1, r.2)

/-- The closing of a channel whose gate goes off at implement time `it` (R349, R364). -/
def enterClosing (k it : Nat) (s : State) : State :=
  let s1 := gatesOff k (takePhase k (s.chSet k 6 false))
  (s1.setChan k { chan s1 k with seek := false, caught := none, offIt := some it, offTick := s.now, plateau := false,
                                 exClose := false }).chTo k 7

/-- A CLOSE that acts at implement time `it` (R349): it is never refused. In ONOFF, NOZZLE and CLUTCH a channel that is neither off by its
trip, its temperature or its pads nor already closing enters CLOSING. -/
def actClose (k it : Nat) (s : State) : State :=
  let st := chState s k
  let s0 := commandClosed k s
  let s1 := s0.setChan k { chan s0 k with nextOn := none, nextOff := none, grid := none, skip := false, retryAt := none,
                                          retries := 0 }
  match st with
  | 0 | 7 | 9 | 10 => gatesOff k s1
  | 8 => (endPattern k s1).chTo k 1
  | _ => if chMode s k = 1 ∨ chMode s k = 3 then (endPattern k s1).chTo k 1 else enterClosing k it (gatesOff k s1)

/-- CMD.CLEAR_TRIP: TRIPPED ends in OFF (R372). -/
def clearTrip (k : Nat) (s : State) : State :=
  if chState s k = 8 then (commandClosed k (endPattern k s)).chTo k 1 else s

/-- A write to CMD: a CLOSE acts before an OPEN of the same write (R350). -/
def actCmdWrite (m : Master) (k : Nat) (v : Word) (s : State) : State :=
  let s1 := s.consumeKey (0xA0 + k / 8) m
  let s2 := if bit v 2 then clearTrip k s1 else s1
  let s3 := if bit v 1 then actClose k (implementTime s2) s2 else s2
  if bit v 0 then (actOpen k (implementTime s3) true s3).1 else s3

/-- Every channel that is open gets a CLOSE: the controlled stop of R103. -/
def closeAll (s : State) : State :=
  (List.range (8 * groupsOf s.variant)).foldl
    (fun s k => if chFlag s k 0 then actClose k (implementTime s) s else s) s

/-- RESTRICT_OPEN comes into force: openings that wait for their rail are abandoned (R362). -/
def actRestrict (s : State) : State :=
  (List.range (8 * groupsOf s.variant)).foldl
    (fun s k => if chState s k = 2 then answerOpen k 3 ((commandClosed k (endPattern k s)).chTo k 1) else s) s

/-! ## Samples (R351 to R353, R363, R364) -/

/-- Catch search on one current sample (R363): the channel after it, and whether the catch came. -/
def catchStep (dip : Int) (i : Int) (c : ActChan) : ActChan × Bool :=
  match c.imin with
  | none =>
    let m := if c.imax < i then i else c.imax
    if i ≤ m - dip then ({ c with imax := m, imin := some i }, false) else ({ c with imax := m }, false)
  | some lo =>
    let lo' := if i < lo then i else lo
    ({ c with imin := some lo' }, decide (lo' + dip ≤ i))

/-- The catch search of a sample in PEAK. -/
def catchSample (k : Nat) (i : Int) (s : State) : State :=
  let c := chan s k
  let cfg := heldReg s k 0x060
  if c.seek && decide (c.start + bits cfg 16 16 * 200 ≤ s.now) then
    let r := catchStep (q15 cfg 0) i c
    let s1 := s.setChan k r.1
    if r.2 then
      let s2 := (s1.setChan k { r.1 with seek := false, caught := some s.now }).chCause k 0
      learn k false (implementTime s - c.openIt) c.exOpen s2
    else s1
  else s

/-- A chop: the gate goes off for HOLD_TOFF (R352, R353). -/
def chop (k : Nat) (s : State) : State :=
  let s1 := setGate k false s
  s1.setChan k { chan s1 k with chopEnd := some (s.now + bits (heldReg s k 0x05C) 0 16 * 200) }

/-- A sample asks for a chop (R352, R353). In a period that R370 stretches, the gate stays on until MEAS_MIN_ON, where the on-state check
runs. The second component says that the gate chopped. -/
def sampleChop (k : Nat) (i : Int) (s : State) : State × Bool :=
  let c := chan s k
  if c.stretch && decide ((s.now - c.gateSince) * 5 < bits (heldReg s k 0x0C0) 0 16) then
    let ds := chReg Reg.ACTG_DIAG_STAT k
    (if c.stretching then s
     else (s.setFld ds 16 14 (min 0x3FFF (s.fld ds 16 14 + 1))).setChan k { c with stretching := true }, false)
  else
    let s1 := if c.stretching && diagOn s k then diagResult k 3 (onCheckFails s k i) s else s
    (chop k (s1.setChan k { chan s1 k with stretch := false, stretching := false }), true)

/-- TH_SCALE applies to the channel's hold current: derated, in ONOFF or NOZZLE (R373). -/
def holdScale (s : State) (k : Nat) : Nat :=
  if chFlag s k 8 && (decide (chMode s k = 0) || decide (chMode s k = 2)) then bits (heldReg s k 0x0EC) 0 24 else 0x800000

/-- A current sample is at or above HOLD_I·λ, with HOLD_I scaled while derated (R353, R358, R373). -/
def holdReached (s : State) (k : Nat) (i : Int) : Bool :=
  decide (q23 (heldReg s k 0x054) * (chan s k).lam * holdScale s k ≤ i * 0x400000000000)

/-- A finish search ends the closing (R355, R364): NOZZLE trains go on to PULSE_OFF. -/
def endClosing (k : Nat) (s : State) : State :=
  let s1 := s.setChan k { chan s k with offIt := none }
  s1.chTo k (if chFlag s k 1 then 6 else 1)

/-- The finish search on one drain sample (R364). -/
def finishSample (k : Nat) (d : Int) (s : State) : State :=
  let c := chan s k
  match c.offIt with
  | none => s
  | some it =>
    let cfg := heldReg s k 0x064
    if c.offTick + bits (heldReg s k 0x074) 16 16 * 200 < s.now then s
    else if c.plateau && decide (d < q15 cfg 0) then
      endClosing k (learn k true (implementTime s - it) c.exClose (s.chCause k 1))
    else if decide (q15 cfg 16 < d) then s.setChan k { c with plateau := true }
    else s

/-- What a sample decides in PEAK (R352). -/
def peakSample (k : Nat) (i : Int) (s : State) : State :=
  let c := chan s k
  let s1 := if c.boost && atLeast i (q23 (heldReg s k 0x050)) c.lam then s.setChan k { c with boost := false } else s
  let s2 := catchSample k i s1
  if (chan s2 k).gate && atLeast i (q23 (heldReg s k 0x04C)) c.lam then
    let r := sampleChop k i s2
    if r.2 then noCatch k r.1 else r.1
  else s2

/-- What a sample decides in HOLD (R353). -/
def holdSample (k : Nat) (i : Int) (s : State) : State :=
  let c := chan s k
  if c.gate && holdReached s k i then (sampleChop k i s).1 else s

/-- What a sample decides in ON: the average of PROP, the inrush chop of LAMP (R357, R359), which a diagnostic stretch holds off (R370). -/
def onSample (k : Nat) (i : Int) (s : State) : State :=
  let c := chan s k
  if chMode s k = 3 then
    if c.gate && decide (c.inrushEnd ≠ none) && atLeast i (q23 (heldReg s k 0x04C)) c.lam then (sampleChop k i s).1 else s
  else if c.gate then s.setChan k { c with onSum := c.onSum + i, onCount := c.onCount + 1 } else s

/-- The 1 µs sample of a channel, at a TICK that is a multiple of 200: current and drain in Q1.23 of their full scales, and the current of its
group, which is sampled at the same instant (R351). -/
def actSample (k : Nat) (i : Int) (x : DrainSample) (s : State) : State :=
  if k < 8 * groupsOf s.variant ∧ chSupplied s k ∧ s.now % 200 = 0 then
    let d := x.drain
    let c := chan s k
    let s0 := ((groupSample (k / 8) x.group s).publish (0x100 + k) (satS 24 c.cur)).publish (0x130 + k) (satS 24 c.drn)
    let s1 := s0.setChan k { c with cur := i, drn := d, sumSq := c.sumSq + (i * i).toNat, samples := c.samples + 1 }
    match chState s k with
    | 3 => peakSample k i s1
    | 4 => holdSample k i s1
    | 5 => onSample k i s1
    | 7 => finishSample k d s1
    | _ => s1
  else s

/-! ## The timed events of a channel -/

/-- HOLD_TOFF elapses and the gate turns on again (R352, R353). -/
def actChopToffEnd (k : Nat) (s : State) : State :=
  let c := chan s k
  match c.chopEnd with
  | some t =>
    if t ≤ s.now then
      let s1 := s.setChan k { c with chopEnd := none }
      let st := chState s k
      if st = 3 ∨ st = 4 ∨ (st = 5 ∧ c.onEnd ≠ none) then setGate k true s1 else s1
    else s
  | none => s

/-- BOOST_TMAX after the start of the peak, the boost switch turns off (R352). -/
def actBoostTmax (k : Nat) (s : State) : State :=
  let c := chan s k
  if chState s k = 3 ∧ c.boost ∧ c.start + bits (heldReg s k 0x05C) 16 16 * 200 ≤ s.now then s.setChan k { c with boost := false }
  else s

/-- The peak ends PEAK_EXT after the catch or PEAK_TMAX after the start, and the hold starts (R352). -/
def actPeakEnd (k : Nat) (s : State) : State :=
  let c := chan s k
  let t := heldReg s k 0x058
  let byCatch : Bool := match c.caught with
    | some x => decide (x + bits t 0 16 * 200 ≤ s.now)
    | none => false
  if chState s k = 3 ∧ (byCatch = true ∨ c.start + bits t 16 16 * 200 ≤ s.now) then
    let s1 := takePhase k (noCatch k s)
    (s1.setChan k { chan s1 k with boost := false, caught := none, retries := 0 }).chTo k 4
  else s

/-- The finish window ends without a finish (R364). -/
def actFinishWindowEnd (k : Nat) (s : State) : State :=
  let c := chan s k
  if chState s k = 7 ∧ c.offTick + bits (heldReg s k 0x074) 16 16 * 200 ≤ s.now then
    endClosing k ((s.chSet k 6 true).chCause k 3)
  else s

/-- A computed coil-on instant is passed: a peak starts, or the pulse is skipped (R355). -/
def nozzleCoilOn (k : Nat) (s : State) : State :=
  let c := chan s k
  let st := chState s k
  match c.nextOn, c.grid with
  | some t, some j =>
    if (st = 6 ∨ st = 7) ∧ chFlag s k 1 ∧ t ≤ implementTime s then
      if c.skip then nozzleNextOn k j s
      else
        let s1 := s.setChan k { c with nextOn := none, nextOff := some (coilOff s k j), offIt := none, retryAt := none }
        let r := beginPeak k t (decide (st = 7) || decide (0 < c.retries)) s1
        if r.2 = 0 then r.1 else answerOpen k r.2 r.1
    else s
  | _, _ => s

/-- A computed coil-off instant is passed: the coil turns off, or stays on in hold where the interval would be too short (R355). A peak that
the coil-off ends before its catch ends with NO_CATCH (R363). -/
def nozzleCoilOff (k : Nat) (s : State) : State :=
  let c := chan s k
  let st := chState s k
  match c.nextOff, c.grid with
  | some t, some j =>
    if (st = 2 ∨ st = 3 ∨ st = 4) ∧ chFlag s k 1 ∧ t ≤ implementTime s then
      let skip := decide (nozFlow s k < nozMin s k)
      if !skip && decide (coilOn s k (j + 1) < t + latClose s k + nozMin s k) then
        s.setChan k { c with grid := some (j + 1), nextOff := some (coilOff s k (j + 1)) }
      else
        let s1 := nozzleNextOn k j (takePhase k (noCatch k s))
        if st = 2 then (gatesOff k s1).chTo k 6 else enterClosing k t s1
    else s
  | _, _ => s

/-- BOOST_WAIT elapses: the peak starts as FALLBACK does (R362). -/
def boostWaitTimeout (k : Nat) (s : State) : State :=
  let c := chan s k
  if chState s k = 2 ∧ c.start + bits (heldReg s k 0x0D8) 0 16 * 200 ≤ s.now then startPeak k c.openIt false true s else s

/-- The rail becomes ready: the peak starts with boost (R362); its catch stays excluded from learning. -/
def boostRailReady (k : Nat) (s : State) : State :=
  match chState s k, boostRail s k with
  | 2, some x => if railReady s x then startPeak k (chan s k).openIt true true s else s
  | _, _ => s

/-- The trip comparator of a channel (R372). -/
def actTrip (k : Nat) (s : State) : State :=
  let cfg := heldReg s k 0x0D0
  if k < 8 * groupsOf s.variant ∧ bit cfg 31 then
    let st := chState s k
    let s1 := (s.satInc (chReg Reg.ACTG_TRIP_CNT k) 0).chCause k 8
    let c := chan s1 k
    let s2 := gatesOff k (s1.setChan k { c with stretch := false, spoiled := c.spoiled || c.stretching, exOpen := true, exClose := true,
                                                seek := false, caught := none })
    if st = 2 ∨ st = 3 ∨ st = 4 ∨ st = 5 then
      if bits cfg 24 4 ≤ c.retries then (endPattern k (s2.chSet k 1 false)).chTo k 8
      else if chMode s k = 2 then
        let s3 := match c.grid with | some j => nozzleNextOn k j (takePhase k s2) | none => s2
        (s3.setChan k { chan s3 k with retries := c.retries + 1 }).chTo k 6
      else (s2.setChan k { chan s2 k with retries := c.retries + 1, retryAt := some (s.now + bits cfg 16 8 * 200000) }).chTo k 1
    else s2
  else s

/-- RETRY_MS after a trip, a channel still commanded open restarts (R372). -/
def actTripRetry (k : Nat) (s : State) : State :=
  let c := chan s k
  match c.retryAt with
  | some t =>
    if t ≤ s.now ∧ chState s k = 1 ∧ chFlag s k 0 then
      let s1 := s.setChan k { c with retryAt := none }
      let n := chMode s k
      if n = 1 ∨ n = 3 then enterOn k s1
      else
        let r := beginPeak k (implementTime s) true s1
        if r.2 = 0 then r.1 else answerOpen k r.2 r.1
    else s
  | none => s

/-- The temperature that TH_PARAM1.TH_AMB gives, in °C (R373). -/
def ambient (s : State) (k : Nat) : Rat := (sbits (heldReg s k 0x0E4) 0 16 : Rat) / 16

/-- θ after one millisecond with the mean of i² of the samples taken (R373); with TAU 0 the spec gives no value, and a free value
stands for it. -/
def thermalStep (s : State) (k : Nat) : Rat :=
  let c := chan s k
  let p0 := heldReg s k 0x0E0
  let tau := bits (heldReg s k 0x0E4) 16 16
  let ifs : Rat := (s.fld (chReg Reg.ACTG_SCALE k) 16 16 : Rat) / 1000
  let mean : Rat := if c.samples = 0 then 0 else (c.sumSq : Rat) / (c.samples : Rat) / 70368744177664
  let t := ambient s k + c.theta
  let r : Rat := (bits p0 16 16 : Rat) / 1000 * (1 + 393 / 100000 * (t - 20))
  let pw := r * mean * ifs * ifs
  if tau = 0 then (Config.freeNat s.freeCtr : Rat)
  else c.theta + (pw * ((bits p0 0 16 : Rat) / 100) - c.theta) * (1 / 1000) / ((tau : Rat) / 10)

/-- The thermal levels act on the new temperature (R373). -/
def thermalLevels (k : Nat) (t : Rat) (s : State) : State :=
  let lv := heldReg s k 0x0E8
  let warn : Rat := (bits lv 0 8 : Rat)
  let der : Rat := (bits lv 8 8 : Rat)
  let off : Rat := (bits lv 16 8 : Rat)
  let w0 := (chan s k).thWarn
  let w1 := decide (warn ≤ t) || (w0 && decide (warn - 5 < t))
  let d0 := chFlag s k 8
  let d1 := decide (der ≤ t) || (d0 && decide (der - 5 < t))
  let s1 := (s.setChan k { chan s k with thWarn := w1 }).chCauseIf (w1 && !w0) k 9
  let s2 := (s1.chSet k 8 d1).chCauseIf (d1 && !d0) k 10
  let st := chState s k
  if decide (off ≤ t) && decide (st ≠ 9) && decide (st ≠ 10) then
    let open0 := chFlag s2 k 0
    (((((endPattern k s2).chSet k 1 false).chSet k 0 open0).chTo k 9)).chCause k 11
  else if st = 9 ∧ t < warn then (commandClosed k s2).chTo k 1
  else s2

/-- The 1 ms update of the coil temperature estimate, a millisecond or more after the last one (R373). -/
def actThermalUpdate (k : Nat) (s : State) : State :=
  if chActs s k && s.flag (chReg Reg.ACTG_CFG k) 18 && decide ((chan s k).thFrom + 200000 ≤ s.now) then
    let th := thermalStep s k
    let s0 := if bits (heldReg s k 0x0E4) 16 16 = 0 then s.drawn else s
    let t := ambient s k + th
    let s1 := s0.setChan k { chan s0 k with theta := th, sumSq := 0, samples := 0, thFrom := s.now }
    thermalLevels k t (s1.wr (chReg Reg.ACTG_TH_TEMP k) (wordOf (lowBits 16 (t * 16).floor)))
  else s

/-- A gate held steady for 1 ms gets a check (R368). -/
def actDiagPeriodic (k : Nat) (s : State) : State :=
  let c := chan s k
  let st := chState s k
  if c.diagSince + 200000 ≤ s.now ∧ diagOn s k ∧ st ≠ 0 ∧ st ≠ 10 ∧ st ≠ 7 then
    let s1 := s.setChan k { c with diagSince := s.now }
    if c.gate then diagResult k 1 (onCheckFails s k c.cur) s1 else diagResult k 2 (offCheckFails s k) s1
  else s

/-! ## PROP and LAMP periods (R357, R359) -/

/-- A switching period in TICKs at PWM_FREQ as the last period start took it; the first is of the value in the register. -/
def periodTicks (s : State) (k : Nat) : Nat := 200000000 / max 1 (bits (heldReg s k 0x098) 0 16)

/-- A period starts with a duty in Q1.23: the gate turns on for its share, stretched where R370 asks for it, and once an inrush chop in
progress has ended; with no share it turns off, unless a stretch of the last period goes on. The diagnostic period that ends here is judged
first, so its stretch falls in this one. -/
def startPeriod (k : Nat) (duty : Nat) (full : Bool) (s : State) : State :=
  let per := 200000000 / max 1 (s.fld (chReg Reg.ACTG_PWM_FREQ k) 0 16)
  let on0 := if full then per else duty * per / 0x800000
  let chopping := match (chan s k).chopEnd with | some t => decide (s.now < t) | none => false
  let going := (chan s k).stretching && (chan s k).gate
  let s0 := if chopping || going then s else setGate k (decide (0 < on0)) s
  let s1 := takePhase k s0
  let c := chan s1 k
  let minOn := (bits (heldReg s1 k 0x0C0) 0 16 + 4) / 5
  let st := c.stretch && !going && decide (0 < on0) && decide (on0 < minOn)
  let from_ := if chopping then c.chopEnd.getD s.now else c.gateSince
  let off := if st || going then max (s.now + on0) (from_ + minOn) else s.now + on0
  let s2 := s1.setChan k { c with start := s.now, applied := duty, begun := true, onSum := 0, onCount := 0,
                                  chopEnd := if chopping then c.chopEnd else none,
                                  stretching := st || going, onEnd := if on0 = 0 ∧ going = false then none else some off }
  let ds := chReg Reg.ACTG_DIAG_STAT k
  if st then s2.setFld ds 16 14 (min 0x3FFF (s.fld ds 16 14 + 1)) else s2

/-- The period in progress of a channel in ON has elapsed, or none has begun. -/
def periodOver (s : State) (k : Nat) : Bool :=
  let c := chan s k
  decide (c.start + periodTicks s k ≤ s.now) || !c.begun

/-- The Loop Engine of the bound slot is enabled and not in PAIR_HALT (R357). -/
def slotRuns (s : State) (k : Nat) : Bool :=
  let w := s.rd (chReg Reg.ACTG_ACT_SLOT k)
  bit w 31 && s.flag (Reg.LE (bits w 24 1) + 0x008) 0 && !(tabGet s.loops (bits w 24 1) {}).halted
    && !(frozen s (0x60 + bits w 24 1))

/-- A PROP channel starts a period: the average of the last one, and the latest duty of its slot (R357). -/
def propPeriodStart (k : Nat) (s : State) : State :=
  if chState s k = 5 ∧ chMode s k = 1 ∧ periodOver s k then
    let c := chan s k
    let avg := if c.onCount = 0 then (if c.applied = 0 then 0 else c.avg) else truncDiv c.onSum c.onCount
    let duty := if slotRuns s k then c.duty.toNat else 0
    startPeriod k duty false (s.setChan k { c with avg := avg })
  else s

/-- A LAMP channel starts a period at LAMP_DUTY, scaled while derated (R359, R373). A negative duty counts as 0. -/
def lampPeriodStart (k : Nat) (s : State) : State :=
  if chState s k = 5 ∧ chMode s k = 3 ∧ periodOver s k then
    let raw := (q23 (s.rd (chReg Reg.ACTG_LAMP_DUTY k))).toNat
    let d := if chFlag s k 8 then raw * s.fld (chReg Reg.ACTG_TH_SCALE k) 0 24 / 0x800000 else raw
    startPeriod k d (decide (d = 0x7FFFFF)) s
  else s

/-- INRUSH_T after the OPEN, inrush chopping ends (R359). -/
def inrushEnd (k : Nat) (s : State) : State :=
  match (chan s k).inrushEnd with
  | some t => if t ≤ s.now then s.setChan k { chan s k with inrushEnd := none } else s
  | none => s

/-- The on-time of a period ends; at the end of a diagnostic stretch the on-state check runs (R357, R370). Where an inrush chop has put the
gate-on off, the stretch lasts until the gate has been on for MEAS_MIN_ON. -/
def actDutyGateOff (k : Nat) (s : State) : State :=
  let c := chan s k
  match c.onEnd with
  | some t =>
    if t ≤ s.now then
      let full := c.gateSince + (bits (heldReg s k 0x0C0) 0 16 + 4) / 5
      if c.applied = 0x7FFFFF ∧ chMode s k = 3 then s
      else if c.stretch && c.gate && decide (s.now < full) then
        let ds := chReg Reg.ACTG_DIAG_STAT k
        (if c.stretching then s else s.setFld ds 16 14 (min 0x3FFF (s.fld ds 16 14 + 1))).setChan k
          { c with onEnd := some full, stretching := true }
      else
        let s1 := setGate k false (s.setChan k { c with onEnd := none, stretching := false })
        if c.stretching && c.gate && diagOn s k then diagResult k 3 (onCheckFails s k c.cur) s1 else s1
    else s
  | none => s

/-! ## Register writes (R347, R354, R357, R366) -/

/-- The channel number of a register of an ACTG page. -/
def chanOf (a : Nat) : Nat := a / 0x1000 % 0x10 * 8 + a % 0x1000 / 0x200

/-- The values of a CFG word are legal on the variant, with the PWM_FREQ that the channel has: a PROP channel switches at up to 20 kHz (R354,
R357, R361). -/
def actCfgLegal (s : State) (k : Nat) (n : Word) : Bool :=
  decide (bits n 0 3 ≤ 4) && !(decide (bits n 0 3 = 1) && decide (20000 < s.fld (chReg Reg.ACTG_PWM_FREQ k) 0 16))
    && decide (bits n 4 2 ≠ 3) && decide (bits n 8 2 ≠ 3)
    && !(decide (boostsOf s.variant = 1) && decide (bits n 4 2 = 2))

/-- Another channel holds the LE actuator slot: only channels in PROP mode occupy one (R12). -/
def slotTaken (s : State) (k le slot : Nat) : Bool :=
  (List.range (8 * groupsOf s.variant)).any fun j =>
    decide (j ≠ k) && decide (chMode s j = 1) && (let w := s.rd (chReg Reg.ACTG_ACT_SLOT j)
                       bit w 31 && decide (bits w 24 1 = le) && decide (bits w 0 5 = slot))

/-- A bound channel would turn to PROP on a slot that another channel occupies (DEDUCED from R12; log entry 97). -/
def bindTaken (s : State) (k : Nat) (cfg : Word) : Bool :=
  let w := s.rd (chReg Reg.ACTG_ACT_SLOT k)
  decide (bits cfg 0 3 = 1) && bit w 31 && slotTaken s k (bits w 24 1) (bits w 0 5)

/-- A write to CHc.CFG (R347, R354, R357). -/
def actCfgWrite (m : Master) (k : Nat) (v : Word) (s : State) : State :=
  let a := chReg Reg.ACTG_CFG k
  let d := defOf .actg 0x040
  let after (t : State) : State := grpMaxRefresh (k / 8) (chanRefresh k t)
  runningWrite d a 0x01 m v (s.flag a 31) (fun n s => after (s.wr a n))
    (fun v s =>
      let n := storeValue d (s.rd a) v
      if !(actCfgLegal s k n) then s.blockError a 0x02 m
      else if bit n 31 && decide (bits n 0 3 = 1) && !(s.flag (chReg Reg.ACTG_ACT_SLOT k) 31) then s.blockError a 0x05 m
      else if bindTaken s k n then s.blockError a 0x03 m
      else after (s.wr a n)) s

/-- A write to ACT_SLOT (R357). -/
def actSlotWrite (m : Master) (k : Nat) (v : Word) (s : State) : State :=
  let a := chReg Reg.ACTG_ACT_SLOT k
  let d := defOf .actg 0x0B4
  regWrite d a m v
    (fun v s =>
      let n := storeValue d (s.rd a) v
      if s.flag (chReg Reg.ACTG_CFG k) 31 then s.blockError a 0x01 m
      else if bit n 31 && (decide (enginesOf s.variant ≤ bits n 24 1) || decide (23 < bits n 0 5)) then s.blockError a 0x04 m
      else if bit n 31 && slotTaken s k (bits n 24 1) (bits n 0 5) then s.blockError a 0x03 m
      else s.wr a n) s

/-- A write to LAT_OPEN or LAT_CLOSE: refused outside its limits (R366). -/
def latWrite (m : Master) (k : Nat) (close : Bool) (v : Word) (s : State) : State :=
  let a := chReg (if close then Reg.ACTG_LAT_CLOSE else Reg.ACTG_LAT_OPEN) k
  let lim := s.rd (chReg (if close then Reg.ACTG_LAT_CLOSE_LIM else Reg.ACTG_LAT_OPEN_LIM) k)
  let d := defOf .actg (if close then 0x06C else 0x068)
  let s1 := regWrite d a m v
    (fun v s =>
      let n := storeValue d (s.rd a) v
      if bits lim 0 16 * 1000 ≤ n.toNat ∧ n.toNat ≤ bits lim 16 16 * 1000 then
        (s.wr a n).setChan k (if close then { chan s k with wroteClose := some s.now, learnClose := none }
          else { chan s k with wroteOpen := some s.now, learnOpen := none })
      else s.blockError a 0x02 m) s
  if close then grpMaxRefresh (k / 8) s1 else s1

/-- A write to a channel's IRQ_EN or IRQ_STAT (R375). -/
def chIrqWrite (d : RegDef) (k a : Nat) (m : Master) (v : Word) (s : State) : State :=
  (chanIrq k (genericWrite .actg d a m v s)).srcRefresh

/-- A write to a register of an ACTG page from offset 0x040 upward. -/
def actgWrite (d : RegDef) (_ a : Nat) (m : Master) (v : Word) (s : State) : State :=
  let k := chanOf a
  let live := s.flag (chReg Reg.ACTG_CFG k) 31
  let guarded (legal : Word → Bool) : State :=
    runningWrite d a 0x01 m v live (fun n s => s.wr a n)
      (fun v s => let n := storeValue d (s.rd a) v; if legal n then s.wr a n else s.blockError a 0x02 m) s
  match d.off with
  | 0x040 => actCfgWrite m k v s
  | 0x044 => actCmdWrite m k v s
  | 0x05C => checkedWrite d a 0x02 m v (fun n => decide (2 ≤ bits n 0 16) && decide (bits n 0 16 ≤ 1000)) s
  | 0x068 => latWrite m k false v s
  | 0x06C => latWrite m k true v s
  | 0x088 => guarded (fun n => decide (10000 ≤ n.toNat) && decide (n.toNat ≤ 100000)
      && decide (s.fld (chReg Reg.ACTG_NOZ_PHASE k) 0 20 < n.toNat))
  | 0x090 => guarded (fun n => decide (n.toNat < s.fld (chReg Reg.ACTG_NOZ_PERIOD k) 0 20))
  | 0x098 => checkedWrite d a 0x02 m v
      (fun n => decide (100 ≤ n.toNat) && decide (n.toNat ≤ if chMode s k = 1 then 20000 else 50000)) s
  | 0x0B0 => checkedWrite d a 0x02 m v
      (fun n => decide (bits n 16 16 = 0) || (decide (25 ≤ bits n 16 16) && decide (bits n 16 16 ≤ 500))) s
  | 0x0B4 => actSlotWrite m k v s
  | 0x0F4 => guarded (fun _ => true)
  | 0x0F8 | 0x0FC => chIrqWrite d k a m v s
  | _ => genericWrite .actg d a m v s

/-- ACTk turns its low-side switch on: off while the group is frozen, and while path 1 forces the pad (R27, R64, R345). -/
def actOn (s : State) (k : Nat) : Bool := (chan s k).gate && !(frozen s (0xA0 + k / 8)) && !(padsForced s)

/-- ACT_BHk turns the boost switch of its channel on, under the same conditions (R352). -/
def actBoostOn (s : State) (k : Nat) : Bool := (chan s k).boost && !(frozen s (0xA0 + k / 8)) && !(padsForced s)

/-- GRP_STAT: the ACT_SENg level, the channels energised and the channels enabled; SHORT is stored. -/
def grpStat (s : State) (g : Nat) : Word :=
  let w := s.rd (Reg.ACTG_GRP_STAT g) &&& 0x00010000
  let en := (List.range 8).foldl (fun n c => if chEnabled s (8 * g + c) then n + 2 ^ c else n) 0
  let hot := (List.range 8).foldl (fun n c => if actOn s (8 * g + c) then n + 2 ^ c else n) 0
  putBit (putBits (putBits w 0 8 en) 8 8 hot) 31 (s.cox.actSen.contains g)

/-- A read of a register of an ACTG page whose value is not stored. -/
def actgRead (d : RegDef) (_ a : Nat) (_ : Master) (s : State) : Option (Word × State) :=
  match d.off with
  | 0x204 => some (grpStat s (a / 0x1000 % 0x10), s)
  | _ => none

/-! ## Boost controllers (R360, R361) -/

/-- BSTx_GATE is high: the controller switches it on, its page is not frozen, and path 1 does not force it (R27, R64, R360). -/
def bstOn (s : State) (x : Nat) : Bool := (bst s x).gate && !(frozen s 0xA8) && !(padsForced s)

/-- A controller enters FAULT with a reason: 1 OV, 2 UV, 3 charge timeout (R361). -/
def bstFault (x why : Nat) (s : State) : State :=
  ((s.setBst x { bst s x with gate := false, toffEnd := none }).wr (Reg.BST_X_STAT x) (wordOf (why * 16 + 3))).cause Reg.BST (4 * x + 1)

/-- The 1 µs sample of a rail: BSTx_FB in µV, multiplied by x_DIV (R360, R361). -/
def bstRailSample (x uv : Nat) (s : State) : State :=
  if x < boostsOf s.variant then
    let rail := min 0xFFFF (uv * s.fld (Reg.BST_X_DIV x) 0 16 / 256 / 10000)
    let s1 := (s.publish (0x168 + x) (s.sfld (Reg.BST_X_VRAIL x) 0 32)).wr (Reg.BST_X_VRAIL x) (wordOf rail)
    let st := bstState s x
    if st = 1 ∨ st = 2 then
      let lim := s.rd (Reg.BST_X_LIM x)
      let tgt := s.fld (Reg.BST_X_CFG x) 0 16
      if bits lim 16 16 ≤ rail then bstFault x 1 s1
      else
        let up := decide (s.fld (Reg.BST_X_READY x) 0 16 ≤ rail)
        let s2 := if st = 1 ∧ up then (s1.setFld (Reg.BST_X_STAT x) 0 2 2).cause Reg.BST (4 * x) else s1
        let b := bst s2 x
        let was := b.wasReady || up
        let low := was && decide (rail < bits lim 0 16)
        let since := if low then some (b.uvSince.getD s.now) else none
        if low ∧ since.getD s.now + 200000 ≤ s.now then bstFault x 2 s2
        else
          let sat := decide (tgt ≤ rail) || (b.satisfied && decide (tgt * 99 < rail * 100))
          let gate := if sat || padsForced s then false else if b.satisfied then true else b.gate
          s2.setBst x { b with wasReady := was, uvSince := since, satisfied := sat, gate := gate,
                               toffEnd := if sat then none else b.toffEnd }
    else s1
  else s

/-- BSTx_ISNS reaches ILIM: the gate turns off for TOFF (R360). -/
def bstIlim (x : Nat) (s : State) : State :=
  let b := bst s x
  if b.gate then s.setBst x { b with gate := false, toffEnd := some (s.now + s.fld (Reg.BST_X_SW x) 0 8 * 20) } else s

/-- TOFF elapses: the gate turns on again below TARGET (R360). -/
def bstToffEnd (x : Nat) (s : State) : State :=
  let b := bst s x
  match b.toffEnd with
  | some t => if t ≤ s.now then s.setBst x { b with toffEnd := none, gate := !b.satisfied && !(padsForced s) } else s
  | none => s

/-- The rail has not become ready within CHARGE_TMAX of the enable (R361). -/
def bstChargeTimeout (x : Nat) (s : State) : State :=
  let b := bst s x
  if bstState s x = 1 ∧ b.wasReady = false ∧ b.since + s.fld (Reg.BST_X_SW x) 8 8 * 2000000 ≤ s.now then bstFault x 3 s else s

/-- A write to a register of the BST page from offset 0x040 upward: while the controller is enabled only EN changes. -/
def bstWrite (d : RegDef) (x a : Nat) (m : Master) (v : Word) (s : State) : State :=
  if featureAbsent s.variant .bst (a % 0x1000) then genericWrite .bst d a m v s
  else match d.off with
    | 0x040 | 0x044 | 0x048 | 0x04C | 0x050 =>
      runningWrite d a 0x01 m v (s.flag (Reg.BST_X_CFG x) 31) (fun n s => bstRefresh x (s.wr a n))
        (fun v s => bstRefresh x (s.wr a (storeValue d (s.rd a) v))) s
    | _ => genericWrite .bst d a m v s

/-! ## The commands of the channels and rails -/

/-- ACT_CMD_OPEN (R348). -/
def execActCmdOpen (m : Master) (k : Nat) (s : State) : Answer :=
  .next (if k < 48 then regRow m (chReg Reg.ACTG_CMD k) (actCmdWrite m k 1) s else s)
/-- ACT_CMD_CLOSE (R349). -/
def execActCmdClose (m : Master) (k : Nat) (s : State) : Answer :=
  .next (if k < 48 then regRow m (chReg Reg.ACTG_CMD k) (actCmdWrite m k 2) s else s)
/-- ACT_CLEAR_TRIP (R372). -/
def execActClearTrip (m : Master) (k : Nat) (s : State) : Answer :=
  .next (if k < 48 then regRow m (chReg Reg.ACTG_CMD k) (actCmdWrite m k 4) s else s)
/-- ACT_SAMPLE (R351). -/
def execActSample (k : Nat) (current : Int) (drain : DrainSample) (s : State) : Answer := .next (live (0xA0 + k / 8) (actSample k current drain) s)
/-- ACT_CHOP_TOFF_END (R353). -/
def execActChopToffEnd (k : Nat) (s : State) : Answer := .next (live (0xA0 + k / 8) (actChopToffEnd k) s)
/-- ACT_BOOST_TMAX (R352). -/
def execActBoostTmax (k : Nat) (s : State) : Answer := .next (live (0xA0 + k / 8) (actBoostTmax k) s)
/-- ACT_PEAK_END (R352). -/
def execActPeakEnd (k : Nat) (s : State) : Answer := .next (live (0xA0 + k / 8) (actPeakEnd k) s)
/-- ACT_FINISH_WINDOW_END (R364). -/
def execActFinishWindowEnd (k : Nat) (s : State) : Answer := .next (live (0xA0 + k / 8) (actFinishWindowEnd k) s)
/-- NOZZLE_COIL_ON (R355). -/
def execNozzleCoilOn (k : Nat) (s : State) : Answer := .next (live (0xA0 + k / 8) (nozzleCoilOn k) s)
/-- NOZZLE_COIL_OFF (R355). -/
def execNozzleCoilOff (k : Nat) (s : State) : Answer := .next (live (0xA0 + k / 8) (nozzleCoilOff k) s)
/-- BOOST_WAIT_TIMEOUT (R362). -/
def execBoostWaitTimeout (k : Nat) (s : State) : Answer := .next (live (0xA0 + k / 8) (boostWaitTimeout k) s)
/-- BOOST_RAIL_READY (R362). -/
def execBoostRailReady (k : Nat) (s : State) : Answer := .next (live (0xA0 + k / 8) (boostRailReady k) s)
/-- ACT_TRIP (R372). -/
def execActTrip (k : Nat) (s : State) : Answer := .next (actTrip k s)
/-- ACT_TRIP_RETRY (R372). -/
def execActTripRetry (k : Nat) (s : State) : Answer := .next (live (0xA0 + k / 8) (actTripRetry k) s)
/-- ACT_THERMAL_UPDATE (R373). -/
def execActThermalUpdate (k : Nat) (s : State) : Answer := .next (live (0xA0 + k / 8) (actThermalUpdate k) s)
/-- ACT_DIAG_PERIODIC (R368). -/
def execActDiagPeriodic (k : Nat) (s : State) : Answer := .next (live (0xA0 + k / 8) (actDiagPeriodic k) s)
/-- PROP_PERIOD_START (R357). -/
def execPropPeriodStart (k : Nat) (s : State) : Answer := .next (live (0xA0 + k / 8) (propPeriodStart k) s)
/-- LAMP_PERIOD_START (R359). -/
def execLampPeriodStart (k : Nat) (s : State) : Answer := .next (live (0xA0 + k / 8) (lampPeriodStart k) s)
/-- INRUSH_END (R359). -/
def execInrushEnd (k : Nat) (s : State) : Answer := .next (live (0xA0 + k / 8) (inrushEnd k) s)
/-- ACT_DUTY_GATE_OFF (R357). -/
def execActDutyGateOff (k : Nat) (s : State) : Answer := .next (live (0xA0 + k / 8) (actDutyGateOff k) s)
/-- ACT_SLOT_BIND (R357). -/
def execActSlotBind (m : Master) (k : Nat) (v : Word) (s : State) : Answer :=
  .next (if k < 48 then regRow m (chReg Reg.ACTG_ACT_SLOT k) (actSlotWrite m k v) s else s)
/-- LAT_OPEN_WRITE (R366). -/
def execLatOpenWrite (m : Master) (k : Nat) (close : Bool) (v : Word) (s : State) : Answer :=
  .next (if k < 48 then regRow m (chReg Reg.ACTG_LAT_OPEN k) (latWrite m k close v) s else s)
/-- BST_RAIL_SAMPLE (R361). -/
def execBstRailSample (x microvolts : Nat) (s : State) : Answer := .next (live 0xA8 (bstRailSample x microvolts) s)
/-- BST_ILIM (R360). -/
def execBstIlim (x : Nat) (s : State) : Answer := .next (live 0xA8 (bstIlim x) s)
/-- BST_TOFF_END (R360). -/
def execBstToffEnd (x : Nat) (s : State) : Answer := .next (live 0xA8 (bstToffEnd x) s)
/-- BST_CHARGE_TIMEOUT (R361). -/
def execBstChargeTimeout (x : Nat) (s : State) : Answer := .next (live 0xA8 (bstChargeTimeout x) s)
end Sys2Proof.Machine
end

