-- ==== Sys2Proof/Machine/Pwm.lean ====
section
/-! DEFINITION. Axis PWM: carriers, edges, filters and trips (spec/13_pwm.md). Instants are in HR units of 78.125 ps; one TICK is 64 HR
units, and an event command acts on the instants that the TICK of its step contains. -/

namespace Sys2Proof.Machine

/-- A PWM beyond its registers. -/
def pwm (s : State) (n : Nat) : Pwm := tabGet s.pwms n {}

/-- Sets a PWM. -/
def State.setPwm (s : State) (n : Nat) (p : Pwm) : State := { s with pwms := tabPut s.pwms n p {} }

/-- The first and the last HR unit of the present TICK. -/
def hrNow (s : State) : Int := s.now * 64
def hrEnd (s : State) : Int := s.now * 64 + 63

/-- TOP in force (R274). -/
def pwmTop (s : State) (n : Nat) : Nat := s.fld (Reg.PWM_TOP n) 0 24

/-- CTRL.EN of a PWM. -/
def pwmOn (s : State) (n : Nat) : Bool := s.flag (Reg.PWM n + 0x008) 0

/-- A compare in force: with the delay line out of calibration its fine part is ignored (R276). -/
def pwmCmp (s : State) (n x : Nat) : Nat :=
  let c := s.fld (Reg.PWM_CMP n x) 0 24
  if s.flag (Reg.PWM_HR_STAT n) 31 then c else c / 16 * 16

/-- A phase of a PWM: 0 U, 1 V, 2 W. -/
def Pwm.phase (p : Pwm) (x : Nat) : PwmPhase := match x with | 0 => p.u | 1 => p.v | _ => p.w

/-- Sets a phase. -/
def Pwm.setPhase (p : Pwm) (x : Nat) (q : PwmPhase) : Pwm :=
  match x with | 0 => { p with u := q } | 1 => { p with v := q } | _ => { p with w := q }

/-- Applies a change to every phase. -/
def Pwm.mapPhases (p : Pwm) (f : Nat → PwmPhase → PwmPhase) : Pwm := { p with u := f 0 p.u, v := f 1 p.v, w := f 2 p.w }

/-! ## Trips (R282 to R285) -/

/-- A sigma-delta comparator that TRIP_SRC selects is active (R282). -/
def sdmTrip (s : State) (n : Nat) : Bool :=
  let src := s.rd (Reg.PWM_TRIP_SRC n)
  (List.range 16).any fun k =>
    let q := tabGet s.sdms k {}
    (bit src (16 + k) && q.hi) || (bit src k && q.lo)

/-- A selected comparator is active (R284). -/
def tripActive (s : State) (n : Nat) : Bool :=
  (s.flag (Reg.PWM_TRIP_CFG n) 31 && (pwm s n).cmp) || sdmTrip s n

/-- A trip is latched. -/
def tripLatched (s : State) (n : Nat) : Bool := s.flag (Reg.PWM_TRIP_STAT n) 0

/-- A phase with both gates off and nothing pending. -/
def PwmPhase.off (q : PwmPhase) : PwmPhase := { req := q.req, crossed := q.crossed }

/-- A trip turns every gate off at once, whatever is in progress (R283). -/
def pwmTripNow (n : Nat) (s : State) : State :=
  let s1 := ((s.satInc (Reg.PWM_TRIP_CNT n) 0).setFlag (Reg.PWM_TRIP_STAT n) 0 true).cause (Reg.PWM n) 6
  let p := pwm s1 n
  s1.setPwm n { (p.mapPhases fun _ q => q.off) with tripAt := (hrNow s).toNat, tripNow := p.run, resume := false }

/-- HYST in µV (R282). -/
def tripHyst (s : State) (n : Nat) : Nat := listGet [0, 10000, 20000, 40000] (s.fld (Reg.PWM_TRIP_CFG n) 24 2) 0

/-- The trip comparator compares the level at PWMn_ISNS with DAC / 1024 × 2 × VREF (R282): active above the threshold, inactive from the
hysteresis below it on, with VREF at its 1.200 V (log entry 95). -/
def isnsCompare (n : Nat) (s : State) : State :=
  let p := pwm s n
  let th := s.fld (Reg.PWM_TRIP_CFG n) 0 10 * 2400000
  let out := if th < p.isns * 1024 then true else if (p.isns + tripHyst s n) * 1024 ≤ th then false else p.cmp
  s.setPwm n { p with cmp := out }

/-- The level at PWMn_ISNS changes (R282): a comparator that turns active trips where CMP_EN selects it. -/
def pwmTrip (n level : Nat) (s : State) : State :=
  if n < axesOf s.variant then
    let s1 := isnsCompare n (s.setPwm n { pwm s n with isns := level })
    if (pwm s1 n).cmp && !(pwm s n).cmp && s.flag (Reg.PWM_TRIP_CFG n) 31 then pwmTripNow n s1 else s1
  else s

/-- A write that selects comparators has acted on the state: it trips the PWM where it selects an active one (R282). -/
def tripSelected (n : Nat) (was : Bool) (s : State) : State := if tripActive s n && !was then pwmTripNow n s else s

/-! ## Load points (R277) -/

/-- The load points that CFG.LOAD names: at carrier period, at carrier zero. -/
def loadsAtPeriod (s : State) (n : Nat) : Bool := decide (s.fld (Reg.PWM_CFG n) 0 2 ≠ 1)
def loadsAtZero (s : State) (n : Nat) : Bool := decide (s.fld (Reg.PWM_CFG n) 0 2 ≠ 0)

/-! ## Edges, dead time, minimum pulse (R275, R276, R280, R281) -/

/-- The grid on which edges stand: one HR unit, or 1.25 ns while the delay line is out of calibration (R276). -/
def grid (s : State) (n : Nat) (i : Int) : Int := if s.flag (Reg.PWM_HR_STAT n) 31 then i else i / 16 * 16

/-- The PWM that a follower follows, if it follows one (R287). -/
def masterOf (s : State) (n : Nat) : Option Nat :=
  if s.fld (Reg.PWM_CFG n) 12 2 = 1 then some (s.fld (Reg.PWM_CFG n) 16 4) else none

/-- The instant nearest to `want` at which a running master passes phase `ph` of its period of 2 × TOP (R287): in the half period in
progress, in the ones that follow it, or one period earlier; a half period that slewing lengthens or shortens ends with the master's own (R288). -/
def masterInstant (s : State) (m ph : Nat) (want : Int) : Int :=
  let q := pwm s m
  let t := max 1 (pwmTop s m)
  let delta := (ph + (if q.down then t else 0)) % (2 * t)
  let here : Int := if delta < t then q.half + (min delta q.len : Nat) else q.half + q.len + (delta - t : Nat)
  let nearer (a b : Int) : Int := if (b - want).natAbs < (a - want).natAbs then b else a
  nearer (nearer here (q.half + (delta : Int) - (2 * t : Nat))) (here + (2 * t : Nat))

/-- The instant at which the half period in progress ends: `len` after its begin; for a follower in step, where its master passes that
point of its own period, SYNC_PHASE later than the follower (R287, R288). -/
def halfEnd (s : State) (n : Nat) : Int :=
  let p := pwm s n
  match masterOf s n with
  | some m =>
    if p.locked && (pwm s m).run then
      let t := max 1 (pwmTop s m)
      let lead := s.fld (Reg.PWM_SYNC_PHASE n) 0 24 % (2 * t)
      masterInstant s m ((2 * t - lead + (if p.down then 0 else t)) % (2 * t)) (p.half + pwmTop s n)
    else p.half + p.len
  | none => p.half + p.len

/-- Length of the half period in progress. -/
def halfLen (s : State) (n : Nat) : Nat := (halfEnd s n - (pwm s n).half).toNat

/-- The compare makes a crossing in every half period: 0 and TOP or more make none (R275). -/
def cmpCrosses (s : State) (n x : Nat) : Bool := decide (0 < pwmCmp s n x) && decide (pwmCmp s n x < pwmTop s n)

/-- The high side is requested at the begin of the half period in progress (R275). -/
def startRequest (s : State) (n x : Nat) : Bool :=
  if (pwm s n).down then decide (pwmCmp s n x < pwmTop s n) else decide (pwmCmp s n x = 0 ∧ 0 < pwmTop s n)

/-- The instant of the crossing that the half period in progress makes for a compare (R275): the counter runs by elapsed root time, and a
half period that slewing has shortened makes the crossing at its end at the latest. -/
def crossing (s : State) (n x : Nat) : Int :=
  let p := pwm s n
  let c := pwmCmp s n x
  grid s n (p.half + (min (if p.down then pwmTop s n - c else c) (halfLen s n) : Nat))

/-- The high side is requested at the end of the present TICK (R275). -/
def wantsHigh (s : State) (n x : Nat) : Bool :=
  if cmpCrosses s n x && decide (crossing s n x ≤ hrEnd s) then !(pwm s n).down else startRequest s n x

/-- The instant at which the pulse that a request in the half period in progress starts ends by the active compares: the opposite crossing;
none where the compare makes no crossing (R275, R281). -/
def nextCross (s : State) (n x : Nat) (high : Bool) : Option Int :=
  let p := pwm s n
  let c := pwmCmp s n x
  let d : Nat := if high then pwmTop s n - c else c
  if cmpCrosses s n x then some (grid s n ((if p.down = high then p.half else halfEnd s n) + d)) else none

/-- The first load point after an instant in the half period in progress, or in the next one (R277). -/
def loadAfter (s : State) (n : Nat) (inNext : Bool) : Int :=
  let down := (pwm s n).down
  let e : Int := halfEnd s n + (if inNext then pwmTop s n else 0 : Nat)
  if (if down != inNext then loadsAtZero s n else loadsAtPeriod s n) then e else e + pwmTop s n

/-- What the minimum pulse filter does to the on-pulse that the request starts (R281): keep it, drop it, or let it end at an instant at the
earliest. -/
inductive PulseFilter
  | keep | drop | stretch (earliest : Int)
  deriving DecidableEq, Repr

/-- The filter's decision for the pulse of the high side (`high`) or the low side of phase `x` whose gate turns on at `on`: the PWM knows both
edges from the active compares. A pulse of no length is none; a stretch that would cross the next load point drops the pulse (R281). -/
def pulseFilter (s : State) (n x : Nat) (high : Bool) (on : Int) : PulseFilter :=
  match nextCross s n x high with
  | none => .keep
  | some f =>
    let e := grid s n (on + s.fld (Reg.PWM_MIN_PULSE n) 0 16)
    if f ≤ on ∨ e ≤ f then .keep
    else if s.fld (Reg.PWM_CFG n) 8 1 = 0 then .drop
    else if loadAfter s n ((pwm s n).down != high) < e then .drop
    else .stretch e

/-- Counts a filtered pulse (R281). -/
def countPulse (n lo : Nat) (s : State) : State := (s.satInc (Reg.PWM_MP_CNT n) lo).cause (Reg.PWM n) 8

/-- The two sides of a phase exchanged. -/
def PwmPhase.swap (q : PwmPhase) : PwmPhase :=
  { q with high := q.low, low := q.high, highOn := q.lowOn, lowOn := q.highOn, dropHigh := q.dropLow, dropLow := q.dropHigh }

/-- The phase as the side that a request turns on sees it: `high` stands for that side. -/
def PwmPhase.side (q : PwmPhase) (high : Bool) : PwmPhase := if high then q else q.swap

/-- Dead time before the turn-on of a side (R280). -/
def deadTime (s : State) (n : Nat) (high : Bool) : Nat := s.fld (Reg.PWM_DT n) (if high then 0 else 16) 16

/-- A side of phase `x` is to turn on at `on`: the pulse is kept, stretched or dropped (R281). `kept` and `dropped` are what becomes of the
phase in either case, as that side sees it (`PwmPhase.side`). -/
def beginPulse (n x : Nat) (high : Bool) (on : Int) (dropped kept : PwmPhase) (s : State) : State :=
  let put (r : PwmPhase) : State := s.setPwm n ((pwm s n).setPhase x (r.side high))
  match pulseFilter s n x high on with
  | .keep => put { kept with ext := none, highOn := some on }
  | .drop => countPulse n 0 (put { dropped with ext := none, dropHigh := true })
  | .stretch e => countPulse n 16 (put { kept with ext := some e, highOn := some on })

/-- The stretched pulse of a phase ends at an instant: its gate falls, and the partner's turn-on follows after dead time where the request, or a
dropped pulse, asks for it (R281). -/
def endStretch (s : State) (n : Nat) (at_ : Int) (q : PwmPhase) : PwmPhase :=
  let high := q.low
  let r := q.side high
  let on := if r.dropLow then some (grid s n (at_ + deadTime s n high)) else r.highOn
  { r with low := false, stretchEnd := none, highOn := on }.side high

/-- A request for a side of phase `x` at an instant (R280, R281). The partner turns off at the request and the side turns on a dead time
later. A partner whose pulse MIN_PULSE stretches turns off at the end of the stretch instead, and never after the next load point; the turn-on
moves by the same amount. A pulse that was dropped has left the partner as it was: where that is on, or about to turn on, it goes on. While the
side itself is still on in a stretch, it stays on where it would turn on again before the stretch ends; what its partner waited for falls away
with the request. -/
def sideRequest (n x : Nat) (high : Bool) (at_ : Int) (s : State) : State :=
  let p := pwm s n
  let q0 : PwmPhase := match (p.phase x).stretchEnd with | some t => if t ≤ at_ then endStretch s n t (p.phase x) else p.phase x | none => p.phase x
  let q1 : PwmPhase := { q0.side high with req := high }
  let dt := deadTime s n high
  let put (r : PwmPhase) : State := s.setPwm n (p.setPhase x (r.side high))
  -- the earliest end of the partner's pulse, where it is on
  let q : PwmPhase := { q1 with dropLow := false }
  let held := match q.lowOn with | some g => if at_ < g then none else q.ext | none => if q.low then q.ext else none
  if q1.dropLow ∧ (q.high = true ∨ q.highOn ≠ none) then put { q with ext := none }
  else match q.stretchEnd with
    | some stop =>
      if !q.high then beginPulse n x high (grid s n (stop + dt)) q { q with lowOn := none } s
      else if at_ + dt ≤ stop then put { q with stretchEnd := none, ext := none, lowOn := none }
      else beginPulse n x high (grid s n (at_ + dt)) q { q with lowOn := none } s
    | none =>
      let stop := match held with | some e => min e (loadAfter s n false) | none => at_
      if stop ≤ at_ then beginPulse n x high (grid s n (at_ + dt)) q { q with low := false, lowOn := none } s
      else beginPulse n x high (grid s n (stop + dt)) q { q with low := true, lowOn := none, stretchEnd := some stop } s

/-- A phase whose gates are both off takes up its request at an instant: the gate that it names turns on after dead time (R280, R281,
R284). -/
def beginPhase (n x : Nat) (high : Bool) (at_ : Int) (s : State) : State :=
  let q : PwmPhase := { req := high, crossed := ((pwm s n).phase x).crossed }
  beginPulse n x high (grid s n (at_ + deadTime s n high)) q q s

/-- A request of phase `x` is followed: through a trip and its release only the request is kept (R283, R284). -/
def follow (n x : Nat) (high : Bool) (at_ : Int) (s : State) : State :=
  let p := pwm s n
  if tripLatched s n || p.resume then s.setPwm n (p.setPhase x { p.phase x with req := high })
  else sideRequest n x high at_ s

/-- The present half period's crossing is marked as followed. -/
def markCrossed (n x : Nat) (s : State) : State :=
  let p := pwm s n
  s.setPwm n (p.setPhase x { p.phase x with crossed := true })

/-- A compare requests a gate change (R275): at the begin of the half period, where a load point has changed what the compare asks for, or at
the crossing. -/
def edgeRequest (n x : Nat) (s : State) : State :=
  let p := pwm s n
  let q := p.phase x
  if x < 3 ∧ pwmOn s n ∧ inRow s ∧ p.run ∧ q.crossed = false then
    if q.req ≠ startRequest s n x then follow n x (startRequest s n x) (grid s n p.half) s
    else if cmpCrosses s n x && decide (crossing s n x ≤ hrEnd s) then follow n x (!p.down) (crossing s n x) (markCrossed n x s)
    else s
  else s

/-- Dead time elapses and the gate turns on (R280). -/
def deadTimeEnd (n x : Nat) (s : State) : State :=
  let p := pwm s n
  let q := p.phase x
  let due (o : Option Int) : Bool := match o with | some t => decide (t ≤ hrEnd s) | none => false
  if x < 3 ∧ q.stretchEnd = none then
    if due q.highOn then s.setPwm n (p.setPhase x { q with high := true, highOn := none })
    else if due q.lowOn then s.setPwm n (p.setPhase x { q with low := true, lowOn := none })
    else s
  else s

/-- A stretched pulse reaches its end (R281). -/
def stretchPulseEnd (n x : Nat) (s : State) : State :=
  let p := pwm s n
  match (p.phase x).stretchEnd with
  | some t =>
    if x < 3 ∧ t ≤ hrEnd s then s.setPwm n (p.setPhase x (endStretch s n t (p.phase x))) else s
  | none => s

/-! ## Trips released, shadows loaded (R277, R278, R284) -/

/-- Outputs resume: each phase turns on the gate its request names, after dead time (R280, R284). -/
def pwmResume (n : Nat) (at_ : Int) (s : State) : State :=
  let p := pwm s n
  let s1 := s.setPwm n { (p.mapPhases fun _ q => q.off) with resume := false }
  [0, 1, 2].foldl (fun t x => beginPhase n x (startRequest t n x) at_ t) s1

/-- A write of 1 to TRIP_STAT.LATCHED: it clears only while every selected comparator is inactive (R284). -/
def tripStatWrite (m : Master) (n : Nat) (v : Word) (s : State) : State :=
  let s1 := s.consumeKey (0x90 + n) m
  if bit v 0 && tripLatched s n && !(tripActive s n) then
    let s2 := s1.setFlag (Reg.PWM_TRIP_STAT n) 0 false
    s2.setPwm n { pwm s2 n with resume := true }
  else s1

/-- The three shadows are copied into the active compares. -/
def copyShadows (n : Nat) (s : State) : State :=
  ((s.wr (Reg.PWM_CMP n 0) (s.rd (Reg.PWM_CMP_SH n 0))).wr (Reg.PWM_CMP n 1) (s.rd (Reg.PWM_CMP_SH n 1))).wr (Reg.PWM_CMP n 2)
    (s.rd (Reg.PWM_CMP_SH n 2))

/-- A set of the Loop Engine slot stands in the shadows. -/
def putShadows (n : Nat) (d : DutySet) (s : State) : State :=
  ((s.wr (Reg.PWM_CMP_SH n 0) d.u).wr (Reg.PWM_CMP_SH n 1) d.v).wr (Reg.PWM_CMP_SH n 2) d.w

/-- A Loop Engine slot commits a set at the TICK `at_` (R277): without SRC = LE it writes nothing. The miss of a sample that the last load
point has counted is not counted again (R278). -/
def pushDuties (n at_ : Nat) (u v w : Word) (s : State) : State :=
  let p := pwm s n
  if s.fld (Reg.PWM_CFG n) 4 1 = 1 then
    s.setPwm n { p with sets := p.sets ++ [{ at_ := at_, u := u, v := v, w := w, counted := !p.leOpen }], leOpen := false }
  else s

/-- Sets that are not committed yet never commit (R307, R310). -/
def dropDuties (n : Nat) (s : State) : State :=
  let p := pwm s n
  s.setPwm n { p with sets := p.sets.filter (fun d => decide (d.at_ ≤ s.now)), leOpen := false }

/-- The last set of the Loop Engine slot that is committed and has not loaded. -/
def lastSet (s : State) (n : Nat) : Option DutySet := ((pwm s n).sets.filter fun d => decide (d.at_ ≤ s.now)).getLast?

/-- A load point at an instant: what was committed in an earlier TICK loads, a missing Loop Engine commit counts a miss, and outputs resume
after a cleared trip (R277, R278, R284). What comes at this TICK or later waits for the next load point. -/
def loadPoint (n : Nat) (at_ : Int) (s : State) : State :=
  let p := pwm s n
  let ready := match p.commit with | some t => decide (t < s.now) | none => false
  let old := p.sets.filter fun d => decide (d.at_ < s.now)
  let rest := p.sets.filter fun d => decide (s.now ≤ d.at_)
  let missed := decide (s.fld (Reg.PWM_CFG n) 4 1 = 1) && (p.leOpen || rest.any fun d => !d.counted)
  let s1 := match old.getLast? with | some d => copyShadows n (putShadows n d s) | none => if ready then copyShadows n s else s
  let later := match p.commitLast with | some t => if s.now ≤ t then some t else none | none => none
  let s2 := s1.setPwm n { p with commit := if ready then later else p.commit, commitLast := if ready then later else p.commitLast,
                                 sets := rest.map fun d => { d with counted := true }, leOpen := false }
  let s3 := if missed then (s2.satInc (Reg.PWM_SHADOW_MISS n) 0).cause (Reg.PWM n) 7 else s2
  if p.resume then pwmResume n at_ s3 else s3

/-- A cause of the carrier latches on every (IRQ_PRESC + 1)-th occurrence of its event (R290). -/
def carrierCause (n k : Nat) (s : State) : State :=
  let p := pwm s n
  let c := listGet p.presc k 0 + 1
  if s.fld (Reg.PWM_CFG n) 24 4 < c then (s.setPwm n { p with presc := listSet p.presc k 0 }).cause (Reg.PWM n) k
  else s.setPwm n { p with presc := listSet p.presc k c }

/-! ## Carrier and locking (R273, R274, R287 to R289) -/

/-- The value nearest to zero that is congruent to `e` modulo a period. -/
def centred (e : Int) (period : Nat) : Int :=
  let r := e % (period : Int)
  if (period : Int) < 2 * r then r - period else r

/-- Implement time at the start of the present TICK, in HR units (R287). -/
def itHr (s : State) : Int := (((laneOf s (selLane s)).time : Int) + s.tsu.bridge) * 64 / (5 * laneUnit)

/-- The last carrier zero of a running PWM. -/
def lastZero (s : State) (n : Nat) : Int :=
  let p := pwm s n
  if p.down then p.half - pwmTop s n else p.half

/-- The correction of a half period: at most LOCK_CFG.SLEW (R288). -/
def halfStep (s : State) (n : Nat) (err : Int) : Int :=
  let m : Int := s.fld (Reg.PWM_LOCK_CFG n) 0 8
  clampI (-m) m err

/-- The carrier loses what it is locked to; LOCK_LOST latches when that begins (R288, R289). -/
def lockLost (n : Nat) (lost : Bool) (s : State) : State :=
  let p := pwm s n
  (s.setPwm n { p with lost := lost }).causeIf (lost && !p.lost) (Reg.PWM n) 9

/-- The lead of a follower, modulo its master's period (R287). -/
def followerLead (s : State) (n m : Nat) : Nat := s.fld (Reg.PWM_SYNC_PHASE n) 0 24 % (2 * max 1 (pwmTop s m))

/-- How far a follower's carrier zero at instant `z` is behind its place in step with the master (R287, R289). -/
def followerError (s : State) (n m : Nat) (z : Int) : Int :=
  z - masterInstant s m (2 * max 1 (pwmTop s m) - followerLead s n m) z

/-- At a carrier zero at instant `z` with `top` in force: the error to the lock target, and whether the target is lost; none in FREE
mode (R288, R289). A follower that has lost its master stays lost until the master's next carrier zero. -/
def lockError (s : State) (n : Nat) (z : Int) (top : Nat) : Option (Int × Bool) :=
  let ph : Int := s.fld (Reg.PWM_SYNC_PHASE n) 0 24
  match s.fld (Reg.PWM_CFG n) 12 2 with
  | 1 =>
    let m := s.fld (Reg.PWM_CFG n) 16 4
    if (pwm s m).run && pwmOn s m && !(pwm s n).lost then some (followerError s n m z, false) else some (0, true)
  | 2 =>
    if laneValid s 0 || laneValid s 1 then some (centred (itHr s + (z - hrNow s) - ph) (2 * top), false) else some (0, true)
  | _ => none

/-- The error part of a lock measurement, 0 where none is made. -/
def lockValue : Option (Int × Bool) → Int
  | some (e, lost) => if lost then 0 else e
  | none => 0

/-- TOP for the period that begins at a carrier zero: the master's for a follower, else the shadow (R274, R287). -/
def nextTop (s : State) (n : Nat) : Word :=
  match masterOf s n with
  | some m => if (pwm s m).run && !(pwm s n).lost then s.rd (Reg.PWM_TOP m) else s.rd (Reg.PWM_TOP n)
  | none => s.rd (Reg.PWM_TOP_SH n)

/-- A lock measurement is stored, and a loss reported (R288, R289). -/
def lockStore (n : Nat) (le : Option (Int × Bool)) (s : State) : State :=
  match le with
  | some (e, lost) => lockLost n lost (if lost then s else s.wr (Reg.PWM_LOCK_ERR n) (wordOf (lowBits 24 e)))
  | none => s

/-- A new half period has no crossing yet. -/
def Pwm.newHalf (p : Pwm) : Pwm := { p.mapPhases (fun _ q => { q with crossed := false }) with fired := [], held := false }

/-- The period that begins at a carrier zero at instant `z`: its TOP, its correction, the extra compares in force. A follower whose error is no
larger than one SYS cycle is in step from here on, and its master's half periods are its own (R287, R289). -/
def periodBegin (n : Nat) (z : Int) (s : State) : State :=
  let top := nextTop s n
  let t := bits top 0 24
  let le := lockError s n z t
  let err := lockValue le
  let inStep := (masterOf s n).isSome && (pwm s n).lost == false && decide (err.natAbs ≤ 64)
  let c1 := if inStep then 0 else halfStep s n err
  let s2 := lockStore n le ((s.wr (Reg.PWM_TOP n) top).wrapInc (Reg.PWM_PERIOD_CNT n))
  let q := pwm s2 n
  s2.setPwm n { q.newHalf with down := false, half := z, len := ((t : Int) - c1).toNat, corr := if inStep then 0 else err - c1,
                               xcmp := (List.range 4).map fun k => s.rd (Reg.PWM_XCMP n k), tripNow := false,
                               locked := inStep && !q.lost }

/-- Followers that have lost master `n` follow it again from its carrier zero: in step where they are off by no more than one SYS cycle and count
to the master's TOP; otherwise they load it and slew from their next zero on (R289). -/
def followersReturn (n : Nat) (s : State) : State :=
  (List.range 16).foldl (fun t k =>
    let p := pwm t k
    if masterOf t k = some n ∧ p.run ∧ p.lost then
      t.setPwm k { p with lost := false, locked := decide ((followerError t k n (lastZero t k)).natAbs ≤ 64 ∧ pwmTop t k = pwmTop t n) }
    else t) s

/-- Followers of a master that stops keep TOP and phase and run free (R289). -/
def followersLost (n : Nat) (s : State) : State :=
  (List.range 16).foldl (fun t k =>
    let p := pwm t k
    if masterOf t k = some n ∧ p.run ∧ k ≠ n then lockLost k true (t.setPwm k { p with len := halfLen t k, locked := false }) else t) s

/-- An instant of a phase and of a PWM, `d` HR units later. -/
def PwmPhase.later (q : PwmPhase) (d : Int) : PwmPhase :=
  { q with highOn := q.highOn.map (· + d), lowOn := q.lowOn.map (· + d), ext := q.ext.map (· + d), stretchEnd := q.stretchEnd.map (· + d) }
def Pwm.later (p : Pwm) (d : Int) : Pwm := { p.mapPhases (fun _ q => q.later d) with half := p.half + d, held := true }

/-- What the counter did until an instant is noted for sample instants of the Ladle that come later; marks of the last 100 µs are kept
(R457). -/
def pwmNote (n : Nat) (until_ : Int) (stands : Bool) (s : State) : State :=
  let p := pwm s n
  let m : PwmMark := { until_ := until_, run := p.run, down := p.down, half := p.half, top := pwmTop s n, stands := stands }
  s.setPwm n { p with past := m :: p.past.takeWhile fun x => decide (hrNow s ≤ x.until_ + 1280000) }

/-- The counters of frozen PWMs stand for the TICKs that pass; to its followers a frozen master has stopped (R64, R289). -/
def pwmFrozenTicks (ticks : Nat) (s : State) : State :=
  if freezeOk s then
    (List.range (axesOf s.variant)).foldl (fun t n =>
      if frozen t (0x90 + n) && (pwm t n).run then
        let u := followersLost n t
        let v := pwmNote n (hrNow s) true u
        v.setPwm n ((pwm v n).later (64 * ticks))
      else t) s
  else s

/-- The carrier reaches zero (R273, R274, R277, R279, R284, R288, R290). -/
def carrierZero (n : Nat) (s0 : State) : State :=
  let z := halfEnd s0 n
  let s := pwmNote n z false s0
  let p := pwm s n
  if pwmOn s n && inRow s && p.run && p.down && decide (z ≤ hrEnd s) then
    let s4 := followersReturn n (carrierCause n 0 (periodBegin n z s))
    let s5 := if loadsAtZero s n then loadPoint n z s4 else s4
    if s.flag (Reg.PWM_CFG n) 22 && tripLatched s5 n && !(tripActive s5 n) then
      pwmResume n z (s5.setFlag (Reg.PWM_TRIP_STAT n) 0 false)
    else s5
  else s0

/-- The carrier reaches TOP (R273, R277). -/
def carrierPeriod (n : Nat) (s0 : State) : State :=
  let z := halfEnd s0 n
  let s := pwmNote n z false s0
  let p := pwm s n
  if pwmOn s n && inRow s && p.run && !p.down && decide (z ≤ hrEnd s) then
    let c := halfStep s n p.corr
    let s1 := s.setPwm n { p.newHalf with down := true, half := z, len := ((pwmTop s n : Int) - c).toNat, corr := p.corr - c }
    let s2 := carrierCause n 1 s1
    if loadsAtPeriod s n then loadPoint n z s2 else s2
  else s0

/-- The instant at which the counter passes the value of extra compare `k` in the half period in progress, no later than its end (R279). -/
def xcmpInstant (s : State) (n k : Nat) : Int :=
  let p := pwm s n
  let val := bits (listGet p.xcmp k 0) 0 24
  p.half + (min (if p.down then pwmTop s n - val else val) (halfLen s n) : Nat)

/-- The counter starts at a phase of its period, at an instant; each phase takes up what its compare asks for there (R275, R280, R287). Extra
compares whose value the counter has not passed since its start do not fire (R279). -/
def startCarrier (n : Nat) (at_ : Int) (phase : Nat) (top : Word) (s : State) : State :=
  let t := bits top 0 24
  let ph := phase % (2 * max 1 t)
  let s1 := (pwmNote n at_ false s).wr (Reg.PWM_TOP n) top
  let down := decide (t ≤ ph)
  let x := (List.range 4).map fun k => s.rd (Reg.PWM_XCMP n k)
  let s2 := s1.setPwm n { (pwm s1 n).newHalf with
              run := true, down := down, half := at_ - (if down then ph - t else ph : Nat), len := t, corr := 0, xcmp := x, tripNow := false,
              presc := [0, 0, 0, 0, 0, 0], lost := false, locked := (masterOf s n).isSome }
  let s3 := s2.setPwm n { pwm s2 n with fired := (List.range 4).filter fun k => decide (xcmpInstant s2 n k < at_) }
  [0, 1, 2].foldl (fun u k =>
    let past := cmpCrosses u n k && decide (crossing u n k ≤ at_)
    beginPhase n k (if past then !down else startRequest u n k) at_ (if past then markCrossed n k u else u)) s3

/-- An enabled PWM starts counting at its sync instant (R287): FREE in the cycle after its enable, a follower at its master's first carrier zero
after it, IT at the first instant whose implement time has the phase. Only ROW runs a PWM (R87). -/
def pwmSyncStart (n : Nat) (s : State) : State :=
  let p := pwm s n
  if n < axesOf s.variant ∧ pwmOn s n ∧ inRow s ∧ p.run = false ∧ p.enabledAt < s.now then
    let ph := s.fld (Reg.PWM_SYNC_PHASE n) 0 24
    let first : Int := (p.enabledAt + 1 : Nat) * 64
    match s.fld (Reg.PWM_CFG n) 12 2 with
    | 1 =>
      let m := s.fld (Reg.PWM_CFG n) 16 4
      let q := pwm s m
      if q.run && !q.down && !q.held && !(frozen s (0x90 + m)) && decide (first ≤ q.half) && decide (q.half ≤ hrEnd s) then startCarrier n q.half ph (s.rd (Reg.PWM_TOP m)) s else s
    | 2 =>
      let top := s.rd (Reg.PWM_TOP n)
      let d := ((ph : Int) - itHr s) % ((2 * max 1 (bits top 0 24) : Nat) : Int)
      if d < 64 then startCarrier n (hrNow s + d) 0 top s else s
    | _ => startCarrier n first 0 (s.rd (Reg.PWM_TOP n)) s
  else s

/-- The gates of a PWM at its pads after the ranks of R286, in the order high U, V, W, low U, V, W. -/
def pwmGates (s : State) (n : Nat) : List Bool :=
  let p := pwm s n
  let allOff := [false, false, false, false, false, false]
  if padsForced s || !(inRow s) then allOff
  else if !(pwmOn s n) || frozen s (0x90 + n)
      || (s.fld (Reg.PWM_CFG n) 4 1 == 1 && ((tabGet s.axes n {}).off || frozen s (0x60 + n / 8))) then allOff
  else if tripLatched s n || p.resume then
    let after := decide ((p.tripAt : Int) + s.fld (Reg.PWM_DT n) 16 16 ≤ hrEnd s) && tripLatched s n
    match s.fld (Reg.PWM_CFG n) 20 2 with
    | 1 => [false, false, false, after, after, after]
    | 2 => [after, after, after, false, false, false]
    | _ => allOff
  else [p.u.high, p.v.high, p.w.high, p.u.low, p.v.low, p.w.low]

/-! ## Extra compares (R279) -/

/-- Extra compare `k` is due in the half period in progress and has not fired there. -/
def xcmpDue (s : State) (n k : Nat) : Bool :=
  let p := pwm s n
  let w := listGet p.xcmp k 0
  let dir := bits w 30 2
  let dirOk := if p.down then decide (dir = 2 ∨ dir = 3) else decide (dir = 1 ∨ dir = 3)
  decide (k < 4) && pwmOn s n && inRow s && p.run && dirOk && decide (bits w 0 24 ≤ pwmTop s n) && !(p.fired.contains k)
    && decide (xcmpInstant s n k ≤ hrEnd s)

/-- That instant in root periods. -/
def xcmpRoot (s : State) (n k : Nat) : Int := xcmpInstant s n k / 16

/-- An extra compare fires: its cause (R279, R290). What it drives stands in Sense.lean and Loop.lean. -/
def xcmpFired (n k : Nat) (s : State) : State :=
  carrierCause n (2 + k) (s.setPwm n { pwm s n with fired := k :: (pwm s n).fired })

/-! ## Calibration, enable, register writes -/

/-- A calibration of the delay line: taps per PWM_CLK period (R276). -/
def hrCal (n taps : Nat) (s : State) : State :=
  if n < axesOf s.variant then
    let a := Reg.PWM_HR_STAT n
    let ok := decide (24 ≤ taps) && decide (taps ≤ 40)
    ((s.setFld a 0 8 taps).setFlag a 31 ok).causeIf (s.flag a 31 && !ok) (Reg.PWM n) 10
  else s

/-- At enable, TOP and the active compares are loaded from their shadows, with no commit needed; what the Loop Engine slot has committed before
stands in the shadows. The carrier waits for its sync instant (R277, R287, R291). -/
def pwmEnable (n : Nat) (s : State) : State :=
  let p := pwm s n
  let s1 := match (p.sets.filter fun d => decide (d.at_ < s.now)).getLast? with | some d => putShadows n d s | none => s
  let s2 := copyShadows n (s1.wr (Reg.PWM_TOP n) (s1.rd (Reg.PWM_TOP_SH n)))
  s2.setPwm n { isns := p.isns, cmp := p.cmp, tripAt := p.tripAt, resume := p.resume, enabledAt := s.now, past := p.past
                sets := p.sets.filter fun d => decide (s.now ≤ d.at_) }

/-- A disable turns the outputs off at once (R62, R291), and its followers run free (R289); with the carrier ends the period of a trip
(R283). -/
def pwmDisable (n : Nat) (s : State) : State :=
  let p := pwm s n
  let s1 := pwmNote n (hrNow s) false (if p.run then followersLost n s else s)
  s1.setPwm n { isns := p.isns, cmp := p.cmp, tripAt := p.tripAt, sets := p.sets, past := (pwm s1 n).past }

/-- STAT.STATE of a PWM: 0 idle, 1 waiting for sync, 2 running, 3 locked, 4 tripped, 5 forced by the Cox. -/
def pwmStatState (s : State) (n : Nat) : Nat :=
  let p := pwm s n
  if !(pwmOn s n) then 0
  else if padsForced s then 5
  else if tripLatched s n then 4
  else if !p.run then 1
  else if s.fld (Reg.PWM_CFG n) 12 2 = 2 ∧ (s.sfld (Reg.PWM_LOCK_ERR n) 0 24).natAbs ≤ s.fld (Reg.PWM_LOCK_CFG n) 0 8 then 3
  else 2

/-- A write to PWMn.CFG (R277, R285, R287). -/
def pwmCfgWrite (m : Master) (n : Nat) (v : Word) (s : State) : State :=
  let a := Reg.PWM_CFG n
  let d := defOf .pwm 0x040
  runningWrite d a 0x04 m v (pwmOn s n) (fun w s => s.wr a w)
    (fun v s =>
      let w := storeValue d (s.rd a) v
      let mst := bits w 16 4
      if bits w 0 2 = 3 ∨ bits w 20 2 = 3 ∨ bits w 12 2 = 3 then s.blockError a 0x01 m
      else if bits w 12 2 = 1 ∧ (axesOf s.variant ≤ mst ∨ mst = n ∨ s.fld (Reg.PWM_CFG mst) 12 2 = 1) then s.blockError a 0x03 m
      else s.wr a w) s

/-- A write to a shadow or to COMMIT: ignored with SRC_LE while the Loop Engine is the writer (R277). -/
def pwmShadowWrite (d : RegDef) (n a : Nat) (m : Master) (v : Word) (s : State) : State :=
  if d.off = 0x058 then
    let s1 := s.consumeKey (0x90 + n) m
    if s.fld (Reg.PWM_CFG n) 4 1 = 1 then s1.blockError a 0x02 m
    else if bit v 0 then s1.setPwm n { pwm s1 n with commit := some ((pwm s1 n).commit.getD s.now), commitLast := some s.now } else s1
  else
    regWrite d a m v
      (fun v s => if s.fld (Reg.PWM_CFG n) 4 1 = 1 then s.blockError a 0x02 m else s.wr a (storeValue d (s.rd a) v)) s

/-- A write to a register of a PWM page from offset 0x040 upward. -/
def pwmWrite (d : RegDef) (_ a : Nat) (m : Master) (v : Word) (s : State) : State :=
  let n := a / 0x1000 % 0x10
  match d.off with
  | 0x040 => pwmCfgWrite m n v s
  | 0x044 => checkedWrite d a 0x01 m v (fun w => decide (64000 ≤ w.toNat) && decide (w.toNat ≤ 1600000)) s
  | 0x04C | 0x058 => pwmShadowWrite d n a m v s
  | 0x094 => tripStatWrite m n v s
  | 0x08C => tripSelected n (tripActive s n) (isnsCompare n (genericWrite .pwm d a m v s))
  | 0x090 => tripSelected n (tripActive s n) (genericWrite .pwm d a m v s)
  | _ => genericWrite .pwm d a m v s

/-- COUNT of a counter whose half period began at `half`, at an instant in HR units (R273). -/
def countWord (run down : Bool) (half : Int) (top : Nat) (h : Int) : Word :=
  let el := min top (h - half).toNat
  if run then putBit (wordOf (if down then top - el else el)) 24 down else 0

/-- COUNT as it was at an instant of the last 100 µs (R457). -/
def countAt (s : State) (n : Nat) (h : Int) : Word :=
  let p := pwm s n
  match (p.past.takeWhile fun m => decide (h < m.until_)).getLast? with
  | some m => countWord m.run m.down m.half m.top (if m.stands then h / 64 * 64 else h)
  | none => countWord p.run p.down p.half (pwmTop s n) h

/-- A read of a register of a PWM page whose value is not stored. -/
def pwmRead (d : RegDef) (k a : Nat) (_ : Master) (s : State) : Option (Word × State) :=
  let n := a / 0x1000 % 0x10
  let p := pwm s n
  match d.off with
  | 0x04C => (lastSet s n).map fun x => (match k with | 0 => x.u | 1 => x.v | _ => x.w, s)
  | 0x094 => some (putBit (putBit (s.rd a) 1 p.cmp) 2 (sdmTrip s n), s)
  | 0x098 =>
    some (countWord p.run p.down p.half (pwmTop s n) (hrNow s), s)
  | _ => none

/-! ## The commands of the PWMs -/

/-- PWM_CARRIER_ZERO (R273). -/
def execPwmCarrierZero (n : Nat) (s : State) : Answer :=
  .next (live (0x90 + n) (fun s => if n < axesOf s.variant then carrierZero n s else s) s)
/-- PWM_CARRIER_PERIOD (R277). -/
def execPwmCarrierPeriod (n : Nat) (s : State) : Answer :=
  .next (live (0x90 + n) (fun s => if n < axesOf s.variant then carrierPeriod n s else s) s)
/-- PWM_COMMIT (R277). -/
def execPwmCommit (m : Master) (n : Nat) (s : State) : Answer :=
  .next (if n < 16 then regRow m (Reg.PWM_COMMIT n) (pwmShadowWrite (defOf .pwm 0x058) n (Reg.PWM_COMMIT n) m 1) s else s)
/-- PWM_EDGE_REQUEST (R281). -/
def execPwmEdgeRequest (n x : Nat) (s : State) : Answer :=
  .next (live (0x90 + n) (fun s => if n < axesOf s.variant then edgeRequest n x s else s) s)
/-- PWM_DEAD_TIME_END (R280). -/
def execPwmDeadTimeEnd (n x : Nat) (s : State) : Answer :=
  .next (live (0x90 + n) (fun s => if n < axesOf s.variant then deadTimeEnd n x s else s) s)
/-- MIN_PULSE_STRETCH_END (R281). -/
def execMinPulseStretchEnd (n x : Nat) (s : State) : Answer :=
  .next (live (0x90 + n) (fun s => if n < axesOf s.variant then stretchPulseEnd n x s else s) s)
/-- PWM_TRIP (R282, R283): the level at PWMn_ISNS becomes `level` µV. A trip acts in every state, FREEZE included. -/
def execPwmTrip (n level : Nat) (s : State) : Answer := .next (pwmTrip n level s)
/-- TRIP_CLEAR (R284). -/
def execTripClear (m : Master) (n : Nat) (s : State) : Answer :=
  .next (if n < 16 then regRow m (Reg.PWM_TRIP_STAT n) (tripStatWrite m n 1) s else s)
/-- HR_CAL (R276). -/
def execHrCal (n taps : Nat) (s : State) : Answer := .next (live (0x90 + n) (hrCal n taps) s)
/-- PWM_SYNC_START (R287). -/
def execPwmSyncStart (n : Nat) (s : State) : Answer := .next (live (0x90 + n) (pwmSyncStart n) s)
end Sys2Proof.Machine
end

