-- ==== Sys2Proof/Machine/ProfBase.lean ====
section
/-! DEFINITION. Profile Units: their state codes, outputs, sample period and stops (spec/16_profiles.md R328, R338 to R340). The
Cox starts stops with these operations; segments stand in Prof.lean. -/

namespace Sys2Proof.Machine

/-- A Profile Unit and virtual master beyond their registers. -/
def prof (s : State) (n : Nat) : Prof := tabGet s.profs n {}

/-- Sets a Profile Unit. -/
def State.setProf (s : State) (n : Nat) (p : Prof) : State := { s with profs := tabPut s.profs n p {} }

/-- PROF_STAT.STATE: 0 IDLE, 1 READY, 2 RUN, 3 WAIT_SYNC, 4 HOLD, 5 STOPPING, 6 UNDERRUN, 7 STOP_PHASE, 8 STOPPED. -/
def profState (s : State) (n : Nat) : Nat := s.fld (Reg.AX_PROF_STAT n) 8 4

/-- Sets PROF_STAT. -/
def State.profTo (s : State) (n st type : Nat) : State := s.wr (Reg.AX_PROF_STAT n) (wordOf (st * 0x100 + type))

/-- The axis is enabled, or stops with its enable cleared. -/
def axisLive (s : State) (n : Nat) : Bool :=
  decide (n < axesOf s.variant) && (axisOn s n || s.flag (Reg.AX n + 0x00C) 1)

/-! ## Loop parameters of an axis (R17, R309) -/

/-- An axis slot beyond its registers. -/
def ax (s : State) (n : Nat) : AxSlot := tabGet s.axes n {}

/-- Sets an axis slot. -/
def State.setAx (s : State) (n : Nat) (x : AxSlot) : State := { s with axes := tabPut s.axes n x {} }

/-- The loop parameters as the registers 0x048 to 0x0AC hold them. -/
def liveParams (s : State) (n : Nat) : List Word := (List.range 26).map fun j => s.rd (Reg.AX_KP_D n + 4 * j)

/-- The loop parameters in force (R309). -/
def paramsNow (s : State) (n : Nat) : List Word :=
  if s.flag (Reg.AX_PARAM_CTRL n) 0 || decide ((ax s n).stageAt = some s.now) then (ax s n).inForce else liveParams s n

/-- A parameter of the copy that the slot's loops use, by its register offset (R17). -/
def AxSlot.par (x : AxSlot) (off : Nat) : Word := listGet x.copy ((off - 0x48) / 4) 0

/-- CFG.FAULT_EN of an axis as its loops take it (R304, R309): the copy of its last loop start, or what is in force before the first. -/
def faultEn (s : State) (n : Nat) : Bool :=
  bit (if (ax s n).copy.isEmpty then listGet (paramsNow s n) 25 0 else (ax s n).par 0x0AC) 31

/-- LOOP_CFG.MODE (R295). -/
def loopMode (s : State) (n : Nat) : Nat := s.fld (Reg.AX_LOOP_CFG n) 0 3

/-- Current loops per carrier period (R294): 2 while the axis's extra compare fires in both directions. -/
def loopsPerPeriod (s : State) (n : Nat) : Nat :=
  if bits (s.rd (Reg.PWM_XCMP n (s.fld (Reg.AX_LOOP_CFG n) 16 2))) 30 2 = 3 then 2 else 1

/-- Nv and Np (R294). -/
def loopNv (s : State) (n : Nat) : Nat := s.fld (Reg.AX_LOOP_CFG n) 8 4 + 1
def loopNp (s : State) (n : Nat) : Nat := s.fld (Reg.AX_LOOP_CFG n) 12 4 + 1

/-- PROF_TP in HR units (R328). -/
def profTp (s : State) (n : Nat) : Nat :=
  let c := 2 * pwmTop s n
  let l := loopsPerPeriod s n
  match loopMode s n with
  | 0 => c * loopNv s n * loopNp s n / l
  | 1 => c * loopNv s n / l
  | 2 => 0
  | _ => c / l

/-- HR units of 78.125 ps in one second (R273). -/
def hrPerSecond : Nat := 12800000000

/-- PROF_TP in seconds, exact. -/
def profSeconds (s : State) (n : Nat) : Rat := (profTp s n : Rat) / (hrPerSecond : Rat)

/-- Rounding to nearest; halves go up (log entry 21). -/
def nearest (x : Rat) : Int := (x + 1 / 2).floor

/-- Velocity in counts/s of a Q24.8 number. -/
def velRat (v : Int) : Rat := (v : Rat) / 256

/-- Position in counts of a 48.16 number. -/
def posRat (p : Int) : Rat := (p : Rat) / 65536

/-- A position in counts as 48.16. -/
def posOf (x : Rat) : Int := nearest (x * 65536)

/-- A velocity in counts/s as Q24.8. -/
def velOf (x : Rat) : Int := nearest (x * 256)

/-- The sign of an integer. -/
def signI (v : Int) : Int := if v < 0 then -1 else if v = 0 then 0 else 1

/-- An output in a signed format of `w` bits; of one outside it the spec states no value, and a free value stands there (log entry 128). -/
def inFormat (w : Nat) (x : Int) (s : State) : Int × State :=
  if -(2 ^ (w - 1)) ≤ x ∧ x < 2 ^ (w - 1) then (x, s) else s.freeIn (-(2 ^ (w - 1))) (2 ^ (w - 1) - 1)

/-- The outputs are delivered: p* in 48.16, v_p in Q24.8 and a_p in 32 bits; SP_VEL, SP_ACC (R328). -/
def State.profOut (s : State) (n : Nat) (p v a : Int) : State :=
  let (p, s1) := inFormat 64 p s
  let (v, s2) := inFormat 32 v s1
  let (a, s3) := inFormat 32 a s2
  ((s3.setProf n { prof s3 n with p := p, v := v, a := a }).wr (Reg.AX_SP_VEL n) (wordOfInt v)).wr (Reg.AX_SP_ACC n) (wordOfInt a)

/-- A deceleration `t` seconds after its start: position, velocity, acceleration, and whether it is at rest (R339, R340). -/
def Decel.at (d : Decel) (t : Rat) : Int × Int × Int × Bool :=
  let v0 := velRat d.v0
  let sg : Rat := signI d.v0
  let rest := v0.abs / (d.rate : Rat)
  if rest ≤ t then (posOf (posRat d.p0 + sg * v0 * v0 / (2 * d.rate)), 0, 0, true)
  else (posOf (posRat d.p0 + v0 * t - sg * d.rate * t * t / 2), velOf (v0 - sg * d.rate * t), -(signI d.v0 * d.rate), false)

/-- Rest after a deceleration, with v_p and a_p 0 (R339, R340). -/
def profRest (n : Nat) (e : StopEnd) (s0 : State) : State :=
  let s := s0.profOut n (prof s0 n).p 0 0
  let s1 := s.setProf n { prof s n with dec := none, seg := .none, lastRatio := none }
  match e with
  | .ready => s1.profTo n 1 0
  | .stopped => (s1.profTo n 8 0).cause (Reg.AX n) 21
  | .idle => (s1.profTo n 0 0).cause (Reg.AX n) 21

/-- A deceleration starts at `rate`, or joins one in progress, which continues with the larger of the two (R340). A deceleration of
0, which the registers forbid, counts as 1. -/
def profDecel (n rate st : Nat) (e : StopEnd) (s : State) : State :=
  let p := prof s n
  let cur := match p.dec, p.seg with
    | some d, _ => d.rate
    | none, .stopPhase _ _ a _ _ => a
    | none, _ => 0
  let s1 := s.setProf n { p with seg := .none, lastRatio := none }
  if p.v = 0 then profRest n e s1
  else (s1.setProf n { prof s1 n with dec := some { p0 := p.p, v0 := p.v, rate := max 1 (max rate cur), k := 0, ends := e } }).profTo n st 0

/-- A stop (R340): the end of a stop that meets another is the later one's, but an axis that is being turned off stays so. -/
def profStop (n rate : Nat) (e : StopEnd) (s : State) : State :=
  let e' := match (prof s n).dec with
    | some d => if d.ends = .idle then .idle else e
    | none => e
  if profState s n = 0 ∧ e ≠ .idle then s else profDecel n rate 5 e' s

/-- An underrun (R339). -/
def profUnderrun (n : Nat) (s : State) : State :=
  profDecel n (s.rd (Reg.AX_UNDERRUN_DECEL n)).toNat 6 .ready
    ((s.satInc (Reg.AX_UNDERRUN_CNT n) 0).cause (Reg.AX n) 16)

end Sys2Proof.Machine
end

