-- ==== Sys2Proof/Machine/Power.lean ====
section
/-! DEFINITION. One root: clocks, spread, resets and the power ladder (spec/04_clocks_power.md), with the device reset of R84 as
one shared operation. -/

namespace Sys2Proof.Machine

/-! ## OTP values that a reset loads (R155, R156) -/

/-- What the code of a copy delivers: a single-bit error is corrected, more are not (R156). -/
def OtpCopy.read (c : OtpCopy) : Option Word := if c.errors ≤ 1 then some c.data else none

/-- The word that two copies resolve to: they agree after correction, or one of them is uncorrectable (R156). -/
def otpResolve (a b : OtpCopy) : Option Word :=
  match a.read, b.read with
  | some x, some y => if x = y then some x else none
  | some x, none => some x
  | none, y => y

/-- The two copies of a word that are not both sound and equal. -/
def otpCopies (s : State) (off : Nat) : Option (OtpCopy × OtpCopy) := (s.otp.worn.find? fun p => p.1 == off).map Prod.snd

/-- The copies of a word cannot be resolved (R156). -/
def otpBad (s : State) (off : Nat) : Bool :=
  match otpCopies s off with | some (a, b) => decide (otpResolve a b = none) | none => false

/-- A word of the OTP array by byte offset; a blank word reads 0 (R155). Where its copies cannot be resolved, the value is open: the data of
the first copy, which is a free value. -/
def otpWord (s : State) (off : Nat) : Word :=
  match otpCopies s off with
  | some (a, b) => (otpResolve a b).getD a.data
  | none => tabGet s.otp.words off 0

/-- A life-cycle word counts as programmed when it reads anything other than 0, an uncorrectable value included (R140). -/
def lcProgrammed (s : State) (k : Nat) : Bool :=
  decide (otpWord s (0x100 + 4 * k) ≠ 0) || otpBad s (0x100 + 4 * k)

/-- The life-cycle code: the number of programmed words when they form a prefix, else SCRAPPED (R140). -/
def lcCode (s : State) : Nat :=
  match lcProgrammed s 0, lcProgrammed s 1, lcProgrammed s 2, lcProgrammed s 3 with
  | false, false, false, false => 0
  | true, false, false, false => 1
  | true, true, false, false => 2
  | true, true, true, false => 3
  | _, _, _, _ => 4

/-- HPT.FL_CFG as OTP word 0x130 sets it: a blank DIV gives 8, and 1 to 3 are stored as 4 (R202). -/
def flCfgStored (v : Word) : Word :=
  let d := bits v 16 5
  putBits (v &&& 0x1F1FFF03) 16 5 (if d = 0 then 8 else if d < 4 then 4 else if 16 < d then 16 else d)

/-- The first word outside the customer area that cannot be resolved, if any (R156). -/
def otpFirstBad (s : State) : Option Nat :=
  ((s.otp.worn.map Prod.fst).filter fun o => otpBad s o && decide (o < 0x400)).min?

/-- The registers whose reset value a device reset has taken from OTP return to it on a page (R63). -/
def State.reload (s : State) (page : Nat) : State :=
  s.power.loaded.foldl (fun t p => if pageOf p.1 = page then t.wr p.1 p.2 else t) s

/-- Loading OTP at wake step 4 of a reset (R156): the life-cycle state, XTAL_CFG (2 when OTP is blank), FL_CFG and LOAD_STAT. -/
def State.loadOtp (s : State) : State :=
  let x := otpWord s 0x120
  let s1 := s.wr Reg.SEC_LC_STATE (wordOf (lcCode s))
  let l := [(Reg.CLK_XTAL_CFG, if x = 0 then 0x00000002 else x &&& 0x13), (Reg.HPT_FL_CFG, flCfgStored (otpWord s 0x130))]
  let s2 := { s1 with power := { s1.power with loaded := l.filter fun p => decide (p.2 ≠ resetWord s.variant p.1) } }
  let s3 := l.foldl (fun t p => t.wr p.1 p.2) s2
  match otpFirstBad s with
  | none => s3.wr Reg.OTP_LOAD_STAT 0xC0000000
  | some o => (s3.wr Reg.OTP_LOAD_STAT (BitVec.ofNat 32 (0x80000000 + o % 0x2000))).cause Reg.OTP 2

/-! ## The device reset (R84) -/

/-- The AON registers that an ordinary reset keeps: all but CTRL, LOCK, ERR_CODE and ERR_CNT (R473). -/
def aonKept (p : Nat × Word) : Bool :=
  decide (pageOf p.1 = 0x24) && isRegAddr p.1 && !([0x008, 0x020, 0x024, 0x028, 0x030].contains (p.1 % 0x1000))

/-- A copy that programming has left in an unknown state: programmed, with data and errors that the spec leaves open (R157). -/
def freeCopy (k : Nat) : OtpCopy := ⟨wordOf (1 + Config.freeNat k % 0xFFFFFFFF), Config.freeNat (k + 1) % 3⟩

/-- The word in programming is left with both copies so; `k` numbers the free values (R140, R156, R157). -/
def otpBroken (k : Nat) (o : Otp) : Otp :=
  match o.prog with
  | none => o
  | some g => { o with words := tabPut o.words g.off g.value 0,
                       worn := (g.off, freeCopy k, freeCopy (k + 2)) :: o.worn.filter (fun p => p.1 != g.off), prog := none }

/-- The OTP array through a reset: a word that a reset or VIN loss interrupts is left programmed, its contents to be resolved (R157). -/
def otpThrough (s : State) : Otp := otpBroken s.freeCtr s.otp

/-- Every logic state outside the AON domain and OTP at reset: memories cleared, queues empty, the Cox in INIT, outputs low,
TICK at 0 (R84, R87, R376). -/
def State.cleared (s : State) : State :=
  { variant := s.variant
    regs := s.regs.filter aonKept
    pages := { debugAttached := s.pages.debugAttached }
    power := { phase := .held, under := s.power.under, above := s.power.above, wakeHeld := s.power.wakeHeld,
               pendRtc := s.power.pendRtc, pendPin := s.power.pendPin, wakeFault := s.power.wakeFault,
               aonLost := s.power.aonLost, resetLow := s.power.resetLow,
               levels := s.power.levels, stuck := s.power.stuck }
    sec := { tamperNow := s.sec.tamperNow, scrapped := decide (lcCode { s with otp := otpThrough s } = 4) }
    otp := otpThrough s
    boot := { pins := s.boot.pins }
    aon := s.aon
    freeCtr := if s.otp.prog = none then s.freeCtr else s.freeCtr + 4
    pending := s.pending }

/-- RST_CAUSE while a reset is under way and has not reached LOGIC_RDY (R84): the causes recorded so far, else none. -/
def resetCausesSoFar (s : State) : Word :=
  match s.power.phase with
  | .waking f _ _ _ _ => if f = 6 then s.rd Reg.SYS_RST_CAUSE else 0
  | .held => s.rd Reg.SYS_RST_CAUSE
  | _ => 0

/-- The supplies allow the wake to start: VIN, VCORE, VIO, VHP and VANA are above their thresholds (R82). -/
def suppliesUp (s : State) : Bool := s.power.under.all fun x => decide (x = .vbat)

/-- DEVICE_RESET (R84): every reset source has this one scope. The causes of overlapping resets accumulate until LOGIC_RDY, and the
wake runs from the regulator step once the supplies allow it. -/
def deviceReset (causes : Word) (s : State) : State :=
  let sofar := resetCausesSoFar s
  let s1 := s.cleared
  let ph : PwrPhase := if suppliesUp s then .waking 6 1 1 false 0 else .held
  let s2 := { s1 with power := { s1.power with phase := ph } }
  ((s2.wr Reg.SYS_RST_CAUSE (sofar ||| causes)).wr Reg.PWR_WAKE_STAT 0).wr Reg.CLK_PLL_STAT 0

/-- A reset that a wake from MOORED or BEACHED is, with the state code it started from (R91, R95). -/
def wokeAt (code : Nat) (s : State) : State := { s with power := { s.power with wokeFrom := code } }

/-! ## Supplies (R81, R82, R90) -/

/-- The bit of PWR.SUP_STAT of a supply. -/
def supplyBit : Supply → Nat
  | .vin => 0 | .vcore => 1 | .vio => 2 | .vhp => 3 | .vana => 4 | .vbat => 5

/-- The Cox line that reports an undervoltage of a supply (R97): 18 to 22. -/
def underLine : Supply → Option Nat
  | .vin => some 18 | .vcore => some 19 | .vio => some 20 | .vhp => some 21 | .vana => some 22 | .vbat => none

/-- The Cox line that reports an overvoltage of a supply (R97): 7 to 12. -/
def overLine : Supply → Nat
  | .vin => 7 | .vcore => 8 | .vio => 9 | .vhp => 10 | .vana => 11 | .vbat => 12

/-- PWR.SUP_STAT: each supply inside its thresholds; for VBAT, VBAT_STATE not BELOW and no overvoltage (R81). -/
def supStat (s : State) : Word :=
  let ok (x : Supply) : Nat := if s.power.under.contains x || s.power.above.contains x then 0 else 2 ^ supplyBit x
  let vbat := if s.fld Reg.AON_AON_STAT 0 2 = 2 || s.power.above.contains .vbat then 0 else 32
  wordOf (ok .vin + ok .vcore + ok .vio + ok .vhp + ok .vana + vbat)

/-- Membership of a supply in a list set or cleared, without repeats. -/
def setSupply (l : List Supply) (x : Supply) (b : Bool) : List Supply :=
  let l' := l.filter (fun y => decide (y ≠ x))
  if b then x :: l' else l'

/-- VIN below its undervoltage threshold puts the device in BEACHED from any state, with no orderly entry; the AON domain keeps a
copy of the wake enables in force (R90, R91): in MOORED the ones it holds; from any other state, and during a wake, what WAKE_CFG reads at
that instant, its reset value where a reset is under way (log entry 90). -/
def vinLoss (s : State) : State :=
  let cur := s.fld Reg.PWR_STATE 0 3
  if cur = 5 ∧ s.power.phase = .steady then { s with power := { s.power with under := setSupply s.power.under .vin true } } else
  let copy := if cur = 4 ∧ s.power.phase = .steady then s.power.wakeHeld else s.rd Reg.PWR_WAKE_CFG
  let s1 := s.cleared
  let s2 := { s1 with power := { s1.power with phase := .steady, under := setSupply s.power.under .vin true, wakeHeld := copy } }
  (s2.setFld Reg.PWR_STATE 0 3 5).setFlag Reg.AON_AON_STAT 31 true

/-- A supply goes below its undervoltage threshold, or comes back above it (R81). VIN leads to BEACHED (R90); another supply
resets the device and holds it in reset; VBAT has no undervoltage line, and in MOORED and BEACHED the Cox monitors nothing (R87). -/
def supplyUndervoltage (x : Supply) (present : Bool) (s : State) : State :=
  let l := setSupply s.power.under x present
  let s1 := { s with power := { s.power with under := l } }
  if !present then s1
  else match x with
    | .vin => vinLoss s
    | .vbat => s1
    | _ => if 3 < s.fld Reg.PWR_STATE 0 3 then s1 else deviceReset 0x00000020 s1

/-- A supply goes above its overvoltage threshold, or comes back below it: the state of its fault line (R81). -/
def supplyOvervoltage (x : Supply) (present : Bool) (s : State) : State :=
  { s with power := { s.power with above := setSupply s.power.above x present } }

/-- VIN below 4.60 V latches VIN_WARN and changes nothing else (R81): in every state in which the Cox supply monitors run, HOLD included
(R87), but not while the page is in reset. -/
def vinWarn (s : State) : State :=
  let inReset := match s.power.phase with | .held => true | .waking f _ _ _ _ => decide (f = 6) | _ => false
  if !inReset && decide (s.fld Reg.PWR_STATE 0 3 ≤ 3) then s.cause Reg.PWR 3 else s

/-- The supplies have risen into range for 100 µs with PORST_N high: the device leaves the reset it was held in (R82). With the AON
domain lost it is a first power-up, which records POR and PORST (R84). -/
def powerUp (s : State) : State :=
  if s.power.phase = .held then
    let l := s.power.under.filter (fun y => decide (y = .vbat))
    let s1 := { s with power := { s.power with under := l, phase := .waking 6 1 1 false 0, aonLost := false } }
    if s.power.aonLost then s1.wr Reg.SYS_RST_CAUSE (s1.rd Reg.SYS_RST_CAUSE ||| 0x00000003) else s1
  else s

/-- VIN returns: a reset, recorded as WAKE when the AON domain kept its state and as a first power-up otherwise; a pending wake
survives only in the first case (R90). -/
def vinReturn (s : State) : State :=
  if s.fld Reg.PWR_STATE 0 3 = 5 ∧ s.power.phase = .steady then
    let l := setSupply s.power.under .vin false
    let s1 := { s with power := { s.power with under := l } }
    if s.power.aonLost then
      let s2 := deviceReset 0x00000003 { s1 with power := { s1.power with pendRtc := false, pendPin := false, aonLost := false } }
      wokeAt 5 (s2.setFld Reg.PWR_WAKE_STAT 8 4 8)
    else
      let pend := s.power.pendRtc || s.power.pendPin
      let s2 := deviceReset 0x00000040 { s1 with power := { s1.power with pendRtc := false, pendPin := false } }
      let s3 := { s2 with aon := { s2.aon with namePending := s2.aon.namePending || pend } }
      wokeAt 5 (s3.setFld Reg.PWR_WAKE_STAT 8 4 8)
  else s

/-! ## Reset pins (R85, R86) -/

/-- PORST_N low for `ns` nanoseconds: below 1 µs it is filtered out, from 10 µs it always resets, and between the two the spec
leaves the outcome open (R85): a free value decides. In BEACHED it only ends the hold of FAULT_N (R95): nothing but the AON domain has a
supply. -/
def porstNLow (ns : Nat) (s : State) : State :=
  if ns < 1000 then s
  else
    let clearFault (t : State) : State := { t with power := { t.power with wakeFault := false } }
    if s.fld Reg.PWR_STATE 0 3 = 5 ∧ s.power.phase = .steady then clearFault s
    else if 10000 ≤ ns then clearFault (deviceReset 0x00000002 s)
    else if Config.freeNat s.freeCtr % 2 = 1 then clearFault (deviceReset 0x00000002 s.drawn) else s.drawn

/-- The device drives RESET_N low from the start of a reset until the work of wake step 4 is done (R85). -/
def drivesResetN (s : State) : Bool :=
  match s.power.phase with
  | .waking f _ _ _ _ => decide (f = 6)
  | .held => true
  | .steady => decide (3 < s.fld Reg.PWR_STATE 0 3)
  | .entering _ => false

/-- RESET_N driven low from outside for `ns` nanoseconds: 1 µs or longer resets the device while it does not drive the pin itself
(R85). While it does, the low holds LOGIC_RDY back until RESET_N has read high for 1 µs; such a low is no reset source of its own (log
entry 91). A low that resets the device goes on for the rest of its time, and holds LOGIC_RDY back in the same way. -/
def resetPinLow (ns : Nat) (s : State) : State :=
  let held (k : Nat) (t : State) : State := { t with power := { t.power with resetLow := max t.power.resetLow k } }
  if drivesResetN s then (if ns = 0 then s else held (ns + 1000) s)
  else if ns < 1000 then s else held ns (deviceReset 0x00000004 s)

/-- Time passes for a RESET_N that is held low from outside (R85). -/
def resetLowTick (ns : Nat) (s : State) : State :=
  if s.power.resetLow = 0 then s else { s with power := { s.power with resetLow := s.power.resetLow - ns } }

/-- An opened write to SYS.RST_KEY: 0x0000_A5C3 resets the device, any other value is ignored with BLOCK/RST_VALUE (R86). -/
def rstKeyWrite (m : Master) (v : Word) (s : State) : State :=
  regWrite (defOf .sys 0x054) Reg.SYS_RST_KEY m v
    (fun v s => if v = 0x0000A5C3 then deviceReset 0x00000010 s else s.blockError Reg.SYS_RST_KEY 0x01 m) s

/-! ## Clocks and spread (R77 to R80) -/

/-- Modulation period of a rate code in TICKs: 51 200, 25 600 or 12 800 root periods (R77). -/
def modPeriod (rate : Nat) : Nat := if rate = 0 then 12800 else if rate = 1 then 6400 else 3200

/-- The value of a SPREAD_CFG write breaks a condition of R79. -/
def spreadConflict (v : Word) : Bool :=
  bit v 22 || (bit v 20 && decide (1 < bits v 0 2)) || decide (bits v 4 2 = 3)

/-- A write to CLK.SPREAD_CFG: refused as a whole with SPREAD_CONFLICT, or stored and pending until the next modulation period
(R78, R79). -/
def spreadCfgWrite (m : Master) (v : Word) (s : State) : State :=
  regWrite (defOf .clk 0x048) Reg.CLK_SPREAD_CFG m v
    (fun v s =>
      let n := storeValue (defOf .clk 0x048) (s.rd Reg.CLK_SPREAD_CFG) v
      if spreadConflict n then s.blockError Reg.CLK_SPREAD_CFG 0x01 m
      else
        let s1 := (s.wr Reg.CLK_SPREAD_CFG n).setFlag Reg.CLK_SPREAD_STAT 31 true
        { s1 with power := { s1.power with spreadSince := s.now } }) s

/-- TICKs by which TICK advances at a time: 1, and 8 in EASY and HOLD, where it counts XTAL periods (R87). -/
def tickUnit (s : State) : Nat := if s.fld Reg.PWR_STATE 0 3 = 2 ∨ s.fld Reg.PWR_STATE 0 3 = 3 then 8 else 1

/-- The last boundary of the modulation period of the rate in force, counted from the end of the last reset or the last change of rate
(R78). -/
def modBoundary (s : State) : Nat := s.now - (s.now - s.power.modOrigin) % modPeriod (s.fld Reg.CLK_SPREAD_STAT 4 2)

/-- That boundary is later than the pending write, and no more than one advance of TICK ago (R78). -/
def atModBoundary (s : State) : Bool :=
  decide (s.power.spreadSince < modBoundary s) && decide (s.now < modBoundary s + tickUnit s)

/-- At the boundary, the pending settings take effect and SPREAD_APPLIED latches (R78). -/
def spreadApplied (s : State) : State :=
  if s.flag Reg.CLK_SPREAD_STAT 31 && atModBoundary s then
    let s1 := s.wr Reg.CLK_SPREAD_STAT (s.rd Reg.CLK_SPREAD_CFG)
    { (s1.cause Reg.CLK 2) with power := { s1.power with modOrigin := modBoundary s } }
  else s

/-- Number of branch clocks (R74): SPE 0, PWM 1, SYS 2, PER 3, CAN 4, ADC 5, ETH 6. -/
def branchCount : Nat := 7

/-- Divider of a branch clock (R74). -/
def branchDiv (b : Nat) : Nat := if b ≤ 1 then 2 else if b = 2 then 4 else if b = 3 then 8 else if b = 4 then 10 else 16

/-- Root periods of one period of a branch without spread; none while the branch stands still. In EASY only SYS, PER and CAN run, at 25 MHz
from XTAL, and in HOLD none (R87). -/
def branchPeriod (s : State) (b : Nat) : Option Nat :=
  let st := s.fld Reg.PWR_STATE 0 3
  if st ≤ 1 then some (branchDiv b) else if st = 2 ∧ 2 ≤ b ∧ b ≤ 4 then some 32 else none

/-- The spread in force lengthens a branch: never ETH (R79), and no branch in EASY, which has no PLL. -/
def branchSpread (s : State) (b : Nat) : Bool := decide (b < 6) && decide (s.fld Reg.PWR_STATE 0 3 ≤ 1) && s.flag Reg.CLK_SPREAD_STAT (16 + b)

/-- d(t) × N at an instant given in root periods, in units of 1/256 000 000 (R77): the depth is 0.25%, 0.5% or 1.0%, the triangle rises over
the first half of the modulation period and falls over the second. -/
def spreadStep (s : State) (b root : Nat) : Nat :=
  let depth := match s.fld Reg.CLK_SPREAD_STAT 0 2 with | 1 => 25 | 2 => 50 | 3 => 100 | _ => 0
  let p := 4 * modPeriod (s.fld Reg.CLK_SPREAD_STAT 4 2)
  let t := (root - 4 * s.power.modOrigin) % p
  depth * branchDiv b * min t (p - t) * (51200 / p)

/-- A branch clock over `k` root periods that end at root instant `upTo`: each edge reports the period it ends and adds d(t) × N; when the sum
reaches 1, the next period is one root period longer (R75, R77). The fuel counts edges. -/
def branchRun (s : State) (b n upTo : Nat) : Nat → Nat → Branch → Branch
  | 0, k, x => { x with age := x.age + k }
  | fuel + 1, k, x =>
    let len := n + (if x.stretch then 1 else 0)
    if x.age + k < len then { x with age := x.age + k }
    else
      let rest := x.age + k - len
      let sum := x.acc + (if branchSpread s b then spreadStep s b (upTo - rest) else 0)
      let carry := decide (256000000 ≤ sum)
      branchRun s b n upTo fuel rest
        { age := 0, stretch := carry, acc := if carry then sum - 256000000 else sum, last := len, edges := x.edges + 1 }

/-- Every branch clock over the last `k` root periods (R75 to R77). -/
def branchTick (k : Nat) (s : State) : State :=
  let one (l : List (Nat × Branch)) (b : Nat) : List (Nat × Branch) :=
    match branchPeriod s b with
    | some n => tabPut l b (branchRun s b n (4 * s.now) (k + 1) k (tabGet l b {})) {}
    | none => l
  { s with power := { s.power with branches := (List.range branchCount).foldl one s.power.branches } }

/-- A clock condition of R80 appears or goes: PLL_STAT shows it, the CLK cause latches, and the fault line has it as its state. In
EASY the PLL is off by design. -/
def clockLoss (k : ClockFault) (present : Bool) (s : State) : State :=
  match k with
  | .xtalLoss => s.setFlag Reg.CLK_PLL_STAT 0 (!present)
  | .rootLoss => s.setFlag Reg.CLK_PLL_STAT 2 (!present)
  | .pllUnlock =>
    if s.fld Reg.PWR_STATE 0 3 = 2 then s
    else (s.setFlag Reg.CLK_PLL_STAT 1 (!present)).causeIf (present && s.flag Reg.CLK_PLL_STAT 1) Reg.CLK 0
  | .window => { (s.causeIf (present && !s.power.window) Reg.CLK 1) with power := { s.power with window := present } }

/-! ## The power ladder (R88 to R93) -/

/-- CTRL.EN of one of a run of `n` pages from `base` is 1. -/
def anyEnabled (s : State) (base : Nat) : Nat → Bool
  | 0 => false
  | n + 1 => s.flag (base + 0x1000 * n + 0x008) 0 || anyEnabled s base n

/-- OUTPUTS_LIVE: a PWM, an actuator channel or BST is enabled (R88). -/
def outputsLive (s : State) : Bool :=
  anyEnabled s (Reg.PWM 0) 16 || s.flag (Reg.BST + 0x008) 0
    || (List.range 48).any fun k => s.flag (Reg.ACTG_CFG (k / 8) (k % 8)) 31

/-- An event source whose route names a host line, an SPE or the Cox is asserted: the wake source of PADDLE and EASY (R91). -/
def eventWake (s : State) : Bool :=
  (List.range 64).any fun n =>
    decide (s.rd (Reg.EVT_ROUTE n) &&& 0x0000803F ≠ 0) && sourceOn s n

/-- A wake source of a target state is already asserted (R88, R91). -/
def wakePending (s : State) (target : Nat) (enables : Word) : Bool :=
  if target ≤ 2 then eventWake s
  else (bit enables 0 && (s.flag (Reg.AON + 0x18) 0 || s.flag (Reg.AON + 0x18) 1)) || s.sec.tamperNow.contains 0

/-- A refused request is recorded (R88). -/
def State.entryRefused (s : State) (target cause : Nat) : State :=
  (((s.setFlag Reg.PWR_ENTRY 31 true).setFld Reg.PWR_ENTRY 8 3 target).setFld Reg.PWR_ENTRY 0 4 cause).cause Reg.PWR 0

/-- The Cox leaves RUN for SAFE at an accepted entry to HOLD or MOORED: both paths go low (R89, R104). -/
def coxToSafe (s : State) : State :=
  if s.fld (Reg.COX + 0x00C) 4 4 = 3 then
    let s1 := s.setFld (Reg.COX + 0x00C) 4 4 2
    { s1 with cox := { s1.cox with safeOffN := false, safePulse := false, actSen := [],
                                      pathSince := if s1.cox.safeOffN || s1.cox.safePulse then s1.cox.ps else s1.cox.pathSince } }
  else s

/-- A wake starts: its ready bits clear and its source is recorded (R94). -/
def State.startWake (s : State) (src dest : Nat) : State :=
  let from_ := s.fld Reg.PWR_STATE 0 3
  let s1 := { s with power := { s.power with phase := .waking from_ 1 1 false dest, retries := 0 } }
  s1.wr Reg.PWR_WAKE_STAT (wordOf (src % 16 * 0x100))

/-- A wake from MOORED is a reset that records WAKE (R84, R87, R91). -/
def wakeReset (causes : Word) (src : Nat) (s : State) : State :=
  wokeAt 4 ((deviceReset causes s).setFld Reg.PWR_WAKE_STAT 8 4 src)

/-- The Profile Units that an accepted entry halted go on: their axes keep EN (R89). One at rest is READY, one that still stops will be. -/
def profsResume (s : State) : State :=
  (List.range 16).foldl (fun t n =>
    let p := tabGet t.profs n {}
    if t.flag (Reg.AX n + 0x00C) 0 then
      match p.dec with
      | some d => if d.ends = .idle then { t with profs := tabPut t.profs n { p with dec := some { d with ends := .ready } } {} } else t
      | none => if t.fld (Reg.AX_PROF_STAT n) 8 4 = 0 then t.wr (Reg.AX_PROF_STAT n) 0x00000100 else t
    else t) s

/-- An accepted entry is abandoned: a wake source of its target has asserted before gating (R88). -/
def abandonEntry (s : State) : State :=
  match s.power.phase with
  | .entering t => profsResume { (s.entryRefused t 2) with power := { s.power with phase := .steady } }
  | _ => s

/-- An accepted entry to a state with a code from `lo` to `hi` is under way, and WAKE_CFG enables the wake source of bit `b` (R88, R91). -/
def enteringWith (s : State) (lo hi b : Nat) : Bool :=
  match s.power.phase with
  | .entering t => decide (lo ≤ t) && decide (t ≤ hi) && s.flag Reg.PWR_WAKE_CFG b
  | _ => false

/-- An opened write to PWR.REQ (R88, R91). -/
def pwrReqWrite (m : Master) (v : Word) (s : State) : State :=
  regWrite (defOf .pwr 0x040) Reg.PWR_REQ m v
    (fun v s =>
      let t := bits v 0 3
      let cur := s.fld Reg.PWR_STATE 0 3
      match s.power.phase with
      | .entering tgt =>
        let s1 := s.blockError Reg.PWR_REQ 0x02 m
        if tgt ≤ 2 then abandonEntry s1 else s1
      | .waking _ _ _ _ _ => s.blockError Reg.PWR_REQ 0x02 m
      | .held => s
      | .steady =>
        if 5 ≤ t then s.blockError Reg.PWR_REQ 0x01 m
        else if t = cur then s
        else
          let s1 := s.wr Reg.PWR_REQ (wordOf t)
          if t < cur then s1.startWake 2 t
          else
            let coxSt := s.fld (Reg.COX + 0x00C) 4 4
            if outputsLive s then s1.entryRefused t 1
            else if wakePending s t (s.rd Reg.PWR_WAKE_CFG) || decide (s.otp.prog ≠ none) then s1.entryRefused t 2
            else if coxSt = 1 ∨ coxSt = 4 then s1.entryRefused t 3
            else
              let s2 := { s1 with power := { s1.power with phase := .entering t } }
              if 3 ≤ t then coxToSafe s2 else s2) s

/-- Memory addresses that PWR.RET_CFG retains in HOLD (R93, the field table of RET_CFG). -/
def retained (cfg : Word) (a : Nat) : Bool :=
  if a < 0x00080000 then bit cfg (a / 0x10000)
  else if 0x10000000 ≤ a ∧ a < 0x10200000 then bit cfg 8
  else if 0x20000000 ≤ a ∧ a < 0x20100000 then bit cfg 9
  else if 0x20100000 ≤ a ∧ a < 0x20200000 then bit cfg 10
  else if 0x30000000 ≤ a ∧ a < 0x30004000 then bit cfg 13
  else if 0x50000000 ≤ a ∧ a < 0x50100000 then bit cfg 11
  else if 0x50100000 ≤ a ∧ a < 0x50200000 then bit cfg 12
  else false

/-- Memories that HOLD did not retain read as zero with a valid code after the wake (R93, R136): the middles of the queues with the Vat, and
the calendar, which RET_CFG does not name (log entry 92). -/
def State.clearUnretained (s : State) : State :=
  let keep := s.power.retHeld
  { s with mem := s.mem.filter (fun c => retained keep c.1)
           ecc := s.ecc.filter (fun p => retained keep p.1)
           memctl := { s.memctl with writeBack := s.memctl.writeBack.filter (retained keep) }
           queues := if bit keep 8 then s.queues
             else s.queues.map fun q => (q.1, { q.2 with middle := q.2.middle.map fun w => { w with data := 0, badParity := false } })
           sch := { s.sch with cal := [] } }

/-- Lanes become INVALID at the entry to HOLD, with the causes of a change of state (R87, R381); a disabled lane stays so. -/
def lanesInvalid (s : State) : State :=
  let one (x : Nat) (t : State) : State :=
    let st := t.fld (Reg.TSU_L_STAT x) 0 4
    if st = 0 ∨ st = 5 then t
    else { ((t.setFld (Reg.TSU_L_STAT x) 0 4 5).cause Reg.TSU (8 * x)).cause Reg.TSU (8 * x + 2) with tsu := { t.tsu with autoKept := false } }
  one 1 (one 0 s)

/-- Converters, sequencer and sigma-delta windows halt at the entry to EASY or HOLD: what they had in hand is lost (R272). -/
def senseHalt (s : State) : State :=
  { s with adcs := (s.adcs.map (fun p => (p.1, { p.2 with work := .idle, again := none, todo := [], inRound := false }))).filter (fun p => decide (p.2 ≠ {}))
           sdms := (s.sdms.map (fun p => (p.1, { p.2 with winStart := none, lastOut := none }))).filter (fun p => decide (p.2 ≠ {}))
           sense := { s.sense with inRound := false, late := false, nextRound := 0 } }

/-- A controller that a state halts integrates again when it resumes (R416). -/
def canHalt (target : Nat) (s : State) : State :=
  let stop (p : Nat × Can) : Nat × Can :=
    if (target = 3 ∨ s.rd (Reg.CAN_EASY_NBT p.1) = 0) ∧ p.2.st ≤ 2 then (p.1, { p.2 with st := 0 }) else p
  { s with cans := (s.cans.map stop).filter fun p => decide (p.2 ≠ {}) }

/-- Every enabled position input latches HOLD_GAP at the wake from HOLD (R272). -/
def holdGaps (s : State) : State :=
  (List.range (axesOf s.variant)).foldl (fun t n => t.causeIf (t.flag (Reg.ENC n + 0x008) 0) (Reg.ENC n) 5) s

/-- A write to WAKE_CFG: the wake enable of an absent CAN2 stays 0 and is reported, the other fields act (R6). -/
def wakeCfgWrite (d : RegDef) (m : Master) (v : Word) (s : State) : State :=
  if cansOf s.variant = 2 ∧ bit v 6 then
    (genericWrite .pwr d Reg.PWR_WAKE_CFG m (putBit v 6 false) s).controlError Reg.PWR_WAKE_CFG 0x02 m
  else genericWrite .pwr d Reg.PWR_WAKE_CFG m v s

/-- The halting blocks have completed their atomic units: a programming of OTP has ended (R157), before HOLD and MOORED a wipe has ended and a
Skimmer block is written back, and before EASY no CAN frame is on the bus and no Ethernet frame on a wire (R89, R135, R146). The units that
already PADDLE halts are waited for with the command (`unitsAtRest`). -/
def haltsDone (s : State) (target : Nat) : Bool :=
  decide (s.otp.prog = none) && (decide (target < 3) || (decide (s.sec.wipeStart = none) && decide (s.skim.inHand = none)))
    && (decide (target < 2) || (s.cans.all (fun p => decide (p.2.onBus = none)) && decide (s.ksw.wires = [])))

/-- Gating ends an accepted entry (R89): the entry is abandoned when a wake source has asserted; otherwise PWR.STATE takes the new
code, and WAKE_CFG and RET_CFG are taken as they stand at this instant, when the device enters the state (R91, R93; log entry 93). MOORED
keeps only the AON domain. -/
def powerStateGating (s : State) : State :=
  match s.power.phase with
  | .entering t =>
    if !(haltsDone s t) then s
    else if wakePending s t (s.rd Reg.PWR_WAKE_CFG) then abandonEntry s
    else
      let cur := s.fld Reg.PWR_STATE 0 3
      let s1 := { s with power := { s.power with phase := .steady, wakeHeld := s.rd Reg.PWR_WAKE_CFG, retHeld := s.rd Reg.PWR_RET_CFG } }
      let moved (x : State) : State := (x.setFld Reg.PWR_STATE 4 3 cur).setFld Reg.PWR_STATE 0 3 t
      if t = 4 then
        let c := s1.cleared
        ({ c with power := { c.power with phase := .steady, wakeHeld := s.rd Reg.PWR_WAKE_CFG } }).setFld Reg.PWR_STATE 0 3 4
      else if t = 3 then lanesInvalid (canHalt 3 (senseHalt (moved s1)))
      else if t = 2 then (canHalt 2 (senseHalt (moved s1))).setFlag Reg.CLK_PLL_STAT 1 false
      else moved s1
  | _ => s

/-- CANk_RX activity wakes the device from HOLD where the enable held for the state allows it (R91), and abandons an entry to HOLD (R88). -/
def holdCanActivity (k : Nat) (s : State) : State :=
  if k < cansOf s.variant ∧ enteringWith s 3 3 (4 + k) then abandonEntry s
  else if s.fld Reg.PWR_STATE 0 3 = 3 ∧ s.power.phase = .steady ∧ k < cansOf s.variant ∧ bit s.power.wakeHeld (4 + k) then
    s.startWake 5 0
  else s

/-! ## Wake steps (R94, R95) -/

/-- LOGIC_RDY: OTP loaded after a reset, BOOT_SEL sampled and a standalone boot begun (R200, R203), WAKE_DONE and the wake's retries latched, the
modulator's origin set, and the causes that name the wake latched by the AON domain (R78, R94, R95, R200, R480). -/
def State.logicReady (s : State) (from_ dest : Nat) : State :=
  let isReset := decide (from_ = 6)
  let s0 := if isReset then s.loadOtp else s
  let s1 := s0.cause Reg.PWR 1
  let s2 := s1.causeIf (decide (0 < s.power.retries)) Reg.PWR 2
  let s3 := s2.setFld Reg.PWR_WAKE_STAT 12 4 s.power.retries
  let s4 := if isReset then s3 else (s3.setFld Reg.PWR_STATE 4 3 from_).setFld Reg.PWR_STATE 0 3 dest
  let pins := if isReset then bootPins s else s.boot.pins
  let alone := decide (pins = 1 ∨ pins = 2) && decide (s4.fld Reg.SEC_LC_STATE 0 3 ≠ 4)
  let s5 := if isReset then
      { (s4.setFld Reg.HPT_BOOT 28 2 pins) with
        boot := { s4.boot with pins := pins, imageAt := if pins = 2 then (otpWord s 0x12C).toNat else 0, phase := if alone then .waitTest5 else .none, controller := alone } }
    else s4
  let fail := decide (s.fld (Reg.AON_BKP 0) 16 16 = 0xFA11)
  let s6 := ((((s5.causeIf s.aon.namePin Reg.AON 16).causeIf s.aon.namePending Reg.AON 17).causeIf
    (fail && decide (3 ≤ from_)) Reg.AON 18).causeIf s.aon.lostToLatch Reg.AON 19)
  let s7 := if from_ = 3 then holdGaps s6 else s6
  { s7 with power := { s7.power with phase := .steady, retries := 0, wakeFault := false,
                                     modOrigin := if isReset then s.now else s7.power.modOrigin }
            skim := { s7.skim with limitFrom := if 3 ≤ from_ then s.now else s7.skim.limitFrom, memIdx := 0, block := 0, fresh := true, anew := true }
            aon := { s7.aon with namePin := false, namePending := false, lostToLatch := false }
            pwms := (List.range 16).foldl
              (fun l n => let p := tabGet l n {}; if p.run then l else tabPut l n { p with enabledAt := s.now } {}) s7.pwms }

/-- A wipe that came due in HOLD starts once MEM_RDY is set (R146). -/
def wipeIfDue (s : State) : State := match s.sec.wipeDue with | some t => beginWipe t s | none => s

/-- A wake step sets its ready bit and the next step starts; the last sets LOGIC_RDY (R94). A secure-memory wipe that is due runs
before it (R146), and after a reset a RESET_N held low from outside delays it (R85). -/
def wakeStepDone (s : State) : State :=
  match s.power.phase with
  | .waking f step _ false dest =>
    if step = 4 ∧ (s.sec.wipeStart ≠ none ∨ s.sec.wipeDue ≠ none ∨ (f = 6 ∧ 0 < s.power.resetLow)) then s
    else
      let s1 := s.setFlag Reg.PWR_WAKE_STAT (step - 1) true
      let s2 := if step = 2 then s1.wr Reg.CLK_PLL_STAT 0x7 else s1
      let s3 := if step = 3 ∧ f = 3 then s2.clearUnretained else s2
      if step = 4 then s3.logicReady f dest
      else
        let s4 := if step = 3 then wipeIfDue s3 else s3
        { s4 with power := { s4.power with phase := .waking f (step + 1) 1 false dest } }
  | _ => s

/-- A wake step misses its timeout: its resource goes off and a pause of 100 µs begins; the fourth failure returns the device to
MOORED with the record in BKP0 and FAULT_N held low (R95). The wake enables that the AON domain last held go on to govern that MOORED (log
entry 90). -/
def wakeStepTimeout (s : State) : State :=
  match s.power.phase with
  | .waking f step att false dest =>
    if att < 4 then
      { s with power := { s.power with phase := .waking f step att true dest, retries := s.power.retries + 1 } }
    else
      let c := s.cleared
      let c1 := { c with power := { c.power with phase := .steady, wakeFault := true } }
      (c1.setFld Reg.PWR_STATE 0 3 4).wr (Reg.AON_BKP 0) (BitVec.ofNat 32 (0xFA110000 + (if f = 6 then s.power.wokeFrom else f) * 0x100 + 4 * 0x10 + step))
  | _ => s

/-- After the pause, the failed step is attempted again (R95). -/
def wakeStepRetry (s : State) : State :=
  match s.power.phase with
  | .waking f step att true dest => { s with power := { s.power with phase := .waking f step (att + 1) false dest } }
  | _ => s

end Sys2Proof.Machine
end

