-- ==== Sys2Proof/Machine/Pins.lean ====
section
/-! DEFINITION. What the device drives on its balls and what stands on them: the outputs of every unit, FAULT_N, the level of each ball, and
the pad readback (spec/26_package_pins.md R503 to R514, spec/02_hazards.md R27, R28, R32). -/

namespace Sys2Proof.Machine

/-! ## FAULT_N (R102) -/

/-- The line is latched. -/
def lineLatched (s : State) (n : Nat) : Bool := s.flag (Reg.COX_LATCH (n / 32)) (n % 32)

/-- The classes and masks of the latched lines that act. Line 15 does not act while CHECK runs (R108). -/
def heldLines (s : State) : List (Nat × CoxLatch) :=
  s.cox.held.filter fun p => lineLatched s p.1 && !(decide (p.1 = 15) && decide (coxState s = 1))

/-- FAULT_N is driven low (R102, R95). -/
def faultLow (s : State) : Bool :=
  let st := coxState s
  decide (st = 0 ∨ st = 1 ∨ st = 4 ∨ st = 5) || (heldLines s).any (fun p => decide (1 ≤ p.2.cls)) || s.power.wakeFault

/-! ## Drivers (R503, R506, R507) -/

/-- The outputs other than DOUT and ODN balls are driven: not during a reset, nor in MOORED or BEACHED (R506, R507). -/
def padsUp (s : State) : Bool :=
  match s.power.phase with
  | .held => false
  | .waking f _ _ _ _ => decide (f ≤ 3)
  | _ => decide (s.fld Reg.PWR_STATE 0 3 ≤ 3)

/-- HP_RDY at the first header bit: low in reset and while the device wakes (R92, R190). -/
def hpReady (s : State) : Bool :=
  match s.power.phase with
  | .held | .waking _ _ _ _ _ => false
  | _ => decide (s.fld Reg.PWR_STATE 0 3 ≤ 2)

/-- The level that the GPIO page drives on a ball; none where the ball is an input (R514). -/
def gpioDrives (s : State) (p : Nat) : Option Bool :=
  if p < 625 ∧ s.flag (Reg.PAD_PADp p) 24 ∧ s.flag (Reg.GPIO + 0x008) 0 ∧ s.flag (Reg.GPIO_OE (p / 32)) (p % 32) then
    some (s.flag (Reg.GPIO_OUT (p / 32)) (p % 32))
  else none

/-- DOUT balls: gates and enables, driven low in every reset; SAFE_PULSE moves while it runs (R28, R503, R506). -/
def doutDrive (s : State) (r c : Nat) : PadDrive :=
  if r ≤ 8 then
    if c = 25 then .level (bstOn s (if r = 1 then 0 else 1))
    else
      let k := if r ≤ 4 then c - 1 else c + 23
      .level (if r = 1 ∨ r = 8 then actOn s k else actBoostOn s k)
  else if r ≤ 15 then
    if c = 17 then .level (if r = 14 then s.cox.safeOffN else s.cox.actSen.contains 5)
    else if c = 18 then (if s.cox.safePulse then .moving else .level false)
    else .level (s.cox.actSen.contains (c - 21))
  else
    let gate := match r with | 25 => 0 | 24 => 3 | 23 => 1 | 22 => 4 | 21 => 2 | _ => 5
    .level (listGet (pwmGates s (c - 1)) gate false)

/-- HP_CS_N, HP_CLK and HP_IO in controller mode (R202): a flash read holds the select low, runs the clock and moves the lanes that its command
uses; a 1-1-1 command takes HP_IO[1] as an input and drives HP_IO[2] and HP_IO[3] high. Between reads the flash is deselected (R203); the levels
of the clock and of HP_IO are then a choice (log entry 123). -/
def flashDrive (s : State) (r c : Nat) : PadDrive :=
  let busy := s.flag Reg.HPT_FL_STAT 31
  let lanes := match s.boot.flash with | some f => f.dataLanes | none => 1
  let k := if r = 24 then c - 17 else c - 13
  if r = 25 then (if c = 18 then .level (!busy) else if c = 17 then (if busy then .moving else .level false) else .off)
  else if !busy then .off
  else if lanes = 1 then (if k = 0 then .moving else if k = 2 ∨ k = 3 then .level true else .off)
  else if k < lanes then .moving else .off

/-- DIO and DHP balls that a unit drives (R68, R190, R392, R394, R417, R455, R506). A frame moves its balls; what the device drives only
inside a transaction of the host port in target mode, the debug port or MDIO is not followed. -/
def dioDrive (s : State) (r c : Nat) : PadDrive :=
  if !(padsUp s) then .off
  else if r = 15 ∧ 22 ≤ c then
    let k := c - 22
    if irqLow s k then .level false else if irqHighZ s k then .off else .level true
  else if (r = 21 ∨ r = 22) ∧ c = 17 then (if s.fld Reg.PWR_STATE 0 3 ≤ 1 then .moving else .level false)
  else if (r = 21 ∨ r = 22) ∧ 18 ≤ c ∧ c ≤ 20 then
    (if s.ksw.wires.any fun w => decide (w.1 = 22 - r) then .moving else .level false)
  else if r = 22 ∧ c = 24 then (if s.ksw.mdio = [] then .level false else .moving)
  else if r = 21 ∧ c = 25 then .level (decide (s.tsu.ppsEnd ≠ none))
  else if r = 20 ∧ 23 ≤ c then .level (tabGet s.tsu.tpin (c - 23) false)
  else if r = 19 ∧ c = 21 then .level (tabGet s.tsu.tpin 3 false)
  else if r = 20 ∧ (c = 17 ∨ c = 19 ∨ c = 21) then
    (if (tabGet s.cans ((c - 17) / 2) {}).onBus = none ∨ s.fld (Reg.CAN_CFG ((c - 17) / 2)) 8 2 = 3 then .level true else .moving)
  else if r = 17 ∧ (c = 20 ∨ c = 21) then
    (if s.flag (Reg.SDM + 0x008) 0 && decide (1 ≤ s.fld Reg.SDM_CLK_CFG 0 3) then .moving else .level false)
  else if r = 25 ∧ c = 19 then .level (hpReady s)
  else if s.boot.controller ∧ 23 ≤ r ∧ 17 ≤ c ∧ c ≤ 20 then flashDrive s r c
  else .off

/-- What the device does to ball `p`. The balls of absent units are inputs, and in SCRAPPED those of every gated unit (R143, R507, R509);
FUNC gives a ball to the GPIO page (R510). -/
def padDrive (s : State) (p : Nat) : PadDrive :=
  let r := padRow p
  let c := padCol p
  if 625 ≤ p ∨ padAbsent s.variant p = true then .off
  else match padType p with
    | .odn =>
      if r = 10 then (if drivesResetN s then .level false else .off)
      else if faultLow s && !s.sec.scrapped then .level false else .off
    | .dout => if s.sec.scrapped then .off else doutDrive s r c
    | .dio | .dhp =>
      if padHasGpio p && s.flag (Reg.PAD_PADp p) 24 then
        match gpioDrives s p with | some b => .level b | none => .off
      else if s.sec.scrapped && !(decide (r = 25 ∧ c = 19)) then .off
      else dioDrive s r c
    | _ => .off

/-- The level of ball `p`: what the board holds it at, else what the device drives, else what reached it last (R512, R514). -/
def padLevel (s : State) (p : Nat) : Bool :=
  match s.power.stuck.find? (fun x => x.1 == p), padDrive s p with
  | none, .level b => b
  | _, _ => pinLevel s p

/-- SAFE_FB (R28, R503) and ERR_IN_N as they stand. -/
def safeFb (s : State) : Bool := padLevel s (ballAt 14 19)
def errInN (s : State) : Bool := padLevel s (ballAt 13 17)

/-! ## Readback (R32, R513) -/

/-- Every driven edge since the last TICK, with its TICK (R32). -/
def padEdges (s : State) : State :=
  let one (l : List (Nat × PadEdge)) (p : Nat) : List (Nat × PadEdge) :=
    let d := padDrive s p
    if (tabGet l p {}).drive = d then l else tabPut l p ⟨d, s.now⟩ {}
  { s with power := { s.power with edges := (List.range 625).foldl one s.power.edges } }

/-- 100 ns have passed since the driven edge of ball `p` (R32). -/
def padSettled (s : State) (p : Nat) : Bool :=
  let e := tabGet s.power.edges p {}
  decide (e.drive = padDrive s p) && decide (e.since + 20 ≤ s.now)

/-- The PWM whose gate a ball is. -/
def gatePwm (p : Nat) : Option Nat := if 16 ≤ padRow p ∧ padRow p ≤ 25 ∧ padType p = .dout then some (padCol p - 1) else none

/-- What the readback of a ball expects: the driven level, and of the gates of a tripped PWM the low level, those of an active short
included (R32, R285, R291; log entry 127). -/
def padExpects (s : State) (p : Nat) : PadDrive :=
  match gatePwm p, padDrive s p with
  | some n, .level b => .level (b && !(tripLatched s n))
  | _, d => d

/-- The readback of ball `p`, whose level is `held`, from 100 ns after its driven edge: the expected level where it differs (R32). An ODN
ball is compared only while it is driven low; a moving output meets its other level in every period. -/
def padMismatch (s : State) (p : Nat) (held : Bool) : Option Bool :=
  if padSettled s p then
    match padExpects s p with
    | .off => none
    | .level b => if b = held then none else some b
    | .moving => some (!held)
  else none

/-- The balls that an active short drives high (R285). -/
def shortedGates (s : State) : List Nat :=
  if (List.range (axesOf s.variant)).any (tripLatched s) then
    (List.range 625).filter fun p => decide (padDrive s p = .level true ∧ padExpects s p = .level false)
  else []

/-- The driven balls whose level is not the expected one, with the expected level. Only a ball that the board holds, or a gate of an active short,
can differ. -/
def padMismatches (s : State) : List (Nat × Bool) :=
  (s.power.stuck.filterMap fun x => (padMismatch s x.1 x.2).map fun e => (x.1, e))
    ++ ((shortedGates s).filter fun p => !(s.power.stuck.any fun x => x.1 == p)).filterMap fun p =>
      (padMismatch s p true).map fun e => (p, e)

/-- A readback that finds mismatches counts each of them, records the first while RB_FIRST is clear, and latches RB_MISMATCH (R513). -/
def padReadback (s : State) : State :=
  match padMismatches s with
  | [] => s
  | (p, e) :: rest =>
    let first (t : State) : State :=
      if t.flag Reg.PAD_RB_FIRST 31 then t else t.wr Reg.PAD_RB_FIRST (wordOf (0x80000000 + (if e then 0x40000000 else 0) + p))
    ((rest.foldl (fun t _ => t.satInc Reg.PAD_RB_CNT 0) ((first s).satInc Reg.PAD_RB_CNT 0))).cause Reg.PAD 8

/-- A level reaches ball `p` from outside. On a ball that the device drives, the level that differs from the driven one is the board's hold,
and the driven level ends it (log entry 102). -/
def pinMove (p : Nat) (level : Bool) (s : State) : State :=
  let free := s.power.stuck.filter fun x => x.1 != p
  let held : List (Nat × Bool) := match padDrive s p with
    | .off => free
    | .level b => if b = level then free else (p, level) :: free
    | .moving => if s.power.stuck.contains (p, level) then s.power.stuck else free
  { s with power := { s.power with stuck := held, levels := (p, level) :: s.power.levels.filter fun x => x.1 != p } }

end Sys2Proof.Machine
end

