-- ==== Sys2Proof/Machine/Cox.lean ====
section
/-! DEFINITION. The Cox safety island (spec/05_cox.md): fault lines and their conditions, latches and reactions, states, releases,
start-up tests, watchdogs and liveness. Its times are in ps of the supervision oscillator. -/

namespace Sys2Proof.Machine

/-! ## States and paths (R104, R106) -/

/-- A millisecond and a microsecond of supervision-oscillator time, in ps. -/
def psPerMs : Nat := 1000000000
def psPerUs : Nat := 1000000

/-- Sets the Cox state code: INIT 0, CHECK 1, SAFE 2, RUN 3, STOPPING 4, OFF 5. -/
def State.coxTo (s : State) (st : Nat) : State := s.setFld (Reg.COX + 0x00C) 4 4 st

/-- The Cox runs: it is not held in reset, the device is not in MOORED or BEACHED, and the Cox is not gated (R87, R104, R143). -/
def coxAlive (s : State) : Bool :=
  decide (s.power.phase ≠ .held) && decide (s.fld Reg.PWR_STATE 0 3 ≤ 3) && !s.sec.scrapped

/-- Path 2 is driven: SAFE_OFF_N and SAFE_PULSE. The 2 ms of R31 count from a change of them. -/
def drivePath2 (offN pulse : Bool) (s : State) : State :=
  { s with cox := { s.cox with safeOffN := offN, safePulse := pulse,
                               pathSince := if s.cox.safeOffN = offN ∧ s.cox.safePulse = pulse then s.cox.pathSince else s.cox.ps } }

/-- The ACT_SENn of these groups are driven high, the others low (R106). -/
def driveSen (l : List Nat) (s : State) : State := { s with cox := { s.cox with actSen := l } }

/-- Both paths drive their safe levels (R29). -/
def pathsOff (s : State) : State := driveSen [] (drivePath2 false false s)

/-! ## Conditions of the lines (R97, R98) -/

/-- The unit of a line is absent on the variant, so the line never asserts (R98). -/
def lineAbsent (v : Variant) (n : Nat) : Bool :=
  (enginesOf v == 1 && [2, 4, 25, 27, 29].contains n)
    || (decide (40 ≤ n ∧ n ≤ 55) && decide (axesOf v ≤ n - 40)) || (decide (56 ≤ n ∧ n ≤ 71) && decide (axesOf v ≤ n - 56))
    || (decide (72 ≤ n ∧ n ≤ 77) && decide (groupsOf v ≤ n - 72)) || (decide (78 ≤ n ∧ n ≤ 83) && decide (groupsOf v ≤ n - 78))

/-- Lines whose sources report events (R99): uncorrectable words, a march failure, calendar words, software faults. -/
def eventLine (n : Nat) : Bool := [36, 37, 89, 94, 95].contains n

/-- A direct slot's or SDM input's target word names axis `n` (R253). -/
def feedsAxis (n : Nat) (le slot : Nat) : Bool := decide (le = n / 8) && decide (slot = n % 8)

/-- Core `k` feeds axis `n` by an enabled direct slot (R256). -/
def coreFeeds (s : State) (k n : Nat) : Bool :=
  (List.range 4).any fun j =>
    let t := s.rd (Reg.ADC_TRIG k j)
    bit t 31 && bit t 30 && feedsAxis n (bits t 29 1) (bits t 26 3)

/-- Sigma-delta input `k` feeds axis `n` (R260). -/
def sdmFeeds (s : State) (k n : Nat) : Bool :=
  let t := s.rd (Reg.SDM_CFG k)
  bit t 31 && bit t 28 && feedsAxis n (bits t 27 1) (bits t 24 3)

/-- The condition of line 40+n (R256, R260, R270, R304, R332). -/
def axisFault (s : State) (n : Nat) : Bool :=
  axisOn s n &&
    ((faultEn s n && (s.flag (Reg.AX_LOOP_STAT n) 0 || s.flag (Reg.AX_LOOP_STAT n) 1 || (prof s n).badSeg))
      || (s.flag (Reg.ENC_CFG n) 31 && (enc s n).bad)
      || ((List.range 12).any fun k => s.flag Reg.ADCSEQ_CORE_FAIL k && coreFeeds s k n)
      || ((List.range 16).any fun k => (tabGet s.sdms k {}).stuck && sdmFeeds s k n))

/-- Some channel of group `g` reports open load, DIAG_BLIND or thermal off (R369, R370, R373). -/
def groupDiag (s : State) (g : Nat) : Bool :=
  (List.range 8).any fun c => let k := 8 * g + c
    chFlag s k 2 || chFlag s k 3 || decide (chState s k = 9)

/-- Age of a supervised BEAT source in ms (R452). -/
def beatAge (s : State) (k : Nat) : Nat := (s.now - (tabGet s.ksw.beat k 0 - 1)) / 200000

/-- An enabled BEAT source is overdue (R452). -/
def beatLate (s : State) : Bool :=
  (List.range 4).any fun k => s.flag (Reg.KSW_BEAT_SRC k) 31 && decide (s.fld Reg.KSW_BEAT_TIMEOUT 0 16 ≤ beatAge s k)

/-- A half of REF.C_DEV is beyond C_RANGE (R262). -/
def cRange (s : State) : Bool :=
  let lim := s.fld Reg.REF_TH_ABS 16 16
  decide (lim < (s.sfld Reg.REF_C_DEV 0 16).natAbs) || decide (lim < (s.sfld Reg.REF_C_DEV 16 16).natAbs)

/-- The clock monitors watch a root that runs: not before wake step 2, and not in HOLD (R80, R94). -/
def clocksRun (s : State) : Bool := s.flag Reg.PWR_WAKE_STAT 1 && decide (s.fld Reg.PWR_STATE 0 3 ≤ 2)

/-- SAFE_FB differs from the enable state that the Cox expects: SAFE_OFF_N high with SAFE_PULSE running, from 2 ms after the Cox changed path
2. The pulses of test 6 are compared by that test itself (R31, R107). -/
def safeFbWrong (s : State) : Bool :=
  decide (s.cox.pathSince + 2 * psPerMs ≤ s.cox.ps) && !(decide (coxState s = 1) && decide (s.cox.test = 6))
    && (safeFb s != (s.cox.safeOffN && s.cox.safePulse))

/-- Conditions of lines 0 to 39 that the state holds; none where only the sender of a check knows. -/
def lowLineCond (s : State) (n : Nat) : Option Bool :=
  match n with
  | 5 => some (safeFbWrong s) | 6 => some (decide (padMismatches s ≠ []))
  | 7 => some (s.power.above.contains .vin) | 8 => some (s.power.above.contains .vcore) | 9 => some (s.power.above.contains .vio)
  | 10 => some (s.power.above.contains .vhp) | 11 => some (s.power.above.contains .vana) | 12 => some (s.power.above.contains .vbat)
  | 13 => some (clocksRun s && !(s.flag Reg.CLK_PLL_STAT 0)) | 14 => some (clocksRun s && !(s.flag Reg.CLK_PLL_STAT 2))
  | 15 => some (decide (s.fld Reg.COX_CHECK_RES 0 6 ≠ 0))
  | 16 => some (clocksRun s && decide (s.fld Reg.PWR_STATE 0 3 < 2) && !(s.flag Reg.CLK_PLL_STAT 1))
  | 17 => some s.power.window
  | 18 => some (s.power.under.contains .vin) | 19 => some (s.power.under.contains .vcore)
  | 20 => some (s.power.under.contains .vio) | 21 => some (s.power.under.contains .vhp) | 22 => some (s.power.under.contains .vana)
  | 28 => some (tabGet s.loops 0 {}).overloaded | 29 => some (tabGet s.loops 1 {}).overloaded
  | 30 => some s.sense.warn | 31 => some (s.sense.drift || s.sense.blind)
  | 32 => some (decide (s.fld Reg.REF_TH_ABS 0 16 < (s.sfld Reg.REF_INST 0 16).natAbs)) | 33 => some (cRange s)
  | 34 => some s.sense.tWarn | 35 => some s.sense.tHigh
  | 38 => some (!(errInN s)) | 39 => some (routedOn s 15)
  | _ => none

/-- The condition of a line that the state holds; none where only the sender of a check knows (R97). -/
def lineCond (s : State) (n : Nat) : Option Bool :=
  if n < 40 then lowLineCond s n
  else if n ≤ 55 then some (axisFault s (n - 40))
  else if n ≤ 71 then some (pwm s (n - 56)).tripNow
  else if n ≤ 77 then none
  else if n ≤ 83 then some (groupDiag s (n - 78))
  else match n with
    | 84 => some (decide (bstState s 0 = 3) || decide (bstState s 1 = 3))
    | 85 => some (!(timeOk s)) | 86 => some (timeSingle s) | 87 => some (beatLate s) | 88 => some s.ksw.auth
    | 90 => some (s.queues.any fun q => q.2.lengthLost)
    | 91 => some (decide (s.rd Reg.AON_TAMPER_LATCH &&& wordOf (s.fld Reg.SEC_TAMPER_CFG 8 5) ≠ 0) || s.sec.wipeFailed)
    | 92 => some (decide (s.fld Reg.HPT_CFG 8 8 ≤ s.host.fails))
    | 93 => some (decide (s.rd Reg.OTP_LOAD_STAT &&& 0xC0000000 = 0x80000000))
    | _ => none

/-- A line as last reported to the Cox (ACTIVE0 to ACTIVE2). -/
def lineActive (s : State) (n : Nat) : Bool := s.flag (Reg.COX_ACTIVE (n / 32)) (n % 32)

/-- The line's source reports now (R102): its condition where the state holds it, else its last check. -/
def lineReports (s : State) (n : Nat) : Bool :=
  if lineAbsent s.variant n then false else (lineCond s n).getD (lineActive s n)

/-! ## Restrictions and FAULT_N (R101, R102) -/

/-- Restriction bits in force: the masks of the lines latched with class C1, and every one while a C2 or C3 line is latched. -/
def restrictions (s : State) : Nat :=
  (heldLines s).foldl (fun acc p => if p.2.cls = 1 then acc ||| p.2.mask else if 2 ≤ p.2.cls then 7 else acc) 0

/-- RESTRICT follows the latches; a RESTRICT_OPEN that comes into force acts on the channels (R101). -/
def coxRefresh (s : State) : State :=
  let old := restrictOpen s
  let s1 := s.wr Reg.COX_RESTRICT (wordOf (restrictions s * 4 + (if faultLow s then 0x100 else 0)))
  if restrictOpen s1 && !old then actRestrict s1 else s1

/-! ## Reactions (R101 to R104, R108) -/

/-- CHECK ends or never runs because of a latch (R108). -/
def checkAborted (s : State) : State :=
  let st := coxState s
  if st = 1 then
    let d := (s.cox.ps - s.cox.checkStart) / (100 * psPerUs)
    let r := s.rd Reg.COX_CHECK_RES
    s.wr Reg.COX_CHECK_RES (putBits (putBits (r &&& 0x3F) 29 3 5) 16 9 (min 0x1FF d))
  else if st = 0 then s.wr Reg.COX_CHECK_RES 0xA0000000
  else s

/-- C3: both paths act, the state becomes OFF (R101, R104, R106). -/
def toOff (s : State) : State :=
  if coxState s = 5 then s
  else
    let s1 := pathsOff (checkAborted s)
    let early := decide (bits (s1.rd (Reg.COX_LATCH 0)) 0 5 ≠ 0)
    let s2 := { s1 with cox := { s1.cox with test := 0, stopEnd := none, offSince := if early then some s1.cox.ps else none } }
    actForcing (s2.coxTo 5)

/-- An axis reports standstill: 8 velocity samples below STILL_W, or in CURRENT_ONLY a ramp of 1 ms (R304). -/
def axisStill (s : State) (n : Nat) : Bool :=
  let a := tabGet s.axes n {}
  if loopMode s n = 2 then match a.ramp with
    | some t => decide (t + 200000 ≤ s.now)
    | none => false
  else decide (8 ≤ a.still)

/-- Every enabled axis reports standstill during a controlled stop: C3 (R103). -/
def standstillCheck (s : State) : State :=
  if coxState s = 4 ∧ (List.range 16).all (fun n => !(axisLive s n) || axisStill s n) then coxRefresh (toOff s) else s

/-- One axis begins the controlled stop (R103, R304, R340). -/
def stopAxis (n : Nat) (s : State) : State :=
  if axisLive s n then
    let a := tabGet s.axes n {}
    let s1 := { s with axes := tabPut s.axes n { a with still := 0, ramp := some s.now } {} }
    profStop n (s.rd (Reg.AX_STOP_DECEL n)).toNat .stopped s1
  else s

/-- The controlled stop begins (R103): STOP_TIME is taken, every Profile Unit stops, CLOSE goes to every open channel. -/
def toStopping (s : State) : State :=
  let t := s.fld Reg.COX_STOP_TIME 0 11 * psPerMs
  let s1 := (s.coxTo 4).cause Reg.COX 4
  let s2 := { s1 with cox := { s1.cox with stopEnd := some (s1.cox.ps + t) } }
  standstillCheck (closeAll ((List.range 16).foldl (fun t n => stopAxis n t) s2))

/-- The reaction of a latch of class `cls` (R101, R103, R104). -/
def react (n cls : Nat) (s : State) : State :=
  let st := coxState s
  if n = 15 ∧ st = 1 then s
  else if cls = 0 then s.cause Reg.COX 0
  else if cls = 1 then s.cause Reg.COX 1
  else if cls = 2 ∧ st = 3 then toStopping s
  else if cls = 2 ∧ (st = 4 ∨ st = 5) then s
  else toOff s

/-- One entry of the log ring (R112). -/
def coxLog (n cls st : Nat) (s : State) : State :=
  let i := s.fld Reg.COX_LOG_IDX 0 6
  let c := min 64 (s.fld Reg.COX_LOG_IDX 8 7 + 1)
  ((s.wr (Reg.COX_LOG (2 * i)) (wordOf (0x1000 * st + 0x100 * cls + n))).wr (Reg.COX_LOG (2 * i + 1)) (wordOf s.now)).wr
    Reg.COX_LOG_IDX (wordOf (c * 0x100 + (i + 1) % 64))

/-- The record of the first latch (R112). -/
def coxFirst (n : Nat) (s : State) : State :=
  if s.flag Reg.COX_FIRST 31 then s
  else (s.wr Reg.COX_FIRST (wordOf (0x80000000 + n))).wr64 (Reg.COX_FIRST_TICK 0) s.now

/-- CLASS of a line's entry now (R99). -/
def lineClass (s : State) (n : Nat) : Nat := s.fld (Reg.COX_FMAP_ENTRY n) 0 2

/-- What a latch leaves in the registers: the latch bit with the entry's class and mask, the log entry and the first record (R102, R112). -/
def markLatch (n : Nat) (s : State) : State :=
  let cls := lineClass s n
  let s1 := coxFirst n (coxLog n cls (coxState s) (s.setFlag (Reg.COX_LATCH (n / 32)) (n % 32) true))
  { s1 with cox := { s1.cox with held := tabPut s1.cox.held n ⟨cls, s.fld (Reg.COX_FMAP_ENTRY n) 2 3⟩ ⟨0, 8⟩,
                                 stuck := tabPut s1.cox.stuck n true false } }

/-- A line latches (R99, R101, R102, R112). -/
def latchLine (n : Nat) (s : State) : State := coxRefresh (react n (lineClass s n) (markLatch n s))

/-- The count of one check of a line, and whether the line latches by it (R99): present checks count towards DEBOUNCE, an absent one restarts
the count, and a line does not latch again while its condition stays present. -/
def lineCount (n : Nat) (present : Bool) (s : State) : State × Bool :=
  if n < 96 ∧ coxAlive s ∧ lineAbsent s.variant n = false then
    let s1 := s.setFlag (Reg.COX_ACTIVE (n / 32)) (n % 32) present
    if present then
      let s2 := { s1 with cox := { s1.cox with lastEvent := tabPut s1.cox.lastEvent n s1.cox.ps 0 } }
      let c := tabGet s.cox.count n 0 + 1
      if tabGet s.cox.stuck n false then (s2, false)
      else if max 1 (s.fld (Reg.COX_FMAP_ENTRY n) 8 8) ≤ c then
        ({ s2 with cox := { s2.cox with count := tabPut s2.cox.count n 0 0 } }, true)
      else ({ s2 with cox := { s2.cox with count := tabPut s2.cox.count n c 0 } }, false)
    else ({ s1 with cox := { s1.cox with count := tabPut s1.cox.count n 0 0, stuck := tabPut s1.cox.stuck n false false } }, false)
  else (s, false)

/-- One check of a line (R99). -/
def lineCheck (n : Nat) (present : Bool) (s : State) : State :=
  let r := lineCount n present s
  if r.2 then latchLine n r.1 else r.1

/-- Present checks of two lines `a` < `b` in one cycle: both latches are logged in ascending order with the state before them, and only the
highest class acts (R112). -/
def lineCheckPair (a b : Nat) (s : State) : State :=
  let ra := lineCount a true s
  let rb := lineCount b true ra.1
  if ra.2 && rb.2 then
    let n := if lineClass rb.1 a < lineClass rb.1 b then b else a
    coxRefresh (react n (lineClass rb.1 n) (markLatch b (markLatch a rb.1)))
  else if ra.2 then latchLine a rb.1
  else if rb.2 then latchLine b rb.1
  else rb.1

/-- FAULT_LINE_CHECK: the condition is the state's own where it holds it, else what the check found (R99). A check of line 6 is a readback of
every output pad (R32, R513). -/
def faultLineCheck (n : Nat) (present : Bool) (s : State) : State :=
  lineCheck n ((lineCond s n).getD present) (if n = 6 then padReadback s else s)

/-- A millisecond without an event of an event-type source counts one absent check (R99). -/
def eventLineIdle (n : Nat) (s : State) : State :=
  if eventLine n && decide (tabGet s.cox.lastEvent n 0 + psPerMs ≤ s.cox.ps) then
    { (lineCheck n false s) with cox := { (lineCheck n false s).cox with lastEvent := tabPut s.cox.lastEvent n s.cox.ps 0 } }
  else s

/-- STOP_TIME expires: C3 (R103). -/
def coxStopTimeout (s : State) : State :=
  match s.cox.stopEnd with
  | some t => if coxState s = 4 ∧ t ≤ s.cox.ps then coxRefresh (toOff s) else s
  | none => s

/-! ## Clears, map entries, software faults (R100, R102, R112, R113) -/

/-- A latch bit is cleared where the source no longer reports; lines 0 to 4 are never cleared (R102, R105). -/
def clearLatch (n : Nat) (s : State) : State :=
  if n < 96 ∧ 5 ≤ n ∧ lineLatched s n ∧ lineReports s n = false then
    let s1 := s.setFlag (Reg.COX_LATCH (n / 32)) (n % 32) false
    { s1 with cox := { s1.cox with held := s1.cox.held.filter fun p => p.1 != n } }
  else s

/-- A W1C write to LATCHk (R102). -/
def latchWrite (d : RegDef) (k a : Nat) (m : Master) (v : Word) (s : State) : State :=
  regWrite d a m v (fun v s => coxRefresh ((setBitsOf v 32).foldl (fun t b => clearLatch (32 * k + b) t) s)) s

/-- A W1C write to FIRST re-arms the record (R112). -/
def firstWrite (m : Master) (v : Word) (s : State) : State :=
  regWrite (defOf .cox 0x070) Reg.COX_FIRST m v (fun v s => s.wr Reg.COX_FIRST (s.rd Reg.COX_FIRST &&& ~~~(v &&& 0x80000000))) s

/-- A write to a COX_FMAP entry (R99, R100): a fixed line refuses it, and DEBOUNCE 0 is stored as 1. -/
def fmapWrite (m : Master) (n : Nat) (v : Word) (s : State) : State :=
  let a := Reg.COX_FMAP_ENTRY n
  if s.flag a 31 then
    let s1 := s.consumeKey 0x11 m
    if cfgLocked s 0x11 then s1.accessError a 0x02 m else s1.blockError a 0x01 m
  else
    let d := defOf .cox_fmap 0x040
    regWrite d a m (if bits v 8 8 = 0 then putBits v 8 8 1 else v) (plainStore d a) s

/-- A 1 written to SW_FAULT asserts line 94 or 95 for one check (R113). -/
def swFaultWrite (m : Master) (v : Word) (s : State) : State :=
  let s1 := s.consumeKey 0x10 m
  match bit v 0, bit v 1 with
  | true, true => lineCheckPair 94 95 s1
  | true, false => lineCheck 94 true s1
  | false, true => lineCheck 95 true s1
  | false, false => s1

/-! ## Releases and configuration (R105, R106) -/

/-- A refused release (R105). -/
def relRefused (c : Nat) (s : State) : State := (s.wr Reg.COX_REL_STAT (wordOf c)).cause Reg.COX 3

/-- LINE_ACTIVE (R105): a line is latched with class C2 or C3, or a line whose class now is C2 or C3 is reported. -/
def lineBlocks (s : State) : Bool :=
  (heldLines s).any (fun p => decide (2 ≤ p.2.cls))
    || (List.range 96).any fun n => decide (2 ≤ s.fld (Reg.COX_FMAP_ENTRY n) 0 2) && lineReports s n

/-- The first refusal cause of a release write, 0 for none (R105). -/
def releaseCause (s : State) (v : Word) : Nat :=
  let run := decide (v = 0x0000AC01)
  if v ≠ 0x0000AC01 ∧ v ≠ 0x0000AC02 then 7
  else if (run && decide (coxState s ≠ 2)) || (!run && decide (coxState s ≠ 5)) then 1
  else if bits (s.rd (Reg.COX_LATCH 0)) 0 5 ≠ 0 then 6
  else if !(s.flag Reg.COX_CHECK_RES 30) then 5
  else if lineBlocks s then 2
  else if run && (!(safeLocked s 0x10) || !(safeLocked s 0x11)) then 3
  else if run && (!s.cox.wd.active || !(s.flag Reg.COX_WD_STAT 30)) then 4
  else 0

/-- CHECK starts with test 1 (R104, R107). -/
def startCheck (fromOff : Bool) (s : State) : State :=
  let s1 := (s.coxTo 1).wr Reg.COX_CHECK_RES 0
  coxRefresh { s1 with cox := { s1.cox with test := 1, fromOff := fromOff, checkStart := s1.cox.ps, offSince := none } }

/-- Groups that ACT_SENn serves: the present ones of SEN_EN (R106). -/
def senGroups (s : State) : List Nat := (setBitsOf (s.rd Reg.COX_CFG) 6).filter fun g => decide (g < groupsOf s.variant)

/-- The accepted release into RUN (R106). -/
def enterRun (s : State) : State :=
  let s1 := s.coxTo 3
  coxRefresh (actForcing (driveSen (senGroups s1) (drivePath2 true true s1)))

/-- An opened write to RELEASE (R105). The register keeps the written code (R9). -/
def releaseWrite (m : Master) (v : Word) (s : State) : State :=
  regWrite (defOf .cox 0x04C) Reg.COX_RELEASE m v
    (fun v s =>
      let s0 := s.wr Reg.COX_RELEASE v
      match releaseCause s v with
      | 0 => let s1 := s0.wr Reg.COX_REL_STAT 0x80000000
             if v = 0x0000AC01 then enterRun s1 else startCheck true s1
      | c => relRefused c s0) s

/-- A write to COX.CFG; in RUN a cleared SEN_EN bit drives its ACT_SENn low (R106), under CFG_LOCK too, for no lock blocks the de-energising of
an output (R26). -/
def coxCfgWrite (m : Master) (v : Word) (s : State) : State :=
  let d := defOf .cox 0x040
  regWrite d Reg.COX_CFG m v
    (fun v s =>
      let s1 := s.wr Reg.COX_CFG (storeValue d (s.rd Reg.COX_CFG) v)
      if coxState s1 = 3 then driveSen (senGroups s1) s1 else s1) s

/-- 10 ms after entering OFF with a line of 0 to 4 latched, AUTO_RESET orders a reset (R106). -/
def coxAutoReset (s : State) : State :=
  match s.cox.offSince with
  | some t => if coxState s = 5 ∧ t + 10 * psPerMs ≤ s.cox.ps ∧ s.flag Reg.COX_CFG 8 then deviceReset 0x00000008 s else s
  | none => s

/-! ## Start-up tests (R104, R107, R108) -/

/-- LOGIC_RDY moves the Cox from INIT to CHECK (R104); a Cox that SCRAPPED gates does not run (R143). -/
def checkStart (s : State) : State :=
  if coxAlive s ∧ coxState s = 0 ∧ s.power.phase = .steady ∧ busUp s then startCheck false s else s

/-- The last test has finished (R104, R108). DURATION counts whole 100 µs and stays at its largest value (log entry 119). -/
def checkEnd (s : State) : State :=
  let r := s.rd Reg.COX_CHECK_RES
  let d := min 0x1FF ((s.cox.ps - s.cox.checkStart) / (100 * psPerUs))
  let pass := decide (bits r 0 6 = 0)
  let s1 := s.wr Reg.COX_CHECK_RES (putBits (putBits (r &&& 0x3F) 30 2 (if pass then 3 else 2)) 16 9 d)
  let s2 := { s1 with cox := { s1.cox with test := 0 } }
  let s3 := pathsOff (s2.coxTo 2)
  match (heldLines s3).find? fun p => p.1 == 15 with
  | some p => coxRefresh (react 15 p.2.cls s3)
  | none => coxRefresh s3

/-- What test 6 drives `e` ps after its start: SAFE_OFF_N, SAFE_PULSE and the ACT_SENn (R107). -/
def pulseStep (v : Variant) (e : Nat) : Bool × Bool × List Nat :=
  let us := e / psPerUs
  if us < 600 then (true, false, []) else if us < 1200 then (false, true, []) else if us < 3600 then (true, true, [])
  else if us < 4800 then (false, false, [])
  else
    let g := (us - 4800) / 200
    (false, false, if g < groupsOf v ∧ (us - 4800) % 200 < 100 then [g] else [])

/-- The readback of test 6 at that time finds an error: SAFE_FB outside its limits, or an output pad that is not as driven (R107). -/
def pulseWrong (s : State) (e : Nat) : Bool :=
  let us := e / psPerUs
  let fb := safeFb s
  (if us < 1200 then fb else if 3200 ≤ us ∧ us < 3600 then !fb else if 4600 ≤ us ∧ us < 4800 then fb else false)
    || decide (padMismatches s ≠ [])

/-- Test 6 at work: its outputs follow its steps, and a wrong readback is kept for its end (R107). -/
def coxPulses (s : State) : State :=
  if coxState s = 1 ∧ s.cox.test = 6 then
    let e := s.cox.ps - s.cox.pulseStart
    let o := pulseStep s.variant e
    let s1 := driveSen o.2.2 (drivePath2 o.1 o.2.1 s)
    if pulseWrong s1 e then { s1 with cox := { s1.cox with pulseBad := true } } else s1
  else s

/-- Group `g` is named in the OTP field COX_SEN_TEST: bit g of the word (R107, R155; log entry 120). -/
def senTested (s : State) (g : Nat) : Bool := decide (g < groupsOf s.variant) && bit (otpWord s 0x124) g

/-- A start-up test finishes: a failure sets its bit and latches line 15, whose class acts after the last test (R107, R108). Test 6 also fails
by its own readbacks, and where the drain readback of a group of COX_SEN_TEST has not followed its switch. -/
def checkTestDone (e : TestEnd) (s : State) : State :=
  let t := s.cox.test
  let pass := e.pass && !(decide (t = 6) && (s.cox.pulseBad || (List.range 6).any fun g => senTested s g && !(e.drains.contains g)))
  if coxAlive s ∧ coxState s = 1 ∧ 1 ≤ t ∧ t ≤ 6 then
    let s1 := if pass then s else
      let f := s.setFlag Reg.COX_CHECK_RES (t - 1) true
      if lineLatched f 15 then f else latchLine 15 f
    let n := if t = 4 ∧ s.cox.fromOff then 6 else t + 1
    if 6 < n then checkEnd s1
    else { s1 with cox := { s1.cox with test := n, pulseStart := if n = 6 then s1.cox.ps else s1.cox.pulseStart,
                                        pulseBad := if n = 6 then false else s1.cox.pulseBad } }
  else s

/-! ## Watchdogs and liveness (R109 to R111) -/

/-- The correct answer to a question (R109). -/
def wdAnswer (q seed : Nat) : Nat := rotl16 (q ^^^ seed) 3 ^^^ 0x5A3C

/-- The question after `q` (R109). -/
def wdNext (q : Nat) : Nat := (q * 2 % 0x10000) ^^^ (if 0x8000 ≤ q then 0x1021 else 0)

/-- A new window starts with the bounds that WD_WIN holds (R109). -/
def wdWindow (s : State) : State :=
  { s with cox := { s.cox with wd := { s.cox.wd with start := s.cox.ps, wopen := s.fld Reg.COX_WD_WIN 0 16,
                                                     wclose := s.fld Reg.COX_WD_WIN 16 16 } } }

/-- A question is published with the seed in force (R109). -/
def wdPublish (q : Nat) (s : State) : State :=
  let s1 := s.setFld Reg.COX_WDQ 0 16 q
  { s1 with cox := { s1.cox with wd := { s1.cox.wd with seedAt := s1.fld Reg.COX_WD_SEED 0 16 } } }

/-- A write to WD_WIN: the first makes the watchdog active and publishes the first question (R109). -/
def wdWinWrite (m : Master) (v : Word) (s : State) : State :=
  let d := defOf .cox 0x088
  regWrite d Reg.COX_WD_WIN m v
    (fun v s =>
      let s1 := s.wr Reg.COX_WD_WIN v
      if s1.cox.wd.active then s1
      else
        let q := s1.fld Reg.COX_WD_SEED 0 16 ^^^ 0xA633
        let s2 := wdWindow (wdPublish (if q = 0 then 1 else q) (s1.setFlag Reg.COX_WD_STAT 31 true))
        { s2 with cox := { s2.cox with wd := { s2.cox.wd with active := true } } }) s

/-- A watchdog error (R109): one check of line 23, the question kept, the window restarted. -/
def wdError (s : State) : State :=
  let s1 := ((s.satInc Reg.COX_WD_STAT 0).setFlag Reg.COX_WD_STAT 30 false).cause Reg.COX 2
  lineCheck 23 true (wdWindow s1)

/-- An answer written to WDA (R109). -/
def wdaWrite (m : Master) (v : Word) (s : State) : State :=
  let s1 := s.consumeKey 0x10 m
  let w := s1.cox.wd
  if w.active then
    let t := s1.cox.ps - w.start
    let q := s1.fld Reg.COX_WDQ 0 16
    if w.wopen * psPerUs ≤ t ∧ t < w.wclose * psPerUs ∧ bits v 0 16 = wdAnswer q w.seedAt then
      lineCheck 23 false (wdWindow (wdPublish (wdNext q) (s1.setFlag Reg.COX_WD_STAT 30 true)))
    else wdError s1
  else s1

/-- No answer by WIN_CLOSE (R109). -/
def wdWindowExpire (s : State) : State :=
  let w := s.cox.wd
  if w.active && decide (w.start + w.wclose * psPerUs ≤ s.cox.ps) && coxAlive s then wdError s else s

/-- The watchdog of an SPE. -/
def speWd (s : State) (n : Nat) : CoxSpeWd := if n = 0 then s.cox.spe0 else s.cox.spe1

/-- Sets the watchdog of an SPE. -/
def State.setSpeWd (s : State) (n : Nat) (w : CoxSpeWd) : State :=
  { s with cox := if n = 0 then { s.cox with spe0 := w } else { s.cox with spe1 := w } }

/-- SPE `n` is IDLE (R59). -/
def speIdle (s : State) (n : Nat) : Bool := s.flag (Reg.SPE n + 0x00C) 2

/-- A service write to SPEWDn (R110). The rule leaves open which code comes first, which one follows a write out of turn, whether the instant
of CLOSE is inside, where the window starts after a missing write, and what a correct write is for line 24+n: log entry 98. -/
def spewdWrite (m : Master) (n : Nat) (v : Word) (s : State) : State :=
  let s1 := s.consumeKey 0x10 m
  if n < enginesOf s.variant ∧ speIdle s n = false then
    let w := speWd s1 n
    let code := decide (v = 0x000000A5 ∨ v = 0x0000005A)
    let turn := if w.nextA5 then decide (v = 0x000000A5) else decide (v = 0x0000005A)
    let t := s1.cox.ps - w.last
    let inWin := !w.active || (decide (s.fld Reg.COX_SPE_WD_WIN 0 16 * psPerUs ≤ t) && decide (t ≤ s.fld Reg.COX_SPE_WD_WIN 16 16 * psPerUs))
    let s2 := s1.setSpeWd n { active := true, last := s1.cox.ps, nextA5 := if code then decide (v = 0x0000005A) else w.nextA5 }
    lineCheck (24 + n) (!(turn && inWin)) s2
  else s1

/-- A missing service write; the window starts again (R110; log entry 98). -/
def speWdExpire (n : Nat) (s : State) : State :=
  let w := speWd s n
  if n < enginesOf s.variant ∧ w.active ∧ speIdle s n = false ∧ w.last + s.fld Reg.COX_SPE_WD_WIN 16 16 * psPerUs < s.cox.ps then
    lineCheck (24 + n) true (s.setSpeWd n { w with last := s.cox.ps })
  else s

/-- The liveness reading of one Loop Engine (R111). -/
def leLiveness (n : Nat) (s : State) : State :=
  if n < enginesOf s.variant ∧ s.flag (Reg.LE n + 0x008) 0 then
    let c := (s.rd (Reg.LE_SAMPLE_CNT n)).toNat
    let old := if n = 0 then s.cox.live0 else s.cox.live1
    let d := (c + 4294967296 - old) % 4294967296
    let s1 := { s with cox := if n = 0 then { s.cox with live0 := c } else { s.cox with live1 := c } }
    lineCheck (26 + n) (decide (d < s.fld Reg.COX_LE_LIVE_MIN (16 * n) 16)) s1
  else s

/-! ## Register writes of the COX page -/

/-- A write to a register of the COX page from offset 0x040 upward. -/
def coxWrite (d : RegDef) (k a : Nat) (m : Master) (v : Word) (s : State) : State :=
  match d.off with
  | 0x040 => coxCfgWrite m v s
  | 0x044 => checkedWrite d a 0x01 m v (fun w => decide (10 ≤ w.toNat) && decide (w.toNat ≤ 2000)) s
  | 0x04C => releaseWrite m v s
  | 0x064 => latchWrite d k a m v s
  | 0x070 => firstWrite m v s
  | 0x088 => wdWinWrite m v s
  | 0x090 => wdaWrite m v s
  | 0x09C => spewdWrite m k v s
  | 0x0A8 => swFaultWrite m v s
  | _ => genericWrite .cox d a m v s

/-- A write to a register of the COX_FMAP page. -/
def coxFmapWrite (_ : RegDef) (k _ : Nat) (m : Master) (v : Word) (s : State) : State := fmapWrite m k v s

/-- ACTIVE0 to ACTIVE2 read the lines reported now (R97, R99). -/
def coxRead (d : RegDef) (k _ : Nat) (_ : Master) (s : State) : Option (Word × State) :=
  if d.off = 0x058 then
    some (wordOf ((List.range 32).foldl (fun acc b => if lineReports s (32 * k + b) then acc + 2 ^ b else acc) 0), s)
  else if d.off = 0x054 then some (putBit (s.rd Reg.COX_RESTRICT) 8 (faultLow s), s)
  else none

/-! ## Group short check (R371) -/

/-- 10 µs have passed since the last short check of the group (R371). -/
def shortCheckDue (s : State) (g : Nat) : Bool :=
  match (groupSense s g).checked with
  | some t => decide (t + 2000 ≤ s.now)
  | none => true

/-- Every 10 µs while ACT_SENg is high, at a sample instant, the residual is one check of line 72+g (R351, R371). SHORT shows the last check
(DEDUCED), and GRP_RESID the residual within its 16 bits. -/
def groupShortCheck (g : Nat) (current : Int) (s : State) : State :=
  if g < groupsOf s.variant ∧ s.cox.actSen.contains g ∧ s.now % 200 = 0 ∧ shortCheckDue s g = true then
    let p := groupSample g current s
    let s0 := p.setGroup g { groupSense p g with checked := some s.now }
    let r := groupResidual s0 g
    let bad := decide ((s.fld (Reg.ACTG_GRP_CFG g) 16 16 : Nat) < r)
    let s1 := s0.setFld (Reg.ACTG_GRP_RESID g) 0 16 (lowBits 16 (clampI (-32768) 32767 r))
    let s2 := (s1.setFlag (Reg.ACTG_GRP_STAT g) 16 bad).causeIf (bad && !(s1.flag (Reg.ACTG_GRP_STAT g) 16)) (Reg.ACTG g) 8
    lineCheck (72 + g) bad s2
  else s

/-! ## The commands of the Cox -/

/-- FAULT_LINE_CHECK (R99). -/
def execFaultLineCheck (line : Nat) (present : Bool) (s : State) : Answer := .next (faultLineCheck line present s)
/-- EVENT_LINE_IDLE_CHECK (R99). -/
def execEventLineIdleCheck (line : Nat) (s : State) : Answer := .next (eventLineIdle line s)
/-- COX_STOP_TIMEOUT (R103). -/
def execCoxStopTimeout (s : State) : Answer := .next (coxStopTimeout s)
/-- LATCH_CLEAR (R102). -/
def execLatchClear (m : Master) (k : Nat) (v : Word) (s : State) : Answer :=
  .next (if k < 3 then regRow m (Reg.COX_LATCH k) (latchWrite (defOf .cox 0x064) k (Reg.COX_LATCH k) m v) s else s)
/-- FMAP_ENTRY_WRITE (R100). -/
def execFmapEntryWrite (m : Master) (line : Nat) (v : Word) (s : State) : Answer :=
  .next (if line < 96 then regRow m (Reg.COX_FMAP_ENTRY line) (fmapWrite m line v) s else s)
/-- RELEASE_RUN (R105). -/
def execReleaseRun (m : Master) (s : State) : Answer := .next (regRow m Reg.COX_RELEASE (releaseWrite m 0x0000AC01) s)
/-- RELEASE_CHECK (R105). -/
def execReleaseCheck (m : Master) (s : State) : Answer := .next (regRow m Reg.COX_RELEASE (releaseWrite m 0x0000AC02) s)
/-- SEN_EN_WRITE (R106). -/
def execSenEnWrite (m : Master) (v : Word) (s : State) : Answer := .next (regRow m Reg.COX_CFG (coxCfgWrite m v) s)
/-- COX_AUTO_RESET (R106). -/
def execCoxAutoReset (s : State) : Answer := .next (coxAutoReset s)
/-- CHECK_START (R104). -/
def execCheckStart (s : State) : Answer := .next (checkStart s)
/-- WD_WIN_WRITE (R109). -/
def execWdWinWrite (m : Master) (v : Word) (s : State) : Answer := .next (regRow m Reg.COX_WD_WIN (wdWinWrite m v) s)
/-- WDA_WRITE (R109). -/
def execWdaWrite (m : Master) (v : Word) (s : State) : Answer := .next (regRow m Reg.COX_WDA (wdaWrite m v) s)
/-- WD_WINDOW_EXPIRE (R109). -/
def execWdWindowExpire (s : State) : Answer := .next (wdWindowExpire s)
/-- SPEWD_WRITE (R110). -/
def execSpewdWrite (m : Master) (n : Nat) (v : Word) (s : State) : Answer :=
  .next (if n < 2 then regRow m (Reg.COX_SPEWD n) (spewdWrite m n v) s else s)
/-- SPE_WD_EXPIRE (R110). -/
def execSpeWdExpire (n : Nat) (s : State) : Answer := .next (speWdExpire n s)
/-- LE_LIVENESS_CHECK (R111). -/
def execLeLivenessCheck (n : Nat) (s : State) : Answer := .next (leLiveness n s)
/-- FIRST_CLEAR (R112). -/
def execFirstClear (m : Master) (v : Word) (s : State) : Answer := .next (regRow m Reg.COX_FIRST (firstWrite m v) s)
/-- SW_STOP (R113). -/
def execSwStop (m : Master) (s : State) : Answer := .next (regRow m Reg.COX_SW_FAULT (swFaultWrite m 1) s)
/-- SW_OFF (R113). -/
def execSwOff (m : Master) (s : State) : Answer := .next (regRow m Reg.COX_SW_FAULT (swFaultWrite m 2) s)
/-- GROUP_SHORT_CHECK (R371). -/
def execGroupShortCheck (g : Nat) (current : Int) (s : State) : Answer := .next (groupShortCheck g current s)

end Sys2Proof.Machine
end

