-- ==== Sys2Proof/Machine/MemBase.lean ====
section
/-! DEFINITION. What backs an address, the classes of memory, the error log and what a read finds in a word (spec/06_memory.md R114, R123 to
R131): shared by the queues' fills, the bus and the Skimmer. -/

namespace Sys2Proof.Machine

/-! ## What backs an address (R40, R41, R114, R207) -/

/-- A memory word's bank and properties: MEM ID of R114, a 24-bit word, narrow accesses allowed, the fixed class SAFETY. -/
structure MemInfo where
  id : Nat
  w24 : Bool := false
  narrow : Bool := false
  safety : Bool := false
  deriving DecidableEq, Repr

/-- The memory of an SPE at a window offset (R207). -/
def speInfo (n off : Nat) : Option MemInfo :=
  if off < 0x10000 then some { id := 0x10 + 4 * n }
  else if off < 0x20000 ∨ (0x50000 ≤ off ∧ off < 0x60000) then some { id := 0x11 + 4 * n, w24 := true }
  else if off < 0x30000 ∨ (0x60000 ≤ off ∧ off < 0x70000) then some { id := 0x12 + 4 * n, w24 := true }
  else none

/-- What backs an address on a variant; the calendar at its reporting address of R129 included. -/
def memInfo (v : Variant) (a : Nat) : Option MemInfo :=
  if a < sramKiB v * 1024 then some { id := a / 0x10000, narrow := true }
  else if 0x10000000 ≤ a ∧ a < 0x10000000 + vatKiB v * 1024 then
    some { id := 8 + (a % 0x10000000) / (vatKiB v * 128), narrow := true }
  else if 0x20000000 ≤ a ∧ a < 0x20000000 + 0x100000 * enginesOf v then
    speInfo (a / 0x100000 % 0x10) (a % 0x100000)
  else if 0x30000000 ≤ a ∧ a < 0x30004000 then some { id := 0x1D, safety := true }
  else if 0x50000000 ≤ a ∧ a < 0x50000000 + 0x100000 * enginesOf v ∧ a % 0x100000 < 0x10000 then
    some { id := 0x18 + 2 * (a / 0x100000 % 0x10) + (a % 0x100000) / 0x8000, safety := true }
  else if 0xFC000000 ≤ a ∧ a < 0xFC008000 then some { id := 0x1C, safety := true }
  else none

/-- An address of system SRAM. -/
def isSram (v : Variant) (a : Nat) : Bool := decide (a < sramKiB v * 1024)

/-- The address an atomic alias names, and whether the alias is SWAP (R120). -/
def aliasOf (v : Variant) (a : Nat) : Option (Nat × Bool) :=
  if 0x08000000 ≤ a ∧ a < 0x08000000 + sramKiB v * 1024 then some (a % 0x08000000, false)
  else if 0x09000000 ≤ a ∧ a < 0x09000000 + sramKiB v * 1024 then some (a % 0x01000000, true)
  else none

/-! ## Classes (R125, R126) -/

/-- The class of an address by RMAP: the lowest valid region that covers its page, else DATA. -/
def regionClass (s : State) (a : Nat) : Nat :=
  match (List.range 32).find? fun n =>
      s.flag (Reg.MEM_RMAP_BASE n) 0 && decide (s.fld (Reg.MEM_RMAP_BASE n) 12 20 ≤ a / 0x1000)
        && decide (a / 0x1000 ≤ s.fld (Reg.MEM_RMAP_LIMIT n) 12 20) with
  | some n => s.fld (Reg.MEM_RMAP_LIMIT n) 0 2
  | none => 0

/-- The class of an address; QUEUE acts as DATA where no queue owns the word. -/
def memClass (s : State) (a : Nat) : Nat :=
  match memInfo s.variant a with
  | some i => if i.safety then 1 else if regionClass s a = 2 then 0 else regionClass s a
  | none => 0

/-! ## Detections (R123 to R129) -/

/-- One entry of the MEM error log (R129). -/
def memLog (kind cls master a syn : Nat) (s : State) : State :=
  let i := s.fld Reg.MEM_LOG_IDX 0 4
  let c := min 16 (s.fld Reg.MEM_LOG_IDX 8 5 + 1)
  let id := match memInfo s.variant a with | some x => x.id | none => 0
  let w24 := match memInfo s.variant a with | some x => x.w24 | none => false
  let p := Reg.MEM_LOG (4 * i)
  let s1 := ((s.wr p (wordOf a)).wr (p + 4) (wordOf (0x10000000 * kind + 0x1000000 * cls + 0x100000 * master))).wr (p + 8) (wordOf s.now)
  (s1.wr (p + 12) (wordOf (0x1000000 * (syn % (if w24 then 0x40 else 0x80)) + id))).wr Reg.MEM_LOG_IDX (wordOf (0x100 * c + (i + 1) % 16))

/-- The detection of a word in this SYS cycle, if there was one (R129). -/
def detectedNow (s : State) (a : Nat) : Option Detection :=
  (s.memctl.detected.find? fun p => decide (p.1 = a) && decide (p.2.tick = s.now)).map Prod.snd

/-- Records the detection of a word in this SYS cycle (R129). -/
def State.noteDetected (s : State) (a slot : Nat) (skim : Bool) : State :=
  let l := s.memctl.detected.filter fun p => decide (p.1 ≠ a) && decide (p.2.tick = s.now)
  { s with memctl := { s.memctl with detected := tabInsert (a, ⟨s.now, slot, skim⟩) l } }

/-- A reader takes over the entry that the Skimmer has just written for the word in the same cycle: its kind and master stand there (R129). -/
def readerJoins (kind master a : Nat) (d : Detection) (s : State) : State :=
  let p := Reg.MEM_LOG (4 * d.slot) + 4
  let k := if bits (s.rd p) 28 4 = 1 then 2 else kind
  (s.wr p (putBits (putBits (s.rd p) 20 4 master) 28 4 k)).noteDetected a d.slot false

/-- A detection: one entry and one reaction `f`, and none of them again where a reader and the Skimmer meet the word in the same cycle (R129). -/
def detectOnce (kind cls master a syn : Nat) (f : State → State) (s : State) : State :=
  let fresh := (f (memLog kind cls master a syn s)).noteDetected a (s.fld Reg.MEM_LOG_IDX 0 4) (decide (master = 5))
  match detectedNow s a with
  | none => fresh
  | some d => if master = 5 then s else if d.skim then readerJoins kind master a d s else fresh

/-- The poison syndrome of a word (R124, R540). -/
def poisonSyn (v : Variant) (a : Nat) : Nat :=
  match memInfo v a with | some i => if i.w24 then 0x3F else 0x7F | none => 0x7F

/-- A corrected single-bit error (R123). -/
def ceFound (a : Nat) (syn : Nat) (s : State) : State :=
  let s1 := (((s.satInc Reg.MEM_CE_CNT 0).wr Reg.MEM_CE_LAST (wordOf a)).cause Reg.MEM 0).setEcc a (some (.single syn))
  { s1 with memctl := { s1.memctl with writeBack := a :: s1.memctl.writeBack.filter (· != a) } }

/-- The word is in the block that the Skimmer has in hand: it is served from the save buffer, in which single-bit errors are corrected
(R131). -/
def inSaveBuffer (s : State) (a : Nat) : Bool :=
  match s.skim.inHand with
  | some b => decide (b ≤ a) && decide (a < b + 64)
  | none => false

/-- What a read finds: what the cells have suffered since, on top of the code state that the state records (R114, R123). A second error in
another bit makes a single-bit error uncorrectable; the save buffer holds words without single-bit errors. -/
def foundCode (s : State) (a : Nat) (up : Upset) : Option EccState :=
  match s.eccAt a, up with
  | some (.single x), u =>
    if inSaveBuffer s a then none
    else match u with
      | .none => some (.single x)
      | .single y => if x = y then some (.single x) else some (.uncorrectable (x ^^^ y))
      | .multi y => some (.uncorrectable y)
  | some e, _ => some e
  | none, u =>
    if inSaveBuffer s a then none
    else match u with | .none => none | .single x => some (.single x) | .multi x => some (.uncorrectable x)

end Sys2Proof.Machine
end

