-- ==== Sys2Proof/Machine/Churn.lean ====
section
/-! DEFINITION. Churn queues (spec/08_churn.md): pushes, pops, bursts, packets, flush, bindings and levels. A command acts in one
cycle; what the spec decides per cycle (R169) is the order of the commands. -/

namespace Sys2Proof.Machine

/-! ## Registers of a queue (R158, R160) -/

/-- A queue beyond its registers. -/
def queue (s : State) (q : Nat) : Queue := tabGet s.queues q {}

/-- Sets a queue. -/
def State.setQueue (s : State) (q : Nat) (x : Queue) : State := { s with queues := tabPut s.queues q x {} }

/-- Sets and counts on the queue block (R45). -/
def qFld (s : State) (q off lo len : Nat) : Nat := s.fld (qAddr q off) lo len

/-- The queue is present (R10). -/
def queuePresent (s : State) (q : Nat) : Bool := decide (q < queuesOf s.variant) && !s.sec.scrapped

/-- The queue is enabled: its EN and the fabric's (R176). -/
def qEnabled (s : State) (q : Nat) : Bool := s.flag (qAddr q 0x10) 0 && s.flag (Reg.CHN + 0x008) 0

/-- SIZE of the region in KiB, and its base (R162). -/
def qSize (s : State) (q : Nat) : Nat := qFld s q 0x14 16 11
def qBase (s : State) (q : Nat) : Nat := qFld s q 0x14 0 11

/-- Capacity in words (R158). -/
def qCapacity (s : State) (q : Nat) : Nat := 16 + 256 * qSize s q

/-- Every word present, in pop order (R160). -/
def Queue.words (x : Queue) : List QWord := x.head ++ x.middle ++ x.tail

/-- DEPTH (R160). -/
def Queue.depth (x : Queue) : Nat := x.head.length + x.middle.length + x.tail.length

/-- AVAIL (R160). -/
def qAvail (s : State) (q : Nat) : Nat :=
  let x := queue s q
  if !(qEnabled s q) || x.flushing || x.lengthLost then 0
  else ((x.words.takeWhile fun w => !w.reserved).filter fun w => !w.abandoned).length

/-- STAT of a queue (R170 to R177). -/
def qStat (s : State) (q : Nat) : Word :=
  let x := queue s q
  let en := qEnabled s q
  let st := if x.flushing then 3 else if x.lengthLost then 4 else if en then 1 else 0
  let b (c : Bool) (k : Nat) : Nat := if c then 2 ^ k else 0
  wordOf (b x.lastRefused 13 + b (x.spillWait && decide (8 ≤ x.tail.length)) 12 + b x.lengthLost 11 + b x.pktOpen 10
    + b (decide (x.depth = qCapacity s q)) 9 + b (decide (x.depth = 0)) 8 + st * 16 + b x.lengthLost 3 + b (!en) 2 + b en 0)

/-- The level causes of a change of DEPTH: each on its crossing, while its EN is 1 (R179). -/
def qLevels (q old : Nat) (s : State) : State :=
  let new := (queue s q).depth
  let hi := s.rd (qAddr q 0x20)
  let lo := s.rd (qAddr q 0x24)
  let s1 := if bit hi 31 && decide (old < bits hi 0 20 ∧ bits hi 0 20 ≤ new) then s.queueCause q 0 else s
  if bit lo 31 && decide (bits lo 0 20 < old ∧ new ≤ bits lo 0 20) then s1.queueCause q 1 else s1

/-- Replaces a queue's contents and evaluates the levels. -/
def State.putQueue (s : State) (q : Nat) (x : Queue) : State := qLevels q (queue s q).depth (s.setQueue q x)

/-! ## Movements (R159, R173) -/

/-- Words that an abandon has marked are discarded as they enter the head, and counted (R173). -/
def qDiscard (q : Nat) (ws : List QWord) (s : State) : State :=
  s.wrapAdd (qAddr q 0x40) ((ws.filter (·.abandoned)).length)

/-- The words of a list that stay. -/
def kept (ws : List QWord) : List QWord := ws.filter fun w => !w.abandoned

/-- A word passes from the tail straight to the head while the middle is empty and the head has room (R159). -/
def headTransfer (q : Nat) (s : State) : State :=
  let x := queue s q
  match x.tail with
  | w :: r =>
    if x.middle = [] ∧ x.head.length < 8 then
      (qDiscard q [w] s).putQueue q { x with head := x.head ++ kept [w], tail := r }
    else s
  | [] => s

/-- A word whose cells have failed: its parity will fail, and the data that it then holds is open (R175). -/
def QWord.failed (s : State) (w : QWord) : QWord := { w with data := wordOf (Config.freeNat s.freeCtr), badParity := true }

/-- A register of the queue suffers a cell fault (R175). -/
def cellFault (q : Nat) (f : CellFault) (s : State) : State :=
  let x := queue s q
  match f, x.tail with
  | .tail, w :: r => (s.setQueue q { x with tail := w.failed s :: r }).drawn
  | .head k, _ => (s.setQueue q { x with head := x.head.zipIdx.map fun p => if p.2 = k then p.1.failed s else p.1 }).drawn
  | _, _ => s

/-- Byte address of the middle word at ring position `k` (R158, R161). -/
def vatWordAddr (s : State) (q k : Nat) : Nat := 0x10000000 + qBase s q * 1024 + 4 * (k % max 1 (256 * qSize s q))

/-- Words of the middle that are still free. -/
def middleRoom (s : State) (q : Nat) : Nat := 256 * qSize s q - (queue s q).middle.length

/-- A spill burst may start: 4 words in the tail, the middle non-empty or the head full, and room in the middle (R159). -/
def spillDue (s : State) (q : Nat) : Bool :=
  let x := queue s q
  decide (4 ≤ x.tail.length) && (decide (x.middle ≠ []) || decide (8 ≤ x.head.length)) && decide (0 < middleRoom s q)

/-- Moves the `n` oldest words of the tail to the end of the middle, into the queue's Vat region (R159, R161). -/
def spillWords (q n : Nat) (s : State) : State :=
  let x := queue s q
  let ws := x.tail.take n
  let s1 := ((List.range n).zip ws).foldl
    (fun t p => t.putWord (vatWordAddr s q (x.midStart + x.middle.length + p.1)) p.2.data) s
  s1.setQueue q { x with middle := x.middle ++ ws, tail := x.tail.drop n, spillWait := false }

/-- A spill burst moves up to 4 words from the tail to the middle, as many as it has room for (R159). -/
def spillBurst (q : Nat) (s : State) : State := if spillDue s q then spillWords q (min 4 (middleRoom s q)) s else s

/-- The Churn reads a word of the middle at its Vat address (R123, R125, R175): a single-bit error is corrected and counted; an uncorrectable
word writes its log entry, and moves with its best data, which the spec leaves open, and the parity inverted. An entry that the Skimmer has
written for it in the same cycle becomes the Churn's (R129). -/
def fillWord (a : Nat) (up : Upset) (w : QWord) (s : State) : QWord × State :=
  match foundCode s a up with
  | none => match detectedNow s a with
    | some d => if d.skim && w.badParity then (w, readerJoins 2 6 a d s) else (w, s)
    | none => (w, s)
  | some (.single x) => (w, ceFound a x s)
  | some e =>
    let syn := match e with | .uncorrectable x => x | _ => poisonSyn s.variant a
    ({ w with data := wordOf (Config.freeNat s.freeCtr), badParity := true }, (detectOnce 2 2 6 a syn (·.setEcc a none) s).drawn)

/-- The words that a fill moves, with their addresses from ring position `k` on. -/
def fillWords (q : Nat) (ups : List (Nat × Upset)) : List QWord → Nat → State → List QWord × State
  | [], _, s => ([], s)
  | w :: r, k, s =>
    let a := vatWordAddr s q k
    let (w1, s1) := fillWord a (tabGet ups a .none) w s
    let (rest, s2) := fillWords q ups r (k + 1) s1
    (w1 :: rest, s2)

/-- Moves the `n` oldest words of the middle to the head; words that an abandon has marked are discarded (R159, R173). -/
def fillMove (q n : Nat) (ups : List (Nat × Upset)) (s : State) : State :=
  let x := queue s q
  let r := fillWords q ups (x.middle.take n) x.midStart s
  (qDiscard q r.1 r.2).putQueue q { x with head := x.head ++ kept r.1, middle := x.middle.drop n,
                                           midStart := (x.midStart + min n x.middle.length) % max 1 (256 * qSize s q) }

/-- A fill burst moves up to 4 words from the middle to the head while the head has 4 free slots (R159). `upsets` names what the cells of the
words that it reads have suffered, by byte address. -/
def fillBurst (q : Nat) (upsets : List (Nat × Upset)) (s : State) : State :=
  let x := queue s q
  if x.head.length ≤ 4 ∧ x.middle ≠ [] then fillMove q 4 upsets s else s

/-- One movement towards an empty head: a fill if the middle holds words, else a transfer. -/
def qAdvance (q : Nat) (s : State) : State := if (queue s q).middle ≠ [] then fillBurst q [] s else headTransfer q s

/-- Up to `n` movements, until the head holds a word: the wait of a pop at an empty head (R168). -/
def qReady (q : Nat) : Nat → State → State
  | 0, s => s
  | n + 1, s => if (queue s q).head = [] ∧ (queue s q).depth ≠ 0 then qReady q n (qAdvance q s) else s

/-! ## Pushes (R169 to R171) -/

/-- The queue takes pushes: enabled, neither flushing nor halted (R170). -/
def qTakes (s : State) (q : Nat) : Bool := qEnabled s q && !(queue s q).flushing && !(queue s q).lengthLost

/-- Room in a full tail (R159, R169): a word that could pass straight to the head has done so. With the middle full and a free slot in the
head no spill waits, and the queue is not full: one word moves from the middle to the head and one from the tail to the middle (log entry
105). A frozen queue moves nothing (R176). -/
def qPrepare (q : Nat) (s : State) : State :=
  let x := queue s q
  if qTakes s q && decide (8 ≤ x.tail.length) then
    if x.middle ≠ [] ∧ middleRoom s q = 0 ∧ x.head.length < 8 then spillWords q 1 (fillMove q 1 [] s) else headTransfer q s
  else s

/-- A push is refused (R170). -/
def qRefuses (s : State) (q : Nat) : Bool :=
  let x := queue s q
  decide (qCapacity s q ≤ x.depth) || !(qTakes s q) || decide (8 ≤ x.tail.length)

/-- The record of a refused push (R170). -/
def qRefuse (q : Nat) (s : State) : State :=
  let x := queue s q
  let wait := decide (x.depth < qCapacity s q) && qTakes s q && decide (8 ≤ x.tail.length) && spillDue s q
  let s1 := (((s.setQueue q { x with lastRefused := true, spillWait := x.spillWait || wait }).satInc (qAddr q 0x44) 0).queueCause q 8)
  if wait then s1.queueCause q 12 else s1

/-- Stores a word at the tail. -/
def qStore (q : Nat) (w : QWord) (s : State) : State :=
  let x := queue s q
  (s.wrapInc (qAddr q 0x38)).putQueue q { x with tail := x.tail ++ [w], lastRefused := false }

/-- A push of a payload word; answers whether it was stored (R170, R171). In an open packet it counts towards the length; in packet mode with no
packet open it is stored as a plain word (log entry 124). -/
def qPush (q : Nat) (v : Word) (s : State) : State × Bool :=
  let s1 := qPrepare q s
  if qRefuses s1 q then (qRefuse q s1, false)
  else
    let x := queue s1 q
    let s2 := if x.pktOpen then s1.setQueue q { x with pktLen := x.pktLen + 1 } else s1
    (qStore q { data := v } s2, true)

/-- The reserved slot of an open packet replaced by its length word, with fresh parity; that of an abandoned packet has tag ABANDON (R171,
R173). -/
def fillSlot (v : Word) (dropped : Bool) (ws : List QWord) : List QWord :=
  ws.map fun w => if w.reserved then { w with data := v, badParity := false, length := true, reserved := false, dropLength := dropped } else w

/-- The Vat word of a reserved slot in the middle takes the length word too (R161, R171). -/
def slotStore (q : Nat) (v : Word) (s : State) : State :=
  let x := queue s q
  x.middle.zipIdx.foldl (fun t p => if p.1.reserved then t.putWord (vatWordAddr s q (x.midStart + p.2)) v else t) s

/-- Payload words after the reserved slot marked by an abandon (R173). -/
def markAfter : Bool → List QWord → List QWord
  | _, [] => []
  | seen, w :: r => (if seen then { w with abandoned := true } else w) :: markAfter (seen || w.reserved) r

/-- An open packet is abandoned (R173): marked words already in the head are discarded at once, the others as they enter it. -/
def qAbandon (q : Nat) (refusing : Bool) (s : State) : State :=
  let x := queue s q
  if x.pktOpen then
    let ws := markAfter false x.words
    let h := ws.take x.head.length
    let mid := (ws.drop x.head.length).take x.middle.length
    let t := ws.drop (x.head.length + x.middle.length)
    let s1 := (qDiscard q h (slotStore q 0xFFFF0000 s)).putQueue q
      { x with head := kept (fillSlot 0xFFFF0000 true h), middle := fillSlot 0xFFFF0000 true mid,
               tail := fillSlot 0xFFFF0000 true t, pktOpen := false, pktLen := 0, refusing := refusing }
    s1.queueCause q 13
  else s

/-- CMD.PKT_OPEN (R171); answers 0 or the number of a BLOCK error. -/
def qOpen (q : Nat) (s : State) : State × Nat :=
  let x := queue s q
  if !(s.flag (qAddr q 0x10) 1) then (s, 0x08)
  else if x.pktOpen then (s, 0x07)
  else
    let s1 := qPrepare q s
    if qRefuses s1 q then (qRefuse q s1, 0)
    else
      let y := queue s1 q
      (qStore q { data := 0, reserved := true } (s1.setQueue q { y with pktOpen := true, pktLen := 0, refusing := false }), 0)

/-- CMD.PKT_CLOSE (R171). -/
def qClose (q : Nat) (s : State) : State × Nat :=
  let x := queue s q
  if !(s.flag (qAddr q 0x10) 1) || !x.pktOpen then (s, 0x08)
  else
    let n := x.pktLen
    let v := wordOf ((0xFFFF - n % 0x10000) * 0x10000 + n % 0x10000)
    ((slotStore q v s).setQueue q { x with head := fillSlot v false x.head, middle := fillSlot v false x.middle,
                                           tail := fillSlot v false x.tail, pktOpen := false, pktLen := 0 }, 0)

/-- A packet command of a hardware producer: its error is that of block hardware (R58, R171, R177). -/
def hwPacket (q : Nat) (r : State × Nat) : State := if r.2 = 0 then r.1 else r.1.queueErrorBy q 3 r.2 0x1C 0xF

/-- CMD.PKT_ABORT (R173). -/
def qAbort (q : Nat) (s : State) : State × Nat :=
  if !(s.flag (qAddr q 0x10) 1) || !(queue s q).pktOpen then (s, 0x08) else (qAbandon q false s, 0)

/-- A hardware producer's push: under STALL a refused word is held (answer none), under DROP it is discarded and abandons its packet
(R170, R173); the pushes that follow in that packet are refused too. Answers whether the word is done with. -/
def qHwPush (q : Nat) (v : Word) (s : State) : State × Bool :=
  let drop := s.flag (qAddr q 0x10) 2
  if (queue s q).refusing && drop then (qRefuse q s, true)
  else
    let (s1, ok) := qPush q v s
    if ok then (s1, true)
    else if drop then (qAbandon q true s1, true)
    else (s1, false)

/-! ## Pops (R163, R164, R168, R169, R174, R175) -/

/-- What a pop delivers: the word, its tag (R163) and whether it is a packet length word. -/
structure Popped where
  word : Word
  tag : Nat
  isLength : Bool
  deriving DecidableEq, Repr

/-- The IDLE item with a tag (R164). -/
def idleItem (s : State) (q tag : Nat) : Popped := ⟨s.rd (qAddr q 0x18), tag, false⟩

/-- A length word whose complement is inconsistent (R174). -/
def badLength (w : QWord) : Bool := w.length && decide (bits w.data 0 16 + bits w.data 16 16 ≠ 0xFFFF)

/-- The tag of a stored word (R163, R173 to R175). -/
def wordTag (w : QWord) : Nat := if w.badParity then 4 else if w.dropLength then 3 else 0

/-- A pop (R169): the IDLE item where nothing is deliverable, else the next word, checked. -/
def qPop (q : Nat) (s : State) : Popped × State :=
  let x0 := queue s q
  if x0.lengthLost then (idleItem s q 5, s)
  else if !(qEnabled s q) || x0.flushing then (idleItem s q 1, s)
  else
    let s1 := qReady q (x0.depth + 1) s
    let x := queue s1 q
    match x.head with
    | [] => (idleItem s1 q 1, s1.satInc (qAddr q 0x48) 0)
    | w :: r =>
      if w.reserved then (idleItem s1 q 2, s1)
      else if badLength w then
        (idleItem s1 q 5, (s1.setQueue q { x with lengthLost := true }).queueCause q 10)
      else
        let s2 := (s1.wrapInc (qAddr q 0x3C)).putQueue q { x with head := r }
        let s3 := if w.badParity then (s2.satInc (qAddr q 0x4C) 0).queueCause q 9 else s2
        (⟨w.data, wordTag w, w.length⟩, s3)

/-- The word that the next pop would deliver (R166). -/
def qPeek (s : State) (q : Nat) : Word := (qPop q s).1.word

/-- Pops of a hardware consumer, which skips the length words of abandoned packets (R173): `n` bounds the words skipped. -/
def qHwPop (q : Nat) : Nat → State → Popped × State
  | 0, s => qPop q s
  | n + 1, s =>
    let (p, s1) := qPop q s
    if p.tag = 3 then qHwPop q n s1 else (p, s1)

/-- Sets LAST_TAG for a register consumer (R163). -/
def lastTag (q : Nat) (p : Popped) (s : State) : State :=
  s.wr (qAddr q 0x0C) (wordOf (p.tag + (if p.isLength then 8 else 0)))

/-- A read of POP by a master (R166). -/
def regPop (m : Master) (q : Nat) (s : State) : Word × State :=
  if s.fld (qAddr q 0x10) 16 8 ≠ 0 then (0, s.queueError q 3 0x06 0x04 m)
  else
    let (p, s1) := qPop q s
    (p.word, lastTag q p s1)

/-- A write to PUSH by a master (R166, R170, R171). -/
def regPush (m : Master) (q : Nat) (v : Word) (s : State) : State :=
  if s.fld (qAddr q 0x10) 8 8 ≠ 0 then s.queueError q 3 0x05 0x00 m
  else if (queue s q).pktOpen ∧ 65535 ≤ (queue s q).pktLen then s.queueError q 3 0x09 0x00 m
  else (qPush q v s).1

/-! ## Flush (R177) -/

/-- CMD.FLUSH: an open packet ends with it, so a close that follows finds none (R177). -/
def qFlush (q : Nat) (s : State) : State := s.setQueue q { queue s q with flushing := true, pktOpen := false, pktLen := 0 }

/-- The flush ends: every word is discarded and counted, LENGTH_LOST clears (R177). -/
def qFlushDone (q : Nat) (s : State) : State :=
  let x := queue s q
  if x.flushing then
    (s.wrapAdd (qAddr q 0x40) x.depth).putQueue q { lastRefused := x.lastRefused }
  else s

/-- The error of a packet command, if it has one. -/
def pktResult (q num : Nat) (m : Master) (s : State) : State := if num = 0 then s else s.queueError q 3 num 0x1C m

/-- A write to CMD (R171, R173, R177). -/
def cmdWrite (m : Master) (q : Nat) (v : Word) (s : State) : State :=
  let run (b : Nat) (f : State → State × Nat) (t : State) : State :=
    if bit v b then pktResult q (f t).2 m (f t).1 else t
  let s1 := run 3 (qAbort q) (run 2 (qClose q) (run 1 (qOpen q) s))
  if bit v 0 then qFlush q s1 else s1

/-! ## Regions and configuration (R161, R162, R165, R176) -/

/-- Two regions overlap. -/
def overlap (b1 s1 b2 s2 : Nat) : Bool := decide (b1 < b2 + s2) && decide (b2 < b1 + s1)

/-- KiB that no queue owns (R162). -/
def vatFree (s : State) : Nat :=
  vatKiB s.variant - ((List.range (queuesOf s.variant)).foldl (fun acc q => acc + qSize s q) 0)

/-- The queue that owns a Vat address (R161). -/
def ownerOf (s : State) (a : Nat) : Option Nat :=
  if 0x10000000 ≤ a ∧ a < 0x10200000 then
    (List.range (queuesOf s.variant)).find? fun q =>
      decide (qBase s q * 1024 ≤ a % 0x10000000) && decide (a % 0x10000000 < (qBase s q + qSize s q) * 1024)
  else none

/-- The registers of a queue block that CHN.LOCK locks, as table rows (R180). -/
def queueDef (off : Nat) : RegDef :=
  match off with
  | 0x10 => ⟨0x10, 0, 1, .rw, 0x00FFFF07, 0, false, [], 0x1⟩
  | 0x14 => ⟨0x14, 0, 1, .rw, 0x07FF07FF, 0, false, [], 0⟩
  | 0x18 => ⟨0x18, 0, 1, .rw, 0xFFFFFFFF, 0, false, [], 0⟩
  | _ => ⟨off, 0, 1, .rw, 0x800FFFFF, 0, false, [], 0⟩

/-- A write to a configuration register of a queue: CHN's lock applies, and its PAGE_CRC covers the register (R55, R180). -/
def queueRegWrite (q off : Nat) (m : Master) (v : Word) (eff : Word → State → State) (s : State) : State :=
  let d := queueDef off
  let a := qAddr q off
  let old := s.rd a
  let new := storeValue d old v
  let s1 :=
    if cfgLocked s 0x40 then
      let keep := old &&& ~~~(clearedEnables d old v)
      let t := if keep = old then s else s.wr a keep
      if keep = old ∨ keep ≠ new then t.queueError q 1 0x02 off m else t
    else eff new s
  if s1.rd a ≠ old then s1.crcTouch 0x40 else s1

/-- A write to REGION (R162). -/
def regionWrite (m : Master) (q : Nat) (v : Word) (s : State) : State :=
  queueRegWrite q 0x14 m v
    (fun new s =>
      let b := bits new 0 11
      let sz := bits new 16 11
      if qEnabled s q ∨ (queue s q).depth ≠ 0 then s.queueError q 3 0x03 0x14 m
      else if sz ≠ 0 ∧ (List.range (queuesOf s.variant)).any
          (fun p => p != q && decide (qSize s p ≠ 0) && overlap b sz (qBase s p) (qSize s p)) then
        s.queueError q 3 0x01 0x14 m
      else if sz ≠ 0 ∧ vatKiB s.variant < b + sz then s.queueError q 3 0x02 0x14 m
      else (s.wr (qAddr q 0x14) new).setQueue q { queue s q with midStart := 0 }) s

/-- A producer code names a present unit, and how many queues may name it; none where it does not (R165). -/
def prodLimit (v : Variant) (c : Nat) : Option Nat :=
  if c = 0 then some 256
  else if 0x10 ≤ c ∧ c ≤ 0x1F then some 1
  else if c = 0x20 then (if probesOf v = 0 then none else some 8)
  else if 0x30 ≤ c ∧ c < 0x30 + cansOf v then some 4
  else if c = 0x40 then some 1 else none

/-- A consumer code names a present unit, and its limit (R165). -/
def consLimit (v : Variant) (c : Nat) : Option Nat :=
  if c = 0 then some 256 else if 0x80 ≤ c ∧ c < 0x80 + axesOf v then some 1 else if c = 0x90 then some 4 else none

/-- Queues other than `q` bound to a producer or consumer code. -/
def boundOthers (s : State) (q lo c : Nat) : Nat :=
  ((List.range (queuesOf s.variant)).filter fun p => p != q && decide (s.fld (qAddr p 0x10) lo 8 = c)).length

/-- A new binding is legal (R165). -/
def bindingOk (s : State) (q : Nat) (new : Word) : Bool :=
  let p := bits new 8 8
  let c := bits new 16 8
  (match prodLimit s.variant p with | some n => decide (p = 0 ∨ boundOthers s q 8 p < n) | none => false)
    && (match consLimit s.variant c with | some n => decide (c = 0 ∨ boundOthers s q 16 c < n) | none => false)

/-- The stored configuration of a queue; a Profile Unit's binding loads IDLE_ITEM (R164). -/
def qConfigure (q : Nat) (new : Word) (s : State) : State :=
  let s1 := s.wr (qAddr q 0x10) new
  if 0x80 ≤ bits new 16 8 ∧ bits new 16 8 ≤ 0x8F then s1.wr (qAddr q 0x18) 0xF0000000 else s1

/-- A write to a queue's CFG: a change of a binding or of the mode at a wrong time is refused as a whole (R165, R176). -/
def queueCfgWrite (m : Master) (q : Nat) (v : Word) (s : State) : State :=
  queueRegWrite q 0x10 m v
    (fun new s =>
      let old := s.rd (qAddr q 0x10)
      let en := qEnabled s q
      if bits old 8 16 ≠ bits new 8 16 ∧ (en ∨ bindingOk s q new = false) then s.queueError q 3 0x04 0x10 m
      else if bit old 1 ≠ bit new 1 ∧ (en ∨ (queue s q).depth ≠ 0) then s.queueError q 3 0x0A 0x10 m
      else qConfigure q new s) s

/-- A write to IDLE_ITEM (R164). -/
def idleItemWrite (m : Master) (q : Nat) (v : Word) (s : State) : State :=
  let c := s.fld (qAddr q 0x10) 16 8
  if 0x80 ≤ c ∧ c ≤ 0x8F then s.queueError q 3 0x04 0x18 m
  else queueRegWrite q 0x18 m v (fun new s => s.wr (qAddr q 0x18) new) s

/-- The queue bound to a hardware producer or consumer code; none where none is. -/
def boundProd (s : State) (c : Nat) : Option Nat :=
  (List.range (queuesOf s.variant)).find? fun q => decide (s.fld (qAddr q 0x10) 8 8 = c)
def boundCons (s : State) (c : Nat) : Option Nat :=
  (List.range (queuesOf s.variant)).find? fun q => decide (s.fld (qAddr q 0x10) 16 8 = c)

/-- Every queue bound to a producer or consumer code, in queue order. -/
def allProd (s : State) (c : Nat) : List Nat :=
  (List.range (queuesOf s.variant)).filter fun q => decide (s.fld (qAddr q 0x10) 8 8 = c)
def allCons (s : State) (c : Nat) : List Nat :=
  (List.range (queuesOf s.variant)).filter fun q => decide (s.fld (qAddr q 0x10) 16 8 = c)

/-- The queue has room for `n` more words and takes pushes (R344, R404, R421, R468). -/
def qRoom (s : State) (q n : Nat) : Bool :=
  let x := queue s q
  qEnabled s q && !x.flushing && !x.lengthLost && decide (x.depth + n ≤ qCapacity s q)

/-- A hardware producer's push meets a full tail: the spill that is due has its bank in time or, a free choice, it waits, and the push is refused
(R117, R159, R170; log entry 114). The flag says that it was refused. -/
def qMakeRoom (q : Nat) (s : State) : State × Bool :=
  let s1 := qPrepare q s
  if qTakes s1 q && decide (8 ≤ (queue s1 q).tail.length) && spillDue s1 q then
    if Config.freeNat s1.freeCtr % 2 = 1 then (qRefuse q s1.drawn, true) else (spillBurst q s1.drawn, false)
  else (s1, false)

/-- A hardware producer offers a word, or the opening of a packet, that `store` puts into the queue (R170, R173): refused, it is discarded and
ends its packet under DROP, and is held and accepted after the spill under STALL. The flag says that it was discarded. -/
def hwOffer (q : Nat) (store : State → State) (s : State) : State × Bool :=
  let (s1, late) := qMakeRoom q s
  if !late then (store s1, false)
  else if s.flag (qAddr q 0x10) 2 then (qAbandon q true s1, true)
  else (store (spillBurst q s1), false)

/-- A hardware producer pushes a record of words into a queue that has room for all of them (R344, R404, R421). Under DROP the words that follow
a refused one in its packet are refused too (R173). -/
def qPushAll (q : Nat) (ws : List Word) (s : State) : State :=
  ws.foldl (fun t w => if (queue t q).refusing && t.flag (qAddr q 0x10) 2 then qRefuse q t else (hwOffer q (fun u => (qPush q w u).1) t).1) s

/-- The same record as one packet where the queue is in packet mode, as plain words otherwise. A packet that DROP has ended is not closed. -/
def qPushRecord (q : Nat) (ws : List Word) (s : State) : State :=
  if s.flag (qAddr q 0x10) 1 then
    let (s1, lost) := hwOffer q (fun t => hwPacket q (qOpen q t)) s
    if lost then ws.foldl (fun t _ => qRefuse q t) s1
    else
      let s2 := qPushAll q ws s1
      if (queue s2 q).pktOpen then hwPacket q (qClose q s2) else s2
  else qPushAll q ws s

/-- A hardware producer stops: its open packets are abandoned (R173). -/
def abandonProd (c : Nat) (s : State) : State := (allProd s c).foldl (fun t q => qAbandon q false t) s

/-! ## Register accesses of the queue pages -/

/-- A write to offset `off` of queue block `q`. -/
def queueWrite (q off : Nat) (m : Master) (v : Word) (s : State) : State :=
  let a := qAddr q off
  match off with
  | 0x00 => regPush m q v s
  | 0x10 => queueCfgWrite m q v s
  | 0x14 => regionWrite m q v s
  | 0x18 => idleItemWrite m q v s
  | 0x1C => cmdWrite m q v s
  | 0x20 | 0x24 => queueRegWrite q off m v (fun new s => s.wr a new) s
  | 0x30 => (s.wr a (v &&& 0x3F03)).srcRefresh
  | 0x34 => (s.wr a (s.rd a &&& ~~~v)).srcRefresh
  | 0x38 | 0x3C | 0x40 => if v = 0 then s.wr a 0 else s
  | 0x44 | 0x48 | 0x4C => if bits v 0 16 = 0 then s.wr a 0 else s
  | _ => s

/-- A read of offset `off` of queue block `q`. -/
def queueRead (q off : Nat) (m : Master) (s : State) : Word × State :=
  match off with
  | 0x04 => regPop m q s
  | 0x08 => (qPeek s q, s)
  | 0x28 => (wordOf (queue s q).depth, s)
  | 0x2C => (qStat s q, s)
  | 0x50 => (wordOf (qAvail s q), s)
  | 0x00 | 0x1C => (0, s)
  | _ => (if 0x54 ≤ off then 0 else s.rd (qAddr q off), s)

/-- A word of LVL_PEND or ERR_PEND (R179). -/
def pendWord (s : State) (k : Nat) (mask : Word) : Word :=
  wordOf ((List.range 32).foldl (fun acc b => if queueDrives s mask (32 * k + b) then acc + 2 ^ b else acc) 0)

/-- A read of a CHN register whose value is not stored. -/
def chnRead (d : RegDef) (k _ : Nat) (_ : Master) (s : State) : Option (Word × State) :=
  match d.off with
  | 0x040 => some (pendWord s k 0x00000003, s)
  | 0x060 => some (pendWord s k 0x00003F00, s)
  | 0x084 => some (wordOf (vatFree s), s)
  | _ => none

/-- A queue command of a master: it reaches the queue page where the bus is up and the queue is present (R44, R45). -/
def queueRow (m : Master) (q off : Nat) (write : Bool) (f : State → State) (s : State) : State :=
  if q < 256 then mastered m (qAddr q off) write (fun s => if queuePresent s q then f s else absentAccess m (qAddr q off) write s) s
  else s

/-- The fabric moves words: the queue is present and enabled (R159, R176). -/
def fabricRow (q : Nat) (f : State → State) (s : State) : State :=
  if busUp s ∧ queuePresent s q ∧ qEnabled s q ∧ (queue s q).flushing = false ∧ frozen s 0x40 = false then f s else s

/-! ## The commands of the queues -/

/-- QUEUE_PUSH (R170). -/
def execQueuePush (m : Master) (q : Nat) (v : Word) (s : State) : Answer := .next (queueRow m q 0x00 true (regPush m q v) s)
/-- QUEUE_POP (R169). -/
def execQueuePop (m : Master) (q : Nat) (s : State) : Answer :=
  .next (queueRow m q 0x04 false (fun s => let (w, s1) := regPop m q s; s1.answer w false) s)
/-- HEAD_TRANSFER (R159). -/
def execHeadTransfer (x : HeadMove) (s : State) : Answer :=
  .next (fabricRow x.q (fun s => headTransfer x.q (cellFault x.q x.fault s)) s)
/-- SPILL_BURST (R159). -/
def execSpillBurst (q : Nat) (s : State) : Answer := .next (fabricRow q (spillBurst q) s)
/-- FILL_BURST (R159). -/
def execFillBurst (q : Nat) (upsets : List (Nat × Upset)) (s : State) : Answer := .next (fabricRow q (fillBurst q upsets) s)
/-- FLUSH (R177). -/
def execFlush (m : Master) (q : Nat) (s : State) : Answer := .next (queueRow m q 0x1C true (cmdWrite m q 1) s)
/-- FLUSH_DONE (R177). -/
def execFlushDone (q : Nat) (s : State) : Answer := .next (live 0x40 (fun s => if busUp s ∧ queuePresent s q then qFlushDone q s else s) s)
/-- PKT_OPEN (R171). -/
def execPktOpen (m : Master) (q : Nat) (s : State) : Answer := .next (queueRow m q 0x1C true (cmdWrite m q 2) s)
/-- PKT_CLOSE (R171). -/
def execPktClose (m : Master) (q : Nat) (s : State) : Answer := .next (queueRow m q 0x1C true (cmdWrite m q 4) s)
/-- PKT_ABORT (R173). -/
def execPktAbort (m : Master) (q : Nat) (s : State) : Answer := .next (queueRow m q 0x1C true (cmdWrite m q 8) s)
/-- REGION_WRITE (R162). -/
def execRegionWrite (m : Master) (q : Nat) (v : Word) (s : State) : Answer := .next (queueRow m q 0x14 true (regionWrite m q v) s)
/-- QUEUE_CFG_WRITE (R165). -/
def execQueueCfgWrite (m : Master) (q : Nat) (v : Word) (s : State) : Answer :=
  .next (queueRow m q 0x10 true (queueCfgWrite m q v) s)

end Sys2Proof.Machine
end

