-- ==== Sys2Proof/Machine/Mem.lean ====
section
/-! DEFINITION. Memories (spec/06_memory.md): what backs an address, reads and writes with the code, classes and their reactions, the
error log, atomic aliases, injected errors and the region map. -/

namespace Sys2Proof.Machine

/-! ## Detections (R123 to R129) -/

/-- The reaction of a class to an uncorrectable or poisoned word (R125). -/
def classReaction (cls a : Nat) (s : State) : State :=
  match cls with
  | 0 => s.cause Reg.MEM 1
  | 1 => lineCheck (if 0xFC000000 ≤ a then 89 else 36) true s
  | _ => s

/-- A calendar word that cannot be resolved removes its entry without firing (R408). -/
def calDrop (a : Nat) (s : State) : State :=
  if 0xFC000000 ≤ a then
    let s1 := (s.satInc Reg.SCH_CAL_ERR 0).cause Reg.SCH 6
    { s1 with sch := { s1.sch with cal := s1.sch.cal.filter fun e => e.slot != (a % 0x04000000) / 32 } }
  else s

/-- A detection by a reader or the Skimmer: log entry, reaction, and the word poisoned (R124, R125, R129). -/
def memDetect (kind master a syn : Nat) (s : State) : State :=
  let cls := memClass s a
  detectOnce kind cls master a syn (fun t => (calDrop a (classReaction cls a t)).setEcc a (some .poison)) s

/-- The stored value as a bus word: 24-bit words read sign-extended (R208). -/
def State.busWord (s : State) (a : Nat) : Word :=
  match memInfo s.variant a with
  | some i => if i.w24 then wordOfInt (signed 24 (s.rawWord a).toNat) else s.rawWord a
  | none => s.rawWord a

/-- Test 5 of CHECK destroys the word at an instant the spec leaves open (R134). -/
def underTest (s : State) (a : Nat) : Bool :=
  decide (coxState s = 1) && decide (s.cox.test = 5) && (match memInfo s.variant a with | some i => decide (i.id < 0x1C) | none => false)

/-- A read of an aligned word by the reader with this code of R129: the corrected data, or none with the class reaction. -/
def readWord (master a : Nat) (up : Upset) (s : State) : Option Word × State :=
  match foundCode s a up with
  | none =>
    if underTest s a then
      (some (if Config.freeNat s.freeCtr % 2 = 0 then s.busWord a else 0), s.drawn)
    else (some (s.busWord a), s)
  | some (.single x) => (some (s.busWord a), ceFound a x s)
  | some (.uncorrectable x) => (none, memDetect 2 master a x s)
  | some .poison => (none, memDetect 3 master a (poisonSyn s.variant a) s)

/-- A private-port read of a Loop Engine or the scheduler (R115, R308): the word, and whether the value is usable. -/
def portRead (master a : Nat) (s : State) : Option Word × State := readWord master a .none s

/-! ## Stores (R116, R124, R540) -/

/-- Number of 1 bits of a 7-bit mask. -/
def weight7 (m : Nat) : Nat := ((List.range 7).filter fun k => m / 2 ^ k % 2 = 1).length

/-- An armed injection acts on a full-word write to system SRAM (R540). A mask of weight 3 has no defined result: the data and the
code state are free values. -/
def injectAt (a : Nat) (s : State) : State :=
  let mask := s.fld Reg.MEM_INJECT 0 7
  let s1 := s.setFlag Reg.MEM_INJECT 31 false
  match weight7 mask with
  | 0 => s1
  | 1 => s1.setEcc a (some (.single mask))
  | 3 =>
    let f := Config.freeNat s1.freeCtr
    let e : Option EccState := if f % 3 = 0 then none else if f % 3 = 1 then some (.single mask) else some (.uncorrectable mask)
    ((s1.putRaw a (wordOf (f / 3))).setEcc a e).drawn
  | 7 => s1.setEcc a (some .poison)
  | _ => s1.setEcc a (some (.uncorrectable mask))

/-- A write of a word to SPE program memory clears its trust (R153, R210). -/
def clearTrust (a : Nat) (s : State) : State :=
  if 0x20000000 ≤ a ∧ a < 0x20200000 ∧ a % 0x100000 < 0x10000 then
    { s with sec := { s.sec with trusted := s.sec.trusted.filter (· != a / 0x100000 % 0x10) } }
  else s

/-- Drops a pending write-back of a corrected word that a write overtakes (R123). -/
def dropWriteBack (a : Nat) (s : State) : State :=
  { s with memctl := { s.memctl with writeBack := s.memctl.writeBack.filter (· != a) } }

/-- A word of Loop Engine state memory that reads 0 (R311, R312): past the 16 words of an axis block, past the 4 words of an actuator block
and of its copy, and the reserved words after the snapshot area. -/
def leReserved (a : Nat) : Bool :=
  let o := a % 0x100000 - 0x8000
  decide (0x50000000 ≤ a ∧ a < 0x50200000 ∧ 0x8000 ≤ a % 0x100000)
    && (decide (o < 0x2000 ∧ 0x40 ≤ o % 0x400) || decide (0x2000 ≤ o ∧ o < 0x2600 ∧ 0x10 ≤ o % 0x40)
      || decide (0x3200 ≤ o ∧ o < 0x3800 ∧ 0x10 ≤ o % 0x40) || decide (0x3800 ≤ o ∧ o < 0x4000))

/-- The value a memory stores: 24 bits in X and Y, a sign-extended Q1.23 in the bins, nothing in a reserved word (R208, R311, R322). -/
def storedValue (v : Variant) (a : Nat) (x : Word) : Word :=
  if leReserved a then 0
  else match memInfo v a with
  | some i => if i.w24 then x &&& 0x00FFFFFF
    else if i.id = 0x18 ∨ i.id = 0x1A then wordOfInt (signed 24 x.toNat) else x
  | none => x

/-- A full-word store by a master (R124, R540). -/
def storeWord (a : Nat) (x : Word) (s : State) : State :=
  let s1 := clearTrust a (dropWriteBack a (s.putWord a (storedValue s.variant a x)))
  if isSram s.variant a && s1.flag Reg.MEM_INJECT 31 then injectAt a s1 else s1

/-- The bytes of a narrow write merged into a word. -/
def mergeNarrow (old : Word) (a bytes : Nat) (x : Word) : Word := putBits old (8 * (a % 4)) (8 * bytes) x.toNat

/-- A narrow read delivers the addressed bytes in the low bits. -/
def narrowOf (w : Word) (a bytes : Nat) : Word := wordOf (bits w (8 * (a % 4)) (8 * bytes))

/-! ## Accesses of bus masters (R41, R116, R161, R311, R322) -/

/-- A bus write that its memory refuses: LE state words while the LE is enabled (R311), bins of a learning axis (R322). -/
def leWriteBlocked (s : State) (a : Nat) : Bool :=
  if 0x50000000 ≤ a ∧ a < 0x50200000 then
    let n := a / 0x100000 % 0x10
    let off := a % 0x100000
    if off < 0x8000 then s.flag (Reg.AX_REP_CTRL (8 * n + off / 0x1000)) 1 else s.flag (Reg.LE n + 0x008) 0
  else false

/-- An SPE reaches no memory of the other SPE (R115, R206). -/
def otherSpe (m : Master) (a : Nat) : Bool :=
  decide (0x20000000 ≤ a ∧ a < 0x20200000) &&
    (match m with
     | .spe0 => decide (0x20100000 ≤ a)
     | .spe1 => decide (a < 0x20100000)
     | _ => false)

/-- The access is aligned and of a width that the memory accepts (R116). -/
def widthOk (i : MemInfo) (a bytes : Nat) : Bool :=
  (decide (bytes = 4) && decide (a % 4 = 0)) || (i.narrow && decide ((bytes = 1) ∨ (bytes = 2 ∧ a % 2 = 0)))

/-- The memory that an access of a master reaches; none where it is refused with a bus error: unbacked, owned by a queue, the other
SPE's, of a wrong width, or in SCRAPPED. -/
def reach (s : State) (m : Master) (a bytes : Nat) : Option MemInfo :=
  if s.sec.scrapped ∨ 0xFC000000 ≤ a then none
  else match memInfo s.variant a with
    | none => none
    | some i => if (ownerOf s a).isSome || otherSpe m a || !(widthOk i a bytes) then none else some i

/-- A refused access to secure memory (R138): the record of a slot violation. -/
def slotViolation (m : Master) (a : Nat) (s : State) : State :=
  (s.cause Reg.SEC 6).wr Reg.SEC_VIOL (wordOf (0x10000000 * masterCode m + a % 0x4000))

/-- The read or write grant of a slot for a master (R137, R139): HIDDEN denies every read, and in DEPLOYED the debug bits read 0. -/
def slotGrants (s : State) (m : Master) (a : Nat) (write : Bool) : Bool :=
  let c := s.rd (Reg.SEC_SLOT_CFG (a % 0x4000 / 0x400))
  let dep := decide (lcRule s = 2) && decide (m = .debug)
  (if write then bit c (8 + masterCode m) else bit c (masterCode m) && !(bit c 17)) && !dep

/-- Secure memory answers with bus errors: during a wipe, after a failed one, in RETURNED and SCRAPPED (R139, R145, R147). -/
def secClosed (s : State) : Bool :=
  decide (s.sec.wipeStart ≠ none) || s.sec.wipeFailed || decide (lcRule s = 3) || s.sec.scrapped

/-- The gate of secure memory: whether an access passes, and the state with a violation recorded (R138). -/
def secGate (m : Master) (a : Nat) (write : Bool) (s : State) : Bool × State :=
  if a < 0x30000000 ∨ 0x30004000 ≤ a then (true, s)
  else if secClosed s then (false, s)
  else if slotGrants s m a write then (true, s)
  else (false, slotViolation m a s)

/-- A memory read by a bus master: the data, or none for a bus error. -/
def memRead (m : Master) (a bytes : Nat) (up : Upset) (s : State) : Option Word × State :=
  match reach s m a bytes with
  | none => (none, s)
  | some _ =>
    let (ok, s1) := secGate m a false s
    if ok then
      let (r, s2) := readWord (masterCode m) (a / 4 * 4) up s1
      (r.map fun w => if bytes = 4 then w else narrowOf w a bytes, s2)
    else (none, s1)

/-- A memory write by a bus master; answers whether it was performed. A narrow write reads the word first (R116, R124). -/
def memWrite (m : Master) (a bytes : Nat) (x : Word) (s : State) : Bool × State :=
  match reach s m a bytes with
  | none => (false, s)
  | some _ =>
    if leWriteBlocked s a then (false, s)
    else
      let (ok, s1) := secGate m a true s
      if !ok then (false, s1)
      else if bytes = 4 then (true, storeWord a x s1)
      else
        let w := a / 4 * 4
        match readWord (masterCode m) w .none s1 with
        | (none, s2) => (false, s2)
        | (some old, s2) => (true, clearTrust w (dropWriteBack w (s2.putWord w (mergeNarrow old a bytes x))))

/-! ## Atomic aliases (R120 to R122) -/

/-- The atomic operand of a master (R120). -/
def atomOperand (s : State) (m : Master) : Word := s.rd (Reg.MEM_ATOM_OPND (masterCode m))

/-- An atomic read: the word before the operation, or none for a bus error (R120, R122). -/
def atomRead (m : Master) (w : Nat) (swap : Bool) (up : Upset) (s : State) : Option Word × State :=
  match readWord (masterCode m) w up s with
  | (none, s1) => (none, s1)
  | (some old, s1) => (some old, storeWord w (if swap then atomOperand s m else old + atomOperand s m) s1)

/-- An atomic write (R120, R122). -/
def atomWrite (m : Master) (w : Nat) (swap : Bool) (x : Word) (up : Upset) (s : State) : Bool × State :=
  if swap then (true, storeWord w x s)
  else match readWord (masterCode m) w up s with
    | (none, s1) => (false, s1)
    | (some old, s1) => (true, storeWord w (old + x) s1)

/-- The OTP read window (R116, R155, R156): aligned words; a customer word that cannot be resolved gives a bus error. -/
def otpRead (a bytes : Nat) (s : State) : Option Word :=
  if bytes = 4 ∧ a % 4 = 0 ∧ 0x60000000 ≤ a ∧ a < 0x60002000 then
    let off := a % 0x2000
    if 0x400 ≤ off && otpBad s off then none else some (otpWord s off)
  else none

/-- A read of any memory range by a bus master, aliases and the OTP window included: the data, or none for a bus error. -/
def anyRead (m : Master) (a bytes : Nat) (up : Upset) (s : State) : Option Word × State :=
  match aliasOf s.variant a with
  | some (w, swap) =>
    if bytes = 4 ∧ a % 4 = 0 ∧ s.sec.scrapped = false then atomRead m w swap up s else (none, s)
  | none =>
    if 0x60000000 ≤ a ∧ a < 0x60002000 then (otpRead a bytes s, s) else memRead m a bytes up s

/-- A write to any memory range by a bus master; answers whether it was performed. -/
def anyWrite (m : Master) (a bytes : Nat) (x : Word) (up : Upset) (s : State) : Bool × State :=
  match aliasOf s.variant a with
  | some (w, swap) =>
    if bytes = 4 ∧ a % 4 = 0 ∧ s.sec.scrapped = false then atomWrite m w swap x up s else (false, s)
  | none => memWrite m a bytes x s

/-- The answer of a read to its master (R41). -/
def answerRead (m : Master) (r : Option Word × State) : State :=
  match r with
  | (some w, s) => s.answer w false
  | (none, s) => busError m s

/-- The answer of a write to its master (R41). -/
def answerWrite (m : Master) (r : Bool × State) : State := if r.1 then r.2.answer 0 false else busError m r.2

/-! ## Write-back, starvation, injection, region map (R118, R123, R128, R540) -/

/-- MEM writes a corrected word back (R123). -/
def ceWriteback (a : Nat) (s : State) : State :=
  if s.memctl.writeBack.contains a then
    let s1 := dropWriteBack a s
    match s.eccAt a with
    | some (.single _) => s1.setEcc a none
    | _ => s1
  else s

/-- A stealing-class request has waited beyond STARVE_LIMIT (R118). -/
def starve (master bank : Nat) (s : State) : State :=
  ((((s.setFld Reg.MEM_STARVE_STAT 8 4 master).setFld Reg.MEM_STARVE_STAT 0 8 bank).satInc Reg.MEM_STARVE_STAT 16).cause Reg.MEM 2)

/-- The first bytes of the 4 KiB pages that RMAP classifies (R125). -/
def rmapPages (v : Variant) : List Nat :=
  ((List.range (sramKiB v / 4)).map (· * 0x1000)) ++ ((List.range (vatKiB v / 4)).map fun k => 0x10000000 + k * 0x1000)
    ++ ((List.range (256 * enginesOf v)).map fun k => 0x20000000 + k * 0x1000)

/-- Every address that was SAFETY is still SAFETY (R128). -/
def safetyKept (old new : State) : Bool := (rmapPages old.variant).all fun a => decide (regionClass old a ≠ 1) || decide (regionClass new a = 1)

/-- A write to an RMAP word (R128). -/
def rmapWrite (d : RegDef) (a : Nat) (m : Master) (v : Word) (s : State) : State :=
  let new := s.wr a (storeValue d (s.rd a) v)
  if safeLocked s 0x20 && !(cfgLocked s 0x20) && !(safetyKept s new) then (s.consumeKey 0x20 m).accessError a 0x02 m
  else regWrite d a m v (plainStore d a) s

/-- A write to a register of the MEM page from offset 0x040 upward. -/
def memPageWrite (d : RegDef) (_ a : Nat) (m : Master) (v : Word) (s : State) : State :=
  match d.off with
  | 0x040 => regWrite d a m (wordOf (max 64 (bits v 0 16))) (plainStore d a) s
  | 0x100 | 0x104 => rmapWrite d a m v s
  | _ => genericWrite .mem d a m v s

/-! ## The commands of the memories -/

/-- What MEM does by itself: nothing while the bus is down. -/
def memRow (f : State → State) (s : State) : State := if busUp s then f s else s

/-- ATOMIC_ADD_READ (R120): `addr` is the word's address in system SRAM. -/
def execAtomicAddRead (m : Master) (addr : Nat) (upset : Upset) (s : State) : Answer :=
  .next (mastered m (0x08000000 + addr) false (fun s => answerRead m (anyRead m (0x08000000 + addr) 4 upset s)) s)
/-- ATOMIC_ADD_WRITE (R120). -/
def execAtomicAddWrite (m : Master) (addr : Nat) (v : Word) (upset : Upset) (s : State) : Answer :=
  .next (mastered m (0x08000000 + addr) true (fun s => answerWrite m (anyWrite m (0x08000000 + addr) 4 v upset s)) s)
/-- ATOMIC_SWAP_READ (R120). -/
def execAtomicSwapRead (m : Master) (addr : Nat) (upset : Upset) (s : State) : Answer :=
  .next (mastered m (0x09000000 + addr) false (fun s => answerRead m (anyRead m (0x09000000 + addr) 4 upset s)) s)
/-- ATOMIC_SWAP_WRITE (R120). -/
def execAtomicSwapWrite (m : Master) (addr : Nat) (v : Word) (s : State) : Answer :=
  .next (mastered m (0x09000000 + addr) true (fun s => answerWrite m (anyWrite m (0x09000000 + addr) 4 v .none s)) s)
/-- CE_WRITEBACK (R123). -/
def execCeWriteback (addr : Nat) (s : State) : Answer := .next (live 0x20 (memRow (ceWriteback addr)) s)
/-- STARVE (R118). -/
def execStarve (master bank : Nat) (s : State) : Answer := .next (live 0x20 (memRow (starve master bank)) s)
/-- INJECT_WRITE (R540). -/
def execInjectWrite (m : Master) (v : Word) (s : State) : Answer :=
  .next (regRow m Reg.MEM_INJECT (memPageWrite (defOf .mem 0x050) 0 Reg.MEM_INJECT m v) s)
/-- RMAP_WRITE (R128): the BASE or the LIMIT word of region `k`. -/
def execRmapWrite (m : Master) (k : Nat) (limit : Bool) (v : Word) (s : State) : Answer :=
  .next (if k < 32 then
      let a := if limit then Reg.MEM_RMAP_LIMIT k else Reg.MEM_RMAP_BASE k
      regRow m a (memPageWrite (defOf .mem (if limit then 0x104 else 0x100)) k a m v) s
    else s)
/-- SECMEM_ACCESS (R138). -/
def execSecmemAccess (m : Master) (addr : Nat) (write : Bool) (v : Word) (s : State) : Answer :=
  .next (mastered m (0x30000000 + addr % 0x4000) write (fun s =>
    let a := 0x30000000 + addr % 0x4000
    if write then answerWrite m (anyWrite m a 4 v .none s) else answerRead m (anyRead m a 4 .none s)) s)

end Sys2Proof.Machine
end

