-- ==== Sys2Proof/Machine/Skim.lean ====
section
/-! DEFINITION. The Skimmer (spec/06_memory.md R130 to R135): background scrub, passes, the pass limit, and test 5 of CHECK. -/

namespace Sys2Proof.Machine

/-- The Skimmer runs in background mode: enabled, in ROW or PADDLE, and not in full-speed mode (R130, R134, R135). An enable after a disable
goes on from the position where the pass stood (log entry 101). -/
def skimOn (s : State) : Bool :=
  s.flag (Reg.SKIM + 0x008) 0 && decide (s.fld Reg.PWR_STATE 0 3 ≤ 1) && decide (s.power.phase = .steady)
    && !(decide (coxState s = 1) && decide (s.cox.test = 5))

/-- The Skimmer finds an uncorrectable error in a word that a queue owns (R126): between head and tail the parity is inverted, in a
free slot the word becomes 0. -/
def skimQueueWord (kind q a syn : Nat) (s : State) : State :=
  let x := queue s q
  let size := 256 * qSize s q
  let k := ((a % 0x10000000 - qBase s q * 1024) / 4 + size - x.midStart % max 1 size) % max 1 size
  let s1 := detectOnce kind 2 5 a syn (·.queueCause q 11) s
  if k < x.middle.length then
    let bad (w : QWord) : QWord := { w with data := wordOf (Config.freeNat s.freeCtr), badParity := true }
    let mid := x.middle.zipIdx.map fun p => if p.2 = k then bad p.1 else p.1
    ((s1.setQueue q { x with middle := mid }).setEcc a none).drawn
  else s1.putWord a 0

/-- One word read into the save buffer (R126, R127, R130). -/
def skimWord (a : Nat) (up : Upset) (s : State) : State :=
  match foundCode s a up with
  | none => s
  | some (.single x) => ceFound a x s
  | some (.uncorrectable x) =>
    match ownerOf s a with
    | some q => (skimQueueWord 1 q a x s).cause Reg.SKIM 1
    | none => (memDetect 1 5 a x s).cause Reg.SKIM 1
  | some .poison =>
    match ownerOf s a with
    | some q => (skimQueueWord 1 q a (poisonSyn s.variant a) s).cause Reg.SKIM 1
    | none => (memDetect 3 5 a (poisonSyn s.variant a) s).cause Reg.SKIM 1

/-- What the cells of a word have suffered, by the command's list. -/
def upsetAt (l : List (Nat × Upset)) (a : Nat) : Upset := tabGet l a .none

/-- A block starts (R130): its 16 words are read into the save buffer. A pass whose remaining memories have been disabled ends first. A wipe
owns the secure memory bank (R145). -/
def skimBlockStart (ups : List (Nat × Upset)) (s0 : State) : State :=
  if skimOn s0 && decide (s0.skim.inHand = none)
      && decide (s0.skim.anew ∨ s0.skim.lastStart + s0.fld Reg.SKIM_INTERVAL 0 16 ≤ s0.now) then
    let s := if nextRun s0 s0.skim.memIdx = none ∧ s0.skim.fresh = false then skimPassEnd s0 else s0
    match nextRun s s.skim.memIdx with
    | none => s
    | some (i, r) =>
      let blk := if i = s.skim.memIdx then s.skim.block else 0
      let a := r.base + 64 * blk
      if r.en = 5 ∧ s.sec.wipeStart ≠ none then s
      else
        let k := s.skim
        let s1 := { s with skim := { k with memIdx := i, block := blk, inHand := some a, lastStart := s.now,
                                            march := s.flag Reg.SKIM_CFG 8 && decide (r.en ≠ 5),
                                            passStart := if k.fresh then s.now else k.passStart, fresh := false,
                                            anew := false } }
        (List.range 16).foldl (fun t j => skimWord (a + 4 * j) (upsetAt ups (a + 4 * j)) t) (s1.wr Reg.SKIM_POS (wordOf a))
  else s0

/-- A march failure's log entry: the class of the word is QUEUE where a queue owns it (R126, R129). A march reads no code word, so the entry has
no syndrome: it shows 0 (log entry 121). -/
def marchLog (a : Nat) (s : State) : State := memLog 4 (if (ownerOf s a).isSome then 2 else memClass s a) 5 a 0 s

/-- The saved words are written back (R130, R131): corrected words are repaired; a march that did not read back at a word of the block is
reported. -/
def skimBlockWriteback (fail : Option Nat) (s : State) : State :=
  match s.skim.inHand with
  | none => s
  | some a =>
    let s1 := (List.range 16).foldl (fun t j => ceWriteback (a + 4 * j) t) s
    let s2 := match fail with
      | some w => if s.skim.march then
          lineCheck 37 true ((marchLog (a + w % 64 / 4 * 4) s1).cause Reg.SKIM 2) else s1
      | none => s1
    skimAdvance s2

/-- Seconds of PASS_LIMIT (field table of SKIM.CFG). -/
def passLimit (code : Nat) : Nat := match code with | 0 => 2 | 1 => 4 | 2 => 6 | 3 => 8 | 4 => 9 | 5 => 10 | 6 => 20 | _ => 40

/-- The pass limit is exceeded: a condition that holds in RUN only (R133). -/
def passLate (s : State) : Bool :=
  decide (coxState s = 3) && decide (s.skim.limitFrom + passLimit (s.fld Reg.SKIM_CFG 9 3) * 200000000 < s.now)

/-- The check of every millisecond (R133): line 37 finds the limit exceeded, or a millisecond without a march failure (R99). -/
def skimPassLimitCheck (s : State) : State :=
  if passLate s then lineCheck 37 true s else eventLineIdle 37 s

/-- STAT.STATE of the Skimmer: 0 idle, 1 background, 2 full speed, 3 write-back after disable. -/
def skimStatState (s : State) : Nat :=
  if coxState s = 1 ∧ s.cox.test = 5 then 2
  else if s.flag (Reg.SKIM + 0x008) 0 then 1 else if s.skim.inHand ≠ none then 3 else 0

/-- A write to a register of the SKIM page: INTERVAL below 256 is stored as 256. -/
def skimWrite (d : RegDef) (_ a : Nat) (m : Master) (v : Word) (s : State) : State :=
  match d.off with
  | 0x044 => regWrite d a m (wordOf (max 256 (bits v 0 16))) (plainStore d a) s
  | _ => genericWrite .skim d a m v s

/-! ## Test 5 of CHECK (R134) -/

/-- An address that test 5 marches: system SRAM, the Vat, SPE and LE memories. -/
def marched (v : Variant) (a : Nat) : Bool := match memInfo v a with | some i => decide (i.id < 0x1C) | none => false

/-- At the end of test 5 every tested word is 0 with a valid code; queue words in the Vat are no exception. -/
def marchAll (s : State) : State :=
  let wipe (w : QWord) : QWord := { w with data := 0, badParity := false }
  { s with mem := s.mem.filter (fun c => !(marched s.variant c.1))
           ecc := s.ecc.filter (fun p => !(marched s.variant p.1))
           memctl := { s.memctl with writeBack := s.memctl.writeBack.filter (fun a => !(marched s.variant a)) }
           queues := s.queues.map fun p => (p.1, { p.2 with middle := p.2.middle.map wipe }) }

/-- Word number `n` of the memories that test 5 marches, in the visiting order (R134). -/
def testedWord : List SkimRun → Nat → Nat
  | [], _ => 0
  | r :: rest, n => if r.en ≤ 3 then (if n < r.size / 4 then r.base + 4 * n else testedWord rest (n - r.size / 4)) else testedWord rest n

/-- Words that test 5 marches. -/
def testedWords (v : Variant) : Nat := ((skimRuns v).map fun r => if r.en ≤ 3 then r.size / 4 else 0).sum

/-- A start-up test ends; test 5 leaves the tested memories cleared, and its failure writes a log entry, which names one of the tested
words: the spec leaves open which (R107, R134; log entry 103). -/
def checkTest (e : TestEnd) (s : State) : State :=
  if coxState s = 1 ∧ s.cox.test = 5 then
    let s1 := marchAll s
    checkTestDone e (if e.pass then s1 else
      (marchLog (testedWord (skimRuns s1.variant) (Config.freeNat s1.freeCtr % testedWords s1.variant)) s1).drawn)
  else checkTestDone e s

/-! ## The commands of the Skimmer -/

/-- SKIM_BLOCK_START (R130). -/
def execSkimBlockStart (upsets : List (Nat × Upset)) (s : State) : Answer := .next (live 0x21 (skimBlockStart upsets) s)
/-- SKIM_BLOCK_WRITEBACK (R130). -/
def execSkimBlockWriteback (marchFail : Option Nat) (s : State) : Answer := .next (live 0x21 (skimBlockWriteback marchFail) s)
/-- SKIM_PASS_LIMIT_CHECK (R133). -/
def execSkimPassLimitCheck (s : State) : Answer := .next (skimPassLimitCheck s)
/-- CHECK_TEST_DONE (R107). -/
def execCheckTestDone (e : TestEnd) (s : State) : Answer := .next (checkTest e s)

end Sys2Proof.Machine
end

