-- ==== Sys2Proof/Machine/Sec.lean ====
section
/-! DEFINITION. Life cycle, wipes, tamper, debug unlock and OTP programming (spec/07_security.md). Secure memory accesses stand in
Mem.lean, image verification in Boot.lean. -/

namespace Sys2Proof.Machine

/-! ## Wipes (R144 to R147) -/

/-- The memories are ready: the bus is up, or the wake in progress has passed step 3 (R94, R136). -/
def memReady (s : State) : Bool :=
  match s.power.phase with
  | .waking _ _ _ _ _ => busUp s || s.flag Reg.PWR_WAKE_STAT 2
  | _ => busUp s

/-- A wipe trigger (R146, R149): it starts a wipe, joins the one in progress, or waits for MEM_RDY in HOLD and during a wake. -/
def wipeTrigger (trig : Nat) (s : State) : State :=
  if s.sec.wipeStart ≠ none ∨ memReady s = true then wipeNow trig s
  else match s.power.phase with
    | .waking _ _ _ _ _ => { s with sec := { s.sec with wipeDue := some trig } }
    | _ => if s.fld Reg.PWR_STATE 0 3 = 3 then { s with sec := { s.sec with wipeDue := some trig } } else s

/-- Secure memory written as 0 with valid codes (R145). -/
def clearSecure (s : State) : State :=
  let sec (a : Nat) : Bool := decide (0x30000000 ≤ a ∧ a < 0x30004000)
  { s with mem := s.mem.filter (fun c => !(sec c.1)), ecc := s.ecc.filter (fun p => !(sec p.1))
           memctl := { s.memctl with writeBack := s.memctl.writeBack.filter (fun a => !(sec a)) } }

/-- The third step of a transition (R142). -/
def lcDone (s : State) : State :=
  match s.sec.lc with
  | .wiping t =>
    let s1 := (((s.wr Reg.SEC_LC_STATE (wordOf t)).setFlag Reg.SEC_LC_STAT 30 false).setFlag Reg.SEC_LC_STAT 31 true).cause Reg.SEC 2
    let s2 := { s1 with sec := { s1.sec with lc := .idle, lcBefore := if t = 4 then lcRule s else s1.sec.lcBefore } }
    if t = 2 ∨ t = 3 then (s2.wr Reg.SEC_TAMPER_CFG (s2.rd Reg.SEC_TAMPER_CFG ||| 0x1F)).crcTouch 0x22 else s2
  | _ => s

/-- The port opens when the wipe of an accepted unlock has ended (R154). DBG_STAT then shows no refusal (log entry 104). -/
def unlockDone (s : State) : State :=
  if s.sec.unlocking then
    let s1 := (s.wr Reg.SEC_DBG_STAT 0x80000000).cause Reg.SEC 5
    { s1 with sec := { s1.sec with unlocking := false } }
  else s

/-- A wipe ends (R147). -/
def wipeDone (verified : Bool) (s : State) : State :=
  if s.sec.wipeStart = none then s
  else
    let s1 := (((clearSecure s).satInc Reg.SEC_WIPE_STAT 0).setFlag Reg.SEC_WIPE_STAT 31 false).cause Reg.SEC 0
    let s2 := s1.setFlag Reg.SEC_WIPE_STAT 30 (!verified)
    unlockDone <| lcDone { s2 with sec := { s2.sec with wipeStart := none, wipeFailed := s2.sec.wipeFailed || !verified } }

/-- An opened write to WIPE (R144). -/
def wipeWrite (m : Master) (v : Word) (s : State) : State :=
  regWrite (defOf .sec 0x04C) Reg.SEC_WIPE m v
    (fun v s => if v = 0x00005EC0 then wipeTrigger 19 (s.wr Reg.SEC_WIPE v) else s.blockError Reg.SEC_WIPE 0x01 m) s

/-! ## Life cycle (R139 to R142) -/

/-- Boot key slot `k` is in use: its hash is not all zero and its revocation bit is clear (R152). -/
def bootSlotUsed (s : State) (k : Nat) : Bool :=
  decide (k < 4) && ((List.range 16).any fun j => decide (otpWord s (0x200 + 64 * k + 4 * j) ≠ 0)) && !(bit (otpWord s 0x340) k)

/-- VANA or VIO is outside its operating range (R81, R141). -/
def supplyOut (s : State) : Bool :=
  s.power.under.contains .vana || s.power.under.contains .vio || s.power.above.contains .vana || s.power.above.contains .vio

/-- The refusal cause of a transition request, 0 for none (R141): where several apply, the first of the table (log entry 118). -/
def lcCause (s : State) (t : Nat) : Nat :=
  let cur := lcState s
  if !(decide (t = 4) || decide (cur < 3 ∧ t = cur + 1)) then 1
  else if t ≠ 4 ∧ (coxState s = 3 ∨ coxState s = 4) then 2
  else if t = 2 ∧ (List.range 4).any (bootSlotUsed s) = false then 3
  else if s.otp.prog ≠ none ∨ s.sec.wipeStart ≠ none ∨ s.sec.lc ≠ .idle then 4
  else if supplyOut s then 5 else 0

/-- An opened write to LC_REQ (R141, R142). A word that is programmed already, as when SCRAPPED is requested once more, keeps its value: it is
final (R155). The value that the life-cycle word takes is not given: a free value other than 0. -/
def lcReqWrite (m : Master) (v : Word) (s : State) : State :=
  regWrite (defOf .sec 0x044) Reg.SEC_LC_REQ m v
    (fun v s0 =>
      let t := bits v 0 3
      let s := s0.wr Reg.SEC_LC_REQ (wordOf t)
      match lcCause s t with
      | 0 =>
        let s1 := s.wr Reg.SEC_LC_STAT 0xC0000000
        let w := wordOf (1 + Config.freeNat s.freeCtr % 0xFFFFFFFF)
        ({ s1 with sec := { s1.sec with lc := .programming t },
                   otp := { s1.otp with prog := if lcProgrammed s (t - 1) then none else some ⟨0x100 + 4 * (t - 1), w⟩ } }).drawn
      | c => (s.setFld Reg.SEC_LC_STAT 0 4 c).setFlag Reg.SEC_LC_STAT 31 false) s

/-- The life-cycle word is programmed, and the wipe starts (R142). -/
def lcWordProgrammed (s : State) : State :=
  match s.sec.lc with
  | .programming t =>
    let o := match s.otp.prog with
      | some g => { s.otp with words := tabPut s.otp.words g.off g.value 0, prog := none }
      | none => s.otp
    wipeTrigger 16 { s with otp := o, sec := { s.sec with lc := .wiping t } }
  | _ => s

/-! ## Tamper (R148 to R150, R485) -/

/-- A tamper source is detected in the present power state (R148). -/
def tamperSeen (s : State) (b : Nat) : Bool :=
  let st := s.fld Reg.PWR_STATE 0 3
  match b with
  | 0 => true
  | 1 => decide (st ≤ 3)
  | 2 => decide (st ≤ 2)
  | 3 => decide (st ≤ 2)
  | 4 => decide (st ≤ 2) && debugLocked s
  | _ => false

/-- The rising edge of a tamper latch bit (R149, R150, R485): in MOORED and BEACHED the AON domain alone acts, and its own
reset holds it (R473). -/
def tamperEdge (b : Nat) (s : State) : State :=
  if s.flag Reg.AON_TAMPER_LATCH b ∨ s.power.aonLost then s
  else
    let s1 := (s.setFlag Reg.AON_TAMPER_LATCH b true).wr Reg.AON_TAMPER_RTC (wordOf (s.aon.rtc / 32768000000000))
    if 4 ≤ s.fld Reg.PWR_STATE 0 3 then s1
    else
      let s2 := s1.cause Reg.SEC 1
      if tamperWipes s b then wipeTrigger 17 s2 else s2

/-- TAMPER_N always wakes the device from HOLD and MOORED, and abandons an entry to them, whether its latch bit is already set or not (R88,
R91, R150). -/
def tamperWake (s : State) : State :=
  match s.power.phase with
  | .steady => if s.fld Reg.PWR_STATE 0 3 = 3 then s.startWake 7 0 else if s.fld Reg.PWR_STATE 0 3 = 4 then wakeReset 0x000000C0 7 s else s
  | .entering t => if 3 ≤ t then abandonEntry s else s
  | _ => s

/-- A tamper source appears or goes (R149, R150). -/
def tamperDetect (b : Nat) (present : Bool) (s : State) : State :=
  if b < 5 ∧ (present = false ∨ tamperSeen s b) then
    let l := s.sec.tamperNow.filter (· != b)
    let s1 := { s with sec := { s.sec with tamperNow := if present then b :: l else l } }
    if present then
      let s2 := tamperEdge b (clearBackup s1)
      if b = 0 then tamperWake s2 else s2
    else s1
  else s

/-- A W1C write to TAMPER_STAT clears the bits whose sources are absent (R149). -/
def tamperStatWrite (m : Master) (v : Word) (s : State) : State :=
  regWrite (defOf .sec 0x058) Reg.SEC_TAMPER_STAT m v
    (fun v s => (setBitsOf v 5).foldl
      (fun t b => if s.sec.tamperNow.contains b then t else t.setFlag Reg.AON_TAMPER_LATCH b false) s) s

/-! ## Debug unlock (R154) -/

/-- A mailbox read presents a fresh challenge (R154). -/
def dbgMailboxRead (s : State) : State :=
  if debugLocked s then
    { s with sec := { s.sec with challenge := some (BitVec.ofNat 128 (Config.freeNat s.freeCtr)) }, freeCtr := s.freeCtr + 1 }
  else s

/-- The bytes of a number, least significant first. -/
def bytesOf (n v : Nat) : List Byte := (List.range n).map fun k => BitVec.ofNat 8 (v / 2 ^ (8 * k))

/-- The bytes of a run of OTP words. -/
def otpBytes (s : State) (off n : Nat) : List Byte := (List.range n).flatMap fun k => bytesOf 4 (otpWord s (off + 4 * k)).toNat

/-- The refusal code of an unlock, 0 for none (R154): Cox state, hash, revoked, signature. SCRAPPED accepts none (R139): the last code (log
entry 104). -/
def unlockCause (s : State) (key sig : List Byte) : Nat :=
  if lcRule s = 4 then 4
  else if coxState s ≠ 2 ∧ coxState s ≠ 5 then 1
  else if Config.sha512 key ≠ otpBytes s 0x300 16 then 2
  else if bit (otpWord s 0x340) 8 then 3
  else
    let ch := match s.sec.challenge with | some c => bytesOf 16 c.toNat | none => []
    if decide (s.sec.challenge = none) || !(Config.ed25519 key (ch ++ otpBytes s 0x110 4) sig) then 4 else 0

/-- A written key and signature are checked (R154): an accepted unlock wipes secure memory first, and opens the port at the end of the wipe. -/
def dbgUnlock (key sig : List Byte) (s : State) : State :=
  if debugLocked s then
    match unlockCause s key sig with
    | 0 => wipeTrigger 18 { s with sec := { s.sec with unlocking := true } }
    | 1 => s.setFld Reg.SEC_DBG_STAT 0 4 1
    | c => dbgTamper (s.setFld Reg.SEC_DBG_STAT 0 4 c)
  else s

/-! ## OTP programming (R155, R157) -/

/-- MIN_VERSION: the largest word of the version ladder (R155). -/
def minVersion (s : State) : Nat := (List.range 32).foldl (fun acc k => max acc (otpWord s (0x380 + 4 * k)).toNat) 0

/-- The word may be programmed by firmware in this life-cycle state (R155); the reserved word 0x128 never (log entry 118). -/
def otpAllowed (s : State) (off : Nat) : Bool :=
  let lc := lcRule s
  if off < 0x120 then false
  else if off = 0x128 then false
  else if off < 0x340 then decide (lc ≤ 1)
  else if off = 0x340 then decide (lc ≤ 3)
  else if off < 0x380 then false
  else decide (lc ≤ 3)

/-- The result code of a programming command that does not start, 0 where it starts (R155, R157). The order of the codes is a choice (log entry
118). -/
def progCause (s : State) (off : Nat) (v : Word) : Nat :=
  let ladder := decide (0x380 ≤ off ∧ off < 0x400)
  if !(otpAllowed s off) then 1
  else if otpWord s off ≠ 0 then 2
  else if ladder && ((List.range ((off - 0x380) / 4)).any fun k => decide (otpWord s (0x380 + 4 * k) = 0)) then 1
  else if ladder && decide (v.toNat ≤ minVersion s) then 5
  else if supplyOut s then 3 else 0

/-- An opened write to PROG_CMD (R157). Outside ROW, and while a word is in programming, it is stored and starts nothing (log entry 51). -/
def progCmdWrite (m : Master) (v : Word) (s : State) : State :=
  regWrite (defOf .otp 0x048) Reg.OTP_PROG_CMD m v
    (fun v s0 =>
      let s := s0.wr Reg.OTP_PROG_CMD v
      if v ≠ 0x00000F5E ∨ s.otp.prog ≠ none ∨ s.fld Reg.PWR_STATE 0 3 ≠ 0 then s
      else
        let off := s.fld Reg.OTP_PROG_ADDR 2 11 * 4
        let x := s.rd Reg.OTP_PROG_DATA
        match progCause s off x with
        | 0 => { (s.wr Reg.OTP_PROG_STAT 0x80000000) with otp := { s.otp with prog := some ⟨off, x⟩ } }
        | c => (s.wr Reg.OTP_PROG_STAT (wordOf c)).cause Reg.OTP 1) s

/-- OTP programming completes (R157). What the copies of a word hold that failed its read-back is left open: free values. -/
def progDone (verified : Bool) (s : State) : State :=
  match s.otp.prog, s.sec.lc with
  | some g, .idle =>
    if verified then
      let s1 := { s with otp := { s.otp with words := tabPut s.otp.words g.off g.value 0, prog := none } }
      (s1.wr Reg.OTP_PROG_STAT 0).cause Reg.OTP 0
    else
      let s1 := { s with otp := otpBroken s.freeCtr s.otp, freeCtr := s.freeCtr + 4 }
      (s1.wr Reg.OTP_PROG_STAT 4).cause Reg.OTP 1
  | _, _ => s

/-! ## Register accesses -/

/-- A write to a register of the SEC page from offset 0x040 upward, but VERIFY_CTRL (Boot.lean). -/
def secWrite (d : RegDef) (_ a : Nat) (m : Master) (v : Word) (s : State) : State :=
  match d.off with
  | 0x044 => lcReqWrite m v s
  | 0x04C => wipeWrite m v s
  | 0x054 => genericWrite .sec d a m (if lcRule s = 2 ∨ lcRule s = 3 then v ||| 0x1F else v) s
  | 0x058 => tamperStatWrite m v s
  | _ => genericWrite .sec d a m v s

/-- A read of a SEC register whose value is not stored (R139, R149). -/
def secRead (d : RegDef) (_ a : Nat) (_ : Master) (s : State) : Option (Word × State) :=
  match d.off with
  | 0x054 => some (if lcRule s = 2 ∨ lcRule s = 3 then s.rd a ||| 0x1F else s.rd a, s)
  | 0x058 => some (s.rd Reg.AON_TAMPER_LATCH, s)
  | 0x080 => some (if lcRule s = 2 then s.rd a &&& ~~~(0x1010#32) else s.rd a, s)
  | _ => none

/-- A write to a register of the OTP page. -/
def otpPageWrite (d : RegDef) (_ a : Nat) (m : Master) (v : Word) (s : State) : State :=
  match d.off with
  | 0x048 => progCmdWrite m v s
  | _ => genericWrite .otp d a m v s

/-! ## The commands -/

/-- LC_REQ (R141). -/
def execLcReq (m : Master) (v : Word) (s : State) : Answer := .next (regRow m Reg.SEC_LC_REQ (lcReqWrite m v) s)
/-- LC_WORD_PROGRAMMED (R142). -/
def execLcWordProgrammed (s : State) : Answer := .next (live 0x22 lcWordProgrammed s)
/-- WIPE (R144). -/
def execWipe (m : Master) (v : Word) (s : State) : Answer := .next (regRow m Reg.SEC_WIPE (wipeWrite m v) s)
/-- WIPE_DONE (R147). -/
def execWipeDone (verified : Bool) (s : State) : Answer := .next (live 0x22 (wipeDone verified) s)
/-- TAMPER_DETECT (R149). -/
def execTamperDetect (b : Nat) (present : Bool) (s : State) : Answer := .next (tamperDetect b present s)
/-- TAMPER_STAT_CLEAR (R149). -/
def execTamperStatClear (m : Master) (v : Word) (s : State) : Answer := .next (regRow m Reg.SEC_TAMPER_STAT (tamperStatWrite m v) s)
/-- DBG_MAILBOX_READ (R154). -/
def execDbgMailboxRead (s : State) : Answer := .next (if busUp s then dbgMailboxRead s else s)
/-- DBG_UNLOCK (R154). -/
def execDbgUnlock (key sig : List Byte) (s : State) : Answer := .next (if busUp s then dbgUnlock key sig s else s)
/-- PROG_CMD (R157). -/
def execProgCmd (m : Master) (v : Word) (s : State) : Answer := .next (regRow m Reg.OTP_PROG_CMD (progCmdWrite m v) s)
/-- PROG_DONE (R157). -/
def execProgDone (verified : Bool) (s : State) : Answer := .next (live 0x23 (progDone verified) s)
end Sys2Proof.Machine
end

