-- ==== Sys2Proof/Machine/Prof.lean ====
section
/-! DEFINITION. Profile Units: segments, masters, gearing, cams, starts and stops; virtual masters; position latches
(spec/16_profiles.md). The arithmetic of a segment is exact. -/

namespace Sys2Proof.Machine

/-! ## Masters (R334, R335) -/

/-- The position of a virtual master at an implement time, 48.16 (R335). -/
def vmAt (p : Prof) (it : Nat) : Int := p.vmP0 + p.vmRate * 256 * ((it : Int) - p.vmT0) / 1000000000

/-- PROF_CFG.MSRC and MIDX (R334). -/
def masterSrc (s : State) (n : Nat) : Nat := s.fld (Reg.AX_PROF_CFG n) 4 3
def masterIdx (s : State) (n : Nat) : Nat := s.fld (Reg.AX_PROF_CFG n) 0 4

/-- The axis's sample instant is at root instant `t` (R334): the Profile Unit takes the encoder that may be its master there. -/
def profCapture (n : Nat) (t : Int) (s : State) : State :=
  let k := masterIdx s n
  (s.setProf n { prof s n with encM := (posAt s k t, s.sfld (Reg.ENC_VEL k) 0 32) }).setAx n { ax s n with instant := t }

/-- M and v_m of an axis's master at its sample instant, the last that has come when the evaluation starts (R329, R334; log entry 58); none
where MSRC is 0. The setpoint of another axis is the one that stood at
the LE trigger, where the evaluation starts (R329). A virtual master whose EN is 0 has no position the spec states: a free value. -/
def masterAt (s : State) (n : Nat) : Option (Int × Int) × State :=
  let k := masterIdx s n
  match masterSrc s n with
  | 1 => (some (prof s n).encM, s)
  | 2 => (some (prof s n).axM, s)
  | 3 =>
    let it := (timesBefore s (rootNow s - (ax s n).instant)).2.1
    let s1 := s.causeIf (!(timeOk s)) (Reg.AX n) 24
    if s.flag (Reg.AX_VM_CTRL k) 31 then (some (vmAt (prof s k) it, (prof s k).vmRate), s1)
    else (some (signed 64 (Config.freeNat s.freeCtr), 0), s1.drawn)
  | _ => (none, s)

/-- The staged values of a virtual master move into force together (R335). -/
def vmPut (n : Nat) (p0 rate : Int) (t0 : Nat) (s : State) : State :=
  s.setProf n { prof s n with vmP0 := p0, vmRate := rate, vmT0 := t0 }

/-- A write of 1 to VM_LOAD (R335). -/
def vmLoadWrite (m : Master) (n : Nat) (v : Word) (s : State) : State :=
  let s1 := s.consumeKey (0x80 + n) m
  if !(bit v 0) then s1
  else if s.flag (Reg.AX_VM_CTRL n) 8 then s1.blockError (Reg.AX_VM_LOAD n) 0x06 m
  else vmPut n (signed 64 (s.rd64 (Reg.AX_VM_P0 n 0))) (s.sfld (Reg.AX_VM_RATE n) 0 32) (s.rd64 (Reg.AX_VM_T0 n 0)) s1

/-! ## Curves -/

/-- A PVT segment at its k-th sample of `dur`, over T seconds (R333). -/
def pvtAt (p0 v0 delta v1 : Int) (dur k : Nat) (t : Rat) : Int × Int × Int :=
  let x : Rat := (k : Rat) / (dur : Rat)
  let d := posRat delta
  let a0 := velRat v0
  let a1 := velRat v1
  if k = dur then (p0 + delta, v1, nearest (-6 * d / (t * t) + 2 * a0 / t + 4 * a1 / t))
  else
    (posOf (posRat p0 + d * (3 * x * x - 2 * x * x * x) + a0 * t * (x - 2 * x * x + x * x * x) + a1 * t * (x * x * x - x * x)),
     velOf (d / t * (6 * x - 6 * x * x) + a0 * (1 - 4 * x + 3 * x * x) + a1 * (3 * x * x - 2 * x)),
     nearest (d / (t * t) * (6 - 12 * x) + a0 / t * (6 * x - 4) + a1 / t * (6 * x - 2)))

/-- A GEAR at master distance `x` (48.16): the setpoint, and the local ratio (R336). -/
def gearAt (p0 x : Int) (r0 r1 : Rat) (engage : Nat) : Int × Rat :=
  let xr := posRat x
  let l : Rat := engage
  let at_ (c : Rat) : Int := ((posRat p0 + c) * 65536).floor
  if x < 0 ∨ (x = 0 ∧ engage ≠ 0) then (at_ (r0 * xr), r0)
  else if engage ≠ 0 ∧ xr ≤ l then (at_ (r0 * xr + (r1 - r0) * xr * xr / (2 * l)), r0 + (r1 - r0) * xr / l)
  else (at_ ((r0 + r1) * l / 2 + r1 * (xr - l)), r1)

/-- First byte of the cam area of an axis's Loop Engine (R337). -/
def camBase (n : Nat) : Nat := 0x5000C000 + 0x100000 * (n / 8)

/-- Two cam points of a table, read through the private port; none where one is unusable (R337). -/
def camPoints (n first i j : Nat) (s : State) : Option (Int × Int × Int) × State :=
  let point (k : Nat) (t : State) : Option Word × State := portRead 9 (camBase n + 4 * (first + k)) t
  let (a, s1) := point 0 s
  let (b, s2) := point i s1
  let (c, s3) := point j s2
  match a, b, c with
  | some x, some y, some z => (some (sbits x 0 32, sbits y 0 32, sbits z 0 32), s3)
  | _, _, _ => (none, s3.cause (Reg.LE (n / 8)) 2)

/-- A CAM at master distance `x` (48.16): cycle count, setpoint and slope in slave counts per master count (R337). -/
def camAt (n : Nat) (p0 x : Int) (logN first cyc : Nat) (slave : Int) (s : State) : Option (Int × Int × Rat) × State :=
  let num := 2 ^ logN
  let per : Int := cyc * 65536
  let k := x / per
  let phi := (x % per).toNat
  let i := phi * num / per.toNat
  let f : Rat := ((phi * num % per.toNat : Nat) : Rat) / (per : Rat)
  let (pts, s1) := camPoints n first i (if i + 1 = num then 0 else i + 1) s
  match pts with
  | none => (none, s1)
  | some (t0, ti, tj) =>
    let tn := if i + 1 = num then t0 + slave else tj
    let p := (p0 : Rat) + (k * slave : Int) + (ti : Rat) + f * ((tn - ti : Int) : Rat) - (t0 : Rat)
    (some (k, p.floor, posRat (tn - ti) * num / cyc), s1)

/-- The target of AX_STOP_AT_PHASE (R338), 48.16. -/
def stopTarget (p0 v0 : Int) (a c : Nat) (phi : Int) : Int :=
  let v := velRat v0
  let d := v * v.abs / (2 * a)
  let x := (posRat p0 + d - posRat phi) / c
  let j := if 0 ≤ v0 then x.ceil else x.floor
  phi + j * (c * 65536 : Nat)

/-- The setpoint of AX_STOP_AT_PHASE, t seconds after its start (R338). -/
def stopPhaseAt (p0 v0 : Int) (a : Nat) (target : Int) (t : Rat) : Int × Int × Int × Bool :=
  let v := velRat v0
  let sg : Rat := signI v0
  let ar : Rat := a
  let t1 := ((posRat (target - p0)).abs - v * v / (2 * ar)) / v.abs
  if t1 + v.abs / ar ≤ t then (target, 0, 0, true)
  else if t ≤ t1 then (posOf (posRat p0 + v * t), v0, 0, false)
  else (posOf (posRat p0 + v * t - sg * ar * (t - t1) * (t - t1) / 2), velOf (v - sg * ar * (t - t1)), -(signI v0 * a), false)

/-! ## Taking segments (R330 to R332, R339, R341) -/

/-- Words of a segment type, header included; none for an invalid type (R331). -/
def segWords (type : Nat) : Option Nat :=
  match type with
  | 1 => some 3 | 2 => some 4 | 3 => some 4 | 4 => some 1 | 5 => some 1 | 6 => some 1 | 7 => some 3 | 8 => some 4 | 15 => some 1
  | _ => none

/-- The word count of the segment at the head of a queue, if all of it is there (R331). -/
def segReady (s : State) (q : Nat) : Option Nat :=
  if qAvail s q = 0 then none
  else
    let n := (segWords (bits (qPeek s q) 28 4)).getD 1
    if n ≤ qAvail s q then some n else none

/-- A segment is available to axis `n` (R331). -/
def segAvailable (s : State) (n : Nat) : Bool := match boundCons s (0x80 + n) with | some q => (segReady s q).isSome | none => false

/-- Pops `k` words. -/
def popWords (q : Nat) : Nat → State → List Popped × State
  | 0, s => ([], s)
  | k + 1, s =>
    let (p, s1) := qHwPop q 8 s
    let (r, s2) := popWords q k s1
    (p :: r, s2)

/-- The words of a bad segment (R332): an invalid type, reserved bits of the header, a word delivered with LENGTH_WORD 1, or fields that break the
table of R331; without a master, a GEAR, a CAM and a SYNC_START too (R334). -/
def segBad (ps : List Popped) (hasMaster : Bool) : Bool :=
  let w (k : Nat) : Word := (listGet ps k ⟨0, 0, false⟩).word
  let h := w 0
  ps.any (·.isLength) || decide (segWords (bits h 28 4) = none) || decide (bits h 16 12 ≠ 0) ||
    match bits h 28 4 with
    | 1 => decide (bits h 0 16 = 0)
    | 2 => !hasMaster || decide (w 2 = 0)
    | 3 => !hasMaster || decide (w 2 = 0 ∨ bits (w 1) 16 4 < 4 ∨ 11 < bits (w 1) 16 4 ∨ 4096 < bits (w 1) 0 12 + 2 ^ bits (w 1) 16 4)
    | 7 => !hasMaster || decide (w 1 = 0 ∨ (w 1).toNat * 65536 ≤ (w 2).toNat)
    | 8 => decide (w 1 = 0 ∨ (w 1).toNat * 65536 ≤ (w 2).toNat)
    | _ => false

/-- A word of the segment was popped with tag POISON (R339). -/
def segPoison (ps : List Popped) : Bool := ps.any fun p => decide (p.tag = 4)

/-- A segment that would make v_p non-zero from rest, seen without a pop (R341): a bad or poisoned one never does. A GEAR of ratio 0 does so
while it disengages the ratio `last` of a preceding GEAR (R336). -/
def isStart (ps : List Popped) (hasMaster : Bool) (last : Option (Int × Nat)) : Bool :=
  let ws := ps.map (·.word)
  !(segBad ps hasMaster) && !(segPoison ps) &&
  match bits (listGet ws 0 0) 28 4 with
  | 1 => decide (listGet ws 1 0 ≠ 0) || decide (listGet ws 2 0 ≠ 0)
  | 2 => decide (listGet ws 1 0 ≠ 0) || (decide (listGet ws 3 0 ≠ 0) && match last with | some r => decide (r.1 ≠ 0) | none => false)
  | 3 => true
  | _ => false

/-- The first words that a queue would deliver. -/
def peekWords (s : State) (q k : Nat) : List Popped := (popWords q k s).1

/-- A refused start (R341): PROF_REFUSED, the cause once per refusal, and rest. -/
def refuseStart (n : Nat) (s : State) : State :=
  let p := prof s n
  let s1 := if p.refusedOnce then s else s.cause (Reg.AX n) 19
  ((s1.setProf n { p with refusedOnce := true, seg := .none }).setFlag (Reg.AX_PROF_REFUSED n) 0 true).profTo n 1 0

/-- A bad segment is treated as UNDERRUN (R332). -/
def badSegment (n : Nat) (s : State) : State :=
  profUnderrun n ((s.setProf n { prof s n with badSeg := true }).cause (Reg.AX n) 18)

/-- A segment begins (R331): the segment in progress, its state code and type. -/
def segBegin (n : Nat) (g : Segment) (st type : Nat) (s : State) : State :=
  (s.setProf n { prof s n with seg := g }).profTo n st type

/-- A segment completes (SEG_CNT). -/
def segDone (n : Nat) (s : State) : State := (s.wrapInc (Reg.AX_SEG_CNT n)).setProf n { prof s n with seg := .none }

/-- A MARK (R333). -/
def segMark (n tag : Nat) (s : State) : State :=
  segDone n ((((s.wr (Reg.AX_PROF_MARK n) (wordOf tag)).wr64 (Reg.AX_MARK_IT n 0) (implementTime s))).cause (Reg.AX n) 20)

/-- A good segment's words begin their segment; `m` is the master's position, or the crossing of a SYNC_START (R331 to R338). -/
def startSegment (n : Nat) (ws : List Word) (m : Option Int) (s : State) : State :=
  let h := listGet ws 0 0
  let dur := bits h 0 16
  let w1 := listGet ws 1 0
  let w2 := listGet ws 2 0
  let w3 := listGet ws 3 0
  let p := prof s n
  let last := p.lastRatio
  let s0 := s.setProf n { p with lastRatio := none, badSeg := false, refusedOnce := false }
  match bits h 28 4 with
  | 1 => segBegin n (.pvt p.p p.v (sbits w1 0 32) (sbits w2 0 32) dur 0) 2 1 s0
  | 2 => match m with
    | some x =>
      let (r0n, r0d) := last.getD (0, 1)
      let s1 := s0.setProf n { prof s0 n with lastRatio := some (sbits w1 0 32, w2.toNat) }
      segBegin n (.gear p.p x r0n r0d (sbits w1 0 32) w2.toNat w3.toNat dur 0) 2 2 s1
    | none => badSegment n s0
  | 3 => match m with
    | some x => segBegin n (.cam p.p x (bits w1 16 4) (bits w1 0 12) w2.toNat (sbits w3 0 32) dur) 2 3 s0
    | none => badSegment n s0
  | 4 => if dur = 0 then segDone n (s0.profOut n p.p 0 0) else segBegin n (.dwell dur 0) 2 4 s0
  | 5 => segBegin n .hold 4 5 s0
  | 6 => segMark n dur s0
  | 7 => match m with
    | some x => segBegin n (.sync w1.toNat w2.toNat x) 3 7 s0
    | none => badSegment n s0
  | 8 =>
    if p.v = 0 then segDone n s0
    else
      let a := if w3 = 0 then max 1 (s.rd (Reg.AX_STOP_DECEL n)).toNat else w3.toNat
      segBegin n (.stopPhase p.p p.v a (stopTarget p.p p.v a w1.toNat w2.toNat) 0) 7 8 s0
  | _ => profUnderrun n s0

/-- Takes the segment at the head of a queue, all its words in one evaluation (R331, R332, R339). -/
def takeSegment (n q k : Nat) (m : Option Int) (s : State) : State :=
  let (ps, s1) := popWords q k s
  if segPoison ps then profUnderrun n (s1.cause (Reg.AX n) 17)
  else if segBad ps m.isSome then badSegment n s1
  else startSegment n (ps.map (·.word)) m s1

/-- Up to `fuel` segments are taken at one evaluation until one is in progress (R330). `ended` says that a segment has just ended, so an
empty queue is an underrun. -/
def nextSegments (n : Nat) (m : Option Int) : Nat → Bool → State → State
  | 0, _, s =>
    let p := prof s n
    let d := posOf (velRat p.v * profSeconds s n)
    ((s.profOut n (p.p + d) p.v 0).satInc (Reg.AX_SLIP_CNT n) 0).cause (Reg.AX n) 23
  | fuel + 1, ended, s =>
    match boundCons s (0x80 + n) with
    | none => if ended then profUnderrun n s else s
    | some q => match segReady s q with
      | none => if ended then profUnderrun n s else s
      | some k =>
        if (prof s n).v = 0 && isStart (peekWords s q k) m.isSome (prof s n).lastRatio && (restrictStart s || s.flag (Reg.AX_PROF_REFUSED n) 0) then refuseStart n s
        else
          let s1 := takeSegment n q k m s
          if (prof s1 n).seg = .none ∧ (prof s1 n).dec = none ∧ profState s1 n ≠ 6 ∧ profState s1 n ≠ 1 then nextSegments n m fuel true s1
          else if (prof s1 n).seg = .none ∧ (prof s1 n).dec = none ∧ profState s n = 1 ∧ profState s1 n = 1
              ∧ s1.rd (Reg.AX_SEG_CNT n) ≠ s.rd (Reg.AX_SEG_CNT n) then nextSegments n m fuel false s1
          else s1

/-! ## One evaluation (R328, R330, R333 to R339) -/

/-- The last master point ≡ φ (mod C) passed between two positions, in the direction of travel (R337). -/
def crossingPoint (prev m : Int) (cyc phase : Nat) : Option Int :=
  let per : Int := cyc * 65536
  if prev < m then
    let x := phase + (m - phase) / per * per
    if prev < x then some x else none
  else if m < prev then
    let x := phase - (phase - m) / per * per
    if x < prev then some x else none
  else none

/-- At a crossing, the next segment must be a GEAR or a CAM, and starts with M0 there (R337). -/
def syncCross (n : Nat) (x : Int) (s : State) : State :=
  let s1 := segDone n s
  match boundCons s (0x80 + n) with
  | none => (s1.profTo n 1 0).cause (Reg.AX n) 16
  | some q => match segReady s q with
    | none => (s1.profTo n 1 0).cause (Reg.AX n) 16
    | some k =>
      let ps := peekWords s q k
      let ty := bits (listGet ps 0 ⟨0, 0, false⟩).word 28 4
      if ty ≠ 2 ∧ ty ≠ 3 ∧ segPoison ps = false then badSegment n (popWords q k s1).2
      else if isStart ps true none && (restrictStart s || s.flag (Reg.AX_PROF_REFUSED n) 0) then refuseStart n s1
      else takeSegment n q k (some x) s1

/-- The segment in progress after an evaluation: its outputs delivered, and whether it has ended. -/
def segStep (n : Nat) (m : Option (Int × Int)) (s : State) : State × Bool :=
  let p := prof s n
  let tp := profSeconds s n
  let set (g : Segment) (t : State) : State := t.setProf n { prof t n with seg := g }
  let more := segAvailable s n
  match p.seg with
  | .none => (s, false)
  | .pvt p0 v0 d v1 dur k =>
    let (a, b, c) := pvtAt p0 v0 d v1 dur (k + 1) (tp * dur)
    (set (.pvt p0 v0 d v1 dur (k + 1)) (s.profOut n a b c), decide (dur ≤ k + 1))
  | .gear p0 m0 r0n r0d num den engage dur k =>
    match m with
    | some (x, v) =>
      let (a, r) := gearAt p0 (x - m0) ((r0n : Rat) / (r0d : Rat)) ((num : Rat) / (den : Rat)) engage
      (set (.gear p0 m0 r0n r0d num den engage dur (k + 1)) (s.profOut n a (velOf (velRat v * r)) 0),
       if dur = 0 then more else decide (dur ≤ k + 1))
    | none => (s, true)
  | .cam p0 m0 lg first cyc slave dur =>
    match m with
    | some (x, v) =>
      match camAt n p0 (x - m0) lg first cyc slave s with
      | (some (k, a, r), s1) => (s1.profOut n a (velOf (velRat v * r)) 0, if dur = 0 then more else decide ((dur : Int) ≤ k))
      | (none, s1) => (profUnderrun n s1, false)
    | none => (s, true)
  | .dwell dur k => (set (.dwell dur (k + 1)) (s.profOut n p.p 0 0), decide (dur ≤ k + 1))
  | .hold => (s.profOut n p.p 0 0, more)
  | .sync cyc ph prev =>
    match m with
    | some (x, _) =>
      let s1 := s.profOut n p.p 0 0
      match crossingPoint prev x cyc ph with
      | some c => (syncCross n c s1, false)
      | none => (set (.sync cyc ph x) s1, false)
    | none => (s, true)
  | .stopPhase p0 v0 a tgt k =>
    let (x, v, acc, rest) := stopPhaseAt p0 v0 a tgt (tp * (k + 1))
    let s1 := s.profOut n x v acc
    if rest then ((segDone n s1).profTo n 1 0 |>.cause (Reg.AX n) 22, false)
    else (set (.stopPhase p0 v0 a tgt (k + 1)) s1, false)

/-- A deceleration at an evaluation (R339, R340). -/
def decStep (n : Nat) (d : Decel) (s : State) : State :=
  let (x, v, a, rest) := d.at (profSeconds s n * (d.k + 1))
  let s1 := s.profOut n x v a
  if rest then profRest n d.ends s1 else s1.setProf n { prof s1 n with dec := some { d with k := d.k + 1 } }

/-- The evaluation of axis `n` in its profile sample (R328, R330). A unit that has no segment and is not READY has slipped: its segments go
on, and an empty queue is an underrun (R330, R339). Its outputs are latched at once: R329 gives the latch an upper bound only (log entry 58). -/
def profEval (n : Nat) (s : State) : State :=
  live (0x80 + n) (fun s =>
  let st := profState s n
  let (m, s1) := masterAt s n
  let s2 := match m with
    | some (x, _) => s1.wr64 (Reg.AX_M n 0) (lowBits 64 x)
    | none => s1
  let s3 := s2.wr (Reg.AX_PROF_TP n) (wordOf (profTp s n))
  match (prof s3 n).dec with
  | some d => decStep n d s3
  | none =>
    if st = 0 ∨ st = 8 then s3.profOut n (prof s3 n).p 0 0
    else if (prof s3 n).seg = .none then nextSegments n (m.map Prod.fst) 4 (decide (st ≠ 1)) s3
    else
      let (s4, ended) := segStep n m s3
      if ended then nextSegments n (m.map Prod.fst) 4 true (segDone n s4) else s4) s

/-- The Profile Unit starts with its axis: READY at the captured position (R310, R328). -/
def profEnable (n : Nat) (p : Int) (s : State) : State :=
  let old := prof s n
  (((s.setProf n { vmP0 := old.vmP0, vmRate := old.vmRate, vmT0 := old.vmT0, p := p }).wr (Reg.AX_SP_VEL n) 0).wr (Reg.AX_SP_ACC n) 0).profTo
    n 1 0

/-! ## Register accesses of the Profile Unit -/

/-- A write to PROF_CMD (R340). -/
def profCmdWrite (m : Master) (n : Nat) (v : Word) (s : State) : State :=
  let s1 := s.consumeKey (0x80 + n) m
  if !(axisLive s n) then s1
  else
    let s2 := if bit v 0 then profStop n (s.rd (Reg.AX_STOP_DECEL n)).toNat .stopped s1 else s1
    if bit v 1 && decide (profState s2 n = 8) then s2.profTo n 1 0 else s2

/-- A W1C write to PROF_REFUSED (R341). -/
def profRefusedWrite (m : Master) (n : Nat) (v : Word) (s : State) : State :=
  regWrite (defOf .ax 0x10C) (Reg.AX_PROF_REFUSED n) m v
    (fun v s => if bit v 0 && !(restrictStart s) then
      (s.wr (Reg.AX_PROF_REFUSED n) 0).setProf n { prof s n with refusedOnce := false } else s) s

/-- A write to PROF_CFG (R334). -/
def profCfgWrite (m : Master) (n : Nat) (v : Word) (s : State) : State :=
  let a := Reg.AX_PROF_CFG n
  let d := defOf .ax 0x100
  regWrite d a m v
    (fun v s =>
      let w := storeValue d (s.rd a) v
      let src := bits w 4 3
      let k := bits w 0 4
      if axisOn s n then s.blockError a 0x01 m
      else if 4 ≤ src then s.blockError a 0x02 m
      else if src ≠ 0 ∧ (axesOf s.variant ≤ k ∨ (src = 2 ∧ k = n)) then s.blockError a 0x05 m
      else s.wr a w) s

/-- A write to a Profile Unit or virtual master register of an AX page, 0x100 to 0x1FF. -/
def profWrite (d : RegDef) (a : Nat) (m : Master) (v : Word) (s : State) : State :=
  let n := a / 0x1000 % 0x10
  match d.off with
  | 0x100 => profCfgWrite m n v s
  | 0x104 => profCmdWrite m n v s
  | 0x10C => profRefusedWrite m n v s
  | 0x110 | 0x114 => checkedWrite d a 0x02 m v (fun w => decide (w ≠ 0)) s
  | 0x184 => vmLoadWrite m n v s
  | _ => genericWrite .ax d a m v s

/-- A read of a Profile Unit register whose value is not stored (R328, R335). -/
def profRead (d : RegDef) (k a : Nat) (s : State) : Option (Word × State) :=
  let n := a / 0x1000 % 0x10
  let p := prof s n
  let vm := lowBits 64 (vmAt p (implementTime s))
  match d.off, k with
  | 0x118, _ => some (wordOf (profTp s n), s)
  | 0x120, _ => some (wordOf (lowBits 64 p.p), s.setProf n { p with snapHi := some (hiWord (lowBits 64 p.p)) })
  | 0x124, _ => some (p.snapHi.getD (hiWord (lowBits 64 p.p)), s)
  | 0x19C, 0 => some (wordOf vm, s)
  | 0x19C, _ => some (hiWord vm, s)
  | _, _ => none

/-! ## Position latches (R342 to R344) -/

/-- A latch input beyond its registers. -/
def latIn (s : State) (k : Nat) : LatIn := tabGet s.lats k {}

/-- Sets a latch input. -/
def State.setLat (s : State) (k : Nat) (l : LatIn) : State := { s with lats := tabPut s.lats k l {} }

/-- A transition is lost (R342, R344). -/
def latLost (k : Nat) (s : State) : State := (s.satInc (Reg.LAT_LOST_CNT k) 0).cause Reg.LAT (16 + k)

/-- Positions of the AXSEL entries at an instant, as words 4 to 11 of a record (R343). -/
def latPositions (s : State) (k : Nat) (t : Int) : List Word :=
  (List.range 4).flatMap fun j =>
    let e := s.fld (Reg.LAT_AXSEL k) (8 * j) 8
    if 128 ≤ e then
      let u := lowBits 64 (posAt s (e % 16) t)
      [wordOf u, hiWord u]
    else [0, 0]

/-- The record of a latch instant (R343). -/
def latRecord (s : State) (k : Nat) (rising : Bool) (t : Int) : LatRecord :=
  let (tick, it, _, _) := timesBefore s (rootNow s - t)
  let mask := (List.range 4).foldl (fun acc j => if s.flag (Reg.LAT_AXSEL k) (8 * j + 7) then acc + 2 ^ j else acc) 0
  let w0 := (if rising then 0x80000000 else 0) + 0x1000000 * k + 0x10000 * mask + s.fld (Reg.LAT_SEQ k) 0 16
  { words := [wordOf w0, wordOf tick, wordOf it, hiWord it] ++ latPositions s k t }

/-- The edges of an input that EDGE selects (R342). -/
def latSelected (s : State) (k : Nat) (rising : Bool) : Bool :=
  match s.fld (Reg.LAT_CFG k) 28 2 with | 0 => rising | 1 => !rising | _ => true

/-- A transition that ends less than FILT samples after the last accepted one does not pass the filter (R342). -/
def latPasses (s : State) (k : Nat) (t : Int) : Bool :=
  match (latIn s k).last with
  | some p => decide ((s.fld (Reg.LAT_CFG k) 16 5 : Nat) * encSample s ≤ t - p)
  | none => true

/-- The latch instant of a transition that reached the ball at a root instant: less SKEW, and to 40 ns in EASY (R342, R343). -/
def latchInstant (s : State) (k : Nat) (ball : Int) : Int :=
  let raw := ball - s.sfld (Reg.LAT_CFG k) 0 8
  if s.fld Reg.PWR_STATE 0 3 = 2 then raw / 32 * 32 else raw

/-- A transition of a latch input that reached its ball `back` root periods before the present TICK (R342, R343). The input's level follows
whether or not the input captures. -/
def latchEdge (k : Nat) (level : Bool) (back : Nat) (s : State) : State :=
  let l := latIn s k
  let ball := rootNow s - back
  if k < 16 ∧ busUp s ∧ l.level ≠ level ∧ latPasses s k ball then
    let s1 := s.setLat k { l with level := level, last := some ball }
    if !(s.flag (Reg.LAT + 0x008) 0) || !(s.flag (Reg.LAT_CFG k) 31) || !(latSelected s k level) then s1
    else
      let t := latchInstant s k ball
      let near := match l.last with | some p => decide (ball - p < 32) | none => false
      if near || decide (4 ≤ l.fifo.length) then latLost k s1
      else
        let s3 := s1.setLat k { latIn s1 k with fifo := l.fifo ++ [latRecord s1 k level t] }
        (s3.setFld (Reg.LAT_SEQ k) 0 16 (s3.fld (Reg.LAT_SEQ k) 0 16 + 1)).cause Reg.LAT k
  else s

/-- Drops the oldest record of an input. -/
def latDrop (k : Nat) (s : State) : State := s.setLat k { latIn s k with fifo := (latIn s k).fifo.drop 1 }

/-- An input pushes its oldest record to its queue once the queue has room for all of it (R344). -/
def latRecordPush (k : Nat) (s : State) : State :=
  match (latIn s k).fifo, boundProd s (0x10 + k) with
  | r :: _, some q =>
    if k < 16 ∧ busUp s ∧ s.flag (Reg.LAT_CFG k) 24 then
      if qRoom s q (if s.flag (qAddr q 0x10) 1 then 13 else 12) then latDrop k (qPushRecord q r.words s)
      else if s.flag (qAddr q 0x10) 2 then latLost k (latDrop k s) else s
    else s
  | _, _ => s

/-- The AXSEL entries name present ENCs (R343). -/
def axselOk (v : Variant) (w : Word) : Bool :=
  (List.range 4).all fun j => !(bit w (8 * j + 7)) || decide (bits w (8 * j) 4 < axesOf v)

/-- A write to a register of the LAT page from offset 0x040 upward. -/
def latPageWrite (d : RegDef) (k a : Nat) (m : Master) (v : Word) (s : State) : State :=
  let on := s.flag (Reg.LAT_CFG k) 31
  match d.off with
  | 0x100 =>
    runningWrite d a 0x02 m v on (fun w s => s.wr a w)
      (fun v s =>
        let w := storeValue d (s.rd a) v
        if bits w 28 2 = 3 ∨ 16 < bits w 16 5 then s.blockError a 0x03 m else s.wr a w) s
  | 0x104 =>
    regWrite d a m v
      (fun v s =>
        let w := storeValue d (s.rd a) v
        if on then s.blockError a 0x02 m else if axselOk s.variant w then s.wr a w else s.blockError a 0x01 m) s
  | 0x110 =>
    let s1 := s.consumeKey 0xD0 m
    if bit v 0 then latDrop k s1 else s1
  | _ => genericWrite .lat d a m v s

/-- A read of a LAT register whose value is not stored (R343, R344). -/
def latPageRead (d : RegDef) (k _ : Nat) (_ : Master) (s : State) : Option (Word × State) :=
  let l := latIn s k
  if d.off = 0x108 then some (wordOf (l.fifo.length * 0x100 + (if l.level then 1 else 0)), s)
  else if 0x120 ≤ d.off ∧ d.off ≤ 0x14C then
    some ((match l.fifo with | r :: _ => listGet r.words ((d.off - 0x120) / 4) 0 | [] => 0), s)
  else none

/-! ## The commands -/

/-- PROF_STOP (R340). -/
def execProfStop (m : Master) (n : Nat) (s : State) : Answer :=
  .next (if n < 16 then regRow m (Reg.AX_PROF_CMD n) (profCmdWrite m n 1) s else s)
/-- PROF_GO (R340). -/
def execProfGo (m : Master) (n : Nat) (s : State) : Answer :=
  .next (if n < 16 then regRow m (Reg.AX_PROF_CMD n) (profCmdWrite m n 2) s else s)
/-- PROF_REFUSED_CLEAR (R341). -/
def execProfRefusedClear (m : Master) (n : Nat) (s : State) : Answer :=
  .next (if n < 16 then regRow m (Reg.AX_PROF_REFUSED n) (profRefusedWrite m n 1) s else s)
/-- VM_LOAD (R335). -/
def execVmLoad (m : Master) (n : Nat) (s : State) : Answer :=
  .next (if n < 16 then regRow m (Reg.AX_VM_LOAD n) (vmLoadWrite m n 1) s else s)
/-- LAT_RECORD_PUSH (R344). -/
def execLatRecordPush (k : Nat) (s : State) : Answer := .next (live 0xD0 (latRecordPush k) s)
/-- LAT_NEXT (R344). -/
def execLatNext (m : Master) (k : Nat) (s : State) : Answer :=
  .next (if k < 16 then regRow m (Reg.LAT_NEXT k) (latPageWrite (defOf .lat 0x110) k (Reg.LAT_NEXT k) m 1) s else s)

end Sys2Proof.Machine
end

