-- ==== Sys2Proof/Machine/Sense.lean ====
section
/-! DEFINITION. Converters, sequencer, sigma-delta inputs, reference triad and die temperature (spec/12_sensing.md R249 to R265). -/

namespace Sys2Proof.Machine

/-- An ADC core and a sigma-delta input beyond their registers. -/
def adc (s : State) (k : Nat) : Adc := tabGet s.adcs k {}
def State.setAdc (s : State) (k : Nat) (c : Adc) : State := { s with adcs := tabPut s.adcs k c {} }
def sdm (s : State) (k : Nat) : Sdm := tabGet s.sdms k {}
def State.setSdm (s : State) (k : Nat) (c : Sdm) : State := { s with sdms := tabPut s.sdms k c {} }

/-- Cores, SDM and ADCSEQ run in ROW and PADDLE (R272). -/
def senseRuns (s : State) : Bool := busUp s && decide (s.fld Reg.PWR_STATE 0 3 ≤ 1)

/-- A present and enabled core; an enabled sequencer; an enabled sigma-delta input. -/
def adcOn (s : State) (k : Nat) : Bool := decide (k < adcsOf s.variant) && s.flag (Reg.ADC k + 0x008) 0
def seqOn (s : State) : Bool := s.flag (Reg.ADCSEQ + 0x008) 0
def sdmOn (s : State) (k : Nat) : Bool :=
  decide (k < sdmsOf s.variant) && s.flag (Reg.SDM + 0x008) 0 && s.flag (Reg.SDM_CFG k) 31
    && decide (1 ≤ s.fld Reg.SDM_CLK_CFG 0 3)

/-! ## Calibration and delivery (R250, R251, R253) -/

/-- A channel converts unipolar: its UNI, and always channels 8 to 13 (R250). -/
def unipolar (s : State) (k ch : Nat) : Bool := decide (8 ≤ ch) || s.flag (Reg.ADC_CAL_GAIN k ch) 31

/-- The raw value of a code, placed in bits [23:12] of a Q1.23 number (R250): a two's complement number of 12 bits, which a unipolar
conversion never has negative (log entry 109). -/
def rawValue (s : State) (k ch : Nat) (code : Int) : Int :=
  (if unipolar s k ch then clampI 0 2047 code else satS 12 code) * 4096

/-- The calibrated result of a raw code (R250, R251): the value and whether it was limited. The factory trims are the selected
reference's. -/
def adcResult (k ch : Nat) (code : Int) (s : State) : (Int × Bool) × State :=
  if 14 ≤ ch then ((0, false), s)
  else
    let t := Config.adcTrim k s.sense.selNow ch (rawValue s k ch code)
    if 8 ≤ ch then ((satS 24 t, decide (satS 24 t ≠ t)), s)
    else
      let x : Rat := ((t - s.sfld (Reg.ADC_CAL_OFS k ch) 0 24 : Int) : Rat) * (s.fld (Reg.ADC_CAL_GAIN k ch) 0 16 : Nat) / 0x8000
      let (v, s1) := s.narrow x
      ((satS 24 v, decide (satS 24 v ≠ v)), s1)

/-- A result is written to an input of an axis slot and marked fresh, 4 SYS cycles from now (R253). -/
def leDeliver (le slot input : Nat) (v : Int) (s : State) : State :=
  let n := 8 * le + slot
  let x := ax s n
  s.setAx n { x with inputs := listSet x.inputs input v, freshAt := s.now + 4, fresh := if x.fresh.contains input then x.fresh else input :: x.fresh }

/-- The word of a result: value in [23:0] and SAT in [24]. -/
def resultWord (v : Int) (sat : Bool) : Word := putBit (wordOf (lowBits 24 v)) 24 sat

/-! ## The reference monitor (R256, R261, R262, R264) -/

/-- A list in ascending order. -/
def sortInsert (x : Int) : List Int → List Int
  | [] => [x]
  | y :: r => if x ≤ y then x :: y :: r else y :: sortInsert x r

/-- The median; of an even number of values, the mean of the middle two (R256, log entry 25). -/
def median (l : List Int) : Rat :=
  let t := l.foldr sortInsert []
  let n := t.length
  if n % 2 = 1 then ((listGet t (n / 2) 0 : Int) : Rat) else ((listGet t (n / 2 - 1) 0 + listGet t (n / 2) 0 : Int) : Rat) / 2

/-- The enabled cores. -/
def enabledCores (s : State) : List Nat := (List.range 12).filter (adcOn s)

/-- A core fails or passes: the cause latches where it fails anew (R256). -/
def coreVerdict (k : Nat) (bad : Bool) (s : State) : State :=
  (s.causeIf (bad && !(s.flag Reg.ADCSEQ_CORE_FAIL k)) (Reg.ADC k) 2).setFlag Reg.ADCSEQ_CORE_FAIL k bad

/-- The verdict of a completed round on each core that took part in it (R256, log entry 111): its unselected-reference result against the
median. -/
def coreVerdicts (cores : List Nat) (s : State) : State :=
  let med := median (cores.map fun k => (adc s k).unsel)
  let tol := s.fld Reg.ADCSEQ_CORE_TOL 0 16
  cores.foldl
    (fun t k => coreVerdict k (decide ((tol : Rat) * med.abs < (((adc s k).unsel : Rat) - med).abs * 10000)) t) s

/-- A core that has completed no round for 1 ms, since its enable, the sequencer's or the end of a halt, fails (R256, R272). -/
def coresLate (s : State) : State :=
  if senseRuns s && seqOn s then
    ((enabledCores s).filter fun k => decide (max (adc s k).lastRound s.sense.seqFrom + 200000 < s.now)).foldl
      (fun t k => coreVerdict k true t) s
  else s

/-- A condition of REF whose rising edge latches a cause. -/
def risingCause (was is : Bool) (base k : Nat) (s : State) : State := s.causeIf (is && !was) base k

/-- The ratio b/c in units of 0.01% less 100%. -/
def relUnits (b c : Rat) : Rat := (b / c - 1) * 10000

/-- The instantaneous deviation is beyond TH_ABS: STEP's condition (R262). -/
def refStep (s : State) : Bool := decide (s.fld Reg.REF_TH_ABS 0 16 < (s.sfld Reg.REF_INST 0 16).natAbs)

/-- INST and C_DEV of a completed round, from the cores that took part in it and passed (R256, R261): with VREF_A selected, a core reads B / (2A)
and C / (2A), with VREF_B selected A / (2B) and C / (2B). A VREF_C result of 0 leaves C_DEV without a stated value, and a free value stands there.
-/
def refRound (took : List Nat) (s : State) : State :=
  let cores := took.filter fun k => !(s.flag Reg.ADCSEQ_CORE_FAIL k)
  if cores = [] then s
  else
    let u := median (cores.map fun k => (adc s k).unsel)
    let c := median (cores.map fun k => (adc s k).vrefC)
    let half : Rat := 0x400000
    let r := u / half
    let x : Rat := if s.sense.selNow = 1 then (r - 1) * 10000 else (1 - r) * 10000
    let (i, s1) := s.narrow x
    let s2 := (s1.publish 0x1A4 (s1.sfld Reg.REF_INST 0 32)).wr Reg.REF_INST (wordOf (lowBits 16 (satS 16 i)))
    let s3 := risingCause (refStep s) (refStep s2) Reg.REF 2 s2
    let s4 := { s3 with sense := { s3.sense with xSum := s3.sense.xSum + x, xCount := s3.sense.xCount + 1 } }
    let wasC := cRange s4
    let (ac, bc, s5) : Int × Int × State :=
      if c = 0 then
        let (f, t) := s4.freeIn (-32768) 32767
        let (g, t') := t.freeIn (-32768) 32767
        (f, g, t')
      else
        let (f, t) := s4.narrow (if s.sense.selNow = 1 then relUnits u c else relUnits half c)
        let (g, t') := t.narrow (if s.sense.selNow = 1 then relUnits half c else relUnits u c)
        (satS 16 f, satS 16 g, t')
    let s6 := s5.wr Reg.REF_C_DEV (wordOf (lowBits 16 ac * 0x10000 + lowBits 16 bc))
    risingCause wasC (cRange s6) Reg.REF 3 s6

/-- The core of a round that has converted channel 11 as the appended one (R264). -/
def extCore (took : List Nat) (s : State) : Option Nat :=
  if s.flag Reg.REF_EXT_CFG 31 then s.sense.ext.filter took.contains else none

/-- The check of the external reference after a round in which its core converted it (R264). -/
def extCheck (took : List Nat) (s : State) : State :=
  match extCore took s with
  | some k =>
    let v := s.sfld (Reg.ADC_RES k 11) 0 24
    let x := s.fld Reg.REF_EXT_EXP 0 24
    let far := decide (s.fld Reg.REF_EXT_TOL 0 16 * x < (v - x).natAbs * 10000)
    let s1 := risingCause s.sense.extFar far Reg.REF 4 (s.wr Reg.REF_EXT_VAL (wordOf (lowBits 24 v)))
    { s1 with sense := { s1.sense with extFar := far } }
  | none => { s with sense := { s.sense with extFar := false } }

/-! ## Rounds (R255) -/

/-- The codes of a list up to the first 0xF. -/
def listCodes (w : Word) : List Nat := ((List.range 8).map fun j => bits w (4 * j) 4).takeWhile (· != 15)

/-- What a core converts in a round: its list, channel 11 where REF.EXT_CFG names the core, the unselected reference and VREF_C. -/
def roundList (s : State) (k : Nat) : List Nat :=
  let e := s.rd Reg.REF_EXT_CFG
  listCodes (s.rd (Reg.ADCSEQ_LIST k)) ++ (if bit e 31 && decide (bits e 0 4 = k) then [11] else [])
    ++ [if s.sense.selNow = 1 then 8 else 9, 10]

/-- A free core takes its next sequencer channel: one that was abandoned first (R254). -/
def adcNext (k : Nat) (s : State) : State :=
  let c := adc s k
  if c.work ≠ .idle then s
  else match c.again, c.todo with
    | some ch, _ => s.setAdc k { c with work := .seq ch, since := 4 * s.now, again := none }
    | none, ch :: r => s.setAdc k { c with work := .seq ch, since := 4 * s.now, todo := r }
    | none, [] => s

/-- The core has converted all of its round. -/
def coreDone (c : Adc) : Bool :=
  (match c.work with | .seq _ => false | _ => true) && decide (c.again = none) && decide (c.todo = [])

/-- A round starts on every enabled core; the reference that REF.SEL names is taken (R255, R263). With no core enabled there is
nothing to convert and no round. -/
def roundStart (s : State) : State :=
  let s1 := { s with sense := { s.sense with selNow := s.fld Reg.REF_SEL 0 1 } }
  let cores := enabledCores s1
  if cores = [] then s1
  else cores.foldl (fun t k => adcNext k (t.setAdc k { adc t k with todo := roundList t k, inRound := true }))
    { s1 with sense := { s1.sense with inRound := true, late := false
                                       ext := if s1.flag Reg.REF_EXT_CFG 31 then some (s1.fld Reg.REF_EXT_CFG 0 4) else none } }

/-- The round completes when every enabled core that takes part has finished (R255, R256, R257, R261). One whose last core has been disabled
ends without completing (log entry 111). -/
def roundCheck (s : State) : State :=
  let cores := (enabledCores s).filter fun k => (adc s k).inRound
  if !s.sense.inRound then s
  else if cores = [] then { s with sense := { s.sense with inRound := false, late := false } }
  else if cores.all (fun k => coreDone (adc s k)) then
    let s1 := cores.foldl (fun t k => t.setAdc k { adc t k with inRound := false, lastRound := s.now }) s
    let s2 := { (s1.wrapInc Reg.ADCSEQ_ROUND_CNT).cause Reg.ADCSEQ 0 with
                  sense := { s1.sense with inRound := false, late := false, lastRound := s.now, blind := false } }
    let s3 := extCheck cores (refRound cores (coreVerdicts cores s2))
    if s.sense.late then roundStart s3 else s3
  else s

/-- A round is due every ROUND_PERIOD µs, counted from the start before (R255). -/
def seqRoundStart (s0 : State) : State :=
  if senseRuns s0 && seqOn s0 && decide (s0.sense.nextRound ≤ s0.now) then
    let s := { s0 with sense := { s0.sense with nextRound := s0.now + s0.fld Reg.ADCSEQ_ROUND_PERIOD 0 16 * 200 } }
    if s.sense.inRound then
      { ((s.satInc Reg.ADCSEQ_LATE_CNT 0).cause Reg.ADCSEQ 1) with sense := { s.sense with late := true } }
    else roundStart s
  else s0

/-- A sequencer result lands in RESc with the round count; the references are kept for the end of the round (R255). -/
def seqResult (k ch : Nat) (v : Int) (sat : Bool) (s : State) : State :=
  let w := putBits (resultWord v sat) 28 4 (s.fld Reg.ADCSEQ_ROUND_CNT 0 4)
  let s0 := if ch < 8 then s.publish (0x010 + 8 * k + ch) (s.sfld (Reg.ADC_RES k ch) 0 24) else s
  let s1 := s0.wr (Reg.ADC_RES k ch) w
  let c := adc s1 k
  let unsel := if s.sense.selNow = 1 then 8 else 9
  s1.setAdc k { c with unsel := if ch = unsel then v else c.unsel, vrefC := if ch = 10 then v else c.vrefC }

/-- A direct result goes to its LE input or to TRESn (R253). -/
def directResult (k j : Nat) (v : Int) (sat : Bool) (s : State) : State :=
  let t := s.rd (Reg.ADC_TRIG k j)
  if bit t 30 then leDeliver (bits t 29 1) (bits t 26 3) (bits t 24 2) v s else s.wr (Reg.ADC_TRES k j) (resultWord v sat)

/-- The hold instant of the conversion in hand of a core, in root periods: APERTURE × 20 ns after its start, or after its compare and moved
by the channel's SKEW (R252). Spread never moves it. -/
def holdInstant (s : State) (k : Nat) : Int :=
  let skew : Int := match (adc s k).work with
    | .direct _ ch => if ch < 8 then s.sfld (Reg.ADC_CAL_GAIN k ch) 24 5 else 0
    | _ => 0
  (adc s k).since + 16 * s.fld (Reg.ADC_CFG k) 0 5 + skew

/-- The conversion in hand has had its 13 ADC_CLK cycles from the hold instant, which spread only lengthens (R77, R252). -/
def converted (s : State) (k : Nat) : Bool := decide (holdInstant s k + 13 * 16 ≤ 4 * s.now)

/-- The conversion in hand of a core completes with a raw code (R251, R253, R255). -/
def conversionDone (k : Nat) (code : Int) (s : State) : State :=
  if senseRuns s && adcOn s k && converted s k then
    match (adc s k).work with
    | .idle => s
    | .seq ch =>
      let ((v, sat), s1) := adcResult k ch code s
      let s2 := seqResult k ch v sat ((s1.setAdc k { adc s1 k with work := .idle }).causeIf sat (Reg.ADC k) 1)
      roundCheck (adcNext k s2)
    | .direct j ch =>
      let ((v, sat), s1) := adcResult k ch code s
      let s2 := directResult k j v sat ((s1.setAdc k { adc s1 k with work := .idle }).causeIf sat (Reg.ADC k) 1)
      roundCheck (adcNext k s2)
  else s

/-! ## Direct triggers (R252, R254) -/

/-- A trigger that finds a direct conversion on its core is refused (R254). -/
def adcOverrun (k : Nat) (s : State) : State := (s.satInc (Reg.ADC_OVERRUN k) 0).cause (Reg.ADC k) 0

/-- Direct slot `j` of core `k` is triggered at an instant in root periods (R252, R254): it takes its core from the sequencer; of two triggers of
one cycle the lower slot is served. -/
def directTrigger (k j : Nat) (at_ : Int) (s : State) : State :=
  if adcOn s k && !(frozen s (0xB0 + k)) then
    let c := adc s k
    let ch := s.fld (Reg.ADC_TRIG k j) 0 4
    let take (t : State) : State := t.setAdc k { adc t k with work := .direct j ch, since := at_ }
    match c.work with
    | .idle => take s
    | .seq old => take ((s.satInc (Reg.ADC_PREEMPT k) 0).setAdc k { c with again := some old })
    | .direct i _ => if c.since / 4 = at_ / 4 ∧ j < i then take (adcOverrun k s) else adcOverrun k s
  else s

/-- A synchronised sigma-delta window restarts; one that had not completed counts as an overrun (R259). -/
def sdmRestart (k : Nat) (at_ : Int) (s : State) : State :=
  if sdmOn s k && !(frozen s 0xBC) then
    let q := sdm s k
    s.setSdm k { q with winStart := some at_, overruns := if q.winStart = none then q.overruns else min 0xFFFF (q.overruns + 1) }
  else s

/-- The converter triggers that extra compare `k` of PWM `n` drives at an instant in root periods (R252, R259). -/
def xcmpTriggers (n k : Nat) (at_ : Int) (s : State) : State :=
  if senseRuns s then
    let slots := (List.range 12).flatMap fun c => (List.range 4).map fun j => (c, j)
    let s1 := slots.foldl
      (fun t p =>
        let w := t.rd (Reg.ADC_TRIG p.1 p.2)
        if bit w 31 && decide (bits w 16 4 = n) && decide (bits w 12 2 = k) then directTrigger p.1 p.2 at_ t else t) s
    (List.range 16).foldl
      (fun t i =>
        let w := t.rd (Reg.SDM_CFG i)
        if bit w 31 && bit w 30 && decide (bits w 16 4 = n) && decide (bits w 12 2 = k) then sdmRestart i at_ t else t) s1
  else s

/-- A core is disabled: what it has in hand is discarded, and the round goes on without it (R62, corner case of R253). -/
def adcDisable (k : Nat) (s : State) : State :=
  roundCheck (s.setAdc k { adc s k with work := .idle, again := none, todo := [], inRound := false })

/-- A core is enabled: its millisecond without a round counts from here (R256). -/
def adcEnable (k : Nat) (s : State) : State := s.setAdc k { adc s k with lastRound := s.now }

/-- The sequencer is enabled: its rounds and the millisecond of R256 count from here. -/
def seqEnable (s : State) : State := { s with sense := { s.sense with nextRound := s.now, seqFrom := s.now } }

/-- The sequencer is disabled: the round in progress is dropped. -/
def seqDisable (s : State) : State :=
  let s1 := (List.range 12).foldl
    (fun t k => let c := adc t k
      t.setAdc k { c with work := (match c.work with | .seq _ => .idle | w => w), again := none, todo := [], inRound := false }) s
  { s1 with sense := { s1.sense with inRound := false, late := false } }

/-! ## REF and TEMP (R257, R261 to R263, R265) -/

/-- No round for 10 ms in RUN (R257). -/
def refBlind (s : State) : State :=
  if coxState s = 3 ∧ s.sense.lastRound + 2000000 ≤ s.now then
    { (s.causeIf (!s.sense.blind) Reg.REF 5) with sense := { s.sense with blind := true } }
  else s

/-- A threshold with a hysteresis of `hyst` units (R262, R265). -/
def withHyst (was : Bool) (v th hyst : Rat) : Bool := if th ≤ v then true else if v ≤ th - hyst then false else was

/-- The update of DIFF at each millisecond, and its lines (R261, R262). -/
def refDiffUpdate (s : State) : State :=
  if senseRuns s then
    let q := s.sense
    let diff := if q.xCount = 0 then q.diff else q.diff + (q.xSum / (q.xCount : Rat) - q.diff) / 1000
    let (i, s1) := s.narrow diff
    let warn := withHyst q.warn diff.abs (s.fld Reg.REF_TH_DRIFT 0 16) 10
    let drift := withHyst q.drift diff.abs (s.fld Reg.REF_TH_DRIFT 16 16) 10
    let s2 := risingCause q.drift drift Reg.REF 1 (risingCause q.warn warn Reg.REF 0 ((s1.publish 0x1A5 (s1.sfld Reg.REF_DIFF 0 32)).wr Reg.REF_DIFF (wordOf (lowBits 16 (satS 16 i)))))
    { s2 with sense := { s2.sense with diff := diff, warn := warn, drift := drift, xSum := 0, xCount := 0 } }
  else s

/-- A write to REF.SEL: only in SAFE (R263). -/
def refSelWrite (m : Master) (v : Word) (s : State) : State :=
  checkedWrite (defOf .ref 0x040) Reg.REF_SEL 0x01 m v (fun _ => decide (coxState s = 2)) s

/-- The four die sensors are read (R265). With every sensor excluded MAX has no stated value: a free value stands there. -/
def tempUpdate (ts : List Int) (s : State) : State :=
  if busUp s then
    let med := median ts
    let bad := ts.map fun (t : Int) => decide (320 < ((t : Rat) - med).abs)
    let mask := (List.range 4).foldl (fun acc k => if listGet bad k false then acc + 2 ^ k else acc) 0
    let old := s.fld Reg.TEMP_TSTAT 0 4
    let good := (ts.zip bad).filterMap fun p => if p.2 then none else some p.1
    let (mx, s0) := match good with
      | [] => s.freeIn (-32768) 32767
      | g :: r => (r.foldl max g, s)
    let s1 := (List.range 4).foldl (fun t k => (t.publish (0x1A0 + k) (t.sfld (Reg.TEMP_T k) 0 32)).wr (Reg.TEMP_T k) (wordOf (lowBits 16 (listGet ts k 0)))) s0
    let s2 := ((s1.wr Reg.TEMP_TSTAT (wordOf mask)).wr Reg.TEMP_MAX (wordOf (lowBits 16 mx))).causeIf
      (decide (mask &&& (15 - old) ≠ 0)) Reg.TEMP 2
    let warn := withHyst s.sense.tWarn mx (s.sfld Reg.TEMP_TH 0 16) 80
    let high := withHyst s.sense.tHigh mx (s.sfld Reg.TEMP_TH 16 16) 80 || decide (2 ≤ (bad.filter id).length)
    let s3 := risingCause s.sense.tHigh high Reg.TEMP 1 (risingCause s.sense.tWarn warn Reg.TEMP 0 s2)
    let s4 := { s3 with sense := { s3.sense with tWarn := warn, tHigh := high } }
    tamperDetect 3 (ts.any fun t => decide (t < -800) || decide (2560 < t)) s4
  else s

/-! ## Sigma-delta inputs (R258 to R260) -/

/-- The comparator filter of an input is compared with its thresholds; a trip source that turns active trips its PWMs (R260,
R282). -/
def sdmCompare (k : Nat) (fast : Int) (s : State) : State :=
  if s.flag (Reg.SDM_CFG k) 29 then
    let q := sdm s k
    let hi := decide (s.sfld (Reg.SDM_CMP k) 16 16 < fast)
    let lo := decide (fast < s.sfld (Reg.SDM_CMP k) 0 16)
    let s1 := risingCause q.lo lo Reg.SDM 2 (risingCause q.hi hi Reg.SDM 1 (s.setSdm k { q with hi := hi, lo := lo }))
    (List.range (axesOf s.variant)).foldl
      (fun t n =>
        let src := t.rd (Reg.PWM_TRIP_SRC n)
        if (bit src (16 + k) && hi && !q.hi) || (bit src k && lo && !q.lo) then pwmTripNow n t else t) s1
  else s.setSdm k { sdm s k with hi := false, lo := false }

/-- The oversampling ratio of an input (the field table of CFGk). -/
def sdmOsr (s : State) (k : Nat) : Nat := 16 * 2 ^ s.fld (Reg.SDM_CFG k) 8 3

/-- Root periods of a modulator clock: 10, 12.5, 20 and 25 MHz for the codes 1 to 4 of FREQ (R258). -/
def sdmPeriod (s : State) : Nat := listGet [0, 80, 64, 40, 32] (s.fld Reg.SDM_CLK_CFG 0 3) 0

/-- Ones density d as 2d − 1 in a number of `n` bits, where a filter whose weights add up to 2^`e` has counted `ones` (R258). -/
def densityValue (n e ones : Nat) : Int := satS n ((min ones (2 ^ e) : Nat) * 2 ^ (n - e) - 2 ^ (n - 1))

/-- An output counts (R259): with SYNC 1 the first that has settled, 3 × OSR modulator clocks after the compare; with SYNC 0 every one, OSR
clocks apart. The input is sampled DLY root periods after the clock's edge (R258). -/
def sdmSettled (s : State) (k : Nat) : Bool :=
  let q := sdm s k
  let len := sdmOsr s k * sdmPeriod s
  if s.flag (Reg.SDM_CFG k) 30 then
    match q.winStart with
    | some t => decide (t + 3 * len + s.fld Reg.SDM_CLK_CFG 8 4 ≤ 4 * s.now)
    | none => false
  else match q.lastOut with
    | some t => decide (4 * t + len ≤ 4 * s.now)
    | none => true

/-- An output of the sinc3 decimator of an input, with the present output of its comparator filter (R259, R260), each as the weighted count
of ones in its window: weights that add up to OSR³ and to 16². -/
def sdmOutput (k ones fastOnes : Nat) (s : State) : State :=
  if senseRuns s && sdmOn s k then
    let w := s.rd (Reg.SDM_CFG k)
    let s0 := sdmCompare k (densityValue 16 8 fastOnes) (s.setSdm k { sdm s k with stuck := false })
    if sdmSettled s k then
      let s1 := s0.setSdm k { sdm s0 k with winStart := none, lastOut := if bit w 30 then none else some s.now }
      let v := densityValue 24 (12 + 3 * s.fld (Reg.SDM_CFG k) 8 3) ones
      let s2 := if bit w 28 && bit w 30 then s1
        else (s1.publish (0x070 + k) (s1.sfld (Reg.SDM_RES k) 0 24)).wr (Reg.SDM_RES k) (wordOf ((s1.fld (Reg.SDM_RES k) 28 4 + 1) % 16 * 0x10000000 + lowBits 24 v))
      if bit w 28 then leDeliver (bits w 27 1) (bits w 24 3) (bits w 22 2) v s2 else s2
    else s0
  else s

/-- An input is stuck (R260). -/
def sdmStuck (k : Nat) (s : State) : State :=
  if senseRuns s && decide (k < sdmsOf s.variant) && s.flag (Reg.SDM + 0x008) 0 && s.flag (Reg.SDM_CFG k) 31 then
    (s.causeIf (!(sdm s k).stuck) Reg.SDM 0).setSdm k { sdm s k with stuck := true }
  else s

/-! ## Register writes -/

/-- An LE input is named by an enabled direct slot other than `exc`, or by any sigma-delta input other than `excS` (R253). -/
def inputNamed (s : State) (le slot input : Nat) (exc : Option (Nat × Nat)) (excS : Option Nat) : Bool :=
  ((List.range 12).any fun c => (List.range 4).any fun j =>
    let w := s.rd (Reg.ADC_TRIG c j)
    decide (some (c, j) ≠ exc) && bit w 31 && bit w 30 && decide (bits w 29 1 = le ∧ bits w 26 3 = slot ∧ bits w 24 2 = input))
  || ((List.range 16).any fun k =>
    let w := s.rd (Reg.SDM_CFG k)
    decide (some k ≠ excS) && bit w 28 && decide (bits w 27 1 = le ∧ bits w 24 3 = slot ∧ bits w 22 2 = input))

/-- A write to a register of an ADC page from offset 0x040 upward (R252, R253). -/
def adcWrite (d : RegDef) (j a : Nat) (m : Master) (v : Word) (s : State) : State :=
  let k := a / 0x1000 % 0x10
  match d.off with
  | 0x040 => regWrite d a m v (fun v s => s.wr a (if bits v 0 5 < 2 then 2 else storeValue d (s.rd a) v)) s
  | 0x044 =>
    checkedWrite d a 0x01 m v
      (fun w => decide (bits w 16 4 < axesOf s.variant) && decide (bits w 29 1 < enginesOf s.variant) && decide (bits w 0 4 ≤ 13)
        && !(bit w 30 && inputNamed s (bits w 29 1) (bits w 26 3) (bits w 24 2) (some (k, j)) none)) s
  | _ => genericWrite .adc d a m v s

/-- A write to a register of the SDM page from offset 0x040 upward (R258, R259). The number of the error for a refused FREQ is not
stated, and a free value stands there. -/
def sdmWrite (d : RegDef) (k a : Nat) (m : Master) (v : Word) (s : State) : State :=
  match d.off with
  | 0x040 => regWrite d a m v
      (fun v s => if 5 ≤ bits v 0 3 then s.drawn.blockError a (Config.freeNat s.freeCtr % 256) m else s.wr a (storeValue d (s.rd a) v)) s
  | 0x100 =>
    if featureAbsent s.variant .sdm (a % 0x1000) then genericWrite .sdm d a m v s
    else if 5 ≤ bits v 8 3 then regWrite d a m v (fun _ s => s.blockError a 0x01 m) s
    else checkedWrite d a 0x02 m v
      (fun w => decide (bits w 16 4 < axesOf s.variant) && decide (bits w 27 1 < enginesOf s.variant)
        && !(bit w 28 && inputNamed s (bits w 27 1) (bits w 24 3) (bits w 22 2) none (some k))) s
  | _ => genericWrite .sdm d a m v s

/-- A write to a register of the REF page from offset 0x040 upward (R263). -/
def refWrite (d : RegDef) (_ a : Nat) (m : Master) (v : Word) (s : State) : State :=
  if d.off = 0x040 then refSelWrite m v s else genericWrite .ref d a m v s

/-- STAT.STATE of a core: 0 idle, 1 sequencer conversion, 2 direct conversion. -/
def adcStatState (s : State) (k : Nat) : Nat :=
  match (adc s k).work with | .idle => 0 | .seq _ => 1 | .direct _ _ => 2

/-! ## The commands -/

/-- ADC_CONVERSION_DONE (R253): the result of the conversion in hand of core `k` is delivered; `code` is the raw 12-bit code. -/
def execAdcConversionDone (k : Nat) (code : Int) (s : State) : Answer := .next (live (0xB0 + k) (conversionDone k code) s)
/-- SEQ_ROUND_START (R255). -/
def execSeqRoundStart (s : State) : Answer := .next (live 0xBD seqRoundStart s)
/-- REF_BLIND (R257). -/
def execRefBlind (s : State) : Answer := .next (live 0x07 refBlind s)
/-- REF_DIFF_UPDATE (R261). -/
def execRefDiffUpdate (s : State) : Answer := .next (live 0x07 refDiffUpdate s)
/-- REF_SEL_WRITE (R263). -/
def execRefSelWrite (m : Master) (v : Word) (s : State) : Answer := .next (regRow m Reg.REF_SEL (refSelWrite m v) s)
/-- SDM_OUTPUT (R259). -/
def execSdmOutput (k ones fastOnes : Nat) (s : State) : Answer := .next (live 0xBC (sdmOutput k ones fastOnes) s)
/-- SDM_STUCK (R260). -/
def execSdmStuck (k : Nat) (s : State) : Answer := .next (live 0xBC (sdmStuck k) s)
/-- TEMP_UPDATE (R265). -/
def execTempUpdate (t0 t1 t2 t3 : Int) (s : State) : Answer := .next (live 0x06 (tempUpdate [t0, t1, t2, t3]) s)
end Sys2Proof.Machine
end

