-- ==== Sys2Proof/Machine/Rep.lean ====
section
/-! DEFINITION. Angle-indexed repetitive learning (spec/15_repetitive.md). Values are Q1.23 in units of 2^−23. -/

namespace Sys2Proof.Machine

/-- Repetitive learning of an axis beyond its registers. -/
def rep (s : State) (n : Nat) : Rep := tabGet s.reps n {}
def State.setRep (s : State) (n : Nat) (r : Rep) : State := { s with reps := tabPut s.reps n r {} }

/-- The value of a gain register in the layout of R298. -/
def gainOf (w : Word) : Rat :=
  let e := sbits w 24 5
  let g : Rat := (sbits w 0 24 : Rat) / 0x800000
  if 0 ≤ e then g * ((2 ^ e.toNat : Nat) : Rat) else g / ((2 ^ (-e).toNat : Nat) : Rat)

/-- The sign of a rational. -/
def signR (x : Rat) : Int := if x < 0 then -1 else if x = 0 then 0 else 1

/-- A rational limited to a range. -/
def clampR (lo hi x : Rat) : Rat := if x < lo then lo else if hi < x then hi else x

/-- Number of index bits m and of bins N (R313). -/
def repBits (s : State) (n : Nat) : Nat := 6 + s.fld (Reg.AX_REP_CFG n) 0 3
def repBins (s : State) (n : Nat) : Nat := 2 ^ repBits s n

/-- REP_CFG.SRC: 0 MECH, 1 ELEC, 2 EXT; INJ: 1 VEL. -/
def repSrc (s : State) (n : Nat) : Nat := s.fld (Reg.AX_REP_CFG n) 4 2
def repInjVel (s : State) (n : Nat) : Bool := s.flag (Reg.AX_REP_CFG n) 8

/-- The repetitive parameters as the registers hold them: REP_CTRL, then REP_ALPHA to REP_FADE, then REP_CONV_TH. -/
def repLive (s : State) (n : Nat) : List Word :=
  s.rd (Reg.AX_REP_CTRL n) :: ((List.range 7).map fun j => s.rd (Reg.AX_REP_ALPHA n + 4 * j)) ++ [s.rd (Reg.AX_REP_CONV_TH n)]

/-- A repetitive parameter as the axis's sample takes it (R17, R326): the copy of the slot's last loop start, or the register before the first
one and while the axis is off. `k` 0 is REP_CTRL, 1 to 7 are REP_ALPHA to REP_FADE, 8 is REP_CONV_TH. -/
def repPar (s : State) (n k : Nat) : Word :=
  let c := (ax s n).repCopy
  listGet (if c.isEmpty || !(axisLive s n) then repLive s n else c) k 0

/-- Playback and learning enables (R315, R317). -/
def repPlay (s : State) (n : Nat) : Bool := repPresent s.variant && bit (repPar s n 0) 0
def repLearn (s : State) (n : Nat) : Bool := repPresent s.variant && bit (repPar s n 0) 1

/-- d is −1; the direction for EXT is always +1 (R314). -/
def repBack (s : State) (n : Nat) : Bool := (rep s n).back && decide (repSrc s n ≠ 2)

/-- The EXT source is lost (R319). -/
def extLost (s : State) (n : Nat) : Bool :=
  decide (repSrc s n = 2) &&
    (let e := s.fld (Reg.AX_REP_CFG n) 16 4
     decide (encMode s e ≠ 4) ||
       match (enc s e).last with
       | some t => decide (2 * ((s.rd (Reg.ENC_PERIOD e)).toNat : Int) * 4 < (rootNow s - t) * 5)
       | none => true)

/-- The filtered velocity w of an axis, as a magnitude. -/
def repSpeed (s : State) (n : Nat) : Nat := (ax s n).w.natAbs

/-- ψ falls (R321). -/
def repFalling (s : State) (n : Nat) : Bool :=
  decide (repSpeed s n < bits (repPar s n 4) 0 24) || extLost s n

/-- The freeze conditions, bits [21:16] of REP_STAT (R319). -/
def freezeBits (s : State) (n : Nat) : Nat :=
  let b (c : Bool) (k : Nat) : Nat := if c then 2 ^ k else 0
  let w := repSpeed s n
  b (decide (w < bits (repPar s n 4) 0 24) || decide (bits (repPar s n 5) 0 24 < w)) 0
    + b (s.flag (Reg.AX_LOOP_STAT n) 31) 1 + b (decide (0 < (rep s n).revLeft)) 2
    + b (s.flag (Reg.AX_LOOP_STAT n) 2 || s.flag (Reg.AX_LOOP_STAT n) 3) 3 + b (decide (coxState s = 4)) 4 + b (extLost s n) 5

/-- The index phase at a sample instant, a 24-bit fraction of an index revolution, with the chapter's rounding (R313, R315). An EXT phase without
an edge or a period has no stated value, and a free value stands there. -/
def repPhase (n : Nat) (at_ : Int) (s : State) : Nat × State :=
  match repSrc s n with
  | 0 => (s.fld (Reg.ENC_CAP_MANG n) 0 24, s)
  | 1 => (s.fld (Reg.ENC_CAP_EANG n) 0 24, s)
  | _ =>
    let e := s.fld (Reg.AX_REP_CFG n) 16 4
    let per := (s.rd (Reg.ENC_PERIOD e)).toNat
    match (enc s e).last with
    | some t =>
      if per = 0 then let (f, s1) := s.freeIn 0 0xFFFFFF
                      (f.toNat, s1)
      else ((clampI 0 0xFFFFFF (convergent (((at_ - t : Int) : Rat) * 5 / 4 / (per : Rat) * 0x1000000))).toNat, s)
    | none => let (f, s1) := s.freeIn 0 0xFFFFFF
              (f.toNat, s1)

/-- The move from bin `a` to bin `b` of `N`: shortest way round, or forward only for EXT (R314). -/
def binMove (a b bins : Nat) (fwd : Bool) : Int :=
  let d := (b + bins - a % bins) % bins
  if fwd || 2 * d < bins then d else (d : Int) - bins

/-- ψ after a number of bins crossed (R321). -/
def fadeStep (psi : Rat) (falling : Bool) (crossed rev bins : Nat) : Rat :=
  if rev = 0 then (if falling then 0 else 1)
  else
    let d : Rat := (crossed : Rat) / ((rev * bins : Nat) : Rat)
    clampR 0 1 (if falling then psi - d else psi + d)

/-- The end of an index revolution (R325). -/
def repWrap (n : Nat) (s : State) : State :=
  let r := rep s n
  let s1 := s.wrapInc (Reg.AX_REP_REV_CNT n)
  if r.count = 0 then s1
  else
    let mean := min 0x7FFFFF (convergent ((r.sum : Rat) / (r.count : Rat))).toNat
    let old := s.fld (Reg.AX_REP_CONV n) 0 24
    let th := bits (repPar s n 8) 0 24
    ((s1.wr (Reg.AX_REP_CONV n) (wordOf mean)).setRep n { r with sum := 0, count := 0 }).causeIf
      (decide (th < old) && decide (mean ≤ th)) (Reg.AX n) 8

/-- The index at a sample instant: phase, bin, fraction (R313). The bins crossed wait for the slot's loop (`repFade`); those crossed in the
direction d count towards the end of a reversal's freeze (R319), and a wrap of an enabled axis ends its index revolution (R325). -/
def repIndex (n : Nat) (at_ : Int) (s : State) : State :=
  if repPresent s.variant then
    let (phi, s1) := repPhase n at_ s
    let sh := 24 - repBits s n
    let j := phi / 2 ^ sh
    let r := rep s1 n
    let mv := binMove r.j j (repBins s n) (decide (repSrc s n = 2))
    let left : Int := if r.revLeft = 0 then 0 else r.revLeft - (if repBack s n then -mv else mv)
    let s2 := s1.setRep n { r with j := j, frac := phi % 2 ^ sh * 2 ^ repBits s n, moved := r.moved + mv.natAbs, revLeft := left.toNat,
                                   crossed := if mv = 0 then r.crossed else s.now }
    if axisLive s n && (decide (0 < mv ∧ j < r.j) || decide (mv < 0 ∧ r.j < j)) then repWrap n s2 else s2
  else s

/-- The slot's loop starts: it takes the index of its sample and its copy of the repetitive parameters, and ψ follows the bins crossed (R17,
R316, R321). -/
def repFade (n : Nat) (s : State) : State :=
  if repPresent s.variant then
    let s1 := s.setAx n { ax s n with repCopy := repLive s n }
    let r := rep s1 n
    s1.setRep n { r with jAt := r.j, fracAt := r.frac, psi := fadeStep r.psi (repFalling s1 n) r.moved (bits (repPar s1 n 7) 0 8) (repBins s n), moved := 0 }
  else s

/-- No bin crossed for 100 ms while ψ falls (R321). -/
def repFadeTimeout (n : Nat) (s : State) : State :=
  if repPresent s.variant && repFalling s n && decide ((rep s n).crossed + 20000000 ≤ s.now) then
    s.setRep n { rep s n with psi := 0 }
  else s

/-! ## Bins (R322 to R324) -/

/-- Address of a bin (R322). -/
def binAddr (n k : Nat) : Nat := 0x50000000 + 0x100000 * (n / 8) + 0x1000 * (n % 8) + 4 * k

/-- A private-port read of a Loop Engine memory word: an uncorrectable or poisoned word delivers 0 and latches MEM_FAULT (R308). -/
def lePort (n a : Nat) (s : State) : Int × Bool × State :=
  match portRead 9 a s with
  | (some w, t) => (sbits w 0 24, true, t)
  | (none, t) => (0, false, t.cause (Reg.LE (n / 8)) 2)

/-- A bin read (R308, R324). While a clear is in progress, the spec does not say which bins are cleared: the bin gives its value or 0,
a free choice. -/
def binRead (n k : Nat) (s : State) : Int × State :=
  let (v, _, s1) := lePort n (binAddr n (k % repBins s n)) s
  if (rep s n).clearing then
    let (c, s2) := s1.freeIn 0 1
    (if c = 0 then 0 else v, s2)
  else (v, s1)

/-- A bin is stored as a full word with a valid code (R318). -/
def binWrite (n k : Nat) (v : Int) (s : State) : State := s.putWord (binAddr n (k % repBins s n)) (wordOfInt v)

/-- The correction r of a sample (R315). -/
def repCorr (n : Nat) (s : State) : Int × State :=
  if repPlay s n then
    let r := rep s n
    let (b0, s1) := binRead n r.jAt s
    let (b1, s2) := binRead n (r.jAt + 1) s1
    let f : Rat := (r.fracAt : Rat) / 0x1000000
    (satS 24 (convergent (r.psi * ((1 - f) * b0 + f * b1))), s2)
  else (0, s)

/-! ## Learning (R316 to R319, R325) -/

/-- A bin limited to ±REP_BLIM. A negative limit has no stated meaning, and a free value stands there. -/
def satB (n : Nat) (x : Rat) (s : State) : Int × State :=
  let l := sbits (repPar s n 6) 0 24
  if l < 0 then s.freeIn (-0x800000) 0x7FFFFF else (clampI (-l) l (convergent x), s)

/-- The two bins that an update writes (R317). -/
def learnBins (n : Nat) (e : Int) (s : State) : State :=
  let r := rep s n
  let bins := repBins s n
  let d : Int := if repBack s n then -1 else 1
  let idx (v : Int) : Nat := (v % (bins : Int)).toNat
  let k : Int := r.jAt - d * (bits (repPar s n 3) 0 10 : Nat)
  let (bk, s1) := binRead n (idx k) s
  let alpha : Rat := (sbits (repPar s n 1) 0 24 : Rat) / 0x800000
  let (nk, s2) := satB n (alpha * bk + gainOf (repPar s n 2) * e) s1
  let s3 := binWrite n (idx k) nk s2
  let m := k - d
  let (lo, s4) := binRead n (idx (m - 1)) s3
  let (mid, s5) := binRead n (idx m) s4
  let (hi, s6) := binRead n (idx (m + 1)) s5
  let (nm, s7) := satB n (((lo + 2 * mid + hi : Int) : Rat) / 4) s6
  binWrite n (idx m) nm s7

/-- A learning update of an axis with its error `e`, at the index of the sample in which that was measured (R314, R316 to R319, R325). -/
def repUpdate (n : Nat) (e : Int) (s : State) : State :=
  if repLearn s n && !(rep s n).clearing then
    let r := rep s n
    let bins := repBins s n
    let mv := binMove (r.jUpd.getD r.jAt) r.jAt bins (decide (repSrc s n = 2))
    let back := if mv = 0 then repBack s n else decide (mv < 0)
    let left := if back ≠ repBack s n then bins - mv.natAbs else r.revLeft
    let s1 := s.setRep n { r with back := back, revLeft := left, jUpd := some r.jAt }
    if freezeBits s1 n = 0 then
      let skip := mv.natAbs - 1
      let s2 := if 0 < skip then (s1.satAdd (Reg.AX_REP_SKIP n) 0 skip).cause (Reg.AX n) 9 else s1
      let s3 := learnBins n e s2
      s3.setRep n { rep s3 n with sum := (rep s3 n).sum + e.natAbs, count := (rep s3 n).count + 1 }
    else s1
  else s

/-- All bins of a clear are written with 0 (R323). -/
def repClearDone (n : Nat) (s : State) : State :=
  if (rep s n).clearing then
    let s1 := (List.range (repBins s n)).foldl (fun t k => binWrite n k 0 t) s
    s1.setRep n { rep s1 n with clearing := false }
  else s

/-! ## Register accesses (R323, R326, R327) -/

/-- PLAY_EN and LEARN_EN cannot be set in this mode (R326). -/
def badRep (s : State) (n : Nat) : Bool :=
  decide (2 ≤ loopMode s n) || (repInjVel s n && decide (loopMode s n = 1))

/-- A write to REP_CTRL (R323, R326, R327). -/
def repCtrlWrite (m : Master) (n : Nat) (v : Word) (s : State) : State :=
  let a := Reg.AX_REP_CTRL n
  if !(repPresent s.variant) then genericWrite .ax (defOf .ax 0x200) a m v s
  else
    regWrite (defOf .ax 0x200) a m v
      (fun v s =>
        let old := s.rd a
        let sets := v &&& 3 &&& ~~~old
        let s1 := if badRep s n && decide (sets ≠ 0) then (s.wr a (old &&& v &&& 3)).blockError a 0x04 m else s.wr a (v &&& 3)
        if bit v 2 then
          (if bit old 1 then s1.blockError a 0x01 m else s1.setRep n { rep s1 n with clearing := true })
        else s1) s

/-- A write to REP_CFG (R326). -/
def repCfgWrite (m : Master) (n : Nat) (v : Word) (s : State) : State :=
  let a := Reg.AX_REP_CFG n
  let d := defOf .ax 0x204
  regWrite d a m v
    (fun v s =>
      let w := storeValue d (s.rd a) v
      if axisOn s n then s.blockError a 0x01 m
      else if 5 ≤ bits w 0 3 ∨ bits w 4 2 = 3 then s.blockError a 0x02 m
      else if bits w 4 2 = 2 ∧ axesOf s.variant ≤ bits w 16 4 then s.blockError a 0x04 m
      else s.wr a w) s

/-- A write to a repetitive register of an AX page. -/
def repWrite (d : RegDef) (a : Nat) (m : Master) (v : Word) (s : State) : State :=
  let n := a / 0x1000 % 0x10
  if d.off = 0x200 then repCtrlWrite m n v s
  else if featureAbsent s.variant .ax (a % 0x1000) then genericWrite .ax d a m v s
  else if d.off = 0x204 then repCfgWrite m n v s
  else genericWrite .ax d a m v s

/-- REP_STAT and REP_PHI as they read (R319, R321). -/
def repRead (d : RegDef) (a : Nat) (s : State) : Option (Word × State) :=
  let n := a / 0x1000 % 0x10
  let r := rep s n
  if !(repPresent s.variant) then none
  else match d.off with
    | 0x228 =>
      let fz := freezeBits s n
      let b (c : Bool) (k : Nat) : Nat := if c then 2 ^ k else 0
      some (wordOf (b (s.flag (Reg.AX_REP_CTRL n) 0) 31 + b (s.flag (Reg.AX_REP_CTRL n) 1 && !r.clearing && decide (fz = 0)) 30
        + b r.clearing 24 + 0x10000 * fz
        + b (repBack s n) 12 + r.j), s)
    | 0x22C => some (wordOf (min 0x7FFFFF (convergent (r.psi * 0x800000)).toNat), s)
    | _ => none

/-! ## The commands -/

/-- REP_CLEAR (R323): a write of CLEAR that leaves the enables as they are. -/
def execRepClear (m : Master) (n : Nat) (s : State) : Answer :=
  .next (if n < 16 then regRow m (Reg.AX_REP_CTRL n) (fun s => repCtrlWrite m n (s.rd (Reg.AX_REP_CTRL n) ||| 4) s) s else s)
/-- REP_CLEAR_DONE (R323). -/
def execRepClearDone (n : Nat) (s : State) : Answer := .next (live (0x80 + n) (repClearDone n) s)
/-- REP_CTRL_ENABLE (R326): a write of the two enables. -/
def execRepCtrlEnable (m : Master) (n : Nat) (play learn : Bool) (s : State) : Answer :=
  .next (if n < 16 then regRow m (Reg.AX_REP_CTRL n) (repCtrlWrite m n (putBit (putBit 0 0 play) 1 learn)) s else s)
/-- REP_FADE_TIMEOUT (R321). -/
def execRepFadeTimeout (n : Nat) (s : State) : Answer := .next (live (0x80 + n) (repFadeTimeout n) s)
end Sys2Proof.Machine
end

