-- ==== Sys2Proof/Machine/Loop.lean ====
section
/-! DEFINITION. Loop Engines: samples, current, velocity and position loops, actuator slots, snapshots (spec/14_loops.md). Values are
Q1.23 in units of 2^−23; products and sums are exact rationals. -/

namespace Sys2Proof.Machine

/-- A Loop Engine beyond its registers. -/
def le (s : State) (n : Nat) : LoopEngine := tabGet s.loops n {}
def State.setLe (s : State) (n : Nat) (e : LoopEngine) : State := { s with loops := tabPut s.loops n e {} }

/-- 1.0 in units of 2^−23. -/
def one23 : Rat := 0x800000

/-- The Loop Engine runs: present, enabled, not frozen, not in PAIR_HALT, in ROW (R87). -/
def leOn (s : State) (n : Nat) : Bool :=
  busUp s && decide (s.fld Reg.PWR_STATE 0 3 = 0) && decide (n < enginesOf s.variant) && s.flag (Reg.LE n + 0x008) 0 && !(frozen s (0x60 + n))
    && !(le s n).halted

/-! ## Parameters (R17, R309) -/

/-- A Q1.23 parameter, and a gain. -/
def AxSlot.q (x : AxSlot) (off : Nat) : Int := sbits (x.par off) 0 24
def AxSlot.gain (x : AxSlot) (off : Nat) : Rat := gainOf (x.par off)

/-- A write to PARAM_CTRL (R309). -/
def paramCtrlWrite (m : Master) (n : Nat) (v : Word) (s : State) : State :=
  let a := Reg.AX_PARAM_CTRL n
  regWrite (defOf .ax 0x044) a m v
    (fun v s =>
      let was := s.flag a 0
      let s1 := s.wr a (v &&& 1)
      if bit v 0 && !was then s1.setAx n { ax s1 n with inForce := liveParams s n }
      else if !(bit v 0) && was then s1.setAx n { ax s1 n with stageAt := some s.now }
      else s1) s

/-! ## Arithmetic (R298, R299) -/

/-- A value limited to ±`l` and brought to Q1.23, with the excess over the limit (R299). A negative limit has no stated meaning, and a
free value stands there. -/
def limitTo (x l : Rat) (s : State) : (Int × Rat) × State :=
  if l < 0 then
    let (v, t) := s.freeIn (-0x800000) 0x7FFFFF
    ((v, x - v), t)
  else
    let y := clampR (-l) l x
    let (v, t) := s.narrow y
    ((v, x - y), t)

/-- sat(): a value limited to Q1.23 (R298). -/
def satQ (x : Rat) (s : State) : Int × State :=
  let (v, t) := s.narrow x
  (satS 24 v, t)

/-- An integrator with increment `d`, excess `x` and limit ±`l` (R299). -/
def integrate (i : Int) (d x l : Rat) (s : State) : Int × State :=
  let y : Rat := if x ≠ 0 ∧ signR d = signR x then i else i + d
  let ((v, _), t) := limitTo y l s
  (v, t)

/-- sin in units of 2^−60 of an angle in 2^−24 turns, by its series: the error is below 2^−50. -/
def sinSeries (a : Nat) : Int :=
  let q := a % 0x400000
  let h := a / 0x400000 % 4
  let m : Nat := if h % 2 = 0 then q else 0x400000 - q
  let x : Int := (m : Int) * 7244019458077122842 / 0x1000000   -- 2π in units of 2^−60
  let x2 := x * x / 1152921504606846976
  let terms := (List.range 12).foldl
    (fun (acc : Int × Int) k => let t := -(acc.2 * x2 / 1152921504606846976) / ((2 * k + 2) * (2 * k + 3) : Nat)
                                (acc.1 + t, t)) (x, x)
  if h < 2 then terms.1 else -terms.1

/-- sin of an angle as the table with interpolation gives it (R298): some Q1.23 value within 2^−21 of the sine, which one is open. -/
def sinQ (a : Nat) : Int :=
  let x : Rat := (sinSeries (a % 0x1000000) : Rat) / 137438953472   -- units of 2^−23
  let lo := (x - 4).ceil
  let hi := (x + 4).floor
  satS 24 (lo + (Config.sinTable (a % 0x1000000) : Int) % (hi - lo + 1))

/-- cos of an angle. -/
def cosQ (a : Nat) : Int := sinQ (a + 0x400000)

/-- The square root rounded down. -/
def isqrtAux : Nat → Nat → Nat → Nat
  | 0, _, r => r
  | k + 1, n, r => if (r + 2 ^ k) * (r + 2 ^ k) ≤ n then isqrtAux k n (r + 2 ^ k) else isqrtAux k n r

/-- The square root of a number below 2^50, rounded down. -/
def isqrt (n : Nat) : Nat := isqrtAux 25 n 0

/-- λ (R303). -/
def lam (s : State) : Rat := (lambdaNow s : Rat) / one23

/-- The axis is inhibited (R305). -/
def axInhibited (s : State) (n : Nat) : Bool :=
  !(pwmOn s n) || frozen s (0x90 + n) || tripLatched s n || padsForced s

/-! ## The current loop (R298, R301) -/

/-- The three compares of the duties, committed together (R277, R298 step 11). The commit comes `cost` cycles after the start. -/
def commitDuties (n cost : Nat) (du dv dw : Rat) (s : State) : State :=
  let top : Rat := (pwmTop s n : Rat)
  let c (d : Rat) : Word := wordOf (nearest (top * (1 - clampR 0 1 d))).toNat
  pushDuties n (s.now + cost) (c du) (c dv) (c dw) s

/-- Steps 9 to 11 of R298 from v_d and v_q, with the angle of the capture. At the first sample Δθ has no stated value, and a free value
stands there. -/
def modulate (n cost : Nat) (vd vq : Int) (s : State) : State :=
  let x := ax s n
  let theta := s.fld (Reg.ENC_CAP_EANG n) 0 24
  let (dth, s1) : Int × State := match x.lastEang with
    | some l => (signed 24 (lowBits 24 ((theta : Int) - l)), s)
    | none => s.freeIn (-0x800000) 0x7FFFFF
  let adv : Rat := (signed 8 (bits (x.par 0x074) 0 8) : Rat) / 64
  let (shift, s2) := s1.narrow (adv * dth)
  let th := lowBits 24 ((theta : Int) + shift)
  let c : Rat := cosQ th
  let sn : Rat := sinQ th
  let va : Rat := (vd * c - vq * sn) / one23
  let vb : Rat := (vd * sn + vq * c) / one23
  let m : Rat := 0x6ED9ED / one23
  let k : Rat := 0x49E69D / one23
  let a := va
  let b := -va / 2 + m * vb
  let cc := -va / 2 - m * vb
  let vo := -(max a (max b cc) + min a (min b cc)) / 2
  let d (v : Rat) : Rat := 1 / 2 + k * (v + vo) / one23
  let s3 := commitDuties n cost (d a) (d b) (d cc) s2
  s3.setAx n { ax s3 n with lastEang := some theta, vD := vd, vQ := vq }

/-- The compares of a DC motor (R301). -/
def modulateDc (n cost : Nat) (v : Int) (s : State) : State :=
  let h : Rat := (v : Rat) / one23 / 2
  let s1 := commitDuties n cost (1 / 2 + h) (1 / 2 - h) 0 s
  s1.setAx n { ax s1 n with lastEang := some (s.fld (Reg.ENC_CAP_EANG n) 0 24), vD := 0, vQ := v }

/-- The axis runs a DC motor (R295). -/
def isDc (s : State) (n : Nat) : Bool := s.flag (Reg.AX_LOOP_CFG n) 4

/-- The factor of the reference ramp of CURRENT_ONLY in a controlled stop (R304). -/
def rampFactor (s : State) (n : Nat) : Rat :=
  if loopMode s n = 2 ∧ coxState s = 4 then match (ax s n).ramp with
    | some t => if 200000 ≤ s.now - t then 0 else 1 - ((s.now - t : Nat) : Rat) / 200000
    | none => 1
  else 1

/-- The current references, and whether the current limit acts (R298 step 4). -/
def currentRefs (n : Nat) (s : State) : (Int × Int × Bool) × State :=
  let x := ax s n
  let lim : Rat := (x.q 0x064 : Rat) * lam s
  let f := rampFactor s n
  let base : Rat := if loopMode s n = 2 then x.q 0x060 else x.h
  let (r, s1) := if repInjVel s n then (0, s) else repCorr n s
  let (q0, s2) := satQ (f * (base + r)) s1
  let ((q1, eq), s3) := limitTo q0 lim s2
  let ((d1, ed), s4) := limitTo (f * x.q 0x05C) lim s3
  ((d1, q1, decide (eq ≠ 0 ∨ ed ≠ 0)), s4)

/-- Sets LIM_I and LIM_V of LOOP_STAT; cause LIM_I latches at its rising edge. -/
def setLims (n : Nat) (limI limV : Bool) (s : State) : State :=
  let a := Reg.AX_LOOP_STAT n
  (s.causeIf (limI && !(s.flag a 2)) (Reg.AX n) 2).wr a (putBit (putBit (s.rd a) 2 limI) 3 limV)

/-- The current loop of a PMSM (R298). -/
def currentPmsm (n : Nat) (s : State) : State :=
  let x := ax s n
  let cfg := s.rd (Reg.AX_LOOP_CFG n)
  let iu : Rat := (listGet x.inputs 0 0 : Int)
  let iv : Rat := (listGet x.inputs 1 0 : Int)
  let iw : Rat := (listGet x.inputs 2 0 : Int)
  let theta := s.fld (Reg.ENC_CAP_EANG n) 0 24
  let k : Rat := 0x49E69D / one23
  let ia := if bit cfg 6 then (2 * iu - iv - iw) / 3 else iu
  let ib := if bit cfg 6 then k * (iv - iw) else k * (iu + 2 * iv)
  let c : Rat := cosQ theta
  let sn : Rat := sinQ theta
  let (iD, s1) := satQ ((ia * c + ib * sn) / one23) s
  let (iQ, s2) := satQ ((-ia * sn + ib * c) / one23) s1
  let ((rd, rq, lim), s3) := currentRefs n s2
  let eD := rd - iD
  let eQ := rq - iQ
  let w : Rat := (x.w : Rat) / one23
  let fD : Rat := if bit cfg 5 then -(w * x.gain 0x068 * iQ) else 0
  let fQ : Rat := if bit cfg 5 then w * (x.gain 0x06C * iD + x.gain 0x070 * one23) else 0
  let uD := x.gain 0x048 * eD + x.intD + fD
  let uQ := x.gain 0x050 * eQ + x.intQ + fQ
  let vm := x.q 0x058
  let ((vD, xD), s4) := limitTo uD vm s3
  let root : Nat := isqrt ((vm * vm - vD * vD).toNat)
  let ((vQ, xQ), s5) := limitTo uQ root s4
  let (nD, s6) := integrate x.intD (x.gain 0x04C * eD) xD vm s5
  let (nQ, s7) := integrate x.intQ (x.gain 0x054 * eQ) xQ vm s6
  let inh := axInhibited s n
  let s8 := s7.setAx n { ax s7 n with iD := iD, iQ := iQ, intD := if inh then 0 else nD, intQ := if inh then 0 else nQ }
  modulate n 96 vD vQ (setLims n (lim || x.limVel) (decide (xD ≠ 0 ∨ xQ ≠ 0)) s8)

/-- The current loop of a DC motor (R301). -/
def currentDc (n : Nat) (s : State) : State :=
  let x := ax s n
  let i := listGet x.inputs 0 0
  let ((_, rq, lim), s1) := currentRefs n s
  let e := rq - i
  let vm := x.q 0x058
  let ((v, exc), s2) := limitTo (x.gain 0x050 * e + x.intQ) vm s1
  let (nQ, s3) := integrate x.intQ (x.gain 0x054 * e) exc vm s2
  let s4 := s3.setAx n { ax s3 n with iD := 0, iQ := i, intD := 0, intQ := if axInhibited s n then 0 else nQ }
  modulateDc n 48 v (setLims n (lim || x.limVel) (decide (exc ≠ 0)) s4)

/-! ## Velocity and position loops (R300, R301) -/

/-- A flag of LOOP_STAT takes a value; its cause latches at a rising edge. -/
def loopFlag (n k : Nat) (b : Bool) (s : State) : State :=
  (s.causeIf (b && !(s.flag (Reg.AX_LOOP_STAT n) k)) (Reg.AX n) k).setFlag (Reg.AX_LOOP_STAT n) k b

/-- The velocity loop of an axis, with its output limited to ±`bound` (R300); the samples below STILL_W of a controlled stop are
counted (R304). -/
def velocityLoop (n : Nat) (bound : Rat) (s : State) : State :=
  let x := ax s n
  let mode := loopMode s n
  let (wm, s1) := satQ ((s.sfld (Reg.ENC_VEL n) 0 32 : Rat) * x.gain 0x078) s
  let vf := x.q 0x084
  let (w, s2) := if vf = 0 then (wm, s1) else satQ (x.w + (vf : Rat) / one23 * (wm - x.w)) s1
  let (ref, s3) := if mode = 0 then (x.posOut, s2) else satQ (((prof s2 n).v : Rat) * x.gain 0x0A0) s2
  let (r, s4) := if repInjVel s n then repCorr n s3 else (0, s3)
  let ((wRef, _), s5) := limitTo ((ref + r : Int) : Rat) (x.q 0x08C) s4
  let e := wRef - w
  let u : Rat := x.gain 0x07C * e + x.intV + x.gain 0x088 * (prof s5 n).a
  let ((h, exc), s6) := limitTo u bound s5
  let (iv, s7) := integrate x.intV (x.gain 0x080 * e) exc bound s6
  let still := if coxState s = 4 then (if (w.natAbs : Int) < x.q 0x0A8 then x.still + 1 else 0) else x.still
  let s8 := s7.setAx n { ax s7 n with w := w, wRef := wRef, h := h, intV := if axInhibited s n then 0 else iv, errV := e,
                                      limVel := decide (exc ≠ 0), still := still }
  loopFlag n 1 (decide (x.q 0x090 < (w.natAbs : Int))) s8

/-- The position loop of an axis, with its output limited to ±`bound` (R301). -/
def positionLoop (n : Nat) (bound : Rat) (s : State) : State :=
  let x := ax s n
  let delta : Int := (prof s n).p - capPos s n
  let fe := decide ((((x.par 0x0A4).toNat : Int) * 65536) < (delta.natAbs : Int))
  let (e, s1) := satQ ((delta : Rat) / 65536 * x.gain 0x094 * one23) s
  let (ff, s2) := satQ (((prof s n).v : Rat) * x.gain 0x0A0) s1
  let u : Rat := x.gain 0x098 * e + x.intP + ff
  let ((out, exc), s3) := limitTo u bound s2
  let (ip, s4) := integrate x.intP (x.gain 0x09C * e) exc bound s3
  loopFlag n 0 fe (s4.setAx n { ax s4 n with e := e, errP := e, posOut := out, intP := if axInhibited s n then 0 else ip })

/-- Cost of a slot's current loop in SYS cycles (R296). -/
def slotCost (s : State) (n : Nat) : Nat :=
  match loopMode s n, isDc s n with
  | 3, true => 72 | 3, false => 104 | 4, true => 56 | 4, false => 88 | _, true => 48 | _, false => 96

/-- The current loop of a slot, or what stands for it in modes 3 and 4 (R295, R298 to R301). -/
def slotLoop (n : Nat) (s : State) : State :=
  let x := ax s n
  match loopMode s n with
  | 3 =>
    let s1 := velocityLoop n (x.q 0x058) s
    if isDc s n then modulateDc n 72 (ax s1 n).h s1 else modulate n 104 0 (ax s1 n).h s1
  | 4 =>
    let s1 := positionLoop n (x.q 0x058) s
    if isDc s n then modulateDc n 56 (ax s1 n).posOut s1 else modulate n 88 0 (ax s1 n).posOut s1
  | _ => if isDc s n then currentDc n s else currentPmsm n s

/-! ## State memory and snapshots (R308, R311, R312) -/

/-- State blocks of an axis and of an actuator slot, and their snapshots (R311, R312). -/
def axBlock (n : Nat) : Nat := 0x50008000 + 0x100000 * (n / 8) + 0x400 * (n % 8)
def actBlock (e a : Nat) : Nat := 0x50008000 + 0x100000 * e + 0x2000 + 0x40 * a

/-- An axis slot whose state word `k` delivers 0; the held position-loop output is the word w*. -/
def AxSlot.dropWord (x : AxSlot) (k : Nat) : AxSlot :=
  match k with
  | 4 => { x with intD := 0 } | 5 => { x with intQ := 0 } | 6 => { x with w := 0 } | 7 => { x with intV := 0 }
  | 8 => { x with h := 0 } | 9 => { x with wRef := 0, posOut := 0 } | 10 => { x with intP := 0 } | _ => x

/-- A loop reads its state words over the private port: those that are uncorrectable or poisoned deliver 0 (R308). -/
def stateRead (n : Nat) (ks : List Nat) (s : State) : State :=
  ks.foldl (fun t k =>
    let (_, ok, t1) := lePort n (axBlock n + 4 * k) t
    if ok then t1 else t1.setAx n ((ax t1 n).dropWord k)) s

/-- The state words that the loop of a slot reads: the integrators of its currents, w where it decouples, h where that is its reference; in
modes 3 and 4 those of the one loop that runs. -/
def slotReads (s : State) (n : Nat) : List Nat :=
  match loopMode s n with
  | 3 => [6, 7]
  | 4 => [10]
  | m => (if isDc s n then [5] else if s.flag (Reg.AX_LOOP_CFG n) 5 then [4, 5, 6] else [4, 5]) ++ (if m ≤ 1 then [8] else [])

/-- The state words that a velocity loop under the current loop reads: w, I_v and in CASCADE the held position-loop output. -/
def velReads (s : State) (n : Nat) : List Nat := if loopMode s n = 0 then [6, 7, 9] else [6, 7]

/-- The state words that the loop of a slot leaves (R311). -/
def slotWrites (s : State) (n : Nat) : List Nat :=
  match loopMode s n with
  | 3 => [2, 3, 6, 7, 8, 9, 15] | 4 => [2, 3, 10, 11, 15] | _ => [0, 1, 2, 3, 4, 5, 15]

/-- The 16 state words of an axis (R311). -/
def stateWords (s : State) (n : Nat) : List Word :=
  let x := ax s n
  let p := lowBits 64 (prof s n).p
  [x.iD, x.iQ, x.vD, x.vQ, x.intD, x.intQ, x.w, x.intV, x.h, x.wRef, x.intP, x.e].map wordOfInt
    ++ [wordOf p, hiWord p, wordOf x.samples, s.rd (Reg.AX_LOOP_STAT n)]

/-- Words written to memory from an address on. -/
def putWords (a : Nat) : List Word → State → State
  | [], s => s
  | w :: r, s => putWords (a + 4) r (s.putWord a w)

/-- A block of 16 words is copied to the snapshot area (R312). -/
def copyBlock (n src dst : Nat) (s : State) : State :=
  (List.range 16).foldl
    (fun t k => match portRead 9 (src + 4 * k) t with
      | (some w, t1) => t1.putWord (dst + 4 * k) w
      | (none, t1) => (t1.cause (Reg.LE n) 2).putWord (dst + 4 * k) 0) s

/-- The requested snapshot is taken at the end of a sample (R312). -/
def takeSnap (e : Nat) (s : State) : State :=
  let a := Reg.LE_SNAP_REQ e
  let req := s.rd a
  if req = 0 then s
  else
    let base := 0x50008000 + 0x100000 * e
    let s1 := (List.range 8).foldl
      (fun t k => if bit req k then copyBlock e (base + 0x400 * k) (base + 0x3000 + 0x40 * k) t else t) s
    let s2 := (List.range 24).foldl
      (fun t k => if bit req (8 + k) then copyBlock e (base + 0x2000 + 0x40 * k) (base + 0x3200 + 0x40 * k) t else t) s1
    (s2.wr a 0).cause (Reg.LE e) 3

/-! ## Actuator slots (R302) -/

/-- The PROP channel bound to an actuator slot. -/
def boundChan (s : State) (e a : Nat) : Option Nat :=
  (List.range (8 * groupsOf s.variant)).find? fun k =>
    let w := s.rd (chReg Reg.ACTG_ACT_SLOT k)
    bit w 31 && decide (bits w 24 1 = e) && decide (bits w 0 5 = a) && decide (chMode s k = 1)

/-- The triangle of the dither at the present TICK, in units of 2^−23 (R357). -/
def dither (s : State) (k : Nat) : Rat :=
  let w := heldReg s k 0x0B0
  let f := bits w 16 16
  if f = 0 then 0
  else
    let ph : Rat := ((s.now - (chan s k).onSince : Nat) : Rat) * f / 200000000
    let u := ph - ph.floor
    let tri : Rat := if u < 1 / 4 then 4 * u else if u < 3 / 4 then 2 - 4 * u else 4 * u - 4
    tri * (signed 16 (bits w 0 16) : Rat) * 256

/-- One actuator slot (R302), with λ as the channel took it (R358). Its integrator is the word of its block (R311). Outside ON the duty is 0
(R357), and the integrator stays (DESIGN CHOICE, log entry 130). -/
def actSlot (e a : Nat) (s : State) : State :=
  match boundChan s e a with
  | none => s
  | some k =>
    let (int, _, s0) := lePort (8 * e) (actBlock e a + 8) s
    let scale : Rat := if chFlag s k 8 then (heldReg s k 0x0EC |> fun w => (bits w 0 24 : Rat)) / one23 else 1
    let lim : Rat := gainOf (heldReg s k 0x0AC) * one23 * ((chan s k).lam : Rat) / one23 * scale
    let on := decide (chState s k = 5)
    let i := (chan s k).avg
    let ((ref, _), s1) := limitTo ((sbits (heldReg s k 0x09C) 0 24 : Rat) + dither s k) lim s0
    let u : Rat := gainOf (heldReg s k 0x0A0) * (ref - i : Int) + int + gainOf (heldReg s k 0x0A8) * ref
    let d := if on then clampR 0 one23 u else 0
    let (duty, s2) := satQ d s1
    let delta : Rat := gainOf (heldReg s k 0x0A4) * (ref - i : Int)
    let exc := u - d
    let (n, s3) := satQ (if on then clampR 0 one23 (if exc ≠ 0 ∧ signR delta = signR exc then int else int + delta) else int) s2
    let s4 := s3.setChan k { chan s3 k with duty := duty }
    putWords (actBlock e a) [wordOfInt i, wordOfInt ref, wordOfInt n, wordOfInt duty] s4

/-- The duties that a Loop Engine has delivered are 0 while it is disabled or in PAIR_HALT (R357). -/
def actDutiesOff (e : Nat) (s : State) : State :=
  (List.range 24).foldl (fun t a => match boundChan t e a with
    | some k => t.setChan k { chan t k with duty := 0 }
    | none => t) s

/-- The actuator slots that run in a sample, in slot order: in every ACT_DIV-th one, the bound ones (R302). -/
def actSlots (s : State) (e : Nat) : List Nat :=
  if (le s e).samples % (s.fld (Reg.LE_CFG e) 8 4 + 1) = 0 then (List.range 24).filter fun a => (boundChan s e a).isSome else []

/-! ## The sample (R292 to R297, R304 to R306) -/

/-- Enabled axis slots of a Loop Engine, in slot order: an axis that stops under its loops is among them (R310). -/
def leSlots (s : State) (e : Nat) : List Nat := (List.range 8).filter fun k => axisLive s (8 * e + k)

/-- The velocity loop, position loop and learning update are due in the axis's present sample (R294). -/
def velDue (s : State) (n : Nat) : Bool := decide (loopMode s n ≤ 1) && decide ((ax s n).samples % loopNv s n = 0)
def posDue (s : State) (n : Nat) : Bool := decide (loopMode s n = 0) && decide ((ax s n).samples % (loopNv s n * loopNp s n) = 0)
def repDue (s : State) (n : Nat) : Bool :=
  repLearn s n && !(rep s n).clearing
    && (if repInjVel s n then posDue s n || decide (loopMode s n = 4) else velDue s n || decide (loopMode s n = 3))

/-- An axis that stops is turned off once its Profile Unit is IDLE (R310). In a controlled stop it may have been the last that still moved
(R103). -/
def axisOff (n : Nat) (s : State) : State :=
  let s1 := dropDuties n ((s.setFlag (Reg.AX n + 0x008) 0 false).setFld (Reg.AX n + 0x00C) 0 3 4)
  standstillCheck ((s1.setAx n { ax s1 n with off := true }).setProf n { prof s1 n with dec := none, seg := .none, lastRatio := none })

/-- An axis whose EN is cleared and whose Profile Unit has reached IDLE goes off (R310). -/
def axisOffIfDone (n : Nat) (s : State) : State :=
  if s.flag (Reg.AX n + 0x00C) 1 && decide (profState s n = 0) then axisOff n s else s

/-- Places of the Ladle's signals 0x080 + 8n … among the state words of axis n (R456). -/
def signalPlaces : List Nat := [0, 1, 2, 3, 6, 8, 9, 11]

/-- State words `ks` of an axis stand in state memory, published for the Ladle (R311, R457). -/
def axWords (n : Nat) (ks : List Nat) (s : State) : State :=
  let old (j : Nat) : Int := sbits (s.rawWord (axBlock n + 4 * listGet signalPlaces j 0)) 0 24
  let s1 := ((List.range 8).filter fun j => ks.contains (listGet signalPlaces j 0)).foldl (fun t j => t.publish (0x080 + 8 * n + j) (old j)) s
  ks.foldl (fun t k => t.putWord (axBlock n + 4 * k) (listGet (stateWords s n) k 0)) s1

/-- The end of one axis's work in a sample: its setpoint, its count and LOOP_STAT. -/
def axisSampleEnd (n : Nat) (s : State) : State :=
  axWords n [12, 13, 14, 15] (s.setAx n { ax s n with samples := (ax s n).samples + 1 })

/-- INHIBIT of LOOP_STAT and the integrators of an inhibited axis (R305). -/
def loopInh (n : Nat) (s : State) : State :=
  let inh := axInhibited s n
  let a := Reg.AX_LOOP_STAT n
  let s1 := (s.causeIf (inh && !(s.flag a 31)) (Reg.AX n) 3).setFlag a 31 inh
  if inh then s1.setAx n { ax s1 n with intD := 0, intQ := 0, intV := 0, intP := 0 } else s1

/-- Every enabled axis of a running Loop Engine follows what inhibits it (R305). -/
def leInhibits (e : Nat) (s : State) : State :=
  if leOn s e then
    ((leSlots s e).filter fun k => s.flag (Reg.AX_LOOP_STAT (8 * e + k)) 31 != axInhibited s (8 * e + k)).foldl
      (fun t k => loopInh (8 * e + k) t) s
  else s

/-- Enabled axis slots whose current loop has run in a sample since their enable. -/
def ranSlots (s : State) (e : Nat) : List Nat := ((leSlots s e).map (8 * e + ·)).filter fun n => !(ax s n).copy.isEmpty

/-- Cost of a piece of work in SYS cycles (R296). -/
def LeWork.cost : LeWork → Nat
  | .vel _ => 64 | .pos _ => 48 | .learn _ => 40 | .act _ => 24

/-- The work that follows the last current loop of a sample: the velocity loops, then the position loops, then the learning updates, then the
actuator slots (R16, R302). -/
def leWork (s : State) (e : Nat) : List LeWork :=
  let slots := ranSlots s e
  (slots.filter (velDue s)).map .vel ++ (slots.filter (posDue s)).map .pos ++ (slots.filter (repDue s)).map .learn
    ++ (actSlots s e).map .act

/-- A piece of work still has its slot: the axis has not gone off, the channel is bound. -/
def LeWork.stands (s : State) (e : Nat) : LeWork → Bool
  | .vel n | .pos n | .learn n => (ranSlots s e).contains n
  | .act a => (boundChan s e a).isSome

/-- A piece of work is done with the values that hold at its start (R303): λ among them. -/
def LeWork.run (e : Nat) (w : LeWork) (s : State) : State :=
  match w with
  | .vel n => axWords n [6, 7, 8, 9, 15] (velocityLoop n ((ax s n).q 0x064 * lam s) (stateRead n (velReads s n) (loopInh n s)))
  | .pos n => axWords n [10, 11, 15] (positionLoop n ((ax s n).q 0x08C) (stateRead n [10] (loopInh n s)))
  | .learn n => repUpdate n (if repInjVel s n then (ax s n).errP else (ax s n).errV) (loopInh n s)
  | .act a => actSlot e a s

/-- A sample completes (R292, R297, R306, R312): its count, its duration from the trigger, the state words, a snapshot asked for. The overload
condition of line 28 or 29 ends with the next sample that completes, which the spec does not say (DESIGN CHOICE, log entry 96). -/
def finishSampleLe (e : Nat) (s : State) : State :=
  let s1 := (ranSlots s e).foldl (fun t n => axisOffIfDone n (axisSampleEnd n t)) s
  let l := le s1 e
  let dur := min 0xFFFF (l.ready - l.trig.getD l.ready)
  let s2 := ((s1.wrapInc (Reg.LE_SAMPLE_CNT e)).wr (Reg.LE_LAST_DUR e) (wordOf dur)).wr (Reg.LE_MAX_DUR e)
    (wordOf (max dur (s1.fld (Reg.LE_MAX_DUR e) 0 16)))
  standstillCheck (takeSnap e (s2.setLe e { l with trig := none, work := none, samples := l.samples + 1, overloaded := false }))

/-- The next enabled slot of the sample in progress. -/
def nextSlot (s : State) (e : Nat) : Option Nat := (leSlots s e).find? fun k => decide ((le s e).next ≤ k)

/-- The inputs that enabled direct slots and sigma-delta inputs feed to an axis slot (R293). -/
def fedInputs (s : State) (n : Nat) : List Nat :=
  (List.range 4).filter fun i =>
    ((List.range 12).any fun c => (List.range 4).any fun j =>
      let w := s.rd (Reg.ADC_TRIG c j)
      bit w 31 && bit w 30 && feedsAxis n (bits w 29 1) (bits w 26 3) && decide (bits w 24 2 = i))
    || ((List.range 16).any fun k =>
      let w := s.rd (Reg.SDM_CFG k)
      bit w 31 && bit w 28 && feedsAxis n (bits w 27 1) (bits w 24 3) && decide (bits w 22 2 = i))

/-- The rest of a sample's work is laid out once no current loop is left to start (R16, R293). -/
def lePlan (e : Nat) (s : State) : State :=
  let l := le s e
  if l.trig ≠ none ∧ l.work = none ∧ nextSlot s e = none then s.setLe e { l with work := some (leWork s e), ready := max l.ready s.now } else s

/-- One piece of a sample's work starts when the one before is done, or the sample completes (R296). Work whose slot has gone is passed over. -/
def leAdvance (e : Nat) (s0 : State) : State :=
  let s := lePlan e s0
  let l := le s e
  if leOn s e && decide (l.trig ≠ none) && decide (l.ready ≤ s.now) then
    match l.work with
    | none => s
    | some ws => match ws.dropWhile fun w => !(w.stands s e) with
      | [] => finishSampleLe e s
      | w :: r =>
        let t := w.run e s
        t.setLe e { le t e with work := some r, ready := l.ready + w.cost }
  else s

/-- Every input that feeds the slot is fresh (R293): an axis whose sample instant has not come since the previous LE trigger has none. -/
def inputsFresh (s : State) (n : Nat) : Bool :=
  let x := ax s n
  let fed := fedInputs s n
  let captured := match x.capAt with | some t => decide ((le s (n / 8)).prev.getD 0 ≤ t) | none => false
  fed.isEmpty || (captured && fed.all x.fresh.contains && decide (x.freshAt ≤ s.now))

/-- The profile sample of an axis (R328). -/
def profDue (s : State) (n : Nat) : Bool :=
  match loopMode s n with
  | 0 => posDue s n | 1 => velDue s n | 2 => false | _ => true

/-- The LE trigger starts the evaluation of an axis in its profile sample (R328, R329). `s0` holds what the other axes have latched before; an axis
whose own sample instant has never come takes the trigger's. -/
def profStart (n : Nat) (s0 s : State) : State :=
  if profDue s n then
    let o := prof s0 (masterIdx s n)
    let s1 := if (ax s n).capAt = none then profCapture n (rootNow s) s else s
    profEval n (s1.setProf n { prof s1 n with axM := (o.p, o.v) })
  else s

/-- The current loop of a slot starts (R17, R293, R305). -/
def slotStart (e slot : Nat) (s : State) : State :=
  let l := le s e
  let n := 8 * e + slot
  if leOn s e && decide (slot < 8) && decide (l.trig ≠ none) && decide (nextSlot s e = some slot) && decide (l.ready ≤ s.now)
      && inputsFresh s n then
    let s1 := s.setAx n { ax s n with copy := paramsNow s n, fresh := (ax s n).fresh.filter fun i => !((fedInputs s n).contains i) }
    let s2 := loopInh n (stateRead n (slotReads s1 n) (repFade n s1))
    let s3 := axWords n (slotWrites s1 n) (slotLoop n s2)
    lePlan e (s3.setLe e { le s3 e with next := slot + 1, ready := s.now + slotCost s n })
  else s

/-- A sample trigger of a Loop Engine (R292, R306, R329). -/
def leTrigger (e : Nat) (s : State) : State :=
  let l := le s e
  if !(leOn s e) then s
  else if l.trig ≠ none then
    ((s.satInc (Reg.LE_OVERLOAD_CNT e) 0).cause (Reg.LE e) 0).setLe e { l with overloaded := true }
  else
    let s1 := s.setLe e { l with trig := some s.now, next := 0, ready := s.now, work := none, prev := l.last, last := some s.now }
    let s2 := (leSlots s1 e).foldl
      (fun t k => let n := 8 * e + k
        if t.fld (Reg.PWM_CFG n) 4 1 = 1 then t.setPwm n { pwm t n with leOpen := true } else t) s1
    lePlan e ((leSlots s2 e).foldl (fun t k => profStart (8 * e + k) s2 t) s2)

/-- The sample instant of an axis (R269, R292, R313, R334): ENC captures, the index forms, the Profile Unit takes its master there, and the lead
slot's instant triggers its Loop Engine. -/
def sampleInstant (n : Nat) (s : State) : State :=
  match (ax s n).due with
  | some t =>
    if n < axesOf s.variant ∧ t ≤ rootNow s + 3 then
      let s1 := s.setAx n { ax s n with due := none, capAt := some s.now }
      let s2 := live (0x80 + n) (repIndex n t) (live (0xC0 + n) (encCapture n t) s1)
      let s3 := profCapture n t s2
      if s.fld (Reg.LE_CFG (n / 8)) 0 3 = n % 8 then leTrigger (n / 8) (if leOn s3 (n / 8) then ldlDue 2 (n / 8) 0 t s3 else s3) else s3
    else s
  | none => s

/-- Extra compare `k` of PWM `n` fires and drives its converters and the sample instant of the axis (R279, R292). -/
def xcmpFire (n k : Nat) (s : State) : State :=
  if n < axesOf s.variant ∧ xcmpDue s n k then
    let at_ := xcmpRoot s n k
    let s1 := ldlDue 1 n k at_ (xcmpTriggers n k at_ (xcmpFired n k s))
    if s1.fld (Reg.AX_LOOP_CFG n) 16 2 = k then
      s1.setAx n { ax s1 n with due := some (at_ + s1.fld (Reg.AX_LOOP_CFG n) 20 5 * 16) }
    else s1
  else s

/-- The datapaths of a Loop Engine disagree (R307): no set of compares that is not committed yet commits. -/
def pairMismatch (e slot step : Nat) (s : State) : State :=
  if leOn s e && decide ((le s e).trig ≠ none) then
    let s1 := (s.wr (Reg.LE_PAIR_STAT e) (wordOf (0x80000000 + slot % 32 * 0x100 + step % 256))).cause (Reg.LE e) 1
    let s2 := (List.range 8).foldl (fun t k => dropDuties (8 * e + k) t) s1
    lineCheck (3 + e) true ((actDutiesOff e s2).setLe e { le s2 e with halted := true, trig := none, work := none })
  else s

/-! ## Enable and disable (R310) -/

/-- An axis is enabled: its slot and its state words start from zero, the Profile Unit stands at the captured position. -/
def axEnable (n : Nat) (s : State) : State :=
  let old := ax s n
  let s1 := s.setAx n { inputs := old.inputs, fresh := old.fresh, due := old.due, capAt := old.capAt, inForce := old.inForce,
                        stageAt := old.stageAt }
  let s2 := s1.setRep n { j := (rep s n).j, frac := (rep s n).frac, crossed := s.now, clearing := (rep s n).clearing }
  axWords n (List.range 16) (profEnable n (capPos s n) (s2.wr (Reg.AX_LOOP_STAT n) 0))

/-- EN of an axis is cleared: the Profile Unit stops under the loops; CURRENT_ONLY goes off at once. The page is STOPPING meanwhile. -/
def axDisable (n : Nat) (abort : Bool) (s : State) : State :=
  let s1 :=
    if loopMode s n = 2 then (axisOff n s).profTo n 0 0
    else
      let rate := (s.rd (if abort then Reg.AX_UNDERRUN_DECEL n else Reg.AX_STOP_DECEL n)).toNat
      axisOffIfDone n (profStop n rate .idle s)
  lePlan (n / 8) s1

/-- A Loop Engine is disabled: its axes go off at once, its actuator slots stop (R310). -/
def leDisable (e : Nat) (s : State) : State :=
  let s1 := (leSlots s e).foldl (fun t k => (axisOff (8 * e + k) t).profTo (8 * e + k) 0 0) s
  (actDutiesOff e s1).setLe e { halted := (le s1 e).halted }

/-- A Loop Engine is enabled: its samples count from here. -/
def leEnable (e : Nat) (s : State) : State := s.setLe e { halted := (le s e).halted }

/-! ## Register accesses -/

/-- A write to LOOP_CFG (R295, R309). -/
def loopCfgWrite (m : Master) (n : Nat) (v : Word) (s : State) : State :=
  let a := Reg.AX_LOOP_CFG n
  let d := defOf .ax 0x040
  regWrite d a m v
    (fun v s =>
      if axisLive s n then s.blockError a 0x01 m
      else if 5 ≤ bits v 0 3 then s.blockError a 0x02 m
      else s.wr a (storeValue d (s.rd a) v)) s

/-- A write to ID_REF or IQ_REF: no lock blocks the reduction of a current command (R26). -/
def currentRefWrite (d : RegDef) (a : Nat) (m : Master) (v : Word) (s : State) : State :=
  let old := s.sfld a 0 24
  let new := sbits v 0 24
  if cfgLocked s (pageOf a) ∧ 0 ≤ new * old ∧ new.natAbs ≤ old.natAbs then
    let t := plainStore d a v (s.consumeKey (pageOf a) m)
    if t.rd a = s.rd a then t else t.crcTouch (pageOf a)
  else genericWrite .ax d a m v s

/-- A write to a loop register of an AX page (0x040 to 0x0FF). -/
def loopWrite (d : RegDef) (a : Nat) (m : Master) (v : Word) (s : State) : State :=
  let n := a / 0x1000 % 0x10
  match d.off with
  | 0x040 => loopCfgWrite m n v s
  | 0x044 => paramCtrlWrite m n v s
  | 0x05C | 0x060 => currentRefWrite d a m v s
  | _ => genericWrite .ax d a m v s

/-- A write to a register of an AX page from offset 0x040 upward. -/
def axWrite (d : RegDef) (_ a : Nat) (m : Master) (v : Word) (s : State) : State :=
  if d.off < 0x100 then loopWrite d a m v s else if d.off < 0x200 then profWrite d a m v s else repWrite d a m v s

/-- A read of a register of an AX page whose value is not stored. -/
def axRead (d : RegDef) (k a : Nat) (_ : Master) (s : State) : Option (Word × State) :=
  if d.off < 0x100 then none else if d.off < 0x200 then profRead d k a s else repRead d a s

/-- A read of a register of an LE page whose value is not stored (R305, R310, R357). -/
def leRead (d : RegDef) (_ a : Nat) (_ : Master) (s : State) : Option (Word × State) :=
  let e := a / 0x1000 % 0x10
  match d.off with
  | 0x054 =>
    some (wordOf ((List.range 8).foldl
      (fun acc k => acc + (if axisLive s (8 * e + k) then 2 ^ k + (if axInhibited s (8 * e + k) then 2 ^ (8 + k) else 0) else 0)) 0), s)
  | 0x058 => some (wordOf ((List.range 24).foldl (fun acc a => acc + (if (boundChan s e a).isSome then 2 ^ a else 0)) 0), s)
  | _ => none

/-- STAT.STATE of a Loop Engine: 0 idle, 1 waiting for trigger, 2 computing, 3 PAIR_HALT. -/
def leStatState (s : State) (e : Nat) : Nat :=
  let l := le s e
  if l.halted then 3 else if !(s.flag (Reg.LE e + 0x008) 0) then 0 else if l.trig ≠ none then 2 else 1

/-! ## The commands -/

/-- PWM_XCMP_FIRE (R279). -/
def execPwmXcmpFire (n k : Nat) (s : State) : Answer := .next (live (0x90 + n) (xcmpFire n k) s)
/-- LE_SAMPLE_TRIGGER (R292): the sample instant of axis `n`. -/
def execLeSampleTrigger (n : Nat) (s : State) : Answer := .next (sampleInstant n s)
/-- LE_SLOT_START (R293). -/
def execLeSlotStart (e slot : Nat) (s : State) : Answer := .next (slotStart e slot s)
/-- LE_PAIR_MISMATCH (R307). -/
def execLePairMismatch (e slot step : Nat) (s : State) : Answer := .next (pairMismatch e slot step s)
/-- PARAM_COMMIT (R309). -/
def execParamCommit (m : Master) (n : Nat) (s : State) : Answer :=
  .next (if n < 16 then regRow m (Reg.AX_PARAM_CTRL n) (paramCtrlWrite m n 0) s else s)
/-- SNAP_REQ (R312). -/
def execSnapReq (m : Master) (e : Nat) (v : Word) (s : State) : Answer :=
  .next (if e < 2 then regRow m (Reg.LE_SNAP_REQ e) (genericWrite .le (defOf .le 0x060) (Reg.LE_SNAP_REQ e) m v) s else s)

end Sys2Proof.Machine
end

