-- ==== Sys2Proof/Machine/Sch.lean ====
section
/-! DEFINITION. The section scheduler (spec/19_scheduler.md): insertion, firing, completions, cancel and flush. -/

namespace Sys2Proof.Machine

/-- The scheduler fires: enabled, and not halted in PADDLE or EASY (R89, R407). -/
def schRuns (s : State) : Bool := busUp s && s.flag (Reg.SCH + 0x008) 0 && decide (s.fld Reg.PWR_STATE 0 3 = 0)

/-- An action of a calendar entry opens: TYPE 1. -/
def CalEntry.opens (e : CalEntry) : Bool := decide (e.kind = 1)

/-! ## Completions (R404) -/

/-- One completion record: LAST_CMPL holds it, and it enters the FIFO unless that holds 16. -/
def schRecord (ws : List Word) (s : State) : State :=
  let s1 := (List.range 4).foldl (fun t k => t.wr (Reg.SCH_LAST_CMPL k) (listGet ws k 0)) s
  let s2 := s1.cause Reg.SCH 0
  if 16 ≤ s2.sch.fifo.length then (s2.satInc Reg.SCH_CMPL_LOST 0).cause Reg.SCH 5
  else { s2 with sch := { s2.sch with fifo := s2.sch.fifo ++ [ws] } }

/-- The words of a completion. -/
def completionWords (result ident kind target answer time : Nat) (late early knatis : Bool) : List Word :=
  let b (c : Bool) (k : Nat) : Nat := if c then 2 ^ k else 0
  [wordOf (0x1000000 * result + ident), wordOf (b late 31 + b early 30 + b knatis 28 + 0x1000000 * answer + 0x10000 * target + kind),
   wordOf time, hiWord time]

/-- An entry completes with a result (R404). With CMPL_FIRED 0, firing on time with the ordinary answer writes no record. -/
def schComplete (e : CalEntry) (result answer : Nat) (late early : Bool) (s : State) : State :=
  if result = 0 ∧ late = false ∧ early = false ∧ s.flag Reg.SCH_CFG 1 = false ∧ (e.opens = false ∨ answer = 0) then s
  else schRecord (completionWords result e.ident e.kind e.target answer e.fire late early e.knatis) s

/-- The oldest record goes to the completion queue when that has room for four words (R404). -/
def completionPush (s : State) : State :=
  match s.sch.fifo, boundProd s 0x40 with
  | ws :: r, some q =>
    if busUp s && qRoom s q 4 then qPushAll q ws { s with sch := { s.sch with fifo := r } } else s
  | _, _ => s

/-! ## Dispatch (R348, R349, R400, R402) -/

/-- The action of an entry acts, and the answer of its channel. The instant at which it acts is its fire time, or the implement time of a late
or early firing (R363, R364; DEDUCED, log entry 70). -/
def dispatch (e : CalEntry) (onTime : Bool) (s : State) : State × Nat :=
  let it := if onTime then e.fire else implementTime s
  match e.kind with
  | 1 => actOpen e.target it false s
  | 2 => let t := actClose e.target it s
         ({ t with sch := { t.sch with closed := tabPut t.sch.closed e.target (s.now + 1) 0 } }, 0)
  | _ =>
    (if axisOn s e.target then profStop e.target (s.rd (Reg.AX_STOP_DECEL e.target)).toNat .stopped s else s, 0)

/-- Time allows an opening: TIME_OK, or one valid lane where SINGLE_OK permits it (R22, R402). -/
def openTimeOk (s : State) : Bool := timeOk s || (s.flag Reg.TSU_SINGLE_OK 0 && timeSingle s)

/-- Counters and causes of a completion that is not an on-time firing. -/
def lateCount (late : Bool) (s : State) : State := if late then (s.satInc Reg.SCH_LATE_CNT 0).cause Reg.SCH 1 else s

/-- The entries of a group leave the calendar with one dispatch (R400 to R402). -/
def fireGroup (g : List CalEntry) (s : State) : State :=
  match g with
  | [] => s
  | e :: _ =>
    let it := implementTime s
    let isLate (x : CalEntry) : Bool := x.late || decide (x.fire + 20 < it)
    let gone := { s with sch := { s.sch with cal := s.sch.cal.filter fun x => !((g.map CalEntry.slot).contains x.slot) } }
    if e.opens && g.any isLate && decide (e.fire + s.fld Reg.SCH_LATE_LIMIT 0 32 < it) then
      g.foldl (fun t x => schComplete x 5 0 false false ((t.satInc Reg.SCH_DROP_CNT 0).cause Reg.SCH 2)) gone
    else if e.opens && !(openTimeOk s) then
      g.foldl (fun t x => schComplete x 6 0 false false ((t.satInc Reg.SCH_SUPPR_CNT 0).cause Reg.SCH 3)) gone
    else if e.opens && restrictOpen s then
      g.foldl (fun t x => schComplete x 7 0 false false ((t.satInc Reg.SCH_SUPPR_CNT 0).cause Reg.SCH 3)) gone
    else
      let r := dispatch e (!(isLate e)) gone
      g.foldl (fun t x => schComplete x 0 r.2 (isLate x) false (lateCount (isLate x) (t.wrapInc Reg.SCH_FIRED_CNT))) r.1

/-- An entry is due: its fire time has come, and an OPEN does not follow a CLOSE to its channel in the same SYS cycle (R400). -/
def entryDue (s : State) (e : CalEntry) : Bool :=
  decide (e.fire ≤ implementTime s) && !(e.opens && decide (tabGet s.sch.closed e.target 0 = s.now + 1))

/-- The next entry to fire among those due: least F, in insertion order, but a CLOSE of a channel before its OPEN (R400). -/
def nextDue (s : State) : Option CalEntry :=
  let due := s.sch.cal.filter (entryDue s)
  match due with
  | [] => none
  | h :: _ =>
    let f := due.foldl (fun a e => min a e.fire) h.fire
    let same := due.filter fun e => decide (e.fire = f)
    match same with
    | [] => none
    | e :: _ =>
      if e.opens then some ((same.find? fun x => decide (x.kind = 2 ∧ x.target = e.target)).getD e) else some e

/-- The scheduler reads the words of an entry (R408); `upset` is what the first of them has suffered. -/
def calRead (e : CalEntry) (upset : Upset) (s : State) : State :=
  (List.range 8).foldl (fun t k => (readWord 0xA (0xFC000000 + 32 * e.slot + 4 * k) (if k = 0 then upset else .none) t).2) s

/-- An entry whose fire time is reached while nothing fires (R407): an OPEN is skipped, a closing action waits. -/
def skipDue (s : State) : State :=
  let due (e : CalEntry) : Bool := decide (e.fire ≤ implementTime s)
  let opens := s.sch.cal.filter fun e => due e && e.opens
  let stay := (s.sch.cal.filter fun e => !(due e && e.opens)).map fun e => if due e then { e with late := true } else e
  let s1 := { s with sch := { s.sch with cal := stay } }
  opens.foldl (fun t e => schComplete e 8 0 false false t) s1

/-- SCH_FIRE (R400 to R402, R407, R408). -/
def schFire (upset : Upset) (s : State) : State :=
  if schRuns s then
    match nextDue s with
    | none => s
    | some e =>
      let s1 := calRead e upset s
      if s1.sch.cal.any (fun x => decide (x.slot = e.slot)) then
        fireGroup (s1.sch.cal.filter fun x => decide (x.fire = e.fire ∧ x.kind = e.kind ∧ x.target = e.target)) s1
      else s1
  else if busUp s then skipDue s
  else s

/-! ## Insertion (R396 to R399) -/

/-- The fire time of an action (R399). A T below the latency has fire time 0. -/
def fireTime (s : State) (kind target time : Nat) (noComp : Bool) : Nat :=
  if noComp then time
  else match kind with
    | 1 => time - latOpen s target
    | 2 => time - latClose s target
    | _ => time

/-- The lowest free place of the calendar memory. -/
def freeSlot (s : State) : Nat :=
  ((List.range 1024).find? fun k => !(s.sch.cal.any fun e => decide (e.slot = k))).getD 0

/-- A rejected insertion (R397, R404). -/
def schReject (result : Nat) (w0 w1 : Word) (knatis : Bool) (s : State) : State :=
  schRecord (completionWords result (bits w0 0 24) (bits w0 28 4) (bits w1 0 6) 0 (implementTime s) false false knatis)
    ((s.satInc Reg.SCH_REJECT_CNT 0).cause Reg.SCH 4)

/-- A record that names an illegal action (R397). -/
def badAction (s : State) (w0 w1 : Word) : Bool :=
  let k := bits w0 28 4
  decide (k = 0 ∨ 3 < k) || decide (bits w0 24 4 ≠ 0) || decide (bits w1 6 25 ≠ 0)
    || decide (if k = 3 then axesOf s.variant ≤ bits w1 0 6 else 8 * groupsOf s.variant ≤ bits w1 0 6)

/-- One insertion of a record of four words (R397 to R399, R401). -/
def insertRecord (ws : List Word) (poison length knatis : Bool) (s : State) : State :=
  let w0 := listGet ws 0 0
  let w1 := listGet ws 1 0
  let kind := bits w0 28 4
  let used := s.sch.cal.length
  if poison then schReject 2 w0 w1 knatis s
  else if length || badAction s w0 w1 then schReject 3 w0 w1 knatis s
  else if s.sch.cal.any (fun e => decide (e.ident = bits w0 0 24)) then schReject 4 w0 w1 knatis s
  else if kind = 1 ∧ 960 ≤ used then schReject 1 w0 w1 knatis s
  else
    let target := bits w1 0 6
    let time := pairNat (listGet ws 2 0) (listGet ws 3 0)
    let f := fireTime s kind target time (bit w1 31)
    let slot := freeSlot s
    let e : CalEntry := { slot := slot, kind := kind, ident := bits w0 0 24, noComp := bit w1 31, target := target, time := time,
                          fire := f, knatis := knatis, late := decide (f ≤ implementTime s) }
    if 1024 ≤ used then
      let r := dispatch e false s
      schComplete e 0 r.2 e.late true (lateCount e.late (r.1.wrapInc Reg.SCH_FIRED_CNT))
    else
      putWords (0xFC000000 + 32 * slot) [w0, w1, listGet ws 2 0, listGet ws 3 0, wordOf f, hiWord f, 0, 0]
        { s with sch := { s.sch with cal := s.sch.cal ++ [e] } }

/-- The queue whose turn it is: bound to consumer 0x90, four words available, in round-robin order (R396). -/
def insertQueue (s : State) : Option Nat :=
  let qs := (allCons s 0x90).filter fun q => qEnabled s q && decide (4 ≤ qAvail s q)
  match qs.find? fun q => decide (s.sch.rrFrom ≤ q) with
  | some q => some q
  | none => qs.head?

/-- SCH_INSERT (R396): a Knatis action goes first, then the queues in turn. -/
def schInsert (s : State) : State :=
  if busUp s then
    match s.sch.knatis with
    | ws :: r => insertRecord ws false false true { s with sch := { s.sch with knatis := r } }
    | [] => match insertQueue s with
      | none => s
      | some q =>
        let pop (acc : List Popped × State) : List Popped × State :=
          let (p, t) := qHwPop q 16 (qReady q 4 acc.2)
          (acc.1 ++ [p], t)
        let (ps, s1) := pop (pop (pop (pop ([], s))))
        insertRecord (ps.map Popped.word) (ps.any fun p => decide (p.tag = 4)) (ps.any Popped.isLength) false
          { s1 with sch := { s1.sch with rrFrom := q + 1 } }
  else s

/-! ## Cancel, flush, register accesses (R405 to R407) -/

/-- CANCEL_STAT.BUSY (R406). -/
def cancelBusy (s : State) : Bool := decide (s.now < s.sch.cancelEnd)

/-- A write to CANCEL (R405, R406). The entries leave at once; BUSY then stays for a free time of at most 2 µs (log entry 70). -/
def cancelWrite (m : Master) (v : Word) (s : State) : State :=
  if cancelBusy s then (s.consumeKey 0xE1 m).blockError Reg.SCH_CANCEL 0x02 m
  else
  let (d, s0) := s.freeIn 0 400
  let s1 := { s0 with sch := { s0.sch with cancelEnd := s.now + d.toNat } }.consumeKey 0xE1 m
  let hit := s1.sch.cal.filter fun e => decide (e.ident = bits v 0 24)
  let s2 := { s1 with sch := { s1.sch with cal := s1.sch.cal.filter fun e => decide (e.ident ≠ bits v 0 24) } }
  (hit.foldl (fun t e => schComplete e 9 0 false false t) s2).wr Reg.SCH_CANCEL_STAT (wordOf hit.length)

/-- A write to CMD (R407). -/
def schCmdWrite (m : Master) (v : Word) (s : State) : State :=
  let s1 := s.consumeKey 0xE1 m
  if !(bit v 0) then s1
  else if s.flag (Reg.SCH + 0x008) 0 then s1.blockError Reg.SCH_CMD 0x01 m
  else { (s1.satAdd Reg.SCH_DISCARD 0 s1.sch.cal.length) with sch := { s1.sch with cal := [] } }

/-- A write to a register of the SCH page from offset 0x040 upward. -/
def schWrite (d : RegDef) (_ a : Nat) (m : Master) (v : Word) (s : State) : State :=
  match d.off with
  | 0x054 => cancelWrite m v s
  | 0x05C => schCmdWrite m v s
  | _ => genericWrite .sch d a m v s

/-- A read of a register of the SCH page whose value is not stored. NEXT_F of an empty calendar reads 0, as after reset (DEDUCED, log entry
70). -/
def schRead (d : RegDef) (k _ : Nat) (_ : Master) (s : State) : Option (Word × State) :=
  match d.off with
  | 0x048 =>
    some (wordOf (0x10000 * s.sch.cal.length + (s.sch.cal.filter CalEntry.opens).length), s)
  | 0x04C =>
    match s.sch.cal with
    | [] => some (0, s)
    | e :: r =>
      let f := r.foldl (fun a x => min a x.fire) e.fire
      some (if k = 0 then wordOf f else hiWord f, s)
  | 0x058 => some (putBit (s.rd Reg.SCH_CANCEL_STAT) 31 (cancelBusy s), s)
  | _ => none

/-! ## The commands -/

/-- SCH_INSERT (R396). -/
def execSchInsert (s : State) : Answer := .next (live 0xE1 schInsert s)
/-- SCH_FIRE (R400). -/
def execSchFire (upset : Upset) (s : State) : Answer := .next (live 0xE1 (schFire upset) s)
/-- SCH_CANCEL (R406). -/
def execSchCancel (m : Master) (ident : Nat) (s : State) : Answer := .next (regRow m Reg.SCH_CANCEL (cancelWrite m (wordOf ident)) s)
/-- SCH_FLUSH (R407). -/
def execSchFlush (m : Master) (s : State) : Answer := .next (regRow m Reg.SCH_CMD (schCmdWrite m 1) s)
/-- SCH_COMPLETION_PUSH (R404). -/
def execSchCompletionPush (s : State) : Answer := .next (live 0xE1 completionPush s)
end Sys2Proof.Machine
end

