-- ==== Sys2Proof/Machine/Can.lean ====
section
/-! DEFINITION. CAN FD controllers and the schedule matrix (spec/20_can.md). The counting rules of TEC and REC are those of ISO 11898-1,
which R409 names (log entry 30). -/

namespace Sys2Proof.Machine

/-- A controller beyond its registers, and one of its TX buffers. -/
def can (s : State) (n : Nat) : Can := tabGet s.cans n {}
def State.setCan (s : State) (n : Nat) (c : Can) : State := { s with cans := tabPut s.cans n c {} }
def canTx (s : State) (n b : Nat) : CanTx := tabGet (can s n).tx b {}
def State.setTx (s : State) (n b : Nat) (t : CanTx) : State := s.setCan n { can s n with tx := tabPut (can s n).tx b t {} }

/-- The controller is present and enabled. -/
def canOn (s : State) (n : Nat) : Bool := decide (n < cansOf s.variant) && s.flag (Reg.CAN n + 0x008) 0

/-- The frame on the bus of a controller whose EN has been cleared is being completed (R417). -/
def canStopping (s : State) (n : Nat) : Bool := s.flag (Reg.CAN n + 0x00C) 1

/-- The controller is halted: HOLD, or EASY without EASY_NBT (R416). -/
def canHalted (s : State) (n : Nat) : Bool :=
  !(busUp s) || (decide (s.fld Reg.PWR_STATE 0 3 = 2) && decide (s.rd (Reg.CAN_EASY_NBT n) = 0))

/-- The controller takes part on the bus as a receiver: enabled, or completing the frame on the bus (R62), and error-active or
error-passive. -/
def canLive (s : State) (n : Nat) : Bool :=
  (canOn s n || canStopping s n) && !(canHalted s n) && (let st := (can s n).st; decide (st = 1 ∨ st = 2))

/-- The mode in force: OPMODE, 0 NORMAL, 1 RESTRICTED, 2 MONITOR, 3 LOOPBACK (R414), and bus monitoring in EASY (R416). -/
def canMode (s : State) (n : Nat) : Nat := if s.fld Reg.PWR_STATE 0 3 = 2 then 2 else s.fld (Reg.CAN_CFG n) 8 2

/-- The controller transmits: NORMAL or LOOPBACK, in ROW or PADDLE, with no entry to EASY or deeper under way (R414, R416, R89). -/
def canSends (s : State) (n : Nat) : Bool :=
  canOn s n && canLive s n && decide (canMode s n = 0 ∨ canMode s n = 3) && decide (s.fld Reg.PWR_STATE 0 3 ≤ 1)
    && (match s.power.phase with | .entering t => decide (t < 2) | _ => true)

/-! ## Error counters (R409, R414, R415) -/

/-- The error state after a change of the counters: ERR_WARN, ERR_PASSIVE and BUS_OFF latch as they come into force. -/
def canErrState (n : Nat) (old : Can) (s : State) : State :=
  let c := can s n
  let warn (x : Can) : Bool := decide (96 ≤ x.tec) || decide (96 ≤ x.recErr)
  let pass (x : Can) : Bool := decide (128 ≤ x.tec) || decide (128 ≤ x.recErr)
  let s1 := (s.causeIf (warn c && !(warn old)) (Reg.CAN n) 9).causeIf (pass c && !(pass old)) (Reg.CAN n) 5
  if c.st = 1 ∨ c.st = 2 then
    if 255 < c.tec then
      (s1.cause (Reg.CAN n) 6).setCan n { c with st := if s.flag (Reg.CAN_CFG n) 12 then 4 else 3 }
    else s1.setCan n { c with st := if pass c then 2 else 1 }
  else s1

/-- Replaces the counters of a controller. -/
def setCounters (n tec rec : Nat) (s : State) : State :=
  canErrState n (can s n) (s.setCan n { can s n with tec := tec, recErr := rec })

/-- 11 recessive bits end INTEGRATING (R414). -/
def canIntegrated (n : Nat) (s : State) : State :=
  if canOn s n && !(canHalted s n) && decide ((can s n).st = 0) then
    let c := can s n
    s.setCan n { c with st := if 128 ≤ c.tec ∨ 128 ≤ c.recErr then 2 else 1 }
  else s

/-- The frame of another node has left the bus: a controller that stops becomes IDLE (R62, R417). -/
def busFrameEnd (n : Nat) (s : State) : State := if canStopping s n then s.setFld (Reg.CAN n + 0x00C) 0 3 4 else s

/-- An error while receiving: REC rises by 1, or by 8 for a dominant bit after the error flag. -/
def canRxError (n lec : Nat) (eight : Bool) (s : State) : State :=
  if canLive s n then
    let c := can s n
    busFrameEnd n (setCounters n c.tec (min 255 (c.recErr + (if eight then 8 else 1))) (s.setCan n { c with lec := lec % 8 }))
  else s

/-- A valid frame received lowers REC by 1; above 127 ISO 11898-1 lets it take any value from 119 to 127, a free choice. -/
def rxCredit (n : Nat) (s : State) : State :=
  let c := can s n
  let (r, s1) : Int × State := if 127 < c.recErr then s.freeIn 119 127 else (c.recErr - 1, s)
  setCounters n c.tec r.toNat (s1.setCan n { can s1 n with lec := 0 })

/-- A recessive res bit (R414): with FD_EN and PXE_EN a protocol exception, else a form error (of the FDF bit before it with FD_EN at
0). -/
def canException (n : Nat) (s : State) : State :=
  if !(canLive s n) then s
  else if s.flag (Reg.CAN_CFG n) 16 && s.flag (Reg.CAN_CFG n) 20 then
    busFrameEnd n ((((s.satInc (Reg.CAN_PXE_CNT n) 0).cause (Reg.CAN n) 8)).setCan n { can s n with st := 0 })
  else canRxError n 2 false s

/-- Recovery ends (R415). -/
def canRecovered (n : Nat) (s : State) : State :=
  if canOn s n && !(canHalted s n) && decide ((can s n).st = 4) then s.setCan n { can s n with st := 1, tec := 0, recErr := 0 } else s

/-! ## Frames (R409, R410, R418 to R421) -/

/-- Payload bytes of a frame (R410; the DLC of CAN FD). -/
def frameBytes (fdf rtr : Bool) (dlc : Nat) : Nat :=
  if dlc ≤ 8 then (if rtr && !fdf then 0 else dlc)
  else if !fdf then (if rtr then 0 else 8)
  else listGet [12, 16, 20, 24, 32, 48, 64] (dlc - 9) 64

/-- Words 1 and 2 of the RX layout, then the data words, byte 0 lowest (R420). -/
def frameId (f : CanFrame) : Word :=
  wordOf ((if f.ide then 0x80000000 else 0) + (if f.rtr then 0x40000000 else 0) + f.ident % (if f.ide then 0x20000000 else 0x800))
def frameFormat (f : CanFrame) : Word :=
  wordOf ((if f.fdf then 0x80000000 else 0) + (if f.brs then 0x40000000 else 0) + (if f.esi then 0x20000000 else 0) + 0x10000 * (f.dlc % 16))

/-- `n` bytes packed into words. -/
def packBytes (l : List (BitVec 8)) : Nat → List Word
  | 0 => []
  | n + 1 =>
    let b (k : Nat) : Nat := (listGet l k 0).toNat
    wordOf (b 0 + 0x100 * b 1 + 0x10000 * b 2 + 0x1000000 * b 3) :: packBytes (l.drop 4) n

/-- Data words of a frame. -/
def frameData (f : CanFrame) : List Word :=
  let k := frameBytes f.fdf f.rtr (f.dlc % 16)
  packBytes (f.data.take k) ((k + 3) / 4)

/-- PGN of an extended identifier (R418). -/
def pgnOf (id : Nat) : Nat := let pf := id / 0x10000 % 0x100
  id / 0x1000000 % 4 * 0x10000 + pf * 0x100 + (if 240 ≤ pf then id / 0x100 % 0x100 else 0)

/-- Filter `k` matches a frame (R418). -/
def filterMatches (s : State) (n k : Nat) (f : CanFrame) : Bool :=
  let ctl := s.rd (Reg.CAN_FLT_CTL n k)
  let fid := s.rd (Reg.CAN_FLT_ID n k)
  let msk := s.rd (Reg.CAN_FLT_MASK n k)
  let id := f.ident % (if f.ide then 0x20000000 else 0x800)
  let under (a b m : Nat) : Bool := decide ((a ^^^ b) &&& m = 0)
  let extData := f.ide && !f.rtr
  bit ctl 31 &&
    match bits ctl 24 2 with
    | 0 => (match bits ctl 28 2 with | 0 => !f.ide | 1 => f.ide | _ => true)
           && under id (bits fid 0 (if f.ide then 29 else 11)) (bits msk 0 (if f.ide then 29 else 11))
    | 1 => extData && decide (pgnOf id = bits fid 0 18) && under (id % 0x100) (bits msk 8 8) (bits msk 0 8)
    | 2 => extData && decide (pgnOf id = bits fid 0 18) && under (id % 0x100) (bits msk 8 8) (bits msk 0 8)
           && decide (id / 0x10000 % 0x100 < 240) && decide (id / 0x100 % 0x100 = bits msk 16 8 ∨ id / 0x100 % 0x100 = 0xFF)
    | _ => extData && under (id % 0x100) (bits fid 0 8) (bits msk 0 8)

/-- A frame is lost (R419, R421). -/
def rxLost (n : Nat) (s : State) : State := (s.satInc (Reg.CAN_RX_LOST n) 0).cause (Reg.CAN n) 7

/-- Address of word `w` of RX and TX buffer `b`. -/
def rxbAddr (n b w : Nat) : Nat := Reg.CAN_RXB n (20 * b + w)
def txbAddr (n b w : Nat) : Nat := Reg.CAN_TXB n (20 * b + w)

/-- A frame is stored in an RX buffer (R419): bytes past its data keep what stood there. -/
def rxStore (n b flt : Nat) (ws : List Word) (s : State) : State :=
  let a := rxbAddr n b 0
  if s.flag a 31 && s.flag (Reg.CAN_RXB_CFG n) b then rxLost n s
  else
    let w0 := wordOf (0x80000000 + (if s.flag a 31 then 0x40000000 else 0) + (s.fld a 8 8 + 1) % 256 * 0x100 + flt % 32)
    let s1 := (ws.zipIdx).foldl (fun t p => t.wr (rxbAddr n b (p.2 + 1)) p.1) (s.wr a w0)
    (s1.setFlag (Reg.CAN_RXNEW n) b true).cause (Reg.CAN n) 0

/-- The queue of entry `e` of RXQ_MAP, if it is bound to the controller (R421). -/
def rxQueue (s : State) (n e : Nat) : Option Nat :=
  let q := s.fld (Reg.CAN_RXQ_MAP n (e / 2)) (16 * (e % 2)) 9
  if q < queuesOf s.variant ∧ s.fld (qAddr q 0x10) 8 8 = 0x30 + n then some q else none

/-- Words that a record takes in a queue: the length word of a packet included (R421). -/
def recordRoom (s : State) (q : Nat) (ws : List Word) : Nat := ws.length + (if s.flag (qAddr q 0x10) 1 then 1 else 0)

/-- A frame goes to a queue (R421). -/
def rxToQueue (n e : Nat) (ws : List Word) (s : State) : State :=
  match rxQueue s n e with
  | none => rxLost n s
  | some q =>
    if s.flag (qAddr q 0x10) 2 then (if qRoom s q (recordRoom s q ws) then qPushRecord q ws s else rxLost n s)
    else if 4 ≤ (can s n).fifo.length then rxLost n s
    else s.setCan n { can s n with fifo := (can s n).fifo ++ [(q, ws)] }

/-- The oldest record of the FIFO goes to its queue once that has room; it is discarded where the queue is no longer bound to the controller
(R421). -/
def rxQueuePush (n : Nat) (s : State) : State :=
  match (can s n).fifo with
  | (q, ws) :: r =>
    if s.fld (qAddr q 0x10) 8 8 ≠ 0x30 + n then rxLost n (s.setCan n { can s n with fifo := r })
    else if busUp s && qRoom s q (recordRoom s q ws) then qPushRecord q ws (s.setCan n { can s n with fifo := r }) else s
  | [] => s

/-- A valid frame is filtered and delivered (R418 to R421). -/
def rxDeliver (n : Nat) (f : CanFrame) (sof : Int) (s : State) : State :=
  let ws := [frameId f, frameFormat f, wordOfInt sof] ++ frameData f
  let s1 := s.wrapInc (Reg.CAN_RX_CNT n)
  match (List.range 32).find? fun k => filterMatches s n k f with
  | none =>
    if s.flag (Reg.CAN_CFG n) 4 then
      let (flt, s2) := s1.freeIn 0 31
      rxStore n 15 flt.toNat ws s2
    else s1
  | some k =>
    let ctl := s.rd (Reg.CAN_FLT_CTL n k)
    if bit ctl 23 then s1
    else if bit ctl 20 then rxToQueue n (bits ctl 16 2) ws s1
    else rxStore n (bits ctl 0 4) k ws s1

/-- CAN_FRAME_RECEIVED (R414, R418, R419): a frame whose SOF came `back` TICKs ago becomes valid. With FD_EN 0 an FD frame is a form
error instead. -/
def frameReceived (n : Nat) (f : CanFrame) (back : Nat) (s : State) : State :=
  if canLive s n && decide (canMode s n ≠ 3) then
    if f.fdf && !(s.flag (Reg.CAN_CFG n) 16) then canRxError n 2 false s
    else busFrameEnd n (rxDeliver n f ((s.now : Int) - back) (rxCredit n s))
  else s

/-! ## RX buffer reads and writes (R420) -/

/-- The 20 words of an RX buffer as they stand. -/
def rxbWords (s : State) (n b : Nat) : List Word := (List.range 20).map fun w => s.rd (rxbAddr n b w)

/-- A master's read shadow ends: it has one over all RX buffers (R420). -/
def dropShadow (m : Master) (s : State) : State :=
  (List.range 3).foldl (fun t n => t.setCan n { can t n with shadow := tabPut (can t n).shadow (masterCode m) (99, []) (99, []) }) s

/-- A read of word `w` of RX buffer `b`. -/
def rxbRead (n b w : Nat) (m : Master) (s : State) : Word × State :=
  if w = 0 then
    let t := dropShadow m s
    (s.rd (rxbAddr n b 0), t.setCan n { can t n with shadow := tabPut (can t n).shadow (masterCode m) (b, rxbWords s n b) (99, []) })
  else
    let sh := tabGet (can s n).shadow (masterCode m) (99, [])
    (if sh.1 = b then listGet sh.2 w 0 else s.rd (rxbAddr n b w), s)

/-- A write to word `w` of RX buffer `b`: NEW clears only where SEQ matches. -/
def rxbWrite (m : Master) (n b w : Nat) (v : Word) (s : State) : State :=
  let s1 := s.consumeKey (0xF0 + n) m
  let a := rxbAddr n b 0
  if w = 0 ∧ bit v 31 ∧ bits v 8 8 = s.fld a 8 8 then (s1.setFlag a 31 false).setFlag (Reg.CAN_RXNEW n) b false else s1

/-! ## Transmission (R422 to R424, R426) -/

/-- A matrix entry as its registers hold it, and as it is in force. -/
def mtxReg (s : State) (n e : Nat) : Word × Word := (s.rd (Reg.CAN_MTX_A n e), s.rd (Reg.CAN_MTX_B n e))
def mtxForce (s : State) (n e : Nat) : Word × Word := tabGet (can s n).force e (0, 0)

/-- An enabled matrix entry names the buffer (R423, R427). -/
def mtxOwns (s : State) (n b : Nat) : Bool :=
  (List.range 64).any fun e => let w := s.rd (Reg.CAN_MTX_A n e)
    bit w 31 && decide (bits w 24 4 = b)

/-- Staging words 1 to 19 of a buffer. -/
def staging (s : State) (n b : Nat) : List Word := (List.range 19).map fun w => s.rd (txbAddr n b (w + 1))

/-- Words 1 and 2 cannot be sent (R410, R422). -/
def badFrame (s : State) (n b : Nat) : Bool :=
  let w1 := s.rd (txbAddr n b 1)
  let w2 := s.rd (txbAddr n b 2)
  (bit w2 31 && !(s.flag (Reg.CAN_CFG n) 16)) || (bit w1 30 && bit w2 31) || (bit w2 30 && !(bit w2 31))

/-- An attempt of buffer `b` is on the bus. -/
def attempting (s : State) (n b : Nat) : Bool := match (can s n).onBus with | some t => decide (t.buf = b) | none => false

/-- TXCOMMIT of buffer `b` (R422). -/
def txCommit (m : Master) (n b : Nat) (s : State) : State :=
  if badFrame s n b then s.blockError (Reg.CAN_TXCOMMIT n) 0x03 m
  else if attempting s n b then s.setTx n b { canTx s n b with commitDue := some m }
  else s.setTx n b { canTx s n b with active := staging s n b }

/-- TXREQ of buffer `b` (R423, R424). A new request starts with clear status flags. -/
def txReq (m : Master) (n b : Nat) (s : State) : State :=
  if mtxOwns s n b then s.blockError (Reg.CAN_TXREQ n) 0x04 m
  else
    let t := canTx s n b
    if t.cancelAt = some s.now ∧ t.pending = false then s.setTx n b { t with result := 2 }
    else if t.pending then s
    else s.setTx n b { t with pending := true, result := 0, cancelLate := false, winOverrun := false }

/-- TXCANCEL of buffer `b` (R424). -/
def txCancel (n b : Nat) (s : State) : State :=
  let t := canTx s n b
  if attempting s n b then (s.setTx n b { t with cancelLate := true }).cause (Reg.CAN n) 4
  else
    let c := can s n
    let open_ := c.wins.any fun w => decide (w.buf = b) && !w.done
    let s1 := s.setCan n { c with wins := c.wins.map fun w => if w.buf = b then { w with done := true } else w }
    if t.pending || open_ then s1.setTx n b { t with pending := false, result := 2, cancelAt := some s.now }
    else s1.setTx n b { t with cancelAt := some s.now }

/-- The arbitration field as a number: lower wins (R423). -/
def arbKey (ws : List Word) : Nat :=
  let w1 := listGet ws 0 0
  let r := if bit w1 30 then 1 else 0
  if bit w1 31 then bits w1 18 11 * 0x200000 + 0x180000 + bits w1 0 18 * 2 + r else bits w1 0 11 * 0x200000 + r * 0x100000

/-- The least element of a list by a key; the first of equals. -/
def leastBy {α : Type} (key : α → Int) : List α → Option α
  | [] => none
  | x :: r => match leastBy key r with
    | none => some x
    | some y => if key y < key x then some y else some x

/-- The frame offered at an arbitration start (R423): that of the window that opened first, else the free buffer with the lowest key. A buffer
that an enabled entry names is not free. -/
def offered (s : State) (n : Nat) : Option (Nat × Option CanWin) :=
  let c := can s n
  match leastBy (fun w => w.start * 64 + w.entry) (c.wins.filter fun w => !w.done && !w.closed) with
  | some w => some (w.buf, some w)
  | none =>
    (leastBy (fun b => (arbKey (canTx s n b).active : Int)) ((List.range 16).filter fun b => (canTx s n b).pending && !(mtxOwns s n b))).map
      fun b => (b, none)

/-- CAN_ARBITRATION_START (R422, R423): the SOF of an attempt. -/
def arbitrationStart (n : Nat) (s : State) : State :=
  let c := can s n
  if canSends s n && decide (c.onBus = none) then
    match offered s n with
    | some (b, w) =>
      let a : CanAttempt := { buf := b, entry := w.map CanWin.entry, start := match w with | some x => x.start | none => 0, sof := s.now,
                              words := (canTx s n b).active }
      s.setCan n { c with onBus := some a }
    | none => s
  else s

/-- The attempt `a` is one of window `w`. -/
def usesWin (a : CanAttempt) (w : CanWin) : Bool := decide (a.entry = some w.entry) && decide (a.start = w.start)

/-- The frame of the window that attempt `a` uses ends with a result. -/
def winDone (n : Nat) (a : CanAttempt) (s : State) : State :=
  let c := can s n
  s.setCan n { c with wins := (c.wins.map fun w => if usesWin a w then { w with done := true } else w).filter fun w => !(w.closed && w.done) }

/-- The oldest window of an entry that has not closed. -/
def winOf (s : State) (n e : Nat) : Option CanWin := (can s n).wins.find? fun w => decide (w.entry = e) && !w.closed

/-- The window that an attempt uses. -/
def attemptWin (s : State) (n : Nat) (a : CanAttempt) : Option CanWin := (can s n).wins.find? fun w => usesWin a w

/-- A window ends without its frame (R426). -/
def slotMissed (n b : Nat) (s : State) : State :=
  ((s.satInc (Reg.CAN_SLOT_MISSED n) 0).cause (Reg.CAN n) 3).setTx n b { canTx s n b with result := 4 }

/-- The attempt leaves the bus: a commit that waited acts, or is refused where staging cannot be sent as it stands now (R410), and a controller
that stops becomes IDLE (R417, R422), but not where another node's frame that won the arbitration (`lost`) is still on the bus (R62). -/
def attemptEnd (n b : Nat) (lost : Bool) (s : State) : State :=
  let c := can s n
  let t := canTx s n b
  let s0 := s.setCan n { c with onBus := none }
  let s1 := match t.commitDue with
    | none => s0
    | some m => (if badFrame s n b then s0.blockError (Reg.CAN_TXCOMMIT n) 0x03 m else s0).setTx n b
        { t with active := if badFrame s n b then t.active else staging s n b, commitDue := none }
  if lost then s1 else busFrameEnd n s1

/-- The frame that an attempt sends, as a receiver sees it: an error-passive controller sends ESI recessive in an FD frame (R409, ISO 11898-1). -/
def frameOf (passive : Bool) (ws : List Word) : CanFrame :=
  let w1 := listGet ws 0 0
  let w2 := listGet ws 1 0
  { ide := bit w1 31, rtr := bit w1 30, fdf := bit w2 31, brs := bit w2 30, esi := bit w2 31 && passive, ident := bits w1 0 29, dlc := bits w2 16 4,
    data := (ws.drop 3).flatMap fun w => [w.extractLsb' 0 8, w.extractLsb' 8 8, w.extractLsb' 16 8, w.extractLsb' 24 8] }

/-- The delay measured at the FDF-to-res edge of an attempt's frame (R412). -/
def tdcMeasured (n : Nat) (a : CanAttempt) (delay : Option Nat) (s : State) : State :=
  let c := can s n
  match delay with
  | some d =>
    if s.flag (Reg.CAN_TDC n) 31 && bit (listGet a.words 1 0) 31 then
      s.setCan n { c with delay := min 127 d, tdcOvf := c.tdcOvf || decide (127 < d) }
    else s
  | none => s

/-- CAN_TX_DONE (R412, R422, R423, R426): the attempt succeeds; `delay` is the measured transmitter delay. -/
def txDone (n delay : Nat) (s : State) : State :=
  let c := can s n
  match c.onBus with
  | none => s
  | some a =>
    let t := canTx s n a.buf
    let overrun := match a.entry with
      | some _ => (match attemptWin s n a with | some w => w.closed | none => true)
      | none => false
    let s0 := tdcMeasured n a (some delay) s
    let s1 := s0.setTx n a.buf { t with result := 1, pending := if a.entry.isNone then false else t.pending, winOverrun := overrun,
                                        count := (t.count + 1) % 256, stamp := wordOf a.sof }
    let s2 := ((s1.setFlag (Reg.CAN_TXDONE n) a.buf true).cause (Reg.CAN n) 1).wrapInc (Reg.CAN_TX_CNT n)
    let s3 := winDone n a s2
    let s4 := setCounters n (c.tec - 1) c.recErr (s3.setCan n { can s3 n with lec := 0 })
    let s5 := attemptEnd n a.buf false s4
    if canMode s n = 3 then rxDeliver n (frameOf (decide (c.st = 2)) a.words) a.sof s5 else s5

/-- CAN_TX_ERROR (R423, R426): the attempt loses arbitration or meets an error of code `lec`. -/
def txError (n : Nat) (how : TxFail) (lec : Nat) (s : State) : State :=
  let c := can s n
  match c.onBus with
  | none => s
  | some a =>
    let s1 := if how.lost then s
      else
        let inc := if c.st = 2 ∧ lec = 3 then 0 else 8
        let s0 := tdcMeasured n a how.delay s
        setCounters n (min 256 (c.tec + inc)) c.recErr (s0.setCan n { can s0 n with lec := lec % 8 })
    let t := canTx s1 n a.buf
    let abandoned (u : State) : State := (u.setTx n a.buf { canTx u n a.buf with result := 3, pending := false }).cause (Reg.CAN n) 2
    let s2 := match a.entry with
      | none => if canStopping s n then (s1.satInc (Reg.CAN_DISCARD n) 0).setTx n a.buf { t with result := 2, pending := false }
                else if bit (listGet a.words 1 0) 28 then abandoned s1 else s1
      | some _ => match attemptWin s1 n a with
        | some w => if w.closed then slotMissed n a.buf (winDone n a s1)
                    else if canStopping s n then
                      let u := (s1.satInc (Reg.CAN_DISCARD n) 0).setTx n a.buf { t with result := 2 }
                      u.setCan n { can u n with wins := (can u n).wins.filter fun x => !(usesWin a x) }
                    else if w.single then winDone n a (abandoned s1) else s1
        | none => s1
    attemptEnd n a.buf how.lost s2

/-- CMD.RECOVER (R415). -/
def recoverWrite (m : Master) (n : Nat) (v : Word) (s : State) : State :=
  let s1 := s.consumeKey (0xF0 + n) m
  if bit v 0 && decide ((can s n).st = 3) then s1.setCan n { can s1 n with st := 4 } else s1

/-! ## The matrix (R425 to R428) -/

/-- The matrix runs. -/
def mtxRuns (s : State) (n : Nat) : Bool :=
  canOn s n && busUp s && s.flag (Reg.CAN_MTX_CTRL n) 0 && s.flag (Reg.TSU + 0x008) 0

/-- Cycle length in ns, and the number of the cycle at an implement time, unreduced (R425). -/
def cycNs (s : State) (n : Nat) : Int := max 1 (s.fld (Reg.CAN_MTX_CYC n) 0 24) * 1000
def cycAt (s : State) (n : Nat) (it : Int) : Int := (it - s.fld (Reg.CAN_MTX_PHASE n) 0 24 * 1000) / cycNs s n

/-- An entry that takes effect in cycle `cur` has no window before it, and none at or before its last one (R425, R428). -/
def entryStarts (n e : Nat) (cur : Int) (s : State) : State :=
  let c := can s n
  let x := mtxReg s n e
  let c1 := { c with force := tabPut c.force e x (0, 0) }
  let seen := match c.lastInst.find? (fun x => x.1 == e) with | some y => max y.2 (cur - 1) | none => cur - 1
  s.setCan n (if bit x.1 31 && decide (x ≠ mtxForce s n e) then
    { c1 with lastInst := tabPut (c.lastInst.filter fun x => x.1 != e) e seen (seen - 1) } else c1)

/-- A cycle starts and the entries written before it take effect (R425). -/
def mtxCycleStart (n : Nat) (s : State) : State :=
  let c := can s n
  let cur := cycAt s n (implementTime s)
  if mtxRuns s n && decide (c.cycle ≠ some cur) then
    let t := (List.range 64).foldl (fun t e => entryStarts n e cur t) s
    t.setCan n { can t n with cycle := some cur }
  else s

/-- Start of the window of an entry in a cycle. -/
def winStart (s : State) (n : Nat) (a : Word) (cyc : Int) : Int :=
  s.fld (Reg.CAN_MTX_PHASE n) 0 24 * 1000 + cyc * cycNs s n + bits a 0 24 * 1000

/-- The number of cycles from one window of an entry to its next: 2^REP, and 2^CYC_LOG where the numbers wrap sooner (R425). -/
def instPeriod (s : State) (n : Nat) (b : Word) : Nat := 2 ^ min (bits b 8 3) (s.fld (Reg.CAN_MTX_CYC n) 24 3)

/-- The last window instance of an entry at or before now: the unreduced number of the last cycle c with (c mod 2^CYC_LOG) mod 2^REP = BASE
whose window has started (R425). -/
def lastStarted (s : State) (n : Nat) (a b : Word) : Int :=
  let c := (implementTime s - s.fld (Reg.CAN_MTX_PHASE n) 0 24 * 1000 - bits a 0 24 * 1000) / cycNs s n
  c - (c - bits b 0 6) % (instPeriod s n b : Int)

/-- The last instance of an entry that never opens again (R428). -/
def firstInst (s : State) (n e : Nat) : Option Int := ((can s n).lastInst.find? fun x => x.1 == e).map Prod.snd

/-- MTX_WINDOW_OPEN (R426, R428): instances that a forward step has passed whole are missed; the one now inside its window opens. -/
def mtxWindowOpen (n e : Nat) (s : State) : State :=
  let c := can s n
  let (a, b) := mtxForce s n e
  if mtxRuns s n && decide (e < 64) && bit a 31 then
    let inst := lastStarted s n a b
    let p : Int := (instPeriod s n b : Int)
    let first := (firstInst s n e).getD (inst - 1)
    if inst ≤ first ∨ p ≤ bits b 0 6 then s
    else
      let start := winStart s n a inst
      let close := start + bits b 16 16 * 1000
      let buf := bits a 24 4
      let missed := ((inst - first - 1) / p).toNat + (if close ≤ implementTime s then 1 else 0)
      let s1 := s.setCan n { c with lastInst := tabPut (c.lastInst.filter fun x => x.1 != e) e inst (inst - 1) }
      let s2 := (List.range missed).foldl (fun t _ => slotMissed n buf t) s1
      if close ≤ implementTime s then s2
      else
        let s3 := s2.setTx n buf { canTx s2 n buf with result := 0, cancelLate := false, winOverrun := false }
        s3.setCan n { can s3 n with wins := (can s3 n).wins ++
          [{ entry := e, buf := buf, single := bit a 30, start := start, close := close, done := false, closed := false }] }
  else s

/-- MTX_WINDOW_CLOSE (R426). -/
def mtxWindowClose (n e : Nat) (s : State) : State :=
  let c := can s n
  match winOf s n e with
  | none => s
  | some w =>
    if (implementTime s : Int) < w.close then s
    else
      let rest := c.wins.filter fun x => decide (x ≠ w)
      let onBus := match c.onBus with | some t => usesWin t w | none => false
      if w.done then s.setCan n { c with wins := rest }
      else if onBus then s.setCan n { c with wins := rest ++ [{ w with closed := true }] }
      else slotMissed n w.buf (s.setCan n { c with wins := rest })

/-- Two entries of one buffer can be open at once (R427). -/
def winClash (x y : Word × Word) : Bool :=
  let s1 := bits x.1 0 24
  let s2 := bits y.1 0 24
  let m := 2 ^ min (bits x.2 8 3) (bits y.2 8 3)
  bit x.1 31 && bit y.1 31 && decide (bits x.1 24 4 = bits y.1 24 4) && decide (s1 < s2 + bits y.2 16 16 ∧ s2 < s1 + bits x.2 16 16)
    && decide (bits x.2 0 6 % m = bits y.2 0 6 % m)

/-- A matrix entry is legal (R425, R427). -/
def mtxLegal (s : State) (n e : Nat) (x : Word × Word) : Bool :=
  let cyc := s.rd (Reg.CAN_MTX_CYC n)
  decide (bits x.1 0 24 + bits x.2 16 16 ≤ bits cyc 0 24) && decide (bits x.2 8 3 ≤ bits cyc 24 3)
    && decide (bits x.2 0 6 < 2 ^ bits x.2 8 3)
    && !((List.range 64).any fun f => decide (f ≠ e) && winClash x (mtxReg s n f))

/-! ## Enable, disable, register accesses (R411, R417, R422, R425) -/

/-- CTRL.EN is set: the controller integrates (R414), and the entries take effect at the next cycle start (R425). -/
def canEnable (n : Nat) (s : State) : State :=
  s.setCan n { can s n with st := 0, cycle := some (cycAt s n (implementTime s)), force := [] }

/-- CTRL.EN is cleared: pending requests are cancelled and counted; a frame on the bus is completed first, another node's too (R62, R417).
The second component says that the controller is IDLE at once: it takes no part in the traffic of the bus (log entry 106). -/
def canDisable (n : Nat) (s : State) : State × Bool :=
  let onWin (w : CanWin) : Bool := match (can s n).onBus with | some a => usesWin a w | none => false
  let onFree (b : Nat) : Bool := match (can s n).onBus with | some a => decide (a.entry = none) && decide (a.buf = b) | none => false
  let free := (List.range 16).filter fun b => (canTx s n b).pending && !(onFree b)
  let wins := (can s n).wins.filter fun w => !w.done && !w.closed && !(onWin w)
  let s1 := free.foldl (fun t b => t.setTx n b { canTx t n b with pending := false, result := 2 }) s
  let s2 := wins.foldl (fun t w => t.setTx n w.buf { canTx t n w.buf with result := 2 }) s1
  let s3 := s2.satAdd (Reg.CAN_DISCARD n) 0 (free.length + wins.length)
  (s3.setCan n { can s3 n with wins := (can s3 n).wins.filter onWin, cycle := none },
   decide ((can s n).onBus = none) && (!(canLive s n) || decide (canMode s n = 3)))

/-- A bit timing word is legal (R411). -/
def nbtOk (w : Word) : Bool :=
  let q := bits w 16 9 + bits w 8 7 + 3
  decide (80 ≤ (bits w 0 8 + 1) * q) && decide (8 ≤ q) && decide (bits w 25 7 ≤ bits w 8 7)
def dbtOk (w : Word) : Bool :=
  let q := bits w 16 5 + bits w 8 4 + 3
  decide (10 ≤ (bits w 0 5 + 1) * q) && decide (5 ≤ q) && decide (bits w 24 4 ≤ bits w 8 4)

/-- A configuration register that CTRL.EN locks (R411). -/
def canCfgWrite (d : RegDef) (n a : Nat) (m : Master) (v : Word) (s : State) : State :=
  regWrite d a m v
    (fun v s =>
      let w := storeValue d (s.rd a) v
      if s.flag (Reg.CAN n + 0x008) 0 then s.blockError a 0x01 m
      else if (d.off = 0x044 && !(nbtOk w)) || (d.off = 0x048 && !(dbtOk w)) then s.blockError a 0x02 m
      else s.wr a w) s

/-- A set-bits register applied bit by bit. -/
def perBit (v : Word) (f : Nat → State → State) (s : State) : State := (setBitsOf v 16).foldl (fun t b => f b t) s

/-- A write to MTX_CTRL: after its enable the entries take effect at the next cycle start (R425). -/
def mtxCtrlWrite (m : Master) (n : Nat) (v : Word) (s : State) : State :=
  let a := Reg.CAN_MTX_CTRL n
  regWrite (defOf .can 0x088) a m v
    (fun v s =>
      let s1 := s.wr a (v &&& 1)
      if bit v 0 && !(s.flag a 0) then
        s1.setCan n { can s1 n with cycle := some (cycAt s n (implementTime s)), force := [] }
      else if bit v 0 then s1
      else s1.setCan n { can s1 n with wins := (can s1 n).wins.filter fun w =>
        match (can s1 n).onBus with | some t => usesWin t w | none => false }) s

/-- A write to EASY_NBT: in EASY it can halt the controller, which integrates again when it resumes (R416). -/
def easyNbtWrite (d : RegDef) (n a : Nat) (m : Master) (v : Word) (s : State) : State :=
  let s1 := genericWrite .can d a m v s
  if canHalted s1 n && decide ((can s1 n).st ≤ 2) then s1.setCan n { can s1 n with st := 0 } else s1

/-- The bits of a TX buffer word that a write reaches (R422, R48): words 1 and 2 have reserved bits. -/
def txbMask (w : Nat) : Word := if w = 1 then 0xDFFFFFFF else if w = 2 then 0xD00F0000 else 0xFFFFFFFF

/-- A write to a register of a CAN page from offset 0x040 upward. A CYC_LEN below 100, a CYC_LOG above 6 and a WINDOW of 0 of an enabled entry are
out of the ranges the register tables give, and RANGE refuses them (log entry 63). A change of MTX_CYC or MTX_PHASE numbers the cycles anew, and
the record of R428 starts anew with them (DESIGN CHOICE, log entry 131). -/
def canWrite (d : RegDef) (k a : Nat) (m : Master) (v : Word) (s : State) : State :=
  let n := a / 0x1000 % 0x10
  let key := s.consumeKey (0xF0 + n) m
  match d.off with
  | 0x040 | 0x044 | 0x048 | 0x04C => canCfgWrite d n a m v s
  | 0x050 => easyNbtWrite d n a m v s
  | 0x060 => recoverWrite m n v s
  | 0x064 => perBit v (txReq m n) key
  | 0x068 => perBit v (txCancel n) key
  | 0x06C => perBit v (txCommit m n) key
  | 0x088 => mtxCtrlWrite m n v s
  | 0x08C | 0x090 =>
    regWrite d a m v
      (fun v s =>
        let w := storeValue d (s.rd a) v
        if s.flag (Reg.CAN_MTX_CTRL n) 0 then s.blockError a 0x01 m
        else if d.off = 0x08C && (decide (bits w 0 24 < 100) || decide (6 < bits w 24 3)) then s.blockError a 0x02 m
        else if w = s.rd a then s
        else (s.wr a w).setCan n { can s n with lastInst := [] }) s
  | 0x108 => checkedWrite d a 0x02 m v (fun w => decide (bits w 28 2 ≠ 3)) s
  | 0x300 => if k % 20 = 0 ∨ k % 20 = 3 then key else key.wr a (v &&& txbMask (k % 20))
  | 0x800 => rxbWrite m n (k / 20) (k % 20) v s
  | 0xD00 => checkedWrite d a 0x02 m v (fun w => mtxLegal s n k (w, s.rd (Reg.CAN_MTX_B n k))) s
  | 0xD04 =>
    checkedWrite d a 0x02 m v
      (fun w => mtxLegal s n k (s.rd (Reg.CAN_MTX_A n k), w) && (!(s.flag (Reg.CAN_MTX_A n k) 31) || decide (bits w 16 16 ≠ 0))) s
  | _ => genericWrite .can d a m v s

/-- Word 0 of a TX buffer (R422). -/
def txbStatus (s : State) (n b : Nat) : Word :=
  let t := canTx s n b
  let f (c : Bool) (k : Nat) : Nat := if c then 2 ^ k else 0
  let open_ := (can s n).wins.any fun w => decide (w.buf = b) && !w.done
  wordOf (f (t.pending || open_) 31 + f (attempting s n b) 30 + 0x1000000 * t.result + f t.cancelLate 20 + f t.winOverrun 19 + t.count)

/-- A read of a register of a CAN page whose value is not stored. -/
def canRead (d : RegDef) (k a : Nat) (m : Master) (s : State) : Option (Word × State) :=
  let n := a / 0x1000 % 0x10
  let c := can s n
  match d.off with
  | 0x058 => some (wordOf ((if 128 ≤ c.recErr then 0x1000000 else 0) + 0x10000 * c.recErr + min 255 c.tec), s)
  | 0x05C =>
    some (wordOf ((if c.tdcOvf then 0x1000000 else 0) + 0x10000 * c.delay + c.lec * 0x100
      + (if canOn s n && canHalted s n then 5 else c.st)), s)
  | 0x070 =>
    some (wordOf ((List.range 16).foldl (fun acc b => acc + (if bit (txbStatus s n b) 31 then 2 ^ b else 0)) 0), s)
  | 0x094 =>
    let cyc := (cycAt s n (implementTime s)) % (2 ^ s.fld (Reg.CAN_MTX_CYC n) 24 3 : Nat)
    some (if mtxRuns s n then wordOf (0x80000000 + cyc.toNat) else 0, s)
  | 0x300 =>
    if k % 20 = 0 then some (txbStatus s n (k / 20), s)
    else if k % 20 = 3 then some ((canTx s n (k / 20)).stamp, s) else none
  | 0x800 => some (rxbRead n (k / 20) (k % 20) m s)
  | _ => none

/-! ## The commands -/

/-- A register command of a CAN page. -/
def canRow (m : Master) (n a : Nat) (f : State → State) (s : State) : Answer :=
  .next (if n < 3 then regRow m a f s else s)

/-- CAN_INTEGRATED (R414). -/
def execCanIntegrated (n : Nat) (s : State) : Answer := .next (live (0xF0 + n) (canIntegrated n) s)
/-- CAN_FRAME_RECEIVED (R419). -/
def execCanFrameReceived (n : Nat) (frame : CanFrame) (back : Nat) (s : State) : Answer := .next (live (0xF0 + n) (frameReceived n frame back) s)
/-- CAN_RXB_SNAPSHOT (R420). -/
def execCanRxbSnapshot (m : Master) (n b : Nat) (s : State) : Answer :=
  canRow m n (rxbAddr n (b % 16) 0) (fun s => let r := rxbRead n (b % 16) 0 m s
                                              r.2.answer r.1 false) s
/-- CAN_RXB_NEW_CLEAR (R420). -/
def execCanRxbNewClear (m : Master) (n b : Nat) (v : Word) (s : State) : Answer :=
  canRow m n (rxbAddr n (b % 16) 0) (rxbWrite m n (b % 16) 0 v) s
/-- CAN_RX_QUEUE_PUSH (R421). -/
def execCanRxQueuePush (n : Nat) (s : State) : Answer := .next (live (0xF0 + n) (rxQueuePush n) s)
/-- CAN_TXCOMMIT (R422). -/
def execCanTxcommit (m : Master) (n : Nat) (v : Word) (s : State) : Answer :=
  canRow m n (Reg.CAN_TXCOMMIT n) (canWrite (defOf .can 0x06C) 0 (Reg.CAN_TXCOMMIT n) m v) s
/-- CAN_TXREQ (R423). -/
def execCanTxreq (m : Master) (n : Nat) (v : Word) (s : State) : Answer :=
  canRow m n (Reg.CAN_TXREQ n) (canWrite (defOf .can 0x064) 0 (Reg.CAN_TXREQ n) m v) s
/-- CAN_TXCANCEL (R424). -/
def execCanTxcancel (m : Master) (n : Nat) (v : Word) (s : State) : Answer :=
  canRow m n (Reg.CAN_TXCANCEL n) (canWrite (defOf .can 0x068) 0 (Reg.CAN_TXCANCEL n) m v) s
/-- CAN_ARBITRATION_START (R423). -/
def execCanArbitrationStart (n : Nat) (s : State) : Answer := .next (live (0xF0 + n) (arbitrationStart n) s)
/-- CAN_TX_DONE (R423). -/
def execCanTxDone (n delay : Nat) (s : State) : Answer := .next (live (0xF0 + n) (txDone n delay) s)
/-- CAN_TX_ERROR (R423). -/
def execCanTxError (n : Nat) (how : TxFail) (lec : Nat) (s : State) : Answer := .next (live (0xF0 + n) (txError n how lec) s)
/-- CAN_RX_ERROR (R409). -/
def execCanRxError (n lec : Nat) (eight : Bool) (s : State) : Answer := .next (live (0xF0 + n) (canRxError n lec eight) s)
/-- CAN_PROTOCOL_EXCEPTION (R414). -/
def execCanProtocolException (n : Nat) (s : State) : Answer := .next (live (0xF0 + n) (canException n) s)
/-- CAN_RECOVER (R415). -/
def execCanRecover (m : Master) (n : Nat) (s : State) : Answer := canRow m n (Reg.CAN_CMD n) (recoverWrite m n 1) s
/-- CAN_RECOVERY_DONE (R415). -/
def execCanRecoveryDone (n : Nat) (s : State) : Answer := .next (live (0xF0 + n) (canRecovered n) s)
/-- MTX_CYCLE_START (R425). -/
def execMtxCycleStart (n : Nat) (s : State) : Answer := .next (live (0xF0 + n) (mtxCycleStart n) s)
/-- MTX_WINDOW_OPEN (R426). -/
def execMtxWindowOpen (n e : Nat) (s : State) : Answer := .next (live (0xF0 + n) (mtxWindowOpen n e) s)
/-- MTX_WINDOW_CLOSE (R426). -/
def execMtxWindowClose (n e : Nat) (s : State) : Answer := .next (live (0xF0 + n) (mtxWindowClose n e) s)
end Sys2Proof.Machine
end

