-- ==== Sys2Proof/Machine/KswBase.lean ====
section
/-! DEFINITION. Frames of the Knatis switch (spec/21_knatis.md): their fields, address lookup, VLANs, classes, streams, the egress queues,
and the frames that this device sends. -/

namespace Sys2Proof.Machine

/-! ## Bytes (R443) -/

/-- A big-endian number, and the bytes of one. -/
def beNat (l : List Byte) : Nat := l.foldl (fun acc b => acc * 256 + b.toNat) 0
def beBytes (n v : Nat) : List Byte := (List.range n).map fun k => BitVec.ofNat 8 (v / 2 ^ (8 * (n - 1 - k)))

/-- The big-endian number of `n` bytes from `k`; bytes past the end count as 0. -/
def beAt (l : List Byte) (k n : Nat) : Nat := beNat ((List.range n).map fun j => listGet l (k + j) 0)

/-- CRC-32 of bytes with the parameters of R55. -/
def crc32Bytes (l : List Byte) : Nat := (~~~(l.foldl (fun c b => crc32Byte c b.toNat) 0xFFFFFFFF#32)).toNat

/-- Bytes packed into words, byte 0 lowest. -/
def wordsOf : List Byte → Nat → List Word
  | _, 0 => []
  | l, n + 1 => wordOf ((listGet l 0 0).toNat + 0x100 * (listGet l 1 0).toNat + 0x10000 * (listGet l 2 0).toNat + 0x1000000 * (listGet l 3 0).toNat)
      :: wordsOf (l.drop 4) n

/-- The bytes of a word, lowest first. -/
def wordBytes (w : Word) : List Byte := [w.extractLsb' 0 8, w.extractLsb' 8 8, w.extractLsb' 16 8, w.extractLsb' 24 8]

/-! ## Fields of a frame (R432, R435, R439) -/

/-- Addresses, 802.1Q tag (PCP and VID), R-TAG number, EtherType and the place of the payload. -/
structure FrameInfo where
  da : Nat
  sa : Nat
  tag : Option (Nat × Nat)
  rtag : Option Nat
  etype : Nat
  pay : Nat
  deriving DecidableEq, Repr

/-- The fields of a frame whose bytes start with the DA. -/
def parseFrame (b : List Byte) : FrameInfo :=
  let tagged := decide (beAt b 12 2 = 0x8100)
  let k := if tagged then 16 else 12
  let r := decide (beAt b k 2 = 0xF1C1)
  let j := if r then k + 6 else k
  { da := beAt b 0 6, sa := beAt b 6 6,
    tag := if tagged then some (beAt b 14 2 / 0x2000, beAt b 14 2 % 0x1000) else none,
    rtag := if r then some (beAt b (k + 4) 2) else none, etype := beAt b j 2, pay := j + 2 }

/-- The EtherType is that of Knatis (R443). -/
def FrameInfo.knatis (i : FrameInfo) : Bool := decide (i.etype = 0x88B5)

/-- The frame without its R-TAG (R439), and without its 802.1Q tag (R435). -/
def dropRtag (b : List Byte) : List Byte :=
  let k := if beAt b 12 2 = 0x8100 then 16 else 12
  if beAt b k 2 = 0xF1C1 then b.take k ++ b.drop (k + 6) else b
def dropTag (b : List Byte) : List Byte := if beAt b 12 2 = 0x8100 then b.take 12 ++ b.drop 16 else b

/-- The frame with an R-TAG of a number (R439). -/
def addRtag (n : Nat) (b : List Byte) : List Byte :=
  let k := if beAt b 12 2 = 0x8100 then 16 else 12
  b.take k ++ beBytes 2 0xF1C1 ++ beBytes 2 0 ++ beBytes 2 n ++ b.drop k

/-! ## Ports (R430, R431, R455) -/

/-- Bits of KSW and MAC control and configuration. -/
def kswOn (s : State) : Bool := s.flag (Reg.KSW + 0x008) 0
def macOn (s : State) (p : Nat) : Bool := s.flag (Reg.MAC p + 0x008) 0

/-- The frame in transfer of a MAC whose EN has been cleared is being completed (R62). -/
def macStopping (s : State) (p : Nat) : Bool := s.flag (Reg.MAC p + 0x00C) 1

/-- The ports run: ROW or PADDLE, and no entry to a deeper state under way (R455). -/
def portsRun (s : State) : Bool :=
  busUp s && decide (s.fld Reg.PWR_STATE 0 3 ≤ 1) && (match s.power.phase with | .entering t => decide (t < 2) | _ => true)

/-- The link of an external port: LINK_STAT while the MAC polls its PHY, and otherwise the PHY's own link, as the worked example, which
does not poll, takes it (R431, R455). -/
def linkUp (s : State) (p : Nat) : Bool :=
  if s.flag (Reg.MAC_CFG p) 8 then s.flag (Reg.MAC_LINK_STAT p) 0 else s.ksw.phy.contains p

/-- A frame can leave through an external port. -/
def portUp (s : State) (p : Nat) : Bool := decide (p < portsOf s.variant) && macOn s p && linkUp s p && portsRun s

/-- The port's link at a TICK, no more than one change of it ago (R433). -/
def linkUpAt (s : State) (p t : Nat) : Bool := linkUp s p == decide (tabGet s.ksw.linkAt p 0 ≤ t)

/-- Port 1 of a device with RING_END closes the ring (R438). -/
def ringEnd (s : State) (p : Nat) : Bool := decide (p = 1) && s.flag Reg.KSW_CFG 16

/-! ## Lookup (R432, R435) -/

/-- The device's own address (R432). -/
def ownMac (s : State) : Nat := s.fld (Reg.KSW_MAC 1) 0 16 * 0x100000000 + (s.rd (Reg.KSW_MAC 0)).toNat

/-- The static entry of an address. -/
def staticEntry (s : State) (da : Nat) : Option Nat :=
  (List.range 32).find? fun m => s.flag (Reg.KSW_SE_HI m) 31
    && decide (s.fld (Reg.KSW_SE_HI m) 0 16 * 0x100000000 + (s.rd (Reg.KSW_SE_LO m)).toNat = da)

/-- The port mask of an address: static, then dynamic, else every port. -/
def portMask (s : State) (da : Nat) : Nat :=
  match staticEntry s da with
  | some m => s.fld (Reg.KSW_SE_HI m) 24 3
  | none => match s.ksw.dyn.find? fun x => x.1 == da with
    | some x => 2 ^ x.2.1
    | none => 7

/-- The class of the static entry of an address, if it has one. -/
def staticClass (s : State) (da : Nat) : Option Nat :=
  match staticEntry s da with
  | some m => if s.flag (Reg.KSW_SE_HI m) 23 then some (s.fld (Reg.KSW_SE_HI m) 20 3) else none
  | none => none

/-- PCP_MAP. -/
def classOfPcp (s : State) (p : Nat) : Nat := s.fld Reg.KSW_PCP_MAP (3 * p) 3

/-- The class of a frame from port `p` (R435). The local port has no DEF_PCP: the class of its untagged frames is a free value. -/
def frameClass (s : State) (p : Nat) (i : FrameInfo) : Nat × State :=
  match staticClass s i.da, i.tag with
  | some c, _ => (c, s)
  | none, some t => (classOfPcp s t.1, s)
  | none, none =>
    if p < 2 then (classOfPcp s (s.fld (Reg.KSW_P_CFG p) 8 3), s)
    else let (c, s1) := s.freeIn 0 7
         (c.toNat, s1)

/-- The egress ports that a frame's VLAN allows; none where it is discarded (R435). -/
def vlanMask (s : State) (p : Nat) (i : FrameInfo) : Option Nat :=
  if s.flag Reg.KSW_CFG 4 then
    let vid := match i.tag with
      | some t => some t.2
      | none => if p < 2 then some (s.fld (Reg.KSW_P_CFG p) 16 12) else none
    match vid with
    | none => some 7
    | some v => match (List.range 16).find? fun e => s.flag (Reg.KSW_VLAN e) 31 && decide (s.fld (Reg.KSW_VLAN e) 0 12 = v) with
      | some e => if s.flag (Reg.KSW_VLAN e) (16 + p) then some (s.fld (Reg.KSW_VLAN e) 16 3) else none
      | none => none
  else some 7

/-- The egress port strips the tag (R435). -/
def stripsTag (s : State) (p : Nat) (i : FrameInfo) : Bool :=
  match i.tag with
  | some t => s.flag Reg.KSW_CFG 4 && s.flag (Reg.KSW_P_CFG p) 4 && decide (t.2 = s.fld (Reg.KSW_P_CFG p) 16 12)
  | none => false

/-! ## Streams (R439) -/

/-- The enabled stream entry that a frame matches. -/
def streamOf (s : State) (b : List Byte) : Option Nat :=
  let i := parseFrame b
  (List.range 32).find? fun k =>
    let cfg := s.rd (Reg.KSW_STR_CFG k)
    let hi := s.rd (Reg.KSW_STR_DA_HI k)
    bit cfg 31 && decide (bits hi 16 16 = i.etype) && decide (bits hi 0 16 * 0x100000000 + (s.rd (Reg.KSW_STR_DA_LO k)).toNat = i.da)
      && (!(i.knatis && bit cfg 15) || decide ((listGet b (i.pay + 3) 0).toNat = bits cfg 16 8))

/-! ## Egress queues and buffer slots (R434, R436) -/

/-- Frames that wait in a class of a port. -/
def egress (s : State) (p c : Nat) : List OutFrame := tabGet s.ksw.queues (8 * p + c) []
def State.setEgress (s : State) (p c : Nat) (l : List OutFrame) : State :=
  { s with ksw := { s.ksw with queues := tabPut s.ksw.queues (8 * p + c) l [] } }

/-- The frame on the wire of a port. -/
def wireOf (s : State) (p : Nat) : Option Wire := (s.ksw.wires.find? fun x => x.1 == p).map Prod.snd
def State.setWire (s : State) (p : Nat) (w : Option Wire) : State :=
  let rest := s.ksw.wires.filter fun x => x.1 != p
  { s with ksw := { s.ksw with wires := match w with | none => rest | some x => tabInsert (p, x) rest } }

/-- Every frame that waits or is on a wire. -/
def heldFrames (s : State) : List OutFrame := s.ksw.queues.flatMap Prod.snd ++ s.ksw.wires.map fun x => x.2.frame

/-- The lowest free buffer slot. -/
def freeBuf (s : State) : Option Nat :=
  (List.range (s.fld Reg.KSW_BUF_SLOTS 0 8)).find? fun k => !((heldFrames s).any fun f => decide (f.slot = some k))

/-- Words stored in system SRAM from an address on; an address outside it takes none. -/
def sramWords (a : Nat) : List Word → State → State
  | [], s => s
  | w :: r, s => sramWords (a + 4) r (if isSram s.variant a then storeWord a w s else s)

/-- Address of a buffer slot. -/
def slotAddr (s : State) (k : Nat) : Nat := (s.rd Reg.KSW_BUF_BASE).toNat / 2048 * 2048 + 2048 * k

/-- A frame takes a slot: its bytes stand there from the slot's first byte on. -/
def fillBuf (k : Nat) (b : List Byte) (s : State) : State := sramWords (slotAddr s k) (wordsOf b ((b.length + 3) / 4)) s

/-- A frame joins the queue of its class on a port. -/
def enqueue (p : Nat) (f : OutFrame) (s : State) : State := s.setEgress p f.cls (egress s p f.cls ++ [{ f with since := s.now }])

/-- A frame is dropped for want of a slot (R434). -/
def dropNoBuf (s : State) : State := (s.satInc Reg.KSW_DROP_NOBUF 0).cause Reg.KSW 0

/-! ## Frames of this device (R439, R447, R454) -/

/-- A frame of the local port is given to the egress ports of a mask (none: by the address table); answers the result of R454. Frames of a
descriptor take a buffer slot. With its R-TAG it may be too long for the switch (R430). -/
def sendLocal (b : List Byte) (mask : Option Nat) (ltx : Option Nat) (notBefore : Nat) (s : State) : State × Nat :=
  let st := streamOf s b
  let gen := match st with | some k => s.flag (Reg.KSW_STR_CFG k) 30 | none => false
  let (b1, s1) : List Byte × State := match st with
    | some k => if gen then
        let n := s.fld (Reg.KSW_STR_STAT k) 16 16
        (addRtag n b, s.setFld (Reg.KSW_STR_STAT k) 16 16 ((n + 1) % 0x10000))
      else (b, s)
    | none => (b, s)
  let i := parseFrame b1
  if 1518 < b1.length then (s, 2)
  else match vlanMask s1 2 i with
  | none => ((s1.satInc Reg.KSW_DROP_VLAN 0).cause Reg.KSW 1, 4)
  | some vm =>
    let want := (if gen then 3 else mask.getD (portMask s1 i.da)) &&& vm &&& 3
    let cand := (List.range (portsOf s1.variant)).filter fun p => want / 2 ^ p % 2 = 1 && (!(ringEnd s1 p) || st.isSome)
    let ports := cand.filter (portUp s1)
    if want = 0 ∨ (cand = [] ∧ want &&& (2 ^ portsOf s1.variant - 1) ≠ 0) then (s1, 4)
    else if ports = [] then (s1, 3)
    else
      let (c, s2) := frameClass s1 2 i
      let f (p : Nat) : OutFrame := { len := b1.length, cls := c, ltx := ltx, notBefore := notBefore, strip := stripsTag s2 p i }
      if ltx.isNone then (ports.foldl (fun t p => enqueue p { f p with data := b1 } t) s2, 0)
      else match freeBuf s2 with
        | none => (dropNoBuf s2, 4)
        | some k => (ports.foldl (fun t p => enqueue p { f p with slot := some k } t) (fillBuf k b1 s2), 0)

/-! ## Keys and tags (R444) -/

/-- The key of an index; none where it is empty (R444). -/
def knatisKey (idx : Nat) (s : State) : Option (List Byte) × State :=
  let slot := s.fld Reg.KSW_KNT_CFG 8 4
  if decide (s.sec.wipeStart ≠ none) || s.sec.wipeFailed || !(s.flag (Reg.SEC_SLOT_CFG slot) 16) then (none, s)
  else
    let a := 0x30000000 + 0x400 * slot + 16 * idx
    let (ws, s1) := (List.range 4).foldl
      (fun (acc : List (Option Word) × State) k => let (w, t) := readWord 8 (a + 4 * k) .none acc.2
                                                   (acc.1 ++ [w], t)) ([], s)
    let key := ws.flatMap fun w => wordBytes (w.getD 0)
    (if ws.all Option.isSome && key.any (fun b => decide (b ≠ 0)) then some key else none, s1)

/-- The tag of a message: the first 8 bytes of its CMAC. -/
def knatisTag (key msg : List Byte) : List Byte := (List.range 8).map fun k => listGet (Config.cmac key msg) k 0

/-- The next sequence number of the device's frames of a type. -/
def ownSeq (type : Nat) (s : State) : Nat × State :=
  let n := tabGet s.ksw.own type 0
  (n, { s with ksw := { s.ksw with own := tabPut s.ksw.own type ((n + 1) % 0x10000) 0 } })

/-- A type needs authentication (R445). -/
def authNeeded (s : State) (type : Nat) : Bool := s.flag Reg.KSW_KNT_CFG (15 + type)

/-- Header and body, with their CRC-32 and tag; none where the key is empty (R443, R444, R447). -/
def sealKnatis (msg : List Byte) (s : State) : Option (List Byte) × State :=
  let body := msg ++ beBytes 4 (crc32Bytes msg)
  if 128 ≤ (listGet msg 1 0).toNat then
    match knatisKey ((listGet msg 8 0).toNat % 16) s with
    | (some k, s1) => (some (body ++ knatisTag k body), s1)
    | (none, s1) => (none, s1)
  else (some body, s)

/-- A Knatis frame that the hardware makes: `flags` are bits [6:4] of byte 1, `seq` its sequence number. -/
def knatisFrame (type flags dst seq : Nat) (body : List Byte) (s : State) : Option (List Byte) × State :=
  let auth := authNeeded s type
  let key := if auth then s.fld Reg.KSW_KNT_CFG 12 4 else 0
  let msg := [BitVec.ofNat 8 (0x10 + type), BitVec.ofNat 8 (flags + if auth then 0x80 else 0), BitVec.ofNat 8 dst,
      BitVec.ofNat 8 (s.fld Reg.KSW_POS 0 7)] ++ beBytes 2 seq ++ beBytes 2 body.length ++ [BitVec.ofNat 8 key, 0, 0, 0]
    ++ beBytes 8 (implementTime s) ++ body
  match sealKnatis msg s with
  | (none, s1) => (none, s1)
  | (some p, s1) =>
    let f := beBytes 6 0x034B4E5400FF ++ beBytes 6 (ownMac s) ++ beBytes 2 0x88B5 ++ p
    (some (f ++ List.replicate (60 - f.length) 0), s1)

/-- A frame that the hardware makes is sent on the ports of a mask; with an empty key it is not sent. -/
def sendKnatis (type flags dst seq : Nat) (body : List Byte) (mask : Option Nat) (notBefore : Nat) (s : State) : State :=
  match knatisFrame type flags dst seq body s with
  | (none, s1) => s1
  | (some f, s1) => (sendLocal f mask none notBefore s1).1

/-- TRIG FIRE of a capture at an implement time, for every device (R465). -/
def sendFire (c time : Nat) (s : State) : State :=
  if kswOn s && !(frozen s 0xF8) then
    let (n, s1) := ownSeq 3 s
    sendKnatis 3 0x20 0 n ([2, BitVec.ofNat 8 c, 0, 0] ++ beBytes 8 time) none 0 s1
  else s

end Sys2Proof.Machine
end

