-- ==== Sys2Proof/Machine/Ldl.lean ====
section
/-! DEFINITION. The Ladle acquisition engine (spec/22_ladle.md): probes, windows, the history ring, arming, triggers and records. -/

namespace Sys2Proof.Machine

/-! ## Signals (R456, R457) -/

/-- A signal ID is that of a present unit (R456). -/
def signalOk (v : Variant) (id : Nat) : Bool :=
  decide (id ≤ 1)
  || (decide (0x010 ≤ id ∧ id < 0x010 + 8 * adcsOf v) || decide (0x070 ≤ id ∧ id < 0x070 + sdmsOf v))
  || (decide (0x080 ≤ id ∧ id < 0x080 + 8 * axesOf v) || decide (0x100 ≤ id ∧ id < 0x100 + 8 * groupsOf v))
  || (decide (0x130 ≤ id ∧ id < 0x130 + 8 * groupsOf v) || decide (0x160 ≤ id ∧ id < 0x160 + groupsOf v))
  || (decide (0x168 ≤ id ∧ id < 0x168 + boostsOf v) || decide (0x170 ≤ id ∧ id < 0x170 + axesOf v))
  || (decide (0x180 ≤ id ∧ id < 0x180 + axesOf v) || decide (0x190 ≤ id ∧ id < 0x190 + axesOf v))
  || decide (0x1A0 ≤ id ∧ id ≤ 0x1A5) || decide (id = 0x1A8) || decide (id = 0x1A9)

/-- The signal is 32 bits wide (R456). -/
def signalWide (id : Nat) : Bool := decide (id = 1) || decide (0x168 ≤ id)

/-- The value of a signal as it stands, sign-extended to 32 bits; times, positions and counters are those of an instant `back` root periods ago
(R456). -/
def signalNow (s : State) (id back : Nat) : Int :=
  let w24 (w : Word) : Int := sbits w 0 24
  let w32 (w : Word) : Int := sbits w 0 32
  let (tick, it, _, _) := timesBefore s back
  if id = 0 then 0
  else if id = 1 then w32 (wordOf tick)
  else if id < 0x070 then w24 (s.rd (Reg.ADC_RES ((id - 0x010) / 8) ((id - 0x010) % 8)))
  else if id < 0x080 then w24 (s.rd (Reg.SDM_RES (id - 0x070)))
  else if id < 0x100 then
    w24 (s.rawWord (axBlock ((id - 0x080) / 8) + 4 * listGet signalPlaces ((id - 0x080) % 8) 0))
  else if id < 0x130 then satS 24 (chan s (id - 0x100)).cur
  else if id < 0x160 then satS 24 (chan s (id - 0x130)).drn
  else if id < 0x168 then satS 24 (groupSense s (id - 0x160)).cur
  else if id < 0x170 then w32 (s.rd (Reg.BST_X_VRAIL (id - 0x168)))
  else if id < 0x180 then w32 (s.rd (Reg.ENC_VEL (id - 0x170)))
  else if id < 0x190 then signed 32 (lowBits 32 (posAt s (id - 0x180) (rootNow s - back) / 65536))
  else if id < 0x1A0 then w32 (countAt s (id - 0x190) ((rootNow s - back) * 16))
  else if id < 0x1A4 then w32 (s.rd (Reg.TEMP_T (id - 0x1A0)))
  else if id = 0x1A4 then w32 (s.rd Reg.REF_INST)
  else if id = 0x1A5 then w32 (s.rd Reg.REF_DIFF)
  else if id = 0x1A8 then w32 (s.rd Reg.TSU_AB_DIFF)
  else w32 (wordOf it)

/-- The value a probe samples at an instant `back` root periods ago: what the source published in the SYS cycle of the instant or after it is
not seen, and the value before the first such publication stands (R457). -/
def signalValue (s : State) (id back : Nat) : Int :=
  match ((tabGet s.ldl.fresh id []).takeWhile fun p => decide ((s.now * 4 - back) / 4 ≤ p.1)).getLast? with
  | some p => p.2
  | none => signalNow s id back

/-! ## Configuration of a capture (R458, R459, R462) -/

/-- The queue of a capture (R468). -/
def capQueue (s : State) (c : Nat) : Nat := s.fld (Reg.LDL_CFG c) 0 9

/-- The queue is in packet mode and bound to the Ladle (R468). -/
def capQueueOk (s : State) (q : Nat) : Bool :=
  queuePresent s q && s.flag (qAddr q 0x10) 1 && decide (s.fld (qAddr q 0x10) 8 8 = 0x20)

/-- The error of a capture enable, 0 where it is accepted (R458, R462, R468). -/
def enableError (s : State) (c q : Nat) : Nat :=
  let n := windowWords s c
  let pre := s.fld (Reg.LDL_PRE c) 0 16
  if n = 0 ∨ 65535 < 6 + (pre + capPost s c) * n + 2 ∨ ringWords s c < (pre + 16) * n then 0x02
  else if !(capQueueOk s q) then 0x04 else 0

/-! ## Records: what they need and lose (R462, R466, R468) -/

/-- A fire that changes nothing is counted (R464, R465). -/
def fireIgnored (s : State) : State := s.satInc Reg.LDL_FIRE_IGNORED 0

/-- Window 0 of the open record becomes known: `num` (R466). A window lost at the full FIFO exists, and its record carries OVERFLOW for it (R462).
-/
def setZero (c : Nat) (num : Int) (s : State) : State :=
  match (cap s c).record with
  | none => s
  | some r =>
    let pre := capPre s c
    let x := cap s c
    let before (k : Nat) : Bool := decide ((k : Int) < num ∧ num ≤ k + pre)
    let held := ((x.wins ++ x.win.toList).filter fun w => before w.num).length + (x.lost.filter before).length
    s.setCap c { x with record := some { r with zero := some num, next := (num - pre).toNat, preShort := decide (held < pre) } }

/-- The next window will be the first to start at or after the trigger instant: under PERIOD the instant is not beyond the next boundary; else it
has passed, and every sample before it has been taken (R466). -/
def nextIsZero (s : State) (c it : Nat) (root : Int) : Bool :=
  let x := cap s c
  if byPeriod s c then
    match x.lastPlace with
    | some p => decide (it ≤ (p + 1) * windowNs s c)
    | none => decide (it ≤ s.rd64 (Reg.LDL_ARM_IT_LO c))
  else decide (root ≤ rootNow s) && x.due.all fun d => decide (root ≤ d)

/-- Number of the first window that starts at or after the trigger instant, whatever has become of it; none where that is not known yet (R466).
Under PERIOD the windows before arm completion are counted on the grid of R459 (log entry 76). -/
def zeroOf (s : State) (c it : Nat) (root : Int) : Option Int :=
  let x := cap s c
  let arm := s.rd64 (Reg.LDL_ARM_IT_LO c)
  if byPeriod s c ∧ it < arm then some (-((arm - it) / max 1 (windowNs s c) : Nat))
  else
    match (x.starts.takeWhile fun w => if byPeriod s c then decide (it ≤ w.start) else decide (root ≤ w.root)).getLast? with
    | some w => some w.num
    | none => if nextIsZero s c it root then some x.nextNum else none

/-! ## Windows (R459 to R461) -/

/-- A window starts (R459, R466). -/
def openWindow (c start : Nat) (root : Int) (s : State) : State :=
  let x := cap s c
  let w : LdlWin := { num := x.nextNum, start := start, root := root }
  let s1 := s.setCap c { x with win := some w, nextNum := x.nextNum + 1, starts := w :: x.starts.take 65535 }
  match x.record with
  | some r =>
    if streams s c then
      if r.zero = none ∨ r.zero = some (w.num : Int) then
        setZero c w.num (s1.setCap c { cap s1 c with record := some { r with trigIt := start, trigRoot := root } })
      else s1
    else if r.zero = none then
      match zeroOf s1 c r.trigIt r.trigRoot with
      | some n => setZero c n s1
      | none => s1
    else s1
  | none => s1

/-- The probes of a capture are sampled (R457, R460). -/
def takeSamples (c back : Nat) (s : State) : State :=
  let x := cap s c
  let add (k : Nat) : Nat × LdlAcc :=
    let v := signalValue s (s.fld (Reg.LDL_PRB k) 0 9) back
    match x.acc.find? fun p => p.1 == k with
    | some p => (k, { p.2 with least := min p.2.least v, most := max p.2.most v, sum := p.2.sum + v, squares := p.2.squares + (v * v).toNat })
    | none => (k, { first := v, least := v, most := v, sum := v, squares := (v * v).toNat })
  s.setCap c { x with acc := (capProbes s c).map add, samples := x.samples + 1 }

/-! ## Fires (R464 to R466) -/

/-- A capture fires at a trigger instant. -/
def capFire (c it : Nat) (root : Int) (net : Bool) (s : State) : State :=
  let x := cap s c
  let pa := decide (it < s.rd64 (Reg.LDL_ARM_IT_LO c))
  let r : LdlRec := { trigIt := it, trigRoot := root, firedAt := s.now, preArm := pa, net := net, timeOk := timeOk s,
                      next := match x.wins with | w :: _ => w.num | [] => 0 }
  let z := zeroOf s c it root
  let s1 := s.setCap c { x with st := 4, record := some r, netFire := none }
  let s2 := capCause c 1 (if pa then capCause c 4 s1 else s1)
  match z with
  | some n => setZero c n s2
  | none => s2

/-- A fire in the cycle of an earlier one: the earlier trigger instant governs, and the other counts (R466). The flag says that it is this one's. -/
def sameCycleFire (c it : Nat) (root : Int) (net : Bool) (s : State) : Option (State × Bool) :=
  let governs (r : LdlRec) : Bool := if net then decide (it < r.trigIt) else decide (root < r.trigRoot)
  let x := cap s c
  match x.record with
  | some r =>
    if x.st = 4 ∧ r.firedAt = s.now ∧ !(streams s c) then
      some (fireIgnored (if governs r then capFire c it root net (s.setCap c { x with record := none }) else s), governs r)
    else none
  | none => none

/-- A local trigger with its raw instant in root periods (R464): it acts only in ARMED, and sends TRIG FIRE where FIRE_TX asks for it (R465). -/
def localFire (c : Nat) (raw : Int) (s : State) : State :=
  let tf := raw - s.sfld (Reg.LDL_TRIG_SKEW c) 0 16
  let (_, it, _, _) := timesBefore s (rootNow s - tf)
  let send (t : State) : State := if t.flag (Reg.LDL_CFG c) 25 then sendFire c it t else t
  if streams s c then fireIgnored s
  else if (cap s c).st = 3 then send (capFire c it tf false s)
  else match sameCycleFire c it tf false s with
    | some (t, first) => if first then send t else t
    | none => fireIgnored s

/-- A network fire acts at its time; the root instant follows from the distance in implement time (R465). -/
def netFireNow (c it : Nat) (s : State) : State :=
  let (d, s1) := s.narrow (((implementTime s : Int) - it : Rat) * 4 / 5)
  capFire c it (rootNow s - d) true s1

/-- A capture that is ARMED meets a network fire. Of two whose times are still in the future the earlier one stands, and the other finds the
capture FIRED (DEDUCED, log entry 76). -/
def netFireAt (c it : Nat) (s : State) : State :=
  if it ≤ implementTime s then netFireNow c it s
  else match (cap s c).netFire with
    | none => s.setCap c { cap s c with netFire := some it }
    | some t => fireIgnored (s.setCap c { cap s c with netFire := some (min it t) })

/-! ## Arming (R463) -/

/-- Implement time of the first window start at or after the arm, if it has been reached `back` root periods ago: under PERIOD the first boundary,
else the first sample instant. -/
def armInstant (s : State) (c back : Nat) : Option Nat :=
  let x := cap s c
  let it := (timesBefore s back).2.1
  if byPeriod s c then
    let n := max 1 (windowNs s c)
    let b := (x.armFrom + n - 1) / n * n
    if b ≤ it ∧ s.flag (Reg.TSU + 0x008) 0 then some b else none
  else if x.due.find? (fun d => decide (x.armRoot ≤ d)) = some (rootNow s - back) then some it else none

/-- Arm completion at an instant `back` root periods ago (R463): the capture is ARMED, a pending fire acts, and a STREAM record begins. -/
def armComplete (c back : Nat) (s : State) : State :=
  if (cap s c).st ≠ 2 then s
  else match armInstant s c back with
    | none => s
    | some b =>
      let x := cap s c
      let place := b / max 1 (windowNs s c)
      let first := if byPeriod s c ∧ 0 < place then some (place - 1) else none
      let s1 := (s.wr64 (Reg.LDL_ARM_IT_LO c) b).setCap c { x with st := 3, win := none, samples := 0, acc := [], nextNum := 0,
                                                                      lastPlace := first, stepped := false, starts := [], wins := [],
                                                                      lost := [], gone := [], fifo := [], coming := [], written := 0,
                                                                      pending := none, record := none,
                                                                      due := x.due.filter fun d => decide (rootNow s - back ≤ d) }
      let s2 := capCause c 0 s1
      if streams s2 c then
        let r : LdlRec := { trigIt := b, trigRoot := rootNow s - back, firedAt := s.now, timeOk := timeOk s }
        capCause c 1 (s2.setCap c { cap s2 c with st := 4, record := some r })
      else match x.pending with
        | some t => netFireAt c t s2
        | none => s2

/-- A capture arms at an instant (R463): ignored in ARMING, ARMED and FIRED, and in DONE until a disarm. -/
def capArmAt (c it : Nat) (root : Int) (s : State) : State :=
  let x := cap s c
  if x.st = 1 then s.setCap c { x with st := 2, armFrom := it, armRoot := root } else s

/-- A capture arms now. -/
def capArm (c : Nat) (s : State) : State := capArmAt c (implementTime s) (rootNow s) s

/-! ## Closing a record (R467, R469, R470) -/

/-- The record needs a window that was lost (R462). While window 0 is not known, it is none of those that have started. -/
def recOverflow (s : State) (c : Nat) (r : LdlRec) : Bool :=
  let x := cap s c
  (x.lost ++ x.gone).any fun n => match r.zero with
    | some z => decide (z ≤ (n : Int) + capPre s c) && decide ((n : Int) < z + capPost s c)
    | none => decide (x.nextNum ≤ n + capPre s c)

/-- Flags of the trailer, and its last word (R467). -/
def trailerWords (s : State) (c : Nat) (r : LdlRec) (truncated : Bool) : List (Word × Bool) :=
  let f (b : Bool) (k : Nat) : Nat := if b then 2 ^ k else 0
  [(wordOf (f truncated 0 + f r.preArm 1 + f r.preShort 2 + f (recOverflow s c r) 3 + f r.step 4 + f r.net 5 + f r.timeOk 6 + f r.poison 7), false),
   (wordOf (0x10000 * (r.before % 0x10000) + r.after % 0x10000), false)]

/-- Header of a record whose word 5 is `off` (R467). -/
def headerWords (s : State) (c : Nat) (r : LdlRec) (off : Int) : List (Word × Bool) :=
  let pos := s.rd Reg.KSW_POS
  [wordOf (0x80000000 * bits pos 31 1 + 0x1000000 * bits pos 0 7 + 0x100000 * c + 1), s.rd (Reg.LDL_SEQ c), wordOf r.trigIt, hiWord r.trigIt,
   wordOfInt (r.trigRoot / 4), wordOfInt (clampI (-2147483647) 2147483647 off)].map fun w => (w, false)

/-- Pushes one word with its parity inverted where the mark says so (R175, R468). The flag says that DROP has discarded it (R170). -/
def pushMarked (q : Nat) (w : Word × Bool) (s : State) : State × Bool :=
  hwOffer q (fun s1 =>
    let x := queue s1 q
    if x.pktOpen ∧ 65535 ≤ x.pktLen then s1.queueErrorBy q 3 0x09 0x00 0xF
    else
      let s2 := if x.pktOpen then s1.setQueue q { x with pktLen := x.pktLen + 1 } else s1
      qStore q { data := w.1, badParity := w.2 } s2) s

/-- Opens the packet of a record. The flag says that DROP has discarded it (R170). -/
def openRecord (q : Nat) (s : State) : State × Bool := hwOffer q (fun t => hwPacket q (qOpen q t)) s

/-- A word that STALL holds is refused once, however often it is offered (R170); `held` says that it has been. -/
def stallRefuse (q : Nat) (held : Bool) (s : State) : State := if held then s else qRefuse q s

/-- Pushes as many words as the queue accepts: what is left, and whether DROP has abandoned the packet (R170, R468). `held` says that the
first word has already been refused. -/
def pushWords (q : Nat) (held : Bool) : List (Word × Bool) → State → List (Word × Bool) × Bool × State
  | [], s => ([], false, s)
  | w :: r, s =>
    if qRoom s q 1 then
      let (s1, lost) := pushMarked q w s
      if lost then ([], true, s1) else pushWords q false r s1
    else if s.flag (qAddr q 0x10) 2 then ([], true, (qHwPush q w.1 s).1)
    else (w :: r, false, stallRefuse q held s)

/-- What follows a closed record (R469). -/
def afterRecord (c : Nat) (s : State) : State :=
  let x := cap s c
  match s.fld (Reg.LDL_CFG c) 28 2 with
  | 0 => capCause c 2 (s.setCap c { x with st := 5, record := none })
  | 1 => capCause c 0 (s.setCap c { x with st := 3, record := none, gone := [] })
  | _ =>
    let r : LdlRec := { trigIt := implementTime s, trigRoot := rootNow s, firedAt := s.now, timeOk := timeOk s,
                        next := match x.record with | some r => ((r.zero.getD r.next) + capPost s c).toNat | none => x.nextNum }
    let z := r.next
    match x.starts.find? fun w => decide (w.num = z) with
    | some w => s.setCap c { x with record := some { r with zero := some z, trigIt := w.start, trigRoot := w.root } }
    | none => if z < x.nextNum then s.setCap c { x with record := some { r with zero := some z } }
              else s.setCap c { x with record := some r }

/-- The record of a capture is lost: its packet is abandoned under DROP (R468). -/
def recordLost (c : Nat) (s : State) : State := afterRecord c (capCause c 5 (s.satInc (Reg.LDL_LOST_CNT c) 0))

/-- An open record closes before its end: the trailer with TRUNCATED where the queue takes all that is left, else the packet is
abandoned (R470). Its word 5 is a free value where no window has started. -/
def truncateRecord (c : Nat) (s : State) : State :=
  let x := cap s c
  match x.record with
  | none => s
  | some r =>
    let q := capQueue s c
    let gone := (s.setCap c { x with record := none })
    if r.zero = none ∧ r.opened = false ∧ streams s c then gone
    else
      let (off, s1) := gone.freeIn (-2147483647) 2147483647
      let s2 := if r.header then gone else s1
      let ws := (if r.header then [] else headerWords s2 c r off) ++ r.out ++ (if r.trailer then [] else trailerWords s c r true)
      let (s3, ok) : State × Bool := if r.opened then (s2, true) else if qRoom s2 q 1 then (let (t, lost) := openRecord q s2; (t, !lost)) else (s2, false)
      let s4 := if r.header then s3 else s3.wrapInc (Reg.LDL_SEQ c)
      if ok && qRoom s4 q ws.length then 
        let (left, lost, t) := pushWords q false ws s4
        if lost ∨ left ≠ [] then qAbandon q false t else hwPacket q (qClose q t)
      else qAbandon q false s4

/-- CMD.DISARM and a disable: a pending or future fire is discarded, an open record is truncated (R463, R465, R470). A disarm keeps the future times
of network arms. -/
def capStop (c st : Nat) (s : State) : State :=
  let s1 := if (cap s c).st = 4 then truncateRecord c s else s
  let x := cap s1 c
  s1.setCap c { st := st, timeSeen := x.timeSeen, prev := x.prev, evAt := x.evAt, last := x.last
                due := if st = 0 then [] else x.due, netArm := if st = 0 then [] else x.netArm }

/-- The Ladle halts in PADDLE and deeper states: open records are truncated and every enabled capture will be DISARMED (R470). -/
def ldlHalt (s : State) : State :=
  (List.range 4).foldl (fun t c => if (cap t c).st = 0 then t else capStop c 1 t) s

/-- CTRL.EN of the LDL page is set: each enabled capture is DISARMED (R463); cleared: every capture stops (R470). -/
def ldlEnable (s : State) : State :=
  (List.range 4).foldl (fun t c => if t.flag (Reg.LDL_CFG c) 31 then t.setCap c { cap t c with st := 1 } else t) s
def ldlDisable (s : State) : State := (List.range 4).foldl (fun t c => if (cap t c).st = 0 then t else capStop c 0 t) s

/-! ## Pushing a record (R468) -/

/-- Words of a window as the ring holds them, each with the mark of R468. -/
def readRing (c : Nat) (w : LdlWin) (s : State) : List (Word × Bool) × State :=
  (List.range w.len).foldl
    (fun (acc : List (Word × Bool) × State) j =>
      let a := (s.rd (Reg.LDL_HIST_BASE c)).toNat + 4 * ((w.place + j) % max 1 (ringWords s c))
      match (if isSram s.variant a then readWord 7 a .none acc.2 else (some 0, acc.2)) with
      | (some v, t) => (acc.1 ++ [(v, false)], t)
      | (none, t) => (acc.1 ++ [(wordOf (Config.freeNat t.freeCtr), true)], t.drawn)) ([], s)

/-- The next window to deliver, if it is whole in the ring. -/
def nextWindow (s : State) (c : Nat) (r : LdlRec) (z : Int) : Option LdlWin :=
  let x := cap s c
  match x.wins.find? fun w => decide (r.next ≤ w.num) with
  | some w => if w.num < z + capPost s c ∧ w.place + w.len ≤ x.written then some w else none
  | none => none

/-- One stage of the delivery: open the packet, the header, a window, or the trailer; the flag says that nothing more can go now. -/
def pushStage (c : Nat) (s : State) : State × Bool :=
  let x := cap s c
  let q := capQueue s c
  match x.record with
  | none => (s, true)
  | some r =>
    let put (r : LdlRec) (t : State) : State := t.setCap c { cap t c with record := some r }
    if r.firedAt = s.now then (s, true)
    else if !r.opened then
      if streams s c && r.zero.isNone then (s, true)
      else if qRoom s q 1 then
        let (t, lost) := openRecord q s
        if lost then (recordLost c (t.wrapInc (Reg.LDL_SEQ c)), true) else (put { r with opened := true, held := false } t, false)
      else if s.flag (qAddr q 0x10) 2 then (recordLost c ((qHwPush q 0 s).1.wrapInc (Reg.LDL_SEQ c)), true)
      else (put { r with held := true } (stallRefuse q r.held s), true)
    else if r.out ≠ [] then
      let (left, lost, t) := pushWords q r.held r.out s
      if lost then (recordLost c t, true)
      else (put { r with out := left, held := decide (left ≠ []) } t, decide (left ≠ []))
    else if r.trailer then (afterRecord c (hwPacket q (qClose q s)), true)
    else match r.zero with
      | none => (s, true)
      | some z =>
        let first := (x.wins ++ x.win.toList).find? fun w => decide (r.next ≤ w.num)
        if !r.header then
          match first with
          | some w =>
            let (off, t) : Int × State := if (w.num : Int) < z + capPost s c then (w.root - r.trigRoot, s) else s.freeIn (-2147483647) 2147483647
            (put { r with header := true, out := headerWords s c r off } (t.wrapInc (Reg.LDL_SEQ c)), false)
          | none => (s, true)
        else match nextWindow s c r z with
          | some w =>
            let (ws, t) := readRing c w s
            (put { r with next := w.num + 1, out := ws, before := if w.num < z then r.before + 1 else r.before,
                          after := if w.num < z then r.after else r.after + 1, step := r.step || w.stepped,
                          poison := r.poison || ws.any Prod.snd } t, false)
          | none =>
            let open_ := match x.win with | some w => decide ((w.num : Int) < z + capPost s c) | none => false
            let waiting := x.wins.any fun w => decide (r.next ≤ w.num) && decide ((w.num : Int) < z + capPost s c)
            if z + capPost s c ≤ x.nextNum && !open_ && !waiting then (put { r with trailer := true, out := trailerWords s c r false } s, false)
            else (s, true)

/-- Stages in turn until none can go. -/
def pushStages (c : Nat) : Nat → State → State
  | 0, s => s
  | n + 1, s => let (t, stop) := pushStage c s
                if stop then t else pushStages c n t

/-- LDL_RECORD_PUSH: delivered windows and the trailer go to the queue as it accepts them (R468). -/
def recordPush (c : Nat) (s : State) : State :=
  if ldlOn s ∧ c < 4 then pushStages c (2 * (cap s c).wins.length + 6) s else s

/-! ## The ring (R462) -/

/-- One waiting word is written to the ring, and the FIFO takes up one that follows; windows whose words it overwrites are gone, and are lost where
the record still needs them. -/
def ringWord (c : Nat) (s : State) : State :=
  let x := cap s c
  match x.fifo with
  | [] => s
  | w :: r =>
    let n := max 1 (ringWords s c)
    let a := (s.rd (Reg.LDL_HIST_BASE c)).toNat + 4 * (x.written % n)
    let s1 := if isSram s.variant a then storeWord a w s else s
    let gone := x.wins.filter fun y => decide (y.place + n ≤ x.written)
    let s2 := s1.setCap c { x with fifo := r ++ x.coming.take 1, coming := x.coming.drop 1, written := x.written + 1,
                                   wins := x.wins.filter fun y => !(decide (y.place + n ≤ x.written)) }
    gone.foldl (fun t y => if recNeeds s c y.num then windowLost c y.num true t else t) s2

/-- LDL_RING_WRITE: the bank serves up to `words` waiting words. -/
def ringWrite (c words : Nat) (s : State) : State :=
  if ldlOn s ∧ c < 4 then (List.range (min words ((cap s c).fifo.length + (cap s c).coming.length))).foldl (fun t _ => ringWord c t) s else s

/-! ## Samples (R457, R459, R461, R464) -/

/-- The level is crossed between two samples (R464). -/
def crosses (edge : Nat) (prev v level : Int) : Bool :=
  let up := decide (prev ≤ level) && decide (level < v)
  let down := decide (level ≤ prev) && decide (v < level)
  match edge with | 0 => up | 1 => down | _ => up || down

/-- The test of a probe trigger on a sample taken `back` root periods ago. -/
def probeTest (c back : Nat) (s : State) : State :=
  if trigSource s c ≠ 1 then s
  else
    let k := s.fld (Reg.LDL_TRIG c) 16 5
    if k < probesOf s.variant ∧ s.flag (Reg.LDL_PRB k) 31 then
      let v := signalValue s (s.fld (Reg.LDL_PRB k) 0 9) back
      let hit := match (cap s c).prev with | some p => crosses (s.fld (Reg.LDL_TRIG c) 24 2) p v (s.sfld (Reg.LDL_LEVEL c) 0 32) | none => false
      let s1 := s.setCap c { cap s c with prev := some v }
      if hit then localFire c (rootNow s - back) s1 else s1
    else s

/-- Implement time reaches a multiple of PERIOD × 5 ns at an instant `back` root periods ago (R459): it passes one in the root period that ends
there, or a step lands on one. -/
def gridReached (s : State) (c back : Nat) : Bool :=
  let it := (timesBefore s back).2.1
  let was := (timesBefore s (back + 1)).2.1
  let g := max 1 (gridNs s c)
  decide (it / g ≠ was / g) && (decide (was < it ∧ it ≤ was + 8) || decide (it % g = 0))

/-- An instant `back` root periods ago is a sample instant of the capture (R459): each one once, in their order. -/
def sampleDue (s : State) (c back : Nat) : Bool :=
  let x := cap s c
  let t := rootNow s - back
  decide (back ≤ 80000) && (match x.last with | some l => decide (l < t) | none => true)
    && (if byPeriod s c then s.flag (Reg.TSU + 0x008) 0 && gridReached s c back else x.due.contains t)

/-- A sample under PERIOD at implement time `it`, in the window whose boundary is next before it. -/
def periodSample (c it back : Nat) (s : State) : State :=
  let x := cap s c
  let place := it / max 1 (windowNs s c)
  let moved := match x.lastPlace with | some p => decide (p ≠ place) | none => true
  let s1 := if x.win.isSome && (x.stepped || moved) then closeWindow c x.stepped s else s
  let s2 := s1.setCap c { cap s1 c with stepped := false }
  let fresh := match x.lastPlace with | some p => decide (p < place) | none => true
  let b := place * windowNs s c
  let s3 := if (cap s2 c).win.isNone && fresh then
      openWindow c b (rootNow s - back - ((it - b : Nat) : Int) * 4 / 5) (s2.setCap c { cap s2 c with lastPlace := some place })
    else s2
  let s4 := if (cap s3 c).win.isSome then takeSamples c back s3 else s3
  probeTest c back s4

/-- A sample under XCMP or LE: windows are runs of W samples. -/
def runSample (c it back : Nat) (s : State) : State :=
  let s1 := if (cap s c).win.isNone then openWindow c it (rootNow s - back) s else s
  let s2 := takeSamples c back s1
  let s3 := if capW s c ≤ (cap s2 c).samples then closeWindow c false s2 else s2
  probeTest c back s3

/-- LDL_SAMPLE: a sample instant of a capture, `back` root periods ago and at most 100 µs. -/
def ldlSample (c back : Nat) (s : State) : State :=
  if ldlOn s ∧ c < 4 ∧ (cap s c).st ≠ 0 ∧ sampleDue s c back then
    let (_, it, _, _) := timesBefore s back
    let s1 := armComplete c back s
    let t := rootNow s - back
    let s2 := s1.setCap c { cap s1 c with last := some t, due := (cap s1 c).due.filter fun d => decide (t < d) }
    if (cap s2 c).st = 3 ∨ (cap s2 c).st = 4 then (if byPeriod s c then periodSample c it back s2 else runSample c it back s2)
    else probeTest c back s2
  else s

/-! ## The other triggers and the network (R464, R465) -/

/-- LDL_EVENT_TRIGGER: a rising edge of the selected event source, in the cycle in which it came; each edge acts once. -/
def eventTrigger (c : Nat) (s : State) : State :=
  if ldlOn s ∧ c < 4 ∧ trigSource s c = 2 then
    match eventEdge s c with
    | some t => let s1 := eventsLook s
                localFire c (t * 4) (s1.setCap c { cap s1 c with evAt := none })
    | none => s
  else s

/-- LDL_TIME_TRIGGER: implement time has reached FIRE_AT. -/
def timeTrigger (c : Nat) (s : State) : State :=
  let t := s.rd64 (Reg.LDL_FIRE_AT_LO c)
  let it := implementTime s
  if ldlOn s ∧ c < 4 ∧ trigSource s c = 4 ∧ t ≤ it ∧ (cap s c).timeSeen ≠ some t then
    let (d, s1) := (s.setCap c { cap s c with timeSeen := some t }).narrow (((it - t : Nat) : Rat) * 4 / 5)
    localFire c (rootNow s - d) s1
  else s

/-- A record formed by latch input `k` at root instant `t` fires the captures that select it. -/
def latchTrigger (k : Nat) (t : Int) (s : State) : State :=
  if ldlOn s then
    (List.range 4).foldl (fun u c => if trigSource u c = 3 ∧ u.fld (Reg.LDL_TRIG c) 16 5 = k then localFire c t u else u) s
  else s

/-- LATCH_EDGE with its trigger at the latch instant (R464): a record was formed where the input's FIFO has grown. -/
def latchEdgeAll (k : Nat) (level : Bool) (back : Nat) (s : State) : State :=
  let s1 := live 0xD0 (latchEdge k level back) s
  if (latIn s k).fifo.length < (latIn s1 k).fifo.length then
    latchTrigger k (latchInstant s k (rootNow s - back)) s1
  else s1

/-- An accepted TRIG frame (R450, R463, R465). -/
def trigFrame (op c it : Nat) (s : State) : State :=
  if !(s.hasPage 0xD8) then s
  else if 4 ≤ c then fireIgnored s
  else if !(ldlOn s) || !(s.flag (Reg.LDL_CFG c) 24) then s
  else
    let x := cap s c
    if op = 1 then (if it ≤ implementTime s then capArm c s else if x.st = 0 then s else s.setCap c { x with netArm := x.netArm ++ [it] })
    else match x.st with
      | 3 => if streams s c then fireIgnored s else netFireAt c it s
      | 1 | 2 => s.setCap c { x with pending := some it }
      | 0 => s
      | _ => match sameCycleFire c it (rootNow s - ((implementTime s : Int) - it) * 4 / 5) true s with
        | some (t, _) => t
        | none => fireIgnored s

/-- LDL_NET_FIRE_TIME: a future network fire time is reached. -/
def netFireTime (c : Nat) (s : State) : State :=
  match (cap s c).netFire with
  | some t => if ldlOn s ∧ t ≤ implementTime s ∧ (cap s c).st = 3 then netFireNow c t s else s
  | none => s

/-- LDL_NET_ARM_TIME: a future network arm time is reached; of several that have been reached, each arms in the order of their frames, and an arm
that meets no DISARMED capture is ignored. -/
def netArmTime (c : Nat) (s : State) : State :=
  let it := implementTime s
  if ldlOn s then
    ((cap s c).netArm.filter fun t => decide (t ≤ it)).foldl
      (fun u t => let (d, u1) := u.narrow (((it - t : Nat) : Rat) * 4 / 5)
                  capArmAt c t (rootNow s - d) u1)
      (if (cap s c).netArm.all fun t => decide (it < t) then s
       else s.setCap c { cap s c with netArm := (cap s c).netArm.filter fun t => decide (it < t) })
  else s

/-! ## Register accesses -/

/-- A write to CMD: DISARM, then ARM, then FIRE. -/
def ldlCmdWrite (m : Master) (c : Nat) (v : Word) (s : State) : State :=
  let s1 := s.consumeKey 0xD8 m
  if !(ldlOn s1) || decide ((cap s1 c).st = 0) then
    (if bit v 1 && ldlOn s1 && decide (trigSource s1 c = 0) then fireIgnored s1 else s1)
  else
    let s2 := if bit v 2 then capStop c 1 s1 else s1
    let s3 := if bit v 0 then capArm c s2 else s2
    if bit v 1 && decide (trigSource s3 c = 0) then localFire c (rootNow s3) s3 else s3

/-- A probe register (R456, R458, R460): that of an enabled capture refuses every write but the clearing of its enable (R54). -/
def probeWrite (d : RegDef) (k a : Nat) (m : Master) (v : Word) (s : State) : State :=
  let old := s.rd a
  runningWrite d a 0x03 m v (bit old 31 && s.flag (Reg.LDL_CFG (bits old 28 2)) 31) (fun w s => s.wr a w)
    (fun v s =>
      let w := storeValue d (s.rd a) v
      if bit w 31 && s.flag (Reg.LDL_CFG (bits w 28 2)) 31 then s.blockError a 0x03 m
      else if !(signalOk s.variant (bits w 0 9)) then s.blockError a 0x01 m
      else if signalWide (bits w 0 9) ∧ bits w 16 4 ≠ 0 then s.blockError a 0x02 m
      else (s.wr (Reg.LDL_PRB k) w)) s

/-- A capture's CFG (R458, R468, R470). -/
def capCfgWrite (d : RegDef) (c a : Nat) (m : Master) (v : Word) (s : State) : State :=
  let stop (kept : Word) (s : State) : State := (capStop c 0 s).wr a kept
  runningWrite d a 0x03 m v (s.flag a 31) stop
    (fun v s =>
      let w := storeValue d (s.rd a) v
      if bits w 28 2 = 3 then s.blockError a 0x02 m
      else if bit w 31 then
        let e := enableError s c (bits w 0 9)
        if e ≠ 0 then s.blockError a e m
        else
          let s1 := (eventsLook s).wr a w
          let seen := s.rd64 (Reg.LDL_FIRE_AT_LO c)
          if s.flag (Reg.LDL + 0x008) 0 then
            s1.setCap c { st := 1, timeSeen := if seen ≤ implementTime s then some seen else none }
          else s1
      else s.wr a w) s

/-- The value of a capture's register is legal. -/
def capLegal (off : Nat) (w : Word) : Bool :=
  match off with
  | 0x104 => decide (bits w 30 2 ≠ 3)
  | 0x108 => decide (4 ≤ bits w 0 24)
  | 0x114 => decide (1 ≤ bits w 0 16)
  | 0x118 => decide (bits w 28 4 ≤ 4) && decide (bits w 24 2 ≠ 3)
  | _ => true

/-- A write to a register of the LDL page from offset 0x040 upward. -/
def ldlWrite (d : RegDef) (k a : Nat) (m : Master) (v : Word) (s : State) : State :=
  if featureAbsent s.variant .ldl (a % 0x1000) then genericWrite .ldl d a m v s
  else if d.off = 0x080 then probeWrite d k a m v s
  else if d.off = 0x100 then capCfgWrite d k a m v s
  else if d.off = 0x134 then ldlCmdWrite m k v s
  else if 0x104 ≤ d.off ∧ d.off ≤ 0x130 then
    regWrite d a m v
      (fun v s =>
        let w := storeValue d (s.rd a) v
        if s.flag (Reg.LDL_CFG k) 31 then s.blockError a 0x03 m
        else if capLegal d.off w then
          if d.off = 0x118 then
            let s1 := eventsLook ((eventsLook s).wr a w)
            s1.setCap k { cap s1 k with evAt := none }
          else s.wr a w
        else s.blockError a 0x02 m) s
  else genericWrite .ldl d a m v s

/-- A read of a register of the LDL page whose value is not stored. -/
def ldlRead (d : RegDef) (k _ : Nat) (_ : Master) (s : State) : Option (Word × State) :=
  match d.off with
  | 0x138 =>
    let x := cap s k
    some (wordOf (0x10000000 * x.st + (if x.pending.isSome || x.netFire.isSome then 0x1000000 else 0)
      + min 0xFFFF (x.wins.filter fun w => decide (w.place + w.len ≤ x.written)).length), s)
  | _ => none

/-! ## The commands -/

/-- A register command of a capture. -/
def capRow (m : Master) (c a : Nat) (f : State → State) (s : State) : Answer := .next (if c < 4 then regRow m a f s else s)

/-- LDL_ARM (R463). -/
def execLdlArm (m : Master) (c : Nat) (s : State) : Answer := capRow m c (Reg.LDL_CMD c) (ldlCmdWrite m c 1) s
/-- LDL_DISARM (R463). -/
def execLdlDisarm (m : Master) (c : Nat) (s : State) : Answer := capRow m c (Reg.LDL_CMD c) (ldlCmdWrite m c 4) s
/-- LDL_FIRE (R464). -/
def execLdlFire (m : Master) (c : Nat) (s : State) : Answer := capRow m c (Reg.LDL_CMD c) (ldlCmdWrite m c 2) s
/-- LDL_ARM_COMPLETE (R463). -/
def execLdlArmComplete (c back : Nat) (s : State) : Answer :=
  .next (live 0xD8 (fun s => if ldlOn s ∧ c < 4 then armComplete c back s else s) s)
/-- LDL_SAMPLE (R459). -/
def execLdlSample (c back : Nat) (s : State) : Answer := .next (live 0xD8 (ldlSample c back) s)
/-- LDL_EVENT_TRIGGER (R464). -/
def execLdlEventTrigger (c : Nat) (s : State) : Answer := .next (live 0xD8 (eventTrigger c) s)
/-- LDL_TIME_TRIGGER (R464). -/
def execLdlTimeTrigger (c : Nat) (s : State) : Answer := .next (live 0xD8 (timeTrigger c) s)
/-- LDL_NET_FIRE_TIME (R465). -/
def execLdlNetFireTime (c : Nat) (s : State) : Answer := .next (live 0xD8 (netFireTime c) s)
/-- LDL_NET_ARM_TIME (R463). -/
def execLdlNetArmTime (c : Nat) (s : State) : Answer := .next (live 0xD8 (netArmTime c) s)
/-- LDL_RING_WRITE (R462). -/
def execLdlRingWrite (c words : Nat) (s : State) : Answer := .next (live 0xD8 (ringWrite c words) s)
/-- LDL_RECORD_PUSH (R468). -/
def execLdlRecordPush (c : Nat) (s : State) : Answer := .next (live 0xD8 (recordPush c) s)
/-- LDL_CAPTURE_DISABLE (R470). -/
def execLdlCaptureDisable (m : Master) (c : Nat) (s : State) : Answer :=
  capRow m c (Reg.LDL_CFG c)
    (fun s => capCfgWrite (defOf .ldl (0x100 + 0x40 * c)) c (Reg.LDL_CFG c) m (putBit (s.rd (Reg.LDL_CFG c)) 31 false) s) s
/-- LATCH_EDGE (R342, R464). -/
def execLatchEdge (k : Nat) (level : Bool) (back : Nat) (s : State) : Answer := .next (latchEdgeAll k level back s)

end Sys2Proof.Machine
end

