-- ==== Sys2Proof/Machine/Ksw.lean ====
section
/-! DEFINITION. The Knatis switch, its MACs and the Knatis protocol (spec/21_knatis.md): reception, forwarding, gates, transparent clock,
the checks of Knatis frames and what accepted frames do, the local rings, BEAT supervision, MDIO. -/

namespace Sys2Proof.Machine

/-! ## Gates (R437) -/

/-- The port's gate control list runs. -/
def gclRuns (s : State) (p : Nat) : Bool := s.flag (Reg.KSW_GCL_CTRL p) 31 && s.flag (Reg.TSU + 0x008) 0

/-- Cycle length in ns, and the cycle and the place in it at an implement time. -/
def gclLen (s : State) (p : Nat) : Nat := max 1 (s.rd (Reg.KSW_GCL_CYCLE p)).toNat
def gclCyc (s : State) (p : Nat) (it : Int) : Int := (it - s.rd64 (Reg.KSW_GCL_BASE_LO p)) / gclLen s p
def gclOff (s : State) (p : Nat) (it : Int) : Nat := ((it - s.rd64 (Reg.KSW_GCL_BASE_LO p)) % gclLen s p).toNat

/-- Admin and oper entries of a port. -/
def adminList (s : State) (p : Nat) : List Word := (List.range (s.fld (Reg.KSW_GCL_CTRL p) 0 7 + 1)).map fun k => s.rd (Reg.KSW_GCL (128 * p + k))
def operList (s : State) (p : Nat) : List Word := tabGet s.ksw.oper p []

/-- The entries as pieces of a cycle: start, end, gates. The last entry's states hold until the cycle ends. -/
def pieces (len : Nat) : Nat → List Word → List (Nat × Nat × Nat)
  | _, [] => []
  | at_, [w] => [(at_, len, bits w 24 8)]
  | at_, w :: r => (at_, min len (at_ + bits w 0 24), bits w 24 8) :: pieces len (at_ + bits w 0 24) r

/-- The entry that a place in the cycle falls in. -/
def entryAt (len off : Nat) (l : List Word) : Nat := (((pieces len 0 l).zipIdx).find? fun x => decide (x.1.1 ≤ off ∧ off < x.1.2.1)).elim 0 fun x => x.2

/-- Class `c` is open over a stretch of a cycle. -/
def openOver (len : Nat) (l : List Word) (c from_ to_ : Nat) : Bool :=
  l ≠ [] && (pieces len 0 l).all fun x => decide (x.2.1 ≤ from_ ∨ to_ ≤ x.1 ∨ x.2.1 ≤ x.1) || decide (x.2.2 / 2 ^ c % 2 = 1)

/-- The gate of class `c` is open at implement time `it` and stays open for `dur` ns. -/
def gateOpenFor (s : State) (p c : Nat) (it : Int) (dur : Nat) : Bool :=
  if gclRuns s p then
    let len := gclLen s p
    let off := gclOff s p it
    let next := if s.flag (Reg.KSW_GCL_CTRL p) 30 then adminList s p else operList s p
    openOver len (operList s p) c off (off + max 1 dur) && (decide (off + dur ≤ len) || openOver len next c 0 (off + dur - len))
  else true

/-- GCL_ENTRY_CHANGE: the port enters the entry of now, after a pending SWAP at a cycle start, which needs no enable (R437). -/
def gclChange (p : Nat) (s : State) : State :=
  if p < portsOf s.variant ∧ busUp s then
    let it := implementTime s
    let cyc := gclCyc s p it
    let fresh := match s.ksw.gate.find? fun x => x.1 == p with | some x => decide (x.2.1 ≠ cyc) | none => true
    let s1 := if s.flag (Reg.KSW_GCL_CTRL p) 30 && fresh then
        (({ s with ksw := { s.ksw with oper := tabPut s.ksw.oper p (adminList s p) [] } }).setFlag (Reg.KSW_GCL_CTRL p) 30 false).crcTouch 0xF8
      else s
    let e := entryAt (gclLen s p) (gclOff s p it) (operList s1 p)
    { s1 with ksw := { s1.ksw with gate := tabInsert (p, (cyc, e)) (s1.ksw.gate.filter fun x => x.1 != p) } }
  else s

/-! ## PTP messages (R440, R441) -/

/-- Place of the PTP header, and whether a non-zero UDP checksum forbids a correction. -/
def ptpPlace (b : List Byte) : Option (Nat × Bool) :=
  let i := parseFrame b
  if i.etype = 0x88F7 then some (i.pay, false)
  else if i.etype = 0x0800 ∧ beAt b i.pay 1 = 0x45 ∧ beAt b (i.pay + 9) 1 = 17 ∧ beAt b (i.pay + 22) 2 = 319 then
    some (i.pay + 28, decide (beAt b (i.pay + 26) 2 ≠ 0))
  else none

/-- messageType and domainNumber of IEEE 1588-2019. -/
def ptpType (b : List Byte) (k : Nat) : Nat := beAt b k 1 % 16
def ptpDomain (b : List Byte) (k : Nat) : Nat := beAt b (k + 4) 1

/-- TC_MODE: 0 off, 1 E2E, 2 P2P. -/
def tcMode (s : State) : Nat := s.fld Reg.KSW_CFG 8 2

/-- The frame is a Pdelay message, which is never forwarded while TC_MODE is on (R441). -/
def isPdelay (s : State) (b : List Byte) : Bool :=
  decide (tcMode s ≠ 0) && match ptpPlace b with
    | some (k, _) => let t := ptpType b k
                     decide (t = 2 ∨ t = 3 ∨ t = 10)
    | none => false

/-- The enabled lane bound to a domain (R384). -/
def laneOfDomain (s : State) (dom : Nat) : Option Nat :=
  [0, 1].find? fun x => s.flag (Reg.TSU_L_CFG x) 31 && decide (s.fld (Reg.TSU_L_CFG x) 16 8 = dom)

/-- The lane in whose time the MAC of port `p` stamps a frame (R440). -/
def stampLane (s : State) (p : Nat) (b : List Byte) : Option Nat :=
  match ptpPlace b with
  | some (k, _) =>
    if ptpType b k < 4 then
      match laneOfDomain s (ptpDomain b k) with
      | some x => if s.flag (Reg.TSU_L_CFG x) (8 + p) then some x else none
      | none => none
    else none
  | none => none

/-- Words 2 and 3 of a descriptor for an SFD at a TICK, moved by `dly` ns (R440, R454). -/
def stampWords (lane : Option Nat) (sfd : Nat) (dly : Int) (s : State) : Word × Word × State :=
  let (d, s1) := s.narrow ((dly : Rat) / 5)
  let w2 := wordOfInt ((sfd : Int) + d)
  match lane with
  | none => (w2, 0, s1)
  | some x =>
    let (_, _, ta, tb) := timesBefore s (((s.now : Int) - sfd) * 4)
    let ns := (((if x = 0 then ta else tb : Nat) : Int) + dly) % 1000000000
    (w2, wordOf (0x40000000 * (x + 1) + ns.toNat), s1)

/-- The transparent clock: the residence time enters the correctionField of a forwarded event message (R441). -/
def tcCorrect (e : Nat) (ing : Option (Nat × Nat)) (sfd : Nat) (b : List Byte) (s : State) : List Byte × State :=
  match ing, ptpPlace b with
  | some (p, t), some (k, checked) =>
    let ty := ptpType b k
    if tcMode s = 0 ∨ !(ty = 0 ∨ (ty = 1 ∧ tcMode s = 1)) then (b, s)
    else if checked then (b, s.satInc Reg.KSW_TC_SKIP 0)
    else
      let res : Rat := ((sfd - t) * 5 + s.fld (Reg.MAC_PHY_DLY p) 0 16 + s.fld (Reg.MAC_PHY_DLY e) 16 16 : Nat)
      let scaled : Rat := match laneOfDomain s (ptpDomain b k) with
        | some x => res * (((laneOf s x).incr : Nat) : Rat) / (5 * 4294967296)
        | none => res
      let link : Rat := if tcMode s = 2 then (s.rd (Reg.MAC_LINK_DLY p)).toNat else 0
      let (d, s1) := s.narrow ((scaled + link) * 65536)
      let v := signed 64 (beAt b (k + 8) 8) + d
      (b.take (k + 8) ++ beBytes 8 (lowBits 64 v) ++ b.drop (k + 16), s1)
  | _, _ => (b, s)

/-! ## Egress (R433, R434, R436, R440, R454) -/

/-- TICKs that a number of frame bytes take on the wire: 80 ns each. -/
def byteTicks (n : Nat) : Nat := 16 * n

/-- A frame starts on the wire of port `e` with its SFD at a TICK. -/
def startWire (e sfd : Nat) (bad : Bool) (b : List Byte) (f : OutFrame) (s : State) : State :=
  let (b1, s1) := tcCorrect e f.ingress sfd b s
  s1.setWire e (some { bytes := if f.strip then dropTag b1 else b1, sfd := sfd, bad := bad, frame := { f with data := [] } })

/-- The bytes of a waiting frame, and whether each word was readable (R434). -/
def frameBytesOf (f : OutFrame) (upset : Upset) (s : State) : List Byte × Bool × State :=
  match f.slot with
  | none => (f.data, true, s)
  | some k =>
    let a := slotAddr s k
    let r := (List.range ((f.len + 3) / 4)).foldl
      (fun (acc : List Byte × Bool × State) j =>
        if isSram s.variant (a + 4 * j) then
          match readWord 8 (a + 4 * j) (if j = 0 then upset else .none) acc.2.2 with
          | (some w, t) => (acc.1 ++ wordBytes w, acc.2.1, t)
          | (none, t) => (acc.1 ++ [0, 0, 0, 0], false, t)
        else (acc.1 ++ [0, 0, 0, 0], acc.2.1, acc.2.2)) ([], true, s)
    (r.1.take f.len, r.2.1, r.2.2)

/-- The head frame of the highest class whose gate stays open for its whole transmission, without the tag that the port strips (R435, R436). -/
def nextFrame (s : State) (p : Nat) : Option OutFrame :=
  (([7, 6, 5, 4, 3, 2, 1, 0] : List Nat).findSome? fun c => match egress s p c with
    | f :: _ => if f.notBefore ≤ s.now ∧ gateOpenFor s p c (implementTime s) (((if f.strip then f.len - 4 else f.len) + 12) * 80) then some f
                else none
    | [] => none)

/-- KSW_EGRESS_START: a transmit opportunity of an idle port. A frame whose reads from its slot starve or meet an unreadable word ends with an
inverted FCS (R434). -/
def egressStart (p : Nat) (x : EgressRead) (s : State) : State :=
  if portUp s p ∧ kswOn s ∧ wireOf s p = none ∧ tabGet s.ksw.idleFrom p 0 ≤ s.now then
    match nextFrame s p with
    | none => s
    | some f =>
      let s1 := s.setEgress p f.cls ((egress s p f.cls).drop 1)
      let (b, whole, s2) := frameBytesOf f x.upset s1
      let ok := whole && !(x.starved && f.slot.isSome)
      let s3 := if ok then s2 else (s2.satInc (Reg.MAC_TX_UNDERRUN p) 0).cause (Reg.MAC p) 4
      startWire p (s.now + 128) (!ok) b f s3
  else s

/-- Address of a descriptor of the receive (0) or transmit (1) ring. -/
def descAddr (s : State) (tx d : Nat) : Nat := (s.rd (Reg.KSW_LRX_BASE + 8 * tx)).toNat / 4 * 4 + 16 * d

/-- A transmit descriptor ends with a result, and its timestamp where it was sent (R454). -/
def ltxEnd (d result : Nat) (stamp : Option (Word × Word)) (s : State) : State :=
  let a := descAddr s 1 d
  let w1 := s.rawWord (a + 4)
  let s1 := sramWords (a + 4) [putBits (putBit w1 31 false) 28 3 result] s
  let s2 := match stamp with | some (x, y) => sramWords (a + 8) [x, y] s1 | none => s1
  ({ s2 with ksw := { s2.ksw with stamped := s2.ksw.stamped.filter (· ≠ d) } }).cause Reg.KSW 4

/-- Another copy of a descriptor's frame still waits or is on a wire. -/
def ltxHeld (s : State) (d : Nat) : Bool := (heldFrames s).any fun f => decide (f.ltx = some d)

/-- The frame of a port has ended at a TICK: the port is idle 960 ns later (R433). -/
def portIdle (p t : Nat) (s : State) : State := { s with ksw := { s.ksw with idleFrom := tabPut s.ksw.idleFrom p (t + 192) 0 } }

/-- KSW_EGRESS_DONE: the frame on the wire of a port ends. Of two copies, the spec does not say whose timestamp the descriptor keeps. -/
def egressDone (p : Nat) (s : State) : State :=
  match wireOf s p with
  | none => s
  | some w =>
    if busUp s ∧ w.sfd + byteTicks (w.bytes.length + 4) ≤ s.now then
      let s1 := (s.setWire p none).wrapInc (Reg.MAC_TX_FRAMES p)
      let s2 := portIdle p (w.sfd + byteTicks (w.bytes.length + 4)) s1
      match w.frame.ltx with
      | none => s2
      | some d =>
        let (x, y, s4) := stampWords (stampLane s2 p w.bytes) w.sfd (s.fld (Reg.MAC_PHY_DLY p) 16 16) s2
        if ltxHeld s4 d then sramWords (descAddr s4 1 d + 8) [x, y] { s4 with ksw := { s4.ksw with stamped := d :: s4.ksw.stamped } }
        else
          let (keep, s5) := if s4.ksw.stamped.contains d then s4.freeIn 0 1 else (0, s4)
          ltxEnd d 0 (if keep = 0 then some (x, y) else none) s5
    else s

/-! ## The local receive ring (R453, R454) -/

/-- A frame goes to the local receive ring. -/
def toRing (p : Nat) (b : List Byte) (sfd : Nat) (s : State) : State :=
  let n := (s.rd Reg.KSW_LRX_LEN).toNat
  let lost (t : State) : State := (t.satInc Reg.KSW_LRX_LOST 0).cause Reg.KSW 3
  let d := if s.ksw.lrx < n then s.ksw.lrx else 0
  let a := descAddr s 0 d
  if n = 0 ∨ !(isSram s.variant (a + 15)) then lost s
  else
    let (w0, s1) := readWord 8 a .none s
    let (w1, s2) := readWord 8 (a + 4) .none s1
    match w0, w1 with
    | some buf, some ctl =>
      if bit ctl 31 then
        let body := dropRtag b
        let s3 := sramWords (buf.toNat / 4 * 4) (wordsOf body ((body.length + 3) / 4)) s2
        let (x, y, s4) := stampWords (stampLane s p b) sfd (-(s.fld (Reg.MAC_PHY_DLY p) 0 16 : Int)) s3
        let s5 := sramWords (a + 4) [wordOf (0x4000000 * p + body.length % 0x800), x, y] s4
        ({ s5 with ksw := { s5.ksw with lrx := (d + 1) % n } }).cause Reg.KSW 2
      else lost s2
    | _, _ => lost s2

/-! ## Elimination (R439) -/

/-- A copy is a duplicate, or more than 32 behind the newest. -/
def isDuplicate (h : StreamHist) (n : Nat) : Bool :=
  let d := signed 16 ((n + 0x10000 - h.newest) % 0x10000)
  decide (d ≤ 0) && (decide (32 < -d) || decide (h.seen / 2 ^ (-d).toNat % 2 = 1))

/-- The history with a number recorded. -/
def recordNumber (h : StreamHist) (n now : Nat) : StreamHist :=
  let d := signed 16 ((n + 0x10000 - h.newest) % 0x10000)
  if 32 < d then { newest := n, seen := 1, last := now }
  else if 0 < d then { newest := n, seen := (h.seen * 2 ^ d.toNat + 1) % 2 ^ 33, last := now }
  else { h with seen := h.seen ||| 2 ^ (-d).toNat, last := now }

/-- The stream and the number that elimination looks at: ELIM and an R-TAG. -/
def elimOf (s : State) (b : List Byte) : Option (Nat × Nat) :=
  match streamOf s b, (parseFrame b).rtag with
  | some k, some n => if s.flag (Reg.KSW_STR_CFG k) 29 then some (k, n) else none
  | _, _ => none

/-- The history of a stream. -/
def histOf (s : State) (k : Nat) : Option StreamHist := (s.ksw.hist.find? fun x => x.1 == k).map Prod.snd
def State.setHist (s : State) (k : Nat) (h : Option StreamHist) : State :=
  let rest := s.ksw.hist.filter fun x => x.1 != k
  { s with ksw := { s.ksw with hist := match h with | none => rest | some x => tabInsert (k, x) rest } }

/-- A copy is eliminated: counted. -/
def eliminated (k : Nat) (s : State) : State :=
  ((s.satInc Reg.KSW_ELIM_CNT 0).satInc (Reg.KSW_STR_STAT k) 0).cause Reg.KSW 5

/-- A frame of a stream arrives: the time to RESET_MS starts anew. -/
def streamSeen (st : Option Nat) (s : State) : State :=
  match st with
  | none => s
  | some k => match histOf s k with
    | some h => s.setHist k (some { h with last := s.now })
    | none => s

/-- The number of a copy enters the history. -/
def elimRecord (e : Option (Nat × Nat)) (s : State) : State :=
  match e with
  | none => s
  | some (k, n) => s.setHist k (some (match histOf s k with
    | some h => recordNumber h n s.now
    | none => { newest := n, seen := 1, last := s.now }))

/-- The copy is to be eliminated. -/
def elimHit (e : Option (Nat × Nat)) (s : State) : Option Nat :=
  match e with
  | some (k, n) => (match histOf s k with | some h => if isDuplicate h n then some k else none | none => none)
  | none => none

/-- STREAM_HISTORY_RESET (R439). -/
def historyReset (k : Nat) (s : State) : State :=
  match histOf s k with
  | some h => if busUp s ∧ h.last + s.fld (Reg.KSW_STR_CFG k) 0 12 * 200000 ≤ s.now then s.setHist k none else s
  | none => s

/-! ## Checks of a Knatis frame (R445, R446) -/

/-- The body matches its type (R448 to R451). -/
def bodyOk (s : State) (p type : Nat) (reply : Bool) (b : List Byte) : Bool :=
  let n := b.length
  match type with
  | 1 => if reply then decide (n = 24) && decide (beAt b 2 2 = 0) && decide (beAt b 1 1 < 4)
         else decide (n = 4) && decide (beAt b 1 1 < 2) && decide (beAt b 2 2 = 0) && decide (p = 0) && s.flag Reg.KSW_KNT_CFG 31
  | 2 => decide (1 ≤ beAt b 0 1 ∧ beAt b 0 1 ≤ 91) && decide (beAt b 1 1 = 0) && decide (n = 2 + 16 * beAt b 0 1)
  | 3 => decide (n = 12) && decide (beAt b 0 1 = 1 ∨ beAt b 0 1 = 2) && decide (beAt b 2 2 = 0)
  | 4 => decide (n = 4 + 24 * beAt b 1 1) && decide (beAt b 1 1 ≤ 8) && decide (beAt b 2 2 = 0) && decide (beAt b 0 1 % 4 = 0)
         && (List.range (beAt b 1 1)).all fun k => decide (beAt b (4 + 24 * k) 1 < 16) && decide (beAt b (5 + 24 * k) 3 = 0)
  | _ => true

/-- Check 1: version, type, reserved bits, LEN and body. -/
def knatisWellFormed (s : State) (p : Nat) (pl : List Byte) : Bool :=
  let f := beAt pl 1 1
  let len := beAt pl 6 2
  let auth := decide (128 ≤ f)
  let src := beAt pl 3 1
  decide (24 ≤ pl.length) && decide (beAt pl 0 1 / 16 = 1) && decide (1 ≤ beAt pl 0 1 % 16 ∧ beAt pl 0 1 % 16 ≤ 5) && decide (f % 16 = 0)
    && (decide (src < 128) || decide (src % 128 < 4)) && decide (beAt pl 8 1 < 16) && decide (beAt pl 9 3 = 0) && decide (len ≤ 1468)
    && decide (24 + len + (if auth then 8 else 0) ≤ pl.length)
    && bodyOk s p (beAt pl 0 1 % 16) (f / 16 % 2 = 1) ((pl.drop 20).take len)

/-- An ENUM request. -/
def enumRequest (pl : List Byte) : Bool := decide (beAt pl 0 1 % 16 = 1) && decide (beAt pl 1 1 / 16 % 2 = 0)

/-- Key of the sequence state of a frame's sender and type. -/
def seqKey (pl : List Byte) : Nat := 8 * beAt pl 3 1 + beAt pl 0 1 % 16

/-- Check 7: the number is inside the window (R446). -/
def seqInWindow (s : State) (pl : List Byte) : Bool :=
  match s.ksw.seqs.find? fun x => x.1 == seqKey pl with
  | some x => let d := (beAt pl 4 2 + 0x10000 - x.2) % 0x10000
              decide (1 ≤ d ∧ d ≤ 1024)
  | none => true

/-- Checks 1 to 7 in order: the number of the rejection in the order of R445's table from 0, or none. -/
def knatisChecks (p : Nat) (pl : List Byte) (s : State) : Option Nat × State :=
  let end_ := 20 + beAt pl 6 2
  let auth := decide (128 ≤ beAt pl 1 1)
  let pos := s.rd Reg.KSW_POS
  if !(knatisWellFormed s p pl) then (some 0, s)
  else if crc32Bytes (pl.take end_) ≠ beAt pl end_ 4 then (some 1, s)
  else if authNeeded s (beAt pl 0 1 % 16) && !auth then (some 2, s)
  else
    let late (t : State) : Option Nat × State :=
      if beAt pl 3 1 = bits pos 0 7 ∧ !(enumRequest pl && !(bit pos 31)) then (some 5, t)
      else if seqInWindow t pl then (none, t) else (some 6, t)
    if auth then
      match knatisKey (beAt pl 8 1) s with
      | (none, t) => (some 3, t)
      | (some k, t) => if knatisTag k (pl.take (end_ + 4)) = (pl.drop (end_ + 4)).take 8 then late t else (some 4, t)
    else late s

/-- A rejection is counted and latched; those of authentication enter the count of line 88 (R445, R447). -/
def knatisReject (k : Nat) (s : State) : State :=
  let s1 := (s.satInc Reg.KSW_KNT_REJ 0).cause Reg.KSW (16 + k)
  if 2 ≤ k ∧ k ≤ 4 then { s1 with ksw := { s1.ksw with rejects := s.now :: s1.ksw.rejects } } else s1

/-- The last accepted number of a sender and type (R446). -/
def seqAccept (pl : List Byte) (s : State) : State :=
  { s with ksw := { s.ksw with seqs := tabInsert (seqKey pl, beAt pl 4 2) (s.ksw.seqs.filter fun x => x.1 != seqKey pl) } }

/-- Check 8: the frame is addressed to this device. -/
def addressed (s : State) (pl : List Byte) : Bool :=
  let f := beAt pl 1 1
  let dst := beAt pl 2 1
  enumRequest pl || decide (f / 32 % 2 = 1)
    || (if f / 64 % 2 = 1 then s.flag Reg.KSW_GROUPS (dst % 16) else s.flag Reg.KSW_POS 31 && decide (dst % 128 = s.fld Reg.KSW_POS 0 7))

/-! ## What accepted frames do (R448 to R451, R453) -/

/-- An accepted ENUM request (R448). -/
def enumAct (pl : List Byte) (s : State) : State :=
  let np := beAt pl 20 1
  let force := beAt pl 21 1 % 2
  if 127 < np then s.cause Reg.KSW 24
  else
    let pos := s.rd Reg.KSW_POS
    let take := !(bit pos 31) || decide (force = 1)
    let s1 := if take then (s.wr Reg.KSW_POS (wordOf (0x80000000 + np))).crcTouch 0xF8 else s
    let own := if take then np else bits pos 0 7
    let last := !(decide (1 < portsOf s.variant) && linkUp s 1)
    let s2 := s1.cause Reg.KSW 23
    let at_ := s.now + 400
    let (n, s3) := ownSeq 1 s2
    let s4 := if last then s3
      else sendKnatis 1 0x20 0 n [BitVec.ofNat 8 (own + 1), BitVec.ofNat 8 force, 0, 0] (some 2) at_ s3
    let idWords := (List.range 4).flatMap fun k => wordBytes (otpWord s (0x110 + 4 * k))
    let fl := (if own ≠ np then 1 else 0) + (if last then 2 else 0)
    sendKnatis 1 0x10 (beAt pl 3 1) n ([BitVec.ofNat 8 own, BitVec.ofNat 8 fl, 0, 0] ++ idWords ++ beBytes 4 (s.rd (Reg.SYS_CAP 0)).toNat)
      (some 1) at_ s4

/-- An accepted SECT frame: the entries of the own position go to the scheduler (R449). -/
def sectAct (body : List Byte) (s : State) : State :=
  if s.flag Reg.KSW_POS 31 && s.flag Reg.SCH_CFG 0 then
    let own := s.fld Reg.KSW_POS 0 7
    let mine := (List.range (beAt body 0 1)).filter fun k => decide (beAt body (6 + 16 * k) 4 / 256 % 128 = own)
    let entry (k : Nat) : List Word :=
      let b := 2 + 16 * k
      [wordOf (beAt body b 4), putBits (wordOf (beAt body (b + 4) 4)) 8 7 0, wordOf (beAt body (b + 12) 4), wordOf (beAt body (b + 8) 4)]
    { s with sch := { s.sch with knatis := s.sch.knatis ++ mine.map entry } }
  else s.satInc Reg.KSW_SECT_IGNORED 0

/-- An accepted BEAT (R451, R452). -/
def beatAct (src : Nat) (body : List Byte) (s : State) : State :=
  let s1 := (List.range 4).foldl (fun t k =>
    if t.flag (Reg.KSW_BEAT_SRC k) 31 && decide (t.fld (Reg.KSW_BEAT_SRC k) 0 8 = src) then
      { t with ksw := { t.ksw with beat := tabPut t.ksw.beat k (t.now + 1) 0 } }
    else t) s
  (List.range (beAt body 1 1)).foldl (fun t k =>
    let b := 4 + 24 * k
    (List.range (axesOf t.variant)).foldl (fun u n =>
      if u.flag (Reg.AX_VM_CTRL n) 8 && decide (u.fld (Reg.AX_VM_CTRL n) 0 4 = beAt body b 1 % 16) then
        vmPut n (signed 64 (beAt body (b + 4) 8)) (signed 32 (beAt body (b + 12) 4)) (beAt body (b + 16) 8) u
      else u) t) s1

/-- A frame that passes every check is acted on. -/
def knatisAct (pl : List Byte) (s : State) : State :=
  let body := (pl.drop 20).take (beAt pl 6 2)
  match beAt pl 0 1 % 16 with
  | 1 => if enumRequest pl then enumAct pl s else s
  | 2 => sectAct body s
  | 3 => trigFrame (beAt body 0 1) (beAt body 1 1) (beAt body 4 8) s
  | 4 => beatAct (beAt pl 3 1) body s
  | _ => s

/-- A Knatis frame at the parser: elimination, checks, action, and the local ring (R439, R445, R453). -/
def knatisRx (p : Nat) (b : List Byte) (sfd : Nat) (s : State) : State :=
  let e := elimOf s b
  let pl := b.drop (parseFrame b).pay
  match elimHit e s with
  | some k => eliminated k s
  | none =>
    match knatisChecks p pl s with
    | (some r, t) => knatisReject r t
    | (none, t) =>
      let t1 := elimRecord e (seqAccept pl t)
      if addressed t1 pl then
        let ty := beAt pl 0 1 % 16
        let t2 := knatisAct pl t1
        if ty = 5 ∨ t2.flag Reg.KSW_KNT_CFG (23 + ty) then toRing p b sfd t2 else t2
      else t1

/-! ## Reception and forwarding (R430 to R435, R438) -/

/-- The source address of a frame is learned (R432). With a full table the spec does not say which entry goes: a free choice, which may be
none. -/
def learnAddr (p sa : Nat) (s : State) : State :=
  let put (l : List (Nat × (Nat × Nat))) (t : State) : State := { t with ksw := { t.ksw with dyn := tabInsert (sa, (p, s.now)) l } }
  let rest := s.ksw.dyn.filter fun x => x.1 != sa
  if rest.length < 256 then put rest s
  else
    let (k, t) := s.freeIn 0 256
    if k = 256 then t else put (rest.eraseIdx k.toNat) t

/-- KSW_AGE_OUT (R432). -/
def ageOut (sa : Nat) (s : State) : State :=
  if busUp s then
    { s with ksw := { s.ksw with
      dyn := s.ksw.dyn.filter fun x => !(decide (x.1 = sa) && decide (x.2.2 + s.fld Reg.KSW_AGE_TIME 0 16 * 200000000 ≤ s.now)) } }
  else s

/-- A frame goes cut-through to a port: the conditions of R433 as they stood 12 bytes after the ingress SFD; no frame waited then that still
waits, and none has started since. A frozen MAC starts no frame (R64). -/
def cutOk (s : State) (e sfd : Nat) (cls : Option Nat) : Bool :=
  match cls with
  | none => false
  | some c =>
    let at_ := sfd + byteTicks 12
    s.flag Reg.KSW_CFG 31 && decide (e < portsOf s.variant) && macOn s e && portsRun s && linkUpAt s e at_ && !(frozen s (0xF9 + e))
      && decide (wireOf s e = none) && decide (tabGet s.ksw.idleFrom e 0 ≤ at_)
      && (List.range 8).all (fun k => (egress s e k).all fun f => decide (at_ < f.since))
      && gateOpenFor s e c (timesBefore s (((s.now : Int) - at_) * 4)).2.1 123360

/-- A frame of the switch: learned, classified, forwarded cut-through or stored, delivered locally (R432 to R435, R438). -/
def switchFrame (p : Nat) (b : List Byte) (fcs : Bool) (s : State) : State :=
  let i := parseFrame b
  let sfd := s.now - byteTicks (b.length + 4)
  if i.sa = ownMac s then s
  else
    let st := streamOf s b
    let s1 := if fcs then learnAddr p i.sa (streamSeen st s) else s
    if ringEnd s p && st.isNone then s1
    else match vlanMask s p i with
      | none => if fcs then (s1.satInc Reg.KSW_DROP_VLAN 0).cause Reg.KSW 1 else s1
      | some vm =>
        let (c, s2) := frameClass s1 p i
        let held := i.knatis && enumRequest (b.drop i.pay)
        let mask := (if isPdelay s b then 4 else portMask s i.da) &&& vm
        let ext := ([0, 1] : List Nat).filter fun e =>
          decide (e ≠ p) && decide (mask / 2 ^ e % 2 = 1) && (!(ringEnd s e) || st.isSome) && !held
        let cut := ext.filter fun e => cutOk s e sfd (staticClass s i.da)
        let store := ext.filter fun e => portUp s e && !(cut.contains e)
        let f (e : Nat) : OutFrame := { len := b.length, cls := c, ingress := some (p, sfd), strip := stripsTag s e i }
        let s3 := cut.foldl (fun t e => startWire e (sfd + 328) (!fcs) b (f e) (if fcs then t else t.satInc (Reg.MAC_TX_STOMPED e) 0)) s2
        if !fcs then s3
        else
          let slot := freeBuf s3
          let s4 := if store = [] then s3
            else match slot with
              | none => dropNoBuf s3
              | some k => store.foldl (fun t e => enqueue e { f e with slot := some k } t) (fillBuf k b s3)
          if mask / 4 % 2 = 0 ∨ (store ≠ [] ∧ slot = none) then s4
          else if i.knatis then knatisRx p b sfd s4
          else
            let e := elimOf s4 b
            match elimHit e s4 with
            | some k => eliminated k s4
            | none => toRing p b sfd (elimRecord e s4)

/-- KSW_FRAME_RX: a frame ends at an external port now; `b` are its bytes from the DA to the last one before the FCS. A frame longer than 1522
bytes is oversize whatever its FCS (R430). -/
def frameRx (p : Nat) (b : List Byte) (fcs : Bool) (s : State) : State :=
  if p < portsOf s.variant ∧ portsRun s ∧ (macOn s p ∨ macStopping s p) then
    let n := b.length + 4
    if !fcs then
      let s1 := (s.satInc (Reg.MAC_RX_FCS_ERR p) 0).cause (Reg.MAC p) 3
      if 1522 < n then s1.satInc (Reg.MAC_RX_OVERSIZE p) 0
      else if kswOn s ∧ 64 ≤ n then switchFrame p b false s1 else s1
    else if 1522 < n then s.satInc (Reg.MAC_RX_OVERSIZE p) 0
    else if n < 64 then s
    else
      let s1 := s.wrapInc (Reg.MAC_RX_FRAMES p)
      if kswOn s then switchFrame p b true s1 else s1
  else s

/-! ## The local transmit ring (R454) -/

/-- The bytes of a local buffer; none where a word of it is unreadable. -/
def bufferBytes (a n : Nat) (s : State) : Option (List Byte) × State :=
  let r := (List.range ((n + 3) / 4)).foldl
    (fun (acc : List Byte × Bool × State) j =>
      if isSram s.variant (a + 4 * j) then
        match readWord 8 (a + 4 * j) .none acc.2.2 with
        | (some w, t) => (acc.1 ++ wordBytes w, acc.2.1, t)
        | (none, t) => (acc.1, false, t)
      else (acc.1, false, acc.2.2)) ([], true, s)
  (if r.2.1 then some (r.1.take n) else none, r.2.2)

/-- SEAL: the Knatis SEQ, CRC-32 and tag; the result of R454 where the frame cannot be sealed. -/
def sealFrame (b : List Byte) (s : State) : (List Byte ⊕ Nat) × State :=
  let i := parseFrame b
  let pl := b.drop i.pay
  let len := beAt pl 6 2
  if !(i.knatis) then (.inl b, s)
  else if pl.length < 24 + len + (if 128 ≤ beAt pl 1 1 then 8 else 0) then (.inr 2, s)
  else
    let (n, s1) := ownSeq (beAt pl 0 1 % 16) s
    match sealKnatis (pl.take 4 ++ beBytes 2 n ++ (pl.drop 6).take (14 + len)) s1 with
    | (some x, s2) => (.inl (b.take i.pay ++ x ++ pl.drop x.length), s2)
    | (none, s2) => (.inr 1, { s2 with ksw := { s2.ksw with own := s.ksw.own } })

/-- One owned transmit descriptor is taken (R454). -/
def ltxTake (d : Nat) (w0 w1 : Word) (s : State) : State :=
  let n := bits w1 0 11
  if n < 14 ∨ 1518 < n then ltxEnd d 2 none s
  else match bufferBytes (w0.toNat / 4 * 4) n s with
    | (none, s1) => ltxEnd d 4 none s1
    | (some b, s1) =>
      match (if bit w1 22 then sealFrame b s1 else (.inl b, s1)) with
      | (.inr r, s2) => ltxEnd d r none s2
      | (.inl f, s2) =>
        let mask := bits w1 24 2
        let (s3, r) := sendLocal (f ++ List.replicate (60 - f.length) 0) (if mask = 0 then none else some mask) (some d) 0 s2
        if r = 0 then s3 else ltxEnd d r none s3

/-- Owned descriptors in ring order, at most `n`. -/
def ltxRun : Nat → State → State
  | 0, s => s
  | n + 1, s =>
    let len := (s.rd Reg.KSW_LTX_LEN).toNat
    let d := if s.ksw.ltx < len then s.ksw.ltx else 0
    let a := descAddr s 1 d
    if len = 0 ∨ !(isSram s.variant (a + 15)) ∨ ltxHeld s d then s
    else
      let (w0, s1) := readWord 8 a .none s
      let (w1, s2) := readWord 8 (a + 4) .none s1
      match w0, w1 with
      | some x, some y =>
        if bit y 31 then ltxRun n (ltxTake d x y { s2 with ksw := { s2.ksw with ltx := (d + 1) % len } }) else s2
      | _, _ => s2

/-- A write to LTX_KICK (R454). A frozen switch sends nothing (R64). -/
def ltxKick (m : Master) (s : State) : State :=
  let s1 := s.consumeKey 0xF8 m
  if kswOn s1 ∧ portsRun s1 ∧ frozen s1 0xF8 = false then ltxRun (s1.rd Reg.KSW_LTX_LEN).toNat s1 else s1

/-! ## BEAT and authentication (R447, R451, R452) -/

/-- BEAT_TX: the own BEAT of a period. -/
def beatTx (s : State) : State :=
  let c := s.rd Reg.KSW_BEAT_CFG
  if kswOn s ∧ portsRun s ∧ bit c 31 ∧ s.ksw.beatFrom + bits c 0 16 * 200 ≤ s.now then
    let st := coxState s * 32 + (if timeOk s then 16 else 0) + (if laneValid s 0 then 8 else 0) + (if laneValid s 1 then 4 else 0)
    let (n, s1) := ownSeq 4 { s with ksw := { s.ksw with beatFrom := s.now } }
    sendKnatis 4 0x20 0 n [BitVec.ofNat 8 st, 0, 0, 0] (some 3) 0 s1
  else s

/-- BEAT_AGE_CHECK: every 1 µs, one check of line 87; a source that becomes overdue latches BEAT_LATE. -/
def beatAgeCheck (s : State) : State :=
  if busUp s then
    let late := (List.range 4).filter fun k => s.flag (Reg.KSW_BEAT_SRC k) 31 && decide (s.fld Reg.KSW_BEAT_TIMEOUT 0 16 ≤ beatAge s k)
    let fresh := late.any fun k => !(s.ksw.beatOver.contains k)
    lineCheck 87 (decide (late ≠ [])) (({ s with ksw := { s.ksw with beatOver := late } }).causeIf fresh Reg.KSW 25)
  else s

/-- KNT_AUTH_UPDATE: every 1 ms, one check of line 88 (R447). -/
def authUpdate (s : State) : State :=
  if busUp s then
    let recent := s.ksw.rejects.filter fun t => decide (s.now < t + 200000000)
    let on := decide (s.fld Reg.KSW_KNT_CFG 0 8 ≤ recent.length)
    lineCheck 88 on { s with ksw := { s.ksw with rejects := recent, auth := on } }
  else s

/-! ## MDIO (R455) -/

/-- MDIO_POLL: bit 2 of the PHY's register 1. -/
def mdioPoll (p : Nat) (up : Bool) (s : State) : State :=
  if p < portsOf s.variant ∧ portsRun s then
    let s1 := { s with ksw := { s.ksw with phy := (if up then [p] else []) ++ s.ksw.phy.filter fun x => x != p } }
    let s2 := if macOn s p && s.flag (Reg.MAC_CFG p) 8 && decide (s.flag (Reg.MAC_LINK_STAT p) 0 ≠ up) then
        (s1.setFlag (Reg.MAC_LINK_STAT p) 0 up).cause (Reg.MAC p) (if up then 0 else 1)
      else s1
    if linkUp s2 p = linkUp s p then s2 else { s2 with ksw := { s2.ksw with linkAt := tabPut s2.ksw.linkAt p s.now 0 } }
  else s

/-- A write to MDIO_CMD. -/
def mdioWrite (m : Master) (p : Nat) (v : Word) (s : State) : State :=
  let a := Reg.MAC_MDIO_CMD p
  let s1 := s.consumeKey (0xF9 + p) m
  if s1.flag a 31 then s1.blockError a 0x01 m
  else
    let s2 := s1.wr a (v &&& 0x87FFFFFF)
    if bit v 31 then { s2 with ksw := { s2.ksw with mdio := tabInsert (p, v) (s2.ksw.mdio.filter fun x => x.1 != p) } } else s2

/-- MDIO_DONE: the operation in progress ends; a read delivers the PHY's data. -/
def mdioDone (p data : Nat) (s : State) : State :=
  match s.ksw.mdio.find? fun x => x.1 == p with
  | none => s
  | some x =>
    if portsRun s then
      let s1 := { s with ksw := { s.ksw with mdio := s.ksw.mdio.filter fun y => y.1 != p } }
      let s2 := if bit x.2 26 then s1 else s1.wr (Reg.MAC_MDIO_DATA p) (wordOf (data % 0x10000))
      (s2.setFlag (Reg.MAC_MDIO_CMD p) 31 false).cause (Reg.MAC p) 2
    else s

/-! ## Enable and disable (R446, R455) -/

/-- KSW.CTRL.EN is set: every sequence state is empty (R446). -/
def kswEnable (s : State) : State := { s with ksw := { s.ksw with seqs := [], lrx := 0, ltx := 0, beatFrom := s.now } }

/-- KSW.CTRL.EN is cleared: queued frames are discarded and counted; their descriptors end with DISCARDED (R454, R455). -/
def kswDisable (s : State) : State :=
  let fs := s.ksw.queues.flatMap Prod.snd
  let s1 := ({ s with ksw := { s.ksw with queues := [] } }).satAdd Reg.KSW_DISCARD 0 fs.length
  fs.foldl (fun t f => match f.ltx with | some d => if ltxHeld t d then t else ltxEnd d 4 none t | none => t) s1

/-- The frame now in transfer ends as an aborted frame on the wire (R62, CTRL.ABORT). -/
def macAbort (p : Nat) (s : State) : State :=
  match wireOf s p with
  | none => s
  | some w =>
    let s1 := portIdle p s.now (s.setWire p none)
    match w.frame.ltx with
    | some d => if ltxHeld s1 d then s1 else ltxEnd d 4 none s1
    | none => s1

/-! ## Register accesses -/

/-- The value of a KSW register is legal. -/
def kswLegal (off : Nat) (w : Word) : Bool :=
  match off with
  | 0x040 => decide (bits w 8 2 ≠ 3)
  | 0x050 => decide (bits w 0 11 = 0)
  | 0x068 | 0x070 => decide (w.toNat ≤ 256)
  | 0x610 => decide (100 ≤ bits w 0 16)
  | _ => true

/-- A write to GCL_CTRL: a SWAP waits for the next start of a cycle (R437). -/
def gclCtrlWrite (d : RegDef) (p a : Nat) (m : Master) (v : Word) (s : State) : State :=
  regWrite d a m v
    (fun v s =>
      let w := storeValue d (s.rd a) v
      let it := implementTime s
      let e := entryAt (gclLen s p) (gclOff s p it) (operList s p)
      let s1 := s.wr a (putBit w 30 (bit w 30 || s.flag a 30))
      if (bit w 30 && !(s.flag a 30)) || (bit w 31 && !(s.flag a 31)) then
        { s1 with ksw := { s1.ksw with gate := tabInsert (p, (gclCyc s p it, e)) (s1.ksw.gate.filter fun x => x.1 != p) } }
      else s1) s

/-- A write to BEAT_SRCk: an age starts at the enable (R452). -/
def beatSrcWrite (d : RegDef) (k a : Nat) (m : Master) (v : Word) (s : State) : State :=
  regWrite d a m v
    (fun v s =>
      let w := storeValue d (s.rd a) v
      let s1 := s.wr a w
      if bit w 31 = s.flag a 31 then s1
      else { s1 with ksw := { s1.ksw with beat := tabPut s1.ksw.beat k (if bit w 31 then s.now + 1 else 0) 0 } }) s

/-- A write to a register of the KSW page from offset 0x040 upward. -/
def kswWrite (d : RegDef) (k a : Nat) (m : Master) (v : Word) (s : State) : State :=
  if featureAbsent s.variant .ksw (a % 0x1000) then genericWrite .ksw d a m v s else
  match d.off with
  | 0x040 | 0x050 | 0x054 | 0x064 | 0x068 | 0x06C | 0x070 =>
    regWrite d a m v
      (fun v s =>
        let w := storeValue d (s.rd a) v
        if kswOn s then s.blockError a 0x01 m else if kswLegal d.off w then s.wr a w else s.blockError a 0x02 m) s
  | 0x074 => ltxKick m s
  | 0x0C0 => gclCtrlWrite d k a m v s
  | 0x60C =>
    let s1 := s.consumeKey 0xF8 m
    if bit v 0 then { s1 with ksw := { s1.ksw with seqs := [] } } else s1
  | 0x610 =>
    regWrite d a m v
      (fun v s =>
        let w := storeValue d (s.rd a) v
        if !(kswLegal 0x610 w) then s.blockError a 0x02 m
        else
          let s1 := s.wr a w
          if bit w 31 && !(s.flag a 31) then { s1 with ksw := { s1.ksw with beatFrom := s.now } } else s1) s
  | 0x618 => beatSrcWrite d k a m v s
  | _ => genericWrite .ksw d a m v s

/-- A read of a KSW register whose value is not stored. -/
def kswRead (d : RegDef) (k _ : Nat) (_ : Master) (s : State) : Option (Word × State) :=
  match d.off with
  | 0x628 => some (if s.flag (Reg.KSW_BEAT_SRC k) 31 then wordOf (min 0xFFFF (beatAge s k)) else 0, s)
  | _ => none

/-- A write to a register of a MAC page from offset 0x040 upward. -/
def macWrite (d : RegDef) (_ a : Nat) (m : Master) (v : Word) (s : State) : State :=
  let p := a / 0x1000 % 0x10 - 9
  match d.off with
  | 0x050 => mdioWrite m p v s
  | _ => genericWrite .mac d a m v s

/-! ## The commands -/

/-- KSW_FRAME_RX (R432): neither a frozen switch nor the frozen port takes a frame (R64). -/
def execKswFrameRx (port : Nat) (frame : List Byte) (fcs : Bool) (s : State) : Answer := .next (live 0xF8 (live (0xF9 + port) (frameRx port frame fcs)) s)
/-- KSW_EGRESS_START (R436). -/
def execKswEgressStart (port : Nat) (read : EgressRead) (s : State) : Answer := .next (live 0xF8 (live (0xF9 + port) (egressStart port read)) s)
/-- KSW_EGRESS_DONE (R454). -/
def execKswEgressDone (port : Nat) (s : State) : Answer := .next (live 0xF8 (live (0xF9 + port) (egressDone port)) s)
/-- KSW_AGE_OUT (R432). -/
def execKswAgeOut (sa : Nat) (s : State) : Answer := .next (live 0xF8 (ageOut sa) s)
/-- GCL_ENTRY_CHANGE (R437). -/
def execGclEntryChange (port : Nat) (s : State) : Answer := .next (live 0xF8 (gclChange port) s)
/-- STREAM_HISTORY_RESET (R439). -/
def execStreamHistoryReset (stream : Nat) (s : State) : Answer := .next (live 0xF8 (historyReset stream) s)
/-- BEAT_TX (R451). -/
def execBeatTx (s : State) : Answer := .next (live 0xF8 beatTx s)
/-- BEAT_AGE_CHECK (R452). -/
def execBeatAgeCheck (s : State) : Answer := .next (live 0xF8 beatAgeCheck s)
/-- KNT_AUTH_UPDATE (R447). -/
def execKntAuthUpdate (s : State) : Answer := .next (live 0xF8 authUpdate s)
/-- SEQ_RESET (R446). -/
def execSeqReset (m : Master) (s : State) : Answer := .next (regRow m Reg.KSW_KNT_CMD (kswWrite (defOf .ksw 0x60C) 0 Reg.KSW_KNT_CMD m 1) s)
/-- POS_WRITE (R448). -/
def execPosWrite (m : Master) (v : Word) (s : State) : Answer :=
  .next (regRow m Reg.KSW_POS (kswWrite (defOf .ksw 0x600) 0 Reg.KSW_POS m v) s)
/-- LTX_KICK (R454). -/
def execLtxKick (m : Master) (s : State) : Answer := .next (regRow m Reg.KSW_LTX_KICK (ltxKick m) s)
/-- MDIO_POLL (R455). -/
def execMdioPoll (port : Nat) (up : Bool) (s : State) : Answer := .next (live (0xF9 + port) (mdioPoll port up) s)
/-- MDIO_CMD (R455). -/
def execMdioCmd (m : Master) (port : Nat) (v : Word) (s : State) : Answer :=
  .next (if port < 2 then regRow m (Reg.MAC_MDIO_CMD port) (mdioWrite m port v) s else s)
/-- MDIO_DONE (R455). -/
def execMdioDone (port data : Nat) (s : State) : Answer := .next (live (0xF9 + port) (mdioDone port data) s)
end Sys2Proof.Machine
end

