-- ==== Sys2Proof/Machine/Aon.lean ====
section
/-! DEFINITION. The always-on domain (spec/23_always_on.md): supply, RTC, calibration, alarms, the WAKE pin, the voltage ladder and the
reserve gauge. -/

namespace Sys2Proof.Machine

/-- VIN is below its undervoltage threshold (R81). -/
def vinOut (s : State) : Bool := s.power.under.contains .vin

/-! ## Supply (R472, R473) -/

/-- The domain runs from VBAT: AON_STAT.ON_VBAT and STAT.STATE. -/
def onVbat (s : State) : Bool := s.flag Reg.AON_AON_STAT 31
def setOnVbat (b : Bool) (s : State) : State := (s.setFlag Reg.AON_AON_STAT 31 b).setFld (Reg.AON + 0x00C) 4 4 (if b then 1 else 0)

/-- An event of the AON domain: none while its power-on reset holds it, from AON_POR until VIN is back (R473; log entry 78). -/
def aonLive (f : State → State) (s : State) : State := if s.power.aonLost then s else f s

/-- AON_SWITCH_TO_VBAT and AON_RETURN_TO_VIN (R472). -/
def switchToVbat (s : State) : State := if vinOut s then setOnVbat true s else s
def returnToVin (s : State) : State := if vinOut s then s else setOnVbat false s

/-- AON_POR: the domain's own reset, which only a loss of both supplies can assert (R473). It holds the domain until VIN is back. -/
def aonPor (s : State) : State :=
  if vinOut s then
    let s1 := { s with regs := s.regs.filter fun p => !(isRegAddr p.1 && decide (pageOf p.1 = 0x24)) }
    { s1 with
      aon := { lostToLatch := true }
      power := { s1.power with aonLost := true, wakeHeld := 0, pendRtc := false, pendPin := false, wakeFault := false } }
  else s

/-! ## The RTC (R474 to R478) -/

/-- One second and the wrap of the 40-bit count, in RTC units. -/
def rtcSecond : Nat := 32768000000000
def rtcSpan : Nat := rtcSecond * 2 ^ 40

/-- Seconds and subseconds. -/
def rtcSeconds (s : State) : Nat := s.aon.rtc / rtcSecond
def rtcSubsec (s : State) : Nat := s.aon.rtc % rtcSecond / 1000000000

/-- One oscillator period passes (R474); TICK of each second boundary (R477); a measurement counts it (R475). -/
def rtcPeriod (s : State) : State :=
  let r := ((s.aon.rtc : Int) + 1000000000 + s.sfld Reg.AON_RTC_TRIM 0 32).toNat % rtcSpan
  let s1 := { s with aon := { s.aon with rtc := r, meas := min 262144 (s.aon.meas + 1) } }
  if r / rtcSecond ≠ rtcSeconds s ∧ s.fld Reg.PWR_STATE 0 3 ≤ 3 then s1.wr64 (Reg.AON_SEC_TICK 0) s.now else s1

/-- Time passes for the RTC oscillator, in fs: a period is 1/32 768 s of it. Where XTAL does not run at full drive, a measurement in progress is
discarded (R475). -/
def rtcAdvance (fs : Nat) (s : State) : State :=
  let ph := s.aon.phase + fs
  let s1 := { s with aon := { s.aon with phase := ph % 30517578125 } }
  let s2 := if 30517578125 ≤ ph then rtcPeriod s1 else s1
  if busUp s then s2 else { s2 with aon := { s2.aon with meas := 0 } }

/-- XTAL32_FAIL: the domain goes on from RC (R476). -/
def xtal32Fail (s : State) : State :=
  if s.aon.onXtal then ({ s with aon := { s.aon with onXtal := false, meas := 0 } }.setFlag Reg.AON_AON_STAT 28 false).cause Reg.AON 2 else s

/-- RTC_CAL_DONE: a measurement is complete, with N XTAL periods in its 262 144 RTC periods; the next one begins (R475). -/
def rtcCalDone (n : Nat) (s : State) : State :=
  if busUp s ∧ s.aon.meas = 262144 then
    let s1 := ({ s with aon := { s.aon with meas := 0 } }.wr Reg.AON_RC_MEAS (wordOf n)).cause Reg.AON 3
    if s.flag Reg.AON_RTC_CFG 31 then (s1.wr Reg.AON_RTC_TRIM (wordOfInt (5 * ((n : Int) - 200000000)))).crcTouch 0x24 else s1
  else s

/-! ## Alarms and the WAKE pin (R90, R91, R479, R480) -/

/-- A wake source of the deep states acts: HOLD wakes, MOORED wakes through a reset, and BEACHED records it. -/
def deepWake (src bit_ : Nat) (pend : State → State) (s : State) : State :=
  if s.power.phase = .steady ∧ bit s.power.wakeHeld bit_ then
    match s.fld Reg.PWR_STATE 0 3 with
    | 3 => s.startWake src 0
    | 4 => wakeReset 0x00000040 src s
    | 5 => pend s
    | _ => s
  else s

/-- Seconds of an alarm. -/
def alarmAt (s : State) (k : Nat) : Nat := s.fld (Reg.AON_ALM_HI k) 0 8 * 2 ^ 32 + (s.rd (Reg.AON_ALM_LO k)).toNat

/-- An enabled alarm whose seconds are reached fires (R479). -/
def alarmCheck (k : Nat) (s : State) : State :=
  let cfg := s.rd (Reg.AON_ALM_CFG k)
  if bit cfg 31 ∧ alarmAt s k ≤ rtcSeconds s then
    let p := bits cfg 0 24
    let s1 := if p = 0 then s.setFlag (Reg.AON_ALM_CFG k) 31 false
      else
        let t := (alarmAt s k + p) % 2 ^ 40
        (s.wr (Reg.AON_ALM_LO k) (wordOf t)).wr (Reg.AON_ALM_HI k) (hiWord t)
    deepWake 3 0 (fun t => { t with power := { t.power with pendRtc := true } }) ((s1.crcTouch 0x24).cause Reg.AON k)
  else s

/-- WAKE_PIN_EDGE: an edge that the filter has accepted (R480); it abandons an entry to HOLD or MOORED that WAKE_CFG lets it wake from
(R88). -/
def wakePinEdge (rising : Bool) (s : State) : State :=
  if enteringWith s 3 4 1 && decide (s.flag Reg.PWR_WAKE_CFG 2 = rising) then abandonEntry s
  else if s.power.phase = .steady ∧ 3 ≤ s.fld Reg.PWR_STATE 0 3 ∧ bit s.power.wakeHeld 2 = rising ∧ bit s.power.wakeHeld 1 then
    let named (t : State) : State := if t.fld Reg.PWR_STATE 0 3 = 5 then t else { t with aon := { t.aon with namePin := true } }
    deepWake 4 1 (fun t => { t with power := { t.power with pendPin := true } }) (named s)
  else s

/-! ## Ladder and gauge (R482 to R484) -/

/-- Remaining charge in nAh (R483). -/
def gaugeLeft (s : State) : Nat := (s.rd Reg.AON_GAUGE_CAP).toNat - (s.rd Reg.AON_GAUGE_USED).toNat

/-- GAUGE_STATE from the last ladder code (R484). INTEGRITY is cleared where VBAT enters LOW, and by nothing else (R478; log entry 65). -/
def gaugeEval (s : State) : State :=
  let cap := (s.rd Reg.AON_GAUGE_CAP).toNat
  let left := gaugeLeft s
  let low := decide (s.fld Reg.AON_AON_STAT 0 2 ≠ 0)
  let impl := s.fld Reg.AON_GAUGE_CFG 8 8
  let dest (n : Nat) (t : State) : State := t.setFld Reg.AON_AON_STAT 16 3 n
  let fresh (n : Nat) : Bool := decide (s.fld Reg.AON_AON_STAT 16 3 ≠ n)
  if cap = 0 then dest 0 s
  else if low then
    if impl * cap < left * 100 then (dest 4 s).causeIf (fresh 4) Reg.AON 9 else dest 2 s
  else if left = 0 then (dest 3 s).causeIf (fresh 3) Reg.AON 8
  else if left * 100 < s.fld Reg.AON_GAUGE_CFG 0 8 * cap ∧ s.aon.warned = false then
    ({ (dest 1 s) with aon := { s.aon with warned := true } }).cause Reg.AON 11
  else dest 1 s

/-- VBAT_MEASURE: the ladder reads VBAT in mV; `drawn` nAh have flowed through the VBAT switch since the last measurement (R482, R483). -/
def vbatMeasure (mv drawn : Nat) (s : State) : State :=
  let used := min 0xFFFFFFFF ((s.rd Reg.AON_GAUGE_USED).toNat + drawn)
  let s1 := if onVbat s then s.wr Reg.AON_GAUGE_USED (wordOf used) else s
  let code := min 36 ((mv - 1800) / 50)
  let th := s.fld Reg.AON_VBAT_CFG 0 6
  let old := s.fld Reg.AON_AON_STAT 0 2
  let st := if mv < 1800 then 2 else if code < th then 1 else if th + 2 ≤ code then 0 else if old = 0 then 0 else 1
  let s2 := (s1.setFld Reg.AON_AON_STAT 8 6 code).setFld Reg.AON_AON_STAT 0 2 st
  let s3 := if old = 0 ∧ st ≠ 0 then (s2.cause Reg.AON 10).setFlag Reg.AON_AON_STAT 29 false else s2
  gaugeEval s3

/-! ## Register accesses -/

/-- An opened write of SET_HI (R477, R479). -/
def rtcSetWrite (m : Master) (v : Word) (s : State) : State :=
  regWrite (defOf .aon 0x060) Reg.AON_SET_HI m v
    (fun v s =>
      let secs := bits v 0 8 * 2 ^ 32 + (s.rd Reg.AON_SET_LO).toNat
      let s1 := { (s.wr Reg.AON_SET_HI (v &&& 0xFF)) with aon := { s.aon with rtc := secs * rtcSecond } }
      alarmCheck 1 (alarmCheck 0 ((s1.setFlag Reg.AON_AON_STAT 29 true).setFlag Reg.AON_AON_STAT 30 false))) s

/-- An opened write of GAUGE_CAP re-seats the gauge (R483). -/
def gaugeCapWrite (m : Master) (v : Word) (s : State) : State :=
  regWrite (defOf .aon 0x090) Reg.AON_GAUGE_CAP m v
    (fun v s => gaugeEval { ((s.wr Reg.AON_GAUGE_CAP v).wr Reg.AON_GAUGE_USED 0) with aon := { s.aon with warned := false } }) s

/-- A write to a register of the AON page from offset 0x040 upward. -/
def aonWrite (d : RegDef) (k a : Nat) (m : Master) (v : Word) (s : State) : State :=
  match d.off with
  | 0x044 =>
    regWrite d a m v
      (fun v s =>
        let w := storeValue d (s.rd a) v
        let x := bit w 4
        let s1 := { (s.wr a w) with aon := { s.aon with onXtal := x, meas := if x = s.aon.onXtal then s.aon.meas else 0 } }
        if x && !s.aon.onXtal then s1.setFlag Reg.AON_AON_STAT 28 true else s1) s
  | 0x048 => regWrite d a m v (fun v s => if s.flag Reg.AON_RTC_CFG 31 then s.blockError a 0x01 m else s.wr a v) s
  | 0x060 => rtcSetWrite m v s
  | 0x078 =>
    regWrite d a m v
      (fun v s =>
        let w := storeValue d (s.rd a) v
        if bit w 31 && !(s.flag a 31) then alarmCheck k (s.wr a w) else s.wr a w) s
  | 0x090 => gaugeCapWrite m v s
  | 0x09C => checkedWrite d a 0x02 m v (fun w => decide (bits w 0 6 ≤ 36)) s
  | _ => genericWrite .aon d a m v s

/-- A read of an AON register whose value is not stored (R477). -/
def aonRead (d : RegDef) (k _ : Nat) (m : Master) (s : State) : Option (Word × State) :=
  let snap := tabGet s.aon.snap (masterCode m) s.aon.rtc
  match d.off, k with
  | 0x050, 0 =>
    let l := (s.aon.snap.filter fun p => p.1 != masterCode m)
    some (wordOf (rtcSeconds s), { s with aon := { s.aon with snap := tabInsert (masterCode m, s.aon.rtc) l } })
  | 0x050, _ => some (wordOf (snap / rtcSecond / 2 ^ 32), s)
  | 0x058, _ => some (wordOf (snap % rtcSecond / 1000000000), s)
  | _, _ => none

/-! ## The commands -/

/-- AON_SWITCH_TO_VBAT (R472). -/
def execAonSwitchToVbat (s : State) : Answer := .next (aonLive switchToVbat s)
/-- AON_RETURN_TO_VIN (R472). -/
def execAonReturnToVin (s : State) : Answer := .next (aonLive returnToVin s)
/-- AON_POR (R473). -/
def execAonPor (s : State) : Answer := .next (aonPor s)
/-- RTC_CAL_DONE (R475). -/
def execRtcCalDone (n : Nat) (s : State) : Answer := .next (rtcCalDone n s)
/-- XTAL32_FAIL (R476). -/
def execXtal32Fail (s : State) : Answer := .next (aonLive xtal32Fail s)
/-- RTC_SET (R477). -/
def execRtcSet (m : Master) (v : Word) (s : State) : Answer := .next (regRow m Reg.AON_SET_HI (rtcSetWrite m v) s)
/-- RTC_ALARM (R479). -/
def execRtcAlarm (k : Nat) (s : State) : Answer := .next (if k < 2 then aonLive (alarmCheck k) s else s)
/-- WAKE_PIN_EDGE (R480). -/
def execWakePinEdge (rising : Bool) (s : State) : Answer := .next (aonLive (wakePinEdge rising) s)
/-- VBAT_MEASURE (R482). -/
def execVbatMeasure (millivolts drawn : Nat) (s : State) : Answer := .next (aonLive (vbatMeasure millivolts drawn) s)
/-- GAUGE_CAP_WRITE (R483). -/
def execGaugeCapWrite (m : Master) (v : Word) (s : State) : Answer := .next (regRow m Reg.AON_GAUGE_CAP (gaugeCapWrite m v) s)

end Sys2Proof.Machine
end

