-- ==== Sys2Proof/Machine/Pad.lean ====
section
/-! DEFINITION. Pad settings and general-purpose I/O (spec/26_package_pins.md R505 to R514). -/

namespace Sys2Proof.Machine

/-! ## Pad settings (R510) -/

/-- The owning unit's page is not IDLE. -/
def padUnitActive (s : State) (p : Nat) : Bool :=
  match padOwner p with
  | some o => s.hasPage o && !(s.flag (pageAddr o + 0x00C) 2)
  | none => false

/-- A write to PADp: the fields that apply take effect; the others leave an error of their own (R510). -/
def padEffect (p a : Nat) (m : Master) (v : Word) (s : State) : State :=
  let old := s.rd a
  let absent := padAbsent s.variant p
  let hasFunc := padHasGpio p && !absent
  let func := if hasFunc then bit v 24 else bit old 24
  let filtOk := padFiltBall p || (decide (padType p = .dio) && func)
  if padType p = .pwr then s
  else if bits v 16 2 = 3 ∨ 16 < bits v 8 5 then s.blockError a 0x04 m
  else if func ≠ bit old 24 ∧ padUnitActive s p then s.blockError a 0x02 m
  else
    let w0 := putBit old 24 func
    let w1 := if padHasPull s.variant p then putBits w0 16 2 (bits v 16 2) else w0
    let w2 := if filtOk then putBits w1 8 5 (bits v 8 5) else w1
    let w3 := if padHasSlew p then putBits w2 0 2 (bits v 0 2) else w2
    let s1 := s.wr a w3
    let s2 := if !hasFunc && !absent && bit v 24 then s1.blockError a 0x01 m else s1
    if (!(padHasPull s.variant p) && decide (bits v 16 2 ≠ 0)) || (!filtOk && decide (bits v 8 5 ≠ 0))
        || (!(padHasSlew p) && decide (bits v 0 2 ≠ 0)) then s2.blockError a 0x03 m
    else s2

/-- A write to a register of the PAD page from offset 0x040 upward. -/
def padPageWrite (d : RegDef) (k a : Nat) (m : Master) (v : Word) (s : State) : State :=
  if d.off = 0x100 then regWrite d a m v (padEffect k a m) s else genericWrite .pad d a m v s

/-! ## General-purpose I/O (R514) -/

/-- The ball reports its level in IN (R514). -/
def padReports (v : Variant) (p : Nat) : Bool :=
  match padType p with
  | .dio | .dhp | .dout | .odn | .aon => decide (p < 625)
  | .ain => padAbsent v p && decide (p < 625)
  | _ => false

/-- INw: the level of each ball that reports one (R514). -/
def gpioIn (s : State) (w : Nat) : Word :=
  wordOf ((List.range 32).foldl (fun acc b =>
    let p := 32 * w + b
    let v := padReports s.variant p && padLevel s p
    acc + (if v then 2 ^ b else 0)) 0)

/-- The edge detectors look at a change of ball `p`: the page is present and enabled, not frozen, and the bus runs (R514). -/
def edgeSeen (s : State) (p : Nat) (level : Bool) : Bool :=
  padReports s.variant p && busUp s && s.hasPage 0x04 && !(frozen s 0x04) && s.flag (Reg.GPIO + 0x008) 0 && decide (pinLevel s p ≠ level)

/-- GPIO_EDGE: the filtered level of pad `p` becomes `level`; each edge detector of the pad latches its cause at an edge it selects. -/
def gpioEdge (p : Nat) (level : Bool) (s : State) : State :=
  let s1 := pinMove p level s
  if edgeSeen s p level then
    (List.range 16).foldl (fun t k =>
      let e := t.rd (Reg.GPIO_EDGE k)
      let sel := match bits e 28 2 with | 0 => level | 1 => !level | _ => true
      if bit e 31 && decide (bits e 0 10 = p) && sel then t.cause Reg.GPIO k else t) s1
  else s1

/-- Bits of an OE word that exist: pads up to 624 that do not belong to an absent unit. -/
def oeMask (v : Variant) (w : Nat) : Word :=
  wordOf ((List.range 32).foldl (fun acc b => acc + (if 32 * w + b < 625 && !(padAbsent v (32 * w + b)) then 2 ^ b else 0)) 0)

/-- A write to a register of the GPIO page from offset 0x040 upward. -/
def gpioWrite (d : RegDef) (k a : Nat) (m : Master) (v : Word) (s : State) : State :=
  match d.off with
  | 0x080 => checkedWrite d a 0x01 m v (fun w => decide (bits w 28 2 ≠ 3) && decide (bits w 0 10 ≤ 624)) s
  | 0x180 => regWrite d a m v (fun v s => s.wr a (if k = 19 then v &&& 0x0001FFFF else v)) s
  | 0x200 => regWrite d a m v (fun v s => s.wr a (v &&& oeMask s.variant k)) s
  | _ => genericWrite .gpio d a m v s

/-- A read of a GPIO register whose value is not stored. -/
def gpioRead (d : RegDef) (k _ : Nat) (_ : Master) (s : State) : Option (Word × State) :=
  match d.off with
  | 0x100 => some (gpioIn s k, s)
  | _ => none

/-! ## The commands -/

/-- PAD_WRITE (R510). -/
def execPadWrite (m : Master) (p : Nat) (v : Word) (s : State) : Answer :=
  .next (if p < 625 then regRow m (Reg.PAD_PADp p) (padPageWrite (defOf .pad (0x100 + 4 * p)) p (Reg.PAD_PADp p) m v) s else s)
/-- GPIO_EDGE (R514). -/
def execGpioEdge (p : Nat) (level : Bool) (s : State) : Answer := .next (if p < 625 then gpioEdge p level s else s)
end Sys2Proof.Machine
end

