-- ==== Sys2Proof/Machine/SpeBase.lean ====
section
/-! DEFINITION. What the enable of an SPE and of DMA needs of their state (spec/09_host.md, spec/10_spe_model.md): accessors, starting
and stopping an engine, ending a descriptor. -/

namespace Sys2Proof.Machine

/-! ## SPEs -/

/-- An SPE beyond its registers on the bus. -/
def spe (s : State) (n : Nat) : Spe := tabGet s.spes n {}

/-- Sets an SPE. -/
def State.setSpe (s : State) (n : Nat) (x : Spe) : State := { s with spes := tabPut s.spes n x {} }

/-- STAT.STATE of an SPE: 0 IDLE, 1 RUN, 2 WAIT, 3 STALL_BUS, 4 STALL_QUEUE, 5 DEBUG_HALT, 6 EXC_HALT, 7 LOCKSTEP. -/
def speState (s : State) (n : Nat) : Nat := s.fld (Reg.SPE n + 0x00C) 4 4

/-- Sets STAT.STATE; HALTED latches at the entry to DEBUG_HALT, EXC_HALT or LOCKSTEP. -/
def State.speTo (s : State) (n st : Nat) : State :=
  (s.setFld (Reg.SPE n + 0x00C) 4 4 st).causeIf (decide (5 ≤ st ∧ st ≤ 7 ∧ speState s n ≠ st)) (Reg.SPE n) 2

/-- The SPE stands between atomic units (R62): no delay slot is pending, no REP chunk is in progress, no access is waited for. -/
def speAtRest (s : State) (n : Nat) : Bool :=
  let x := spe s n
  decide (x.branch = none) && decide (x.chunk = 0) && decide (x.stall = none)

/-- The watchdog of an SPE goes inactive when its SPE becomes IDLE (R110); which code it expects next stays as it was (DESIGN CHOICE, log entry
98). -/
def speWdOff (n : Nat) (s : State) : State :=
  if n = 0 then { s with cox := { s.cox with spe0 := { s.cox.spe0 with active := false } } }
  else { s with cox := { s.cox with spe1 := { s.cox.spe1 with active := false } } }

/-- A stopping SPE that stands between atomic units is IDLE (R59, R62). LOCKSTEP stays until a reset (R230). -/
def speStopIfRest (n : Nat) (s : State) : State :=
  if s.flag (Reg.SPE n + 0x00C) 1 && speAtRest s n then
    let s1 := speWdOff n (s.setFld (Reg.SPE n + 0x00C) 0 3 4)
    if speState s n = 7 then s1 else s1.speTo n 0
  else s

/-- The clearing of EN: the current instruction, pending delay slots and the current REP chunk complete; ABORT cuts the chunk. -/
def speDisable (n : Nat) (abort : Bool) (s : State) : State :=
  speStopIfRest n (if abort then s.setSpe n { spe s n with chunk := 0 } else s)

/-- The accepted 0-to-1 transition of EN (R211): every register, both stacks and the REP count are 0, SR holds its reset value, and
execution starts at program word 0. -/
def speStart (n : Nat) (s : State) : State :=
  let x := spe s n
  let s1 := s.setSpe n { posted := x.posted, haltAsked := x.haltAsked, breakpoints := x.breakpoints, watchpoints := x.watchpoints }
  if speState s n = 7 then s1 else s1.speTo n 1

/-- An SPE accepts the enable (R153). -/
def speTrusted (s : State) (n : Nat) : Bool :=
  !(decide (lcRule s = 2 ∨ lcRule s = 3)) || s.sec.trusted.contains n

/-! ## DMA channels -/

/-- A DMA channel beyond its registers. -/
def dmaChan (s : State) (n : Nat) : DmaChan := tabGet s.dma n {}

/-- Sets a DMA channel. -/
def State.setDma (s : State) (n : Nat) (x : DmaChan) : State := { s with dma := tabPut s.dma n x {} }

/-- The completion of a descriptor: words 4 to 6 (R196). Without a POISON word, word 6 has no stated value: a free value. -/
def dmaWriteBack (n result : Nat) (s : State) : State :=
  let x := dmaChan s n
  let (p, s1) := match x.poison with
    | some k => (k, s)
    | none => (Config.freeNat s.freeCtr % 0x10000, s.drawn)
  let w4 := wordOf (0x80000000 + (0x10000000 * result + x.moved % 0x10000))
  storeWord (x.desc + 24) (wordOf (p % 0x10000)) (storeWord (x.desc + 20) (wordOf s.now) (storeWord (x.desc + 16) w4 s1))

/-- A channel is disabled (R62): a transfer in progress ends with INCOMPLETE, pending triggers are discarded. -/
def dmaStop (n : Nat) (s : State) : State :=
  let x := dmaChan s n
  let s1 := if x.st = .run ∨ x.st = .waitPacket then (dmaWriteBack n 1 s).causeIf (bit x.w0 30) Reg.DMA n else s
  s1.setDma n {}

end Sys2Proof.Machine
end

