-- ==== Sys2Proof/Machine/Ctrl.lean ====
section
/-! DEFINITION. The common page header's CTRL and STAT (spec/03_pages.md R59 to R64): enable, disable, abort, soft reset and freeze of
every block. -/

namespace Sys2Proof.Machine

/-- Address of CTRL and of STAT of a page (R72). -/
def ctrlAddr (page : Nat) : Nat := pageAddr page + 0x008
def statAddr (page : Nat) : Nat := pageAddr page + 0x00C

/-- STAT.ACTIVE, STOPPING, IDLE as one field: 1, 2, 4. -/
def State.blockTo (s : State) (page st : Nat) : State := s.setFld (statAddr page) 0 3 st

/-! ## Enable (R59) -/

/-- What an accepted enable of a block does beyond CTRL and STAT. -/
def blockEnable (c : PageClass) (i : Nat) (s : State) : State :=
  match c with
  | .pwm => pwmEnable i s
  | .actg => groupRefresh i s
  | .bst => bstRefresh 1 (bstRefresh 0 s)
  | .adc => adcEnable i s
  | .adcseq => seqEnable s
  | .enc => encEnable i s
  | .ax => axEnable i s
  | .le => leEnable i s
  | .can => canEnable i s
  | .ksw => kswEnable s
  | .ldl => ldlEnable s
  | .tsu => laneRefresh 1 (laneRefresh 0 s)
  | .spe => speStart i s
  | .sch => skipDue s
  | _ => s

/-- EN = 1 written to an IDLE block: refused for an axis whose PWM does not listen to the Loop Engine (R310) and for an SPE without
trusted program memory (R153). -/
def enSet (m : Master) (page : Nat) (c : PageClass) (i : Nat) (s : State) : State :=
  let a := ctrlAddr page
  if c = .ax ∧ s.flag (Reg.PWM_CFG i) 4 = false then s.blockError a 0x03 m
  else if c = .spe ∧ speTrusted s i = false then s.blockError a 0x01 m
  else blockEnable c i ((s.setFlag a 0 true).blockTo page 1)

/-! ## Disable (R59, R62) -/

/-- The atomic unit that a stopping block completes has ended (R62), as far as the model holds it: a frame that another node sends is not
in State, and STOP_COMPLETE says that it has ended (log entry 106). -/
def unitDone (c : PageClass) (i : Nat) (s : State) : Bool :=
  match c with
  | .ax => decide (profState s i = 0)
  | .spe => speAtRest s i
  | .can => decide ((can s i).onBus = none)
  | .mac => decide (wireOf s i = none)
  | _ => true

/-- A stopping block sets IDLE once its atomic unit has ended (R59). -/
def stopComplete (page : Nat) (s : State) : State :=
  match pageClass page with
  | some (c, i) =>
    if s.flag (statAddr page) 1 && unitDone c i s then
      match c with
      | .ax => axisOff i s
      | .spe => speStopIfRest i s
      | _ => s.blockTo page 4
    else s
  | none => s

/-- What the clearing of EN does to a block that stands in STOPPING; the blocks whose row of R62 names no unit, or whose unit has ended,
are IDLE at once. -/
def blockDisable (c : PageClass) (i page : Nat) (abort : Bool) (s : State) : State :=
  match c with
  | .pwm => (pwmDisable i s).blockTo page 4
  | .actg => (groupRefresh i s).blockTo page 4
  | .bst => bstRefresh 1 (bstRefresh 0 s)
  | .le => (leDisable i s).blockTo page 4
  | .ax => axDisable i abort s
  | .adc => adcDisable i s
  | .adcseq => seqDisable s
  | .spe => speDisable i abort s
  | .can => let (s1, idle) := canDisable i (abandonProd (0x30 + i) s); if idle then s1.blockTo page 4 else s1
  | .mac => if abort then (macAbort i s).blockTo page 4 else s
  | .dma => ((List.range 16).foldl (fun t n => dmaStop n t) s).blockTo page 4
  | .ksw => kswDisable s
  | .ldl => (ldlDisable s).blockTo page 4
  | .sch => (abandonProd 0x40 s).blockTo page 4
  | .tsu => (laneRefresh 1 (laneRefresh 0 s)).blockTo page 4
  | .lat => (List.range 16).foldl (fun t k => abandonProd (0x10 + k) t) s
  | _ => s

/-- EN = 0 written to an active block. -/
def enClear (page : Nat) (c : PageClass) (i : Nat) (abort : Bool) (s : State) : State :=
  blockDisable c i page abort ((s.setFlag (ctrlAddr page) 0 false).blockTo page 2)

/-- ABORT on a block that is stopping (R60, R62). -/
def blockAbort (c : PageClass) (i page : Nat) (s : State) : State :=
  match c with
  | .ax => axDisable i true s
  | .spe => speDisable i true s
  | .mac => (macAbort i s).blockTo page 4
  | _ => s

/-! ## Soft reset (R63) -/

/-- Registers that a soft reset leaves: LOCK, the outcome of the last reset, load or boot (R63), and what shows the present state of
supplies, clocks, power ladder, pads and links (log entry 32). -/
def softKeeps (a : Nat) : Bool :=
  decide (a % 0x1000 = 0x028)
    || [Reg.SYS_RST_CAUSE, Reg.HPT_BOOT, Reg.OTP_LOAD_STAT, Reg.SEC_LC_STATE, Reg.SEC_BOOT_STAT, Reg.CLK_PLL_STAT,
        Reg.PWR_STATE, Reg.PWR_WAKE_STAT, Reg.PWR_SUP_STAT, Reg.MAC_LINK_STAT 0, Reg.MAC_LINK_STAT 1].contains a
    || (decide (pageOf a = 0x50 ∨ pageOf a = 0x51) && [0x00C, 0x058].contains (a % 0x1000))

/-- Block state that the registers of the page show, returned to reset with them (log entry 32): the levels of input pins and memories
stay. -/
def innerReset (c : PageClass) (i : Nat) (s : State) : State :=
  match c with
  | .pwm => let p := pwm s i; isnsCompare i (s.setPwm i { isns := p.isns, cmp := p.cmp, past := p.past })
  | .enc => let p := enc s i; s.setEnc i { a := p.a, b := p.b, z := p.z }
  | .adc => s.setAdc i {}
  | .sdm => { s with sdms := [] }
  | .ax => ((s.setAx i {}).setProf i {}).setRep i {}
  | .le => s.setLe i { halted := (le s i).halted }
  | .actg => { s with acts := s.acts.filter fun p => decide (p.1 / 8 ≠ i) }
  | .bst => { s with bsts := [] }
  | .lat => { s with lats := (s.lats.map fun p => (p.1, ({ level := p.2.level } : LatIn))).filter fun p => decide (p.2 ≠ {}) }
  | .sch => { s with sch := {} }
  | .can => s.setCan i {}
  | .ldl => { s with ldl := { group := s.ldl.group, fresh := s.ldl.fresh } }
  | .tsu => { s with tsu := { tpin := s.tsu.tpin, ppsLevel := s.tsu.ppsLevel } }
  | .dma => { s with dma := [] }
  | .spe => if speState s i = 7 then s else s.setSpe i { posted := (spe s i).posted }
  | .hpt => { s with host := { s.host with pendingMode := some (0, false) } }
  | .ksw => { s with ksw := { phy := s.ksw.phy, mdio := s.ksw.mdio, wires := s.ksw.wires, idleFrom := s.ksw.idleFrom, linkAt := s.ksw.linkAt } }
  | .mac => { s with ksw := { s.ksw with mdio := s.ksw.mdio.filter fun x => x.1 != i } }
  | .adcseq => { s with sense := { s.sense with inRound := false, late := false, lastRound := 0, selNow := 0, nextRound := 0, seqFrom := 0, ext := none } }
  | .ref => { s with sense := { s.sense with blind := false, diff := 0, xSum := 0, xCount := 0, warn := false, drift := false, extFar := false } }
  | .temp => { s with sense := { s.sense with tWarn := false, tHigh := false } }
  | .skim => { s with skim := { s.skim with memIdx := 0, block := 0, fresh := true } }
  | _ => s

/-- An accepted soft reset of a page: a value that the last device reset loaded from OTP comes back (R63), a key sequence or opening in
progress on the page ends (log entry 94), and the sources it drove deassert (R66, R68). -/
def softReset (page : Nat) (s : State) : State :=
  let base := pageAddr page
  let s1 := { s with regs := s.regs.filter fun p => !(isRegAddr p.1 && decide (pageAddr (pageOf p.1) = base)) || softKeeps p.1 }
  let s2 := match pageClass page with | some (c, i) => innerReset c i s1 | none => s1
  (((s2.reload page).setKey page .idle).crcTouch page).srcRefresh

/-! ## Writes to CTRL -/

/-- The FREEZE bit of a write to CTRL. -/
def freezeWrite (m : Master) (page : Nat) (b : Bool) (s : State) : State :=
  if b && !(freezeOk s) then s.controlError (ctrlAddr page) 0x04 m else s.setFlag (ctrlAddr page) 2 b

/-- The EN and ABORT bits of a write to CTRL (R59 to R61). -/
def enWrite (m : Master) (page : Nat) (c : PageClass) (i : Nat) (v : Word) (s : State) : State :=
  let active := s.flag (statAddr page) 0
  let stopping := s.flag (statAddr page) 1
  if bit v 0 then
    if stopping then
      let s1 := s.controlError (ctrlAddr page) 0x01 m
      if bit v 3 then blockAbort c i page s1 else s1
    else if active then s
    else enSet m page c i s
  else if active then enClear page c i (bit v 3) s
  else if stopping && bit v 3 then blockAbort c i page s
  else s

/-- A write to CTRL of a page. The Cox and the AON domain ignore it (R96, R473). -/
def ctrlWrite (m : Master) (page : Nat) (v : Word) (s : State) : State :=
  let s1 := s.consumeKey page m
  match pageClass page with
  | none => s1
  | some (c, i) =>
    if c = .cox ∨ c = .aon then s1
    else if bit v 1 && !(cfgLocked s1 page) && s1.flag (statAddr page) 2 then softReset page s1
    else
      let s2 := if bit v 1 then
          (if cfgLocked s1 page then s1.accessError (ctrlAddr page) 0x02 m else s1.controlError (ctrlAddr page) 0x03 m)
        else s1
      enWrite m page c i v (freezeWrite m page (bit v 2) s2)

/-- A command that writes CTRL of a page that has a header. -/
def ctrlRow (m : Master) (page : Nat) (v : Word) (s : State) : State :=
  if page < 0x400 ∧ isQueuePage page = false then regRow m (ctrlAddr page) (ctrlWrite m page v) s else s

/-! ## The commands -/

/-- CTRL_EN_SET (R59): a write to CTRL with EN 1. -/
def execCtrlEnSet (m : Master) (page : Nat) (v : Word) (s : State) : Answer := .next (ctrlRow m page (putBit v 0 true) s)
/-- CTRL_EN_CLEAR (R59): a write to CTRL with EN 0. -/
def execCtrlEnClear (m : Master) (page : Nat) (v : Word) (s : State) : Answer := .next (ctrlRow m page (putBit v 0 false) s)
/-- CTRL_ABORT (R60): a write to CTRL with ABORT 1. -/
def execCtrlAbort (m : Master) (page : Nat) (v : Word) (s : State) : Answer := .next (ctrlRow m page (putBit v 3 true) s)
/-- CTRL_SOFT_RESET (R63): a write to CTRL with SOFT_RESET 1. -/
def execCtrlSoftReset (m : Master) (page : Nat) (v : Word) (s : State) : Answer := .next (ctrlRow m page (putBit v 1 true) s)
/-- CTRL_FREEZE (R64): a write to CTRL with FREEZE 1. -/
def execCtrlFreeze (m : Master) (page : Nat) (v : Word) (s : State) : Answer := .next (ctrlRow m page (putBit v 2 true) s)
/-- STOP_COMPLETE (R59). -/
def execStopComplete (page : Nat) (s : State) : Answer := .next (live page (stopComplete page) s)
/-- AX_ENABLE (R310): EN set in AXn.CTRL, FREEZE as it stands. -/
def execAxEnable (m : Master) (n : Nat) (s : State) : Answer :=
  .next (if n < 16 then ctrlRow m (0x80 + n) (putBit (s.rd (Reg.AX n + 0x008)) 0 true) s else s)
/-- AX_DISABLE (R310): EN cleared in AXn.CTRL. -/
def execAxDisable (m : Master) (n : Nat) (s : State) : Answer :=
  .next (if n < 16 then ctrlRow m (0x80 + n) (putBit (s.rd (Reg.AX n + 0x008)) 0 false) s else s)
/-- SPE_ENABLE (R211): EN set in SPEn.CTRL. -/
def execSpeEnable (m : Master) (n : Nat) (s : State) : Answer :=
  .next (if n < 2 then ctrlRow m (0x50 + n) (putBit (s.rd (Reg.SPE n + 0x008)) 0 true) s else s)

end Sys2Proof.Machine
end

