-- ==== Sys2Proof/Machine/Bus.lean ====
section
/-! DEFINITION. The bus: a write and a read of any address by any master (spec/03_pages.md), with the registers of the SYS, CLK, PWR,
EVT, HPT, DMA and SPE pages; the commands about registers in general and those of spec/04_clocks_power.md. -/

namespace Sys2Proof.Machine

/-! ## EVT (R66 to R69) -/

/-- Asserted sources 32·k to 32·k+31 that satisfy a condition. -/
def sourceWord (s : State) (k : Nat) (p : Nat → Bool) : Word :=
  wordOf ((List.range 32).foldl (fun acc b => if p (32 * k + b) && sourceOn s (32 * k + b) then acc + 2 ^ b else acc) 0)

/-- A write to ROUTEn: the SPE1 bit of an absent SPE1 stays 0 (R6). A source that is already asserted triggers no DMA channel before
its next rising edge (R68). -/
def routeWrite (d : RegDef) (n a : Nat) (m : Master) (v : Word) (s : State) : State :=
  let none1 := decide (enginesOf s.variant < 2) && bit v 5
  let s1 := regWrite d a m (if none1 then putBit v 5 false else v)
    (fun v s =>
      let t := plainStore d a v s
      if sourceOn t n then { t with pages := { t.pages with dmaSeen := n :: t.pages.dmaSeen.filter (· != n) } } else t) s
  if none1 then s1.controlError a 0x02 m else s1

/-- A write to a register of the EVT page. -/
def evtWrite (d : RegDef) (k a : Nat) (m : Master) (v : Word) (s : State) : State :=
  match d.off with
  | 0x048 => softClear m v s
  | 0x04C => softSet m v s
  | 0x100 => routeWrite d k a m v s
  | _ => genericWrite .evt d a m v s

/-- A read of an EVT register whose value is not stored. -/
def evtRead (d : RegDef) (k : Nat) (s : State) : Option (Word × State) :=
  match d.off with
  | 0x040 => some (sourceWord s k (fun _ => true), s)
  | 0x060 => some (sourceWord s (k % 2) (fun n => s.flag (Reg.EVT_ROUTE n) (k / 2)), s)
  | _ => none

/-! ## SYS, CLK, PWR -/

/-- A write to a register of the SYS page. -/
def sysWrite (d : RegDef) (a : Nat) (m : Master) (v : Word) (s : State) : State :=
  match d.off with
  | 0x054 => rstKeyWrite m v s
  | 0x060 => absentStatWrite m v s
  | _ => genericWrite .sys d a m v s

/-- A write to a register of the CLK page. -/
def clkWrite (d : RegDef) (a : Nat) (m : Master) (v : Word) (s : State) : State :=
  match d.off with
  | 0x048 => spreadCfgWrite m v s
  | _ => genericWrite .clk d a m v s

/-- A write to PWR.REQ whose entry is accepted halts the Profile Units with the atomic unit of R62, a stop at STOP_DECEL (R89); a unit in
STOPPED stands already and keeps that state (log entry 108). -/
def pwrReqHalting (m : Master) (v : Word) (s : State) : State :=
  let s1 := pwrReqWrite m v s
  match s.power.phase, s1.power.phase with
  | .steady, .entering _ =>
    (List.range (axesOf s.variant)).foldl
      (fun t n => if profState t n = 0 ∨ profState t n = 8 then t else profStop n (t.rd (Reg.AX_STOP_DECEL n)).toNat .idle t) s1
  | _, _ => s1

/-- A write to a register of the PWR page. -/
def pwrWrite (d : RegDef) (a : Nat) (m : Master) (v : Word) (s : State) : State :=
  match d.off with
  | 0x040 => pwrReqHalting m v s
  | 0x04C => wakeCfgWrite d m v s
  | _ => genericWrite .pwr d a m v s

/-! ## HPT (spec/09_host.md) -/

/-- A write to HPT.CFG, which CFG_LOCK never refuses (R181): DDR needs 8 lanes; the mode takes effect at the next rise of HP_CS_N. -/
def hptCfgWrite (d : RegDef) (a : Nat) (m : Master) (v : Word) (s : State) : State :=
  let s1 := s.consumeKey 0x30 m
  let w := storeValue d (s.rd a) v
  if bit w 4 && decide (bits w 0 2 ≠ 3) then s1.blockError a 0x01 m
  else
    let s2 := { s1.wr a w with host := { s1.host with pendingMode := some (bits w 0 2, bit w 4) } }
    if w = s.rd a then s2 else s2.crcTouch 0x30

/-- A flash read is in progress (R203). -/
def flBusy (s : State) : Bool := s.flag Reg.HPT_FL_STAT 31

/-- The command that reads `len` bytes of flash from a byte address (R202): a CMD other than 0x0B and 0xEB counts as 0x03. -/
def flashCmd (s : State) (addr len : Nat) : FlashCmd :=
  let w := s.rd Reg.HPT_FL_CFG
  let n := if bit w 28 then 4 else 3
  let bytes := (List.range n).map fun k => BitVec.ofNat 8 (addr / 2 ^ (8 * (n - 1 - k)))
  let dummy (d : Nat) : Nat := if bits w 24 4 = 0 then d else bits w 24 4
  match bits w 8 8 with
  | 0x0B => ⟨0x0B, 1, 1, bytes, dummy 8, bits w 16 5, len⟩
  | 0xEB => if bits w 0 2 = 3 then ⟨0xEB, 8, 8, bytes, dummy 8, bits w 16 5, len⟩ else ⟨0xEB, 4, 4, bytes, dummy 6, bits w 16 5, len⟩
  | _ => ⟨0x03, 1, 1, bytes, 0, bits w 16 5, len⟩

/-- The port forms a flash command. -/
def State.flashRead (s : State) (addr len : Nat) : State := { s with boot := { s.boot with flash := some (flashCmd s addr len) } }

/-- A write to FL_LEN starts a flash read in controller mode (R203). -/
def flLenWrite (m : Master) (v : Word) (s : State) : State :=
  regWrite (defOf .hpt 0x060) Reg.HPT_FL_LEN m v
    (fun v s =>
      if !s.boot.controller then s.blockError Reg.HPT_FL_LEN 0x02 m
      else if flBusy s then s.blockError Reg.HPT_FL_LEN 0x03 m
      else ((s.wr Reg.HPT_FL_LEN (storeValue (defOf .hpt 0x060) 0 v)).wr Reg.HPT_FL_STAT 0x80000000).flashRead
        (s.rd Reg.HPT_FL_ADDR).toNat (bits v 0 20)) s

/-- A write to a register of the HPT page. -/
def hptWrite (d : RegDef) (a : Nat) (m : Master) (v : Word) (s : State) : State :=
  match d.off with
  | 0x040 => hptCfgWrite d a m v s
  | 0x054 => regWrite d a m v
      (fun v s => if flBusy s then s.blockError a 0x03 m else s.wr a (flCfgStored (storeValue d (s.rd a) v))) s
  | 0x058 | 0x05C => regWrite d a m v (fun v s => if flBusy s then s.blockError a 0x03 m else s.wr a v) s
  | 0x060 => flLenWrite m v s
  | _ => genericWrite .hpt d a m v s

/-! ## DMA channel registers (R197) -/

/-- Channel `n` is enabled: CHn.CFG.EN and DMA.CTRL.EN. -/
def dmaOn (s : State) (n : Nat) : Bool := decide (n < 16) && s.flag (Reg.DMA_CH_CFG n) 0 && s.flag (Reg.DMA + 0x008) 0

/-- One trigger of a channel: a waiting channel consumes it or fetches its descriptor again; otherwise it accumulates up to 15. A frozen
DMA does not advance (R64). -/
def dmaTrigger (n : Nat) (s : State) : State :=
  let x := dmaChan s n
  if !(dmaOn s n) || frozen s 0x31 then s
  else if x.st = .waitOwn then s.setDma n { x with st := .fetch, asked := true }
  else if x.st = .waitTrig then s.setDma n { x with st := .run }
  else if 15 ≤ x.pend then (s.satInc (Reg.DMA_CH_TRIG_LOST n) 0).cause Reg.DMA (16 + n)
  else s.setDma n { x with pend := x.pend + 1 }

/-- A write to CHn.DESC (R197): it starts an enabled channel that is IDLE, END or ERROR. -/
def dmaDescWrite (m : Master) (n : Nat) (v : Word) (s : State) : State :=
  let a := Reg.DMA_CH_DESC n
  regWrite (defOf .dma 0x104) a m v
    (fun v s =>
      let x := dmaChan s n
      if x.st ≠ .idle ∧ x.st ≠ .done ∧ x.st ≠ .error then s.blockError a 0x01 m
      else
        let w := storeValue (defOf .dma 0x104) 0 v
        let s1 := s.wr a w
        if dmaOn s n then s1.setDma n { st := .fetch, desc := w.toNat, pend := x.pend } else s1) s

/-- A write to a register of the DMA page. -/
def dmaWrite (d : RegDef) (n a : Nat) (m : Master) (v : Word) (s : State) : State :=
  match d.off with
  | 0x100 => regWrite d a m v
      (fun v s =>
        let w := storeValue d (s.rd a) v
        let s1 := s.wr a w
        if bit w 0 then s1 else dmaStop n s1) s
  | 0x104 => dmaDescWrite m n v s
  | 0x10C => let s1 := s.consumeKey 0x31 m
    if bit v 0 then dmaTrigger n s1 else s1
  | _ => genericWrite .dma d a m v s

/-- The code of a channel state. -/
def DmaState.code : DmaState → Nat
  | .idle => 0 | .fetch => 1 | .waitTrig => 2 | .run => 3 | .waitOwn => 4 | .waitPacket => 5 | .done => 6 | .error => 7 | .stopping => 8

/-- A read of a DMA register whose value is not stored: CHn.STAT. -/
def dmaRead (d : RegDef) (n : Nat) (s : State) : Option (Word × State) :=
  match d.off with
  | 0x108 => let x := dmaChan s n
    some (wordOf (0x10000000 * x.st.code + 0x10000 * x.pend), s)
  | _ => none

/-! ## SPE pages -/

/-- A write to a register of an SPE page: REP_CAP 0 is refused. -/
def speWrite (d : RegDef) (a : Nat) (m : Master) (v : Word) (s : State) : State :=
  match d.off with
  | 0x040 => checkedWrite d a 0x02 m v (fun w => decide (bits w 0 16 ≠ 0)) s
  | _ => genericWrite .spe d a m v s

/-- A read of an SPE register whose value is not stored: the routed sources and the depths of the stacks. -/
def speRead (d : RegDef) (k a : Nat) (s : State) : Option (Word × State) :=
  let n := a / 0x1000 % 0x10
  match d.off with
  | 0x04C => some (sourceWord s k (fun j => s.flag (Reg.EVT_ROUTE j) (4 + n)), s)
  | 0x054 => some (wordOf ((spe s n).stack.length * 0x100 + (spe s n).loops.length), s)
  | _ => none

/-! ## SEC.VERIFY_CTRL (R153) -/

/-- A write to VERIFY_CTRL with START 1 begins the verification of the image at VERIFY_ADDR; one at a time. An absent target SPE is an
absent feature (R6). -/
def verifyStart (m : Master) (v : Word) (s : State) : State :=
  let s1 := s.consumeKey 0x22 m
  if bit v 0 && decide (s.sec.verify = none) then
    if enginesOf s.variant ≤ bits v 4 2 then s1.controlError Reg.SEC_VERIFY_CTRL 0x02 m
    else { s1.wr Reg.SEC_VERIFY_STAT 0 with
           sec := { s1.sec with verify := some ⟨(s.rd Reg.SEC_VERIFY_ADDR).toNat, bits v 4 2, masterCode m⟩ } }
  else s1

/-! ## Any register -/

/-- A write to a register from offset 0x040 upward. -/
def blockWrite (c : PageClass) (d : RegDef) (k a : Nat) (m : Master) (v : Word) (s : State) : State :=
  match c with
  | .sys => sysWrite d a m v s
  | .clk => clkWrite d a m v s
  | .pwr => pwrWrite d a m v s
  | .pad => padPageWrite d k a m v s
  | .gpio => gpioWrite d k a m v s
  | .evt => evtWrite d k a m v s
  | .ref => refWrite d k a m v s
  | .cox => coxWrite d k a m v s
  | .cox_fmap => coxFmapWrite d k a m v s
  | .mem => memPageWrite d k a m v s
  | .skim => skimWrite d k a m v s
  | .sec => if d.off = 0x064 then verifyStart m v s else secWrite d k a m v s
  | .otp => otpPageWrite d k a m v s
  | .aon => aonWrite d k a m v s
  | .hpt => hptWrite d a m v s
  | .dma => dmaWrite d k a m v s
  | .spe => speWrite d a m v s
  | .ax => axWrite d k a m v s
  | .pwm => pwmWrite d k a m v s
  | .actg => actgWrite d k a m v s
  | .bst => bstWrite d k a m v s
  | .adc => adcWrite d k a m v s
  | .sdm => sdmWrite d k a m v s
  | .enc => encWrite d k a m v s
  | .lat => latPageWrite d k a m v s
  | .ldl => ldlWrite d k a m v s
  | .tsu => tsuWrite d k a m v s
  | .sch => schWrite d k a m v s
  | .can => canWrite d k a m v s
  | .ksw => kswWrite d k a m v s
  | .mac => macWrite d k a m v s
  | .temp | .chn | .le | .adcseq => genericWrite c d a m v s

/-- A read of a register from offset 0x040 upward whose value is not the stored one. -/
def blockRead (c : PageClass) (d : RegDef) (k a : Nat) (m : Master) (s : State) : Option (Word × State) :=
  match c with
  | .pwr => if d.off = 0x058 then some (supStat s, s) else none
  | .evt => evtRead d k s
  | .gpio => gpioRead d k a m s
  | .cox => coxRead d k a m s
  | .sec => secRead d k a m s
  | .aon => aonRead d k a m s
  | .dma => dmaRead d k s
  | .chn => chnRead d k a m s
  | .spe => speRead d k a s
  | .le => leRead d k a m s
  | .ax => axRead d k a m s
  | .pwm => pwmRead d k a m s
  | .actg => actgRead d k a m s
  | .enc => encRead d k a m s
  | .lat => latPageRead d k a m s
  | .ldl => ldlRead d k a m s
  | .tsu => tsuRead d k a m s
  | .sch => schRead d k a m s
  | .can => canRead d k a m s
  | .ksw => kswRead d k a m s
  | _ => none

/-- The fault lines of a block (R97): STAT.FAULT reads 1 while one of them is active (log entry 33). -/
def blockLines (c : PageClass) (i : Nat) : List Nat :=
  match c with
  | .clk => [13, 14, 16, 17]
  | .pwr => [7, 8, 9, 10, 11, 12, 18, 19, 20, 21, 22]
  | .pad => [6]
  | .evt => [39]
  | .temp => [34, 35]
  | .ref => [30, 31, 32, 33]
  | .cox => [0, 5, 15, 23, 38, 94, 95]
  | .mem => [36]
  | .skim => [37]
  | .sec => [91]
  | .otp => [93]
  | .hpt => [92]
  | .chn => [90]
  | .spe => [1 + i, 24 + i]
  | .le => [3 + i, 26 + i, 28 + i]
  | .ax => [40 + i]
  | .pwm => [56 + i]
  | .actg => [72 + i, 78 + i]
  | .bst => [84]
  | .tsu => [85, 86]
  | .ksw => [87, 88]
  | .sch => [89]
  | _ => []

/-- STAT.STATE of the blocks that compute it; the others store it. -/
def statState (c : PageClass) (i : Nat) (s : State) : Option Nat :=
  match c with
  | .pwm => some (pwmStatState s i)
  | .le => some (leStatState s i)
  | .adc => some (adcStatState s i)
  | .skim => some (skimStatState s)
  | .tsu | .ldl | .gpio | .sch =>
    some (if s.flag (pageAddr (match c with | .tsu => 0xE0 | .ldl => 0xD8 | .sch => 0xE1 | _ => 0x04) + 0x00C) 0 then 1 else 0)
  | _ => none

/-- A read of STAT (R72). -/
def statRead (page : Nat) (c : PageClass) (i : Nat) (s : State) : Word :=
  let w := s.rd (statAddr page)
  let w1 := match statState c i s with | some x => putBits w 4 4 x | none => w
  putBit w1 3 ((blockLines c i).any fun l => s.flag (Reg.COX_ACTIVE (l / 32)) (l % 32))

/-- A write to a register of the common header. -/
def headerWrite (page off : Nat) (m : Master) (v : Word) (s : State) : State :=
  match off with
  | 0x008 => ctrlWrite m page v s
  | 0x014 => irqEnWrite m page v s
  | 0x018 => irqStatClear m page v s
  | 0x01C => irqSet m page v s
  | 0x024 => errCntWrite m page v s
  | 0x028 => lockWrite m page v s
  | 0x02C => keyWrite m page v s
  | _ => s.consumeKey page m

/-- The causes of a page that are conditions, with whether each is present (R65): the blocks' cause lists. Every other cause is an event,
which IRQ_RAW shows for no length of time (log entry 107); a summary of R375 stands in the register itself. -/
def conditions (c : PageClass) (i : Nat) (s : State) : List (Nat × Bool) :=
  match c with
  | .clk => [(0, decide (s.fld Reg.PWR_STATE 0 3 ≠ 2) && !(s.flag Reg.CLK_PLL_STAT 1)), (1, s.power.window)]
  | .temp => [(0, s.sense.tWarn), (1, s.sense.tHigh), (2, decide (s.fld Reg.TEMP_TSTAT 0 4 ≠ 0))]
  | .ref => [(0, s.sense.warn), (1, s.sense.drift), (2, refStep s), (3, cRange s), (4, s.sense.extFar), (5, s.sense.blind)]
  | .sdm =>
    let some_ (f : Sdm → Bool) : Bool := s.sdms.any fun p => f p.2
    [(0, some_ Sdm.stuck), (1, some_ Sdm.hi), (2, some_ Sdm.lo)]
  | .adc => [(2, s.flag Reg.ADCSEQ_CORE_FAIL i)]
  | .pwm => [(9, (pwm s i).lost), (10, !(s.flag (Reg.PWM_HR_STAT i) 31))]
  | .ax => [(0, s.flag (Reg.AX_LOOP_STAT i) 0), (1, s.flag (Reg.AX_LOOP_STAT i) 1), (2, s.flag (Reg.AX_LOOP_STAT i) 2),
            (3, s.flag (Reg.AX_LOOP_STAT i) 31)]
  | .le => [(1, s.flag (Reg.LE_PAIR_STAT i) 31)]
  | .actg => [(8, s.flag (Reg.ACTG_GRP_STAT i) 16)]
  | .bst =>
    let st (x : Nat) : Nat := s.fld (Reg.BST_X_STAT x) 0 2
    [(0, decide (st 0 = 2)), (1, decide (st 0 = 3)), (4, decide (st 1 = 2)), (5, decide (st 1 = 3))]
  | .tsu =>
    let st (x : Nat) : Nat := s.fld (Reg.TSU_L_STAT x) 0 4
    [(1, decide (st 0 = 4)), (2, decide (st 0 = 5)), (9, decide (st 1 = 4)), (10, decide (st 1 = 5))]
  | .can =>
    let n := can s i
    [(5, decide (128 ≤ n.tec ∨ 128 ≤ n.recErr)), (6, decide (n.st = 3 ∨ n.st = 4)), (9, decide (96 ≤ n.tec ∨ 96 ≤ n.recErr))]
  | .ksw => [(25, decide (s.ksw.beatOver ≠ []))]
  | .spe => [(2, decide (5 ≤ speState s i ∧ speState s i ≤ 7))]
  | .sec => [(1, decide (s.rd Reg.SEC_TAMPER_STAT ≠ 0))]
  | .otp => [(2, s.flag Reg.OTP_LOAD_STAT 31)]
  | .aon =>
    let g := s.fld Reg.AON_AON_STAT 16 3
    [(8, decide (g = 3)), (9, decide (g = 4)), (10, decide (s.fld Reg.AON_AON_STAT 0 2 ≠ 0))]
  | _ => []

/-- IRQ_RAW as it reads (R65). -/
def irqRaw (page : Nat) (c : PageClass) (i : Nat) (s : State) : Word :=
  (conditions c i s).foldl (fun w p => putBit w p.1 (bit w p.1 || p.2)) (s.rd (pageAddr page + 0x010))

/-- A read of a register of the common header; PAGE_CRC waits for the end of its recomputation (R56). -/
def headerRead (page off : Nat) (c : PageClass) (i : Nat) (s : State) : Word × State :=
  match off with
  | 0x00C => (statRead page c i s, s)
  | 0x010 => (irqRaw page c i s, s)
  | 0x01C | 0x02C => (0, s)
  | 0x030 => (pageCrc s page, pageCrcUpdate page s)
  | _ => (s.rd (pageAddr page + off), s)

/-- A 32-bit write to the register space (R44, R47, R48). -/
def regSpaceWrite (m : Master) (a : Nat) (v : Word) (s : State) : State :=
  let p := pageOf a
  let off := a % 0x1000
  if isQueuePage p then
    (if queuePagePresent s.variant s.sec.scrapped p then queueWrite ((p - 0x41) * 32 + off / 0x80) (off % 0x80) m v s
     else absentAccess m a true s)
  else if !(s.hasPage p) then absentAccess m a true s
  else if off < 0x040 then headerWrite p off m v s
  else match pageClass p with
    | none => s
    | some (c, _) => match findReg c off with
      | some (d, k) => blockWrite c d k a m v s
      | none => s.consumeKey p m

/-- A 32-bit read of the register space: the word, and the state after it. WO and W1S registers read 0 (R9). -/
def regSpaceRead (m : Master) (a : Nat) (s : State) : Word × State :=
  let p := pageOf a
  let off := a % 0x1000
  if isQueuePage p then
    (if queuePagePresent s.variant s.sec.scrapped p then queueRead ((p - 0x41) * 32 + off / 0x80) (off % 0x80) m s
     else (0, absentAccess m a false s))
  else if !(s.hasPage p) then (0, absentAccess m a false s)
  else match pageClass p with
    | none => (0, s)
    | some (c, i) =>
      if off < 0x040 then headerRead p off c i s
      else match findReg c off with
        | some (d, k) =>
          match blockRead c d k a m s with
          | some r => r
          | none => (if d.kind = .wo ∨ d.kind = .w1s then 0 else s.rd a, s)
        | none => (0, s)

/-! ## Any address -/

/-- A register access answers with a bus error: the page is absent, ABSENT_BUSERR is 1 and the master is the host (R5). -/
def absentErrs (s : State) (m : Master) (a : Nat) : Bool :=
  let p := pageOf a
  let here := if isQueuePage p then queuePagePresent s.variant s.sec.scrapped p else s.hasPage p
  !here && s.flag Reg.SYS_CFG 0 && decide (m = .host)

/-- The register page of an address answers accesses by itself: it is present. -/
def pageHere (s : State) (a : Nat) : Bool :=
  if isQueuePage (pageOf a) then queuePagePresent s.variant s.sec.scrapped (pageOf a) else s.hasPage (pageOf a)

/-- A narrow or misaligned access to the register space, without the report of a bus error to the master's source (R47). -/
def narrowRecord (m : Master) (a : Nat) (s : State) : State :=
  let p := pageOf a
  if isQueuePage p then s.queueError ((p - 0x41) * 32 + (a % 0x1000) / 0x80) 1 0x01 (a % 0x80) m else s.accessError a 0x01 m

/-- A write by a master to any address, with what the memory's cells have suffered: whether it was performed without a bus error. The
report of a bus error is left to the caller. -/
def busWrite (m : Master) (a bytes : Nat) (v : Word) (up : Upset) (s : State) : Bool × State :=
  if isRegAddr a then
    if bytes = 4 ∧ a % 4 = 0 then (!(absentErrs s m a), regSpaceWrite m a v s)
    else if pageHere s a then (false, narrowRecord m a s)
    else (!(absentErrs s m a), absentAccess m a true s)
  else anyWrite m a bytes v up s

/-- A read by a master of any address: the data, or none for a bus error. -/
def busRead (m : Master) (a bytes : Nat) (up : Upset) (s : State) : Option Word × State :=
  if isRegAddr a then
    if bytes = 4 ∧ a % 4 = 0 then
      let (w, s1) := regSpaceRead m a s
      (if absentErrs s m a then none else some w, s1)
    else if pageHere s a then (none, narrowRecord m a s)
    else (if absentErrs s m a then none else some 0, absentAccess m a false s)
  else anyRead m a bytes up s

/-- The answer of a busRead as a command of its own: a bus error is reported through the master's source, once (R5, R41). -/
def readAnswered (m : Master) (a : Nat) (r : Option Word × State) : State :=
  match r with
  | (some w, s) => s.answer w false
  | (none, s) => if isRegAddr a && !(pageHere s a) then s.answer 0 true else busError m s

/-- The answer of a busWrite as a command of its own. -/
def writeAnswered (m : Master) (a : Nat) (r : Bool × State) : State :=
  if r.1 then r.2.answer 0 false
  else if isRegAddr a && !(pageHere r.2 a) then r.2.answer 0 true else busError m r.2

/-! ## The commands about registers and memory in general -/

/-- REGISTER_WRITE (R9). -/
def execRegisterWrite (m : Master) (addr : Nat) (v : Word) (s : State) : Answer :=
  .next (mastered m addr true (fun s => writeAnswered m addr (busWrite m addr 4 v .none s)) s)
/-- MEMORY_READ (R123): a read of any address, registers included. -/
def execMemoryRead (m : Master) (addr bytes : Nat) (upset : Upset) (s : State) : Answer :=
  .next (mastered m addr false (fun s => readAnswered m addr (busRead m addr bytes upset s)) s)
/-- MEMORY_WRITE (R116). -/
def execMemoryWrite (m : Master) (addr bytes : Nat) (v : Word) (s : State) : Answer :=
  .next (mastered m addr true (fun s => writeAnswered m addr (busWrite m addr bytes v .none s)) s)
/-- ABSENT_PAGE_ACCESS (R5): nothing where the page is present. -/
def execAbsentPageAccess (m : Master) (addr : Nat) (write : Bool) (s : State) : Answer :=
  .next (mastered m addr write (fun s => if isRegAddr addr && !(pageHere s addr) then absentAccess m addr write s else s) s)
/-- UNBACKED_ACCESS (R41): nothing where something backs the address. -/
def execUnbackedAccess (m : Master) (addr : Nat) (write : Bool) (s : State) : Answer :=
  .next (mastered m addr write (fun s =>
    let backed := isRegAddr addr || decide (0x60000000 ≤ addr ∧ addr < 0x60002000)
      || (!s.sec.scrapped && ((memInfo s.variant addr).isSome && decide (addr < 0xFC000000) || (aliasOf s.variant addr).isSome))
    if backed then s else busError m s) s)
/-- NARROW_REGISTER_ACCESS (R47): an aligned access of 4 bytes is none. -/
def execNarrowRegisterAccess (m : Master) (addr bytes : Nat) (write : Bool) (s : State) : Answer :=
  .next (mastered m addr write (fun s =>
    if isRegAddr addr = false ∨ (bytes = 4 ∧ addr % 4 = 0) then s
    else if pageHere s addr then narrowAccess m addr s else absentAccess m addr write s) s)

/-- A command about the header of a page; a queue page has none (R45). -/
def headerRow (m : Master) (page off : Nat) (f : State → State) (s : State) : State :=
  if page < 0x400 ∧ isQueuePage page = false then regRow m (pageAddr page + off) f s else s

/-- KEY_WRITE (R50). -/
def execKeyWrite (m : Master) (page : Nat) (v : Word) (s : State) : Answer := .next (headerRow m page 0x02C (keyWrite m page v) s)
/-- KEY_SEQUENCE_LAPSE (R50). -/
def execKeySequenceLapse (page : Nat) (s : State) : Answer := .next (keySequenceLapse page s)
/-- KEY_OPENING_LAPSE (R50). -/
def execKeyOpeningLapse (page : Nat) (s : State) : Answer := .next (keyOpeningLapse page s)
/-- LOCK_WRITE (R52). -/
def execLockWrite (m : Master) (page : Nat) (v : Word) (s : State) : Answer := .next (headerRow m page 0x028 (lockWrite m page v) s)
/-- ERR_CNT_CLEAR (R57). -/
def execErrCntClear (m : Master) (page : Nat) (v : Word) (s : State) : Answer := .next (headerRow m page 0x024 (errCntWrite m page v) s)
/-- ABSENT_STAT_CLEAR (R44). -/
def execAbsentStatClear (m : Master) (v : Word) (s : State) : Answer := .next (regRow m Reg.SYS_ABSENT_STAT (absentStatWrite m v) s)

/-- The address of a counter that a write of 0 clears (R178, R539). -/
def isCounter (a : Nat) : Bool :=
  if isQueuePage (pageOf a) then decide (0x38 ≤ a % 0x80 ∧ a % 0x80 ≤ 0x4C)
  else match pageClass (pageOf a) with
    | some (c, _) => match findReg c (a % 0x1000) with
      | some (d, _) => decide (d.kind = .cz)
      | none => false
    | none => false

/-- COUNTER_CLEAR (R539): a write to a counter marked clear-by-zero. -/
def execCounterClear (m : Master) (addr : Nat) (v : Word) (s : State) : Answer :=
  .next (if isRegAddr addr && isCounter addr then
      mastered m addr true (fun s => writeAnswered m addr (busWrite m addr 4 v .none s)) s
    else s)
/-- PAGE_CRC_UPDATE (R56). -/
def execPageCrcUpdate (page : Nat) (s : State) : Answer := .next (pageCrcUpdate page s)
/-- IRQ_STAT_CLEAR (R65). -/
def execIrqStatClear (m : Master) (page : Nat) (v : Word) (s : State) : Answer := .next (headerRow m page 0x018 (irqStatClear m page v) s)
/-- IRQ_SET (R65). -/
def execIrqSet (m : Master) (page : Nat) (v : Word) (s : State) : Answer := .next (headerRow m page 0x01C (irqSet m page v) s)
/-- SOFT_SET (R70). -/
def execSoftSet (m : Master) (v : Word) (s : State) : Answer := .next (regRow m Reg.EVT_SOFT_SET (softSet m v) s)
/-- SOFT_CLEAR (R70). -/
def execSoftClear (m : Master) (v : Word) (s : State) : Answer := .next (regRow m Reg.EVT_SOFT (softClear m v) s)

/-! ## The commands of clocks, resets and power -/

/-- SPREAD_CFG_WRITE (R78). -/
def execSpreadCfgWrite (m : Master) (v : Word) (s : State) : Answer := .next (regRow m Reg.CLK_SPREAD_CFG (spreadCfgWrite m v) s)
/-- SPREAD_APPLIED (R78). -/
def execSpreadApplied (s : State) : Answer := .next (live 0x01 spreadApplied s)
/-- POWER_UP (R82). -/
def execPowerUp (s : State) : Answer := .next (powerUp s)
/-- PORST_N_LOW (R85). -/
def execPorstNLow (ns : Nat) (s : State) : Answer := .next (porstNLow ns s)
/-- RESET_PIN_LOW (R85). -/
def execResetPinLow (ns : Nat) (s : State) : Answer := .next (resetPinLow ns s)
/-- RST_KEY (R86). -/
def execRstKey (m : Master) (v : Word) (s : State) : Answer := .next (regRow m Reg.SYS_RST_KEY (rstKeyWrite m v) s)
/-- SUPPLY_UNDERVOLTAGE (R81). -/
def execSupplyUndervoltage (sup : Supply) (present : Bool) (s : State) : Answer := .next (supplyUndervoltage sup present s)
/-- SUPPLY_OVERVOLTAGE (R81). -/
def execSupplyOvervoltage (sup : Supply) (present : Bool) (s : State) : Answer := .next (supplyOvervoltage sup present s)
/-- VIN_WARN (R81). -/
def execVinWarn (s : State) : Answer := .next (vinWarn s)
/-- CLOCK_LOSS (R80). -/
def execClockLoss (k : ClockFault) (present : Bool) (s : State) : Answer := .next (clockLoss k present s)
/-- PWR_REQ (R88). -/
def execPwrReq (m : Master) (v : Word) (s : State) : Answer := .next (regRow m Reg.PWR_REQ (pwrReqHalting m v) s)
/-- The SPEs that run have completed their atomic unit, and no Profile Unit is still in its stop (R62, R89); an SPE that is frozen or halted runs
nothing. -/
def unitsAtRest (s : State) : Bool :=
  ((List.range (enginesOf s.variant)).all fun n =>
    speAtRest s n || frozen s (0x50 + n) || !([1, 3, 4].contains (speState s n)))
  && (List.range (axesOf s.variant)).all fun n => decide ((prof s n).dec = none)
/-- POWER_STATE_GATING (R89): it waits for the SPEs and the Profile Units; the Ladle halts in PADDLE and below (R470), and the outputs are off
(R87). -/
def execPowerStateGating (s : State) : Answer :=
  .next (if unitsAtRest s then
      let s1 := powerStateGating s
      if s1.fld Reg.PWR_STATE 0 3 ≠ s.fld Reg.PWR_STATE 0 3 then actForcing (ldlHalt s1) else s1
    else s)
/-- VIN_LOSS (R90). -/
def execVinLoss (s : State) : Answer := .next (vinLoss s)
/-- VIN_RETURN (R90). -/
def execVinReturn (s : State) : Answer := .next (vinReturn s)
/-- HOLD_CAN_ACTIVITY (R91). -/
def execHoldCanActivity (k : Nat) (s : State) : Answer := .next (holdCanActivity k s)
/-- WAKE_STEP_DONE (R94): with the last step, stored enables act again (R87, R89). -/
def execWakeStepDone (s : State) : Answer :=
  .next (let s1 := wakeStepDone s
    if s1.power.phase = .steady ∧ s.power.phase ≠ .steady then
      let s2 := actForcing (skipDue s1)
      if inRow s2 then profsResume s2 else s2
    else s1)
/-- WAKE_STEP_TIMEOUT (R95). -/
def execWakeStepTimeout (s : State) : Answer := .next (wakeStepTimeout s)
/-- WAKE_STEP_RETRY (R95). -/
def execWakeStepRetry (s : State) : Answer := .next (wakeStepRetry s)

/-- VERIFY_START (R153). -/
def execVerifyStart (m : Master) (v : Word) (s : State) : Answer := .next (regRow m Reg.SEC_VERIFY_CTRL (verifyStart m v) s)
/-- FL_LEN_WRITE (R203). -/
def execFlLenWrite (m : Master) (v : Word) (s : State) : Answer := .next (regRow m Reg.HPT_FL_LEN (flLenWrite m v) s)
/-- DMA_DESC_WRITE (R197). -/
def execDmaDescWrite (m : Master) (n : Nat) (v : Word) (s : State) : Answer :=
  .next (if n < 16 then regRow m (Reg.DMA_CH_DESC n) (dmaDescWrite m n v) s else s)
/-- DMA_TRIG (R197). -/
def execDmaTrig (m : Master) (n : Nat) (s : State) : Answer :=
  .next (if n < 16 then regRow m (Reg.DMA_CH_TRIG n) (fun s => dmaTrigger n (s.consumeKey 0x31 m)) s else s)
/-- DMA_ROUTED_TRIGGER (R68): a source that has become asserted triggers the channel that its route names, once per rising edge. -/
def execDmaRoutedTrigger (src : Nat) (s : State) : Answer :=
  .next (if src < 64 ∧ busUp s ∧ sourceOn s src ∧ s.pages.dmaSeen.contains src = false then
      let s1 := { s with pages := { s.pages with dmaSeen := src :: s.pages.dmaSeen } }
      if s.flag (Reg.EVT_ROUTE src) 14 then dmaTrigger (s.fld (Reg.EVT_ROUTE src) 8 4) s1 else s1
    else s)

end Sys2Proof.Machine
end

