-- ==== Sys2Proof/Machine/HostPort.lean ====
section
/-! DEFINITION. The host port (spec/09_host.md R181 to R193): transactions, CRCs, status, retries and lane modes. -/

namespace Sys2Proof.Machine

/-! ## CRC-16 and the bytes on the wire (R182, R185) -/

/-- One byte through the CRC-16 of the host port: polynomial 0x1021, most significant bit first, no reflection. -/
def crc16Byte (crc : BitVec 16) (b : Byte) : BitVec 16 :=
  let step (c : BitVec 16) : BitVec 16 := if c.getLsbD 15 then (c <<< 1) ^^^ 0x1021#16 else c <<< 1
  step (step (step (step (step (step (step (step (crc ^^^ (b.zeroExtend 16 <<< 8)))))))))

/-- CRC-16 of a list of bytes: initial value 0xFFFF, no final XOR (R185). -/
def crc16 (bs : List Byte) : BitVec 16 := bs.foldl crc16Byte 0xFFFF#16

/-- A number of `n` bytes, most significant first (R182). -/
def beBytesOf (n v : Nat) : List Byte := (List.range n).map fun k => BitVec.ofNat 8 (v / 2 ^ (8 * (n - 1 - k)))

/-- The 8 header bytes (R186). -/
def headerBytes (h : HpHeader) : List Byte :=
  beBytesOf 1 h.op ++ beBytesOf 1 h.len ++ beBytesOf 4 h.addr ++ beBytesOf 1 h.seq ++ beBytesOf 1 h.flags

/-- The bytes of a burst of words. -/
def burstBytes (ws : List Word) : List Byte := ws.flatMap fun w => beBytesOf 4 w.toNat

/-! ## Headers (R186) -/

/-- Number of words of a transaction (R186). -/
def hpWords (h : HpHeader) : Nat := h.len % 256 + 1

/-- Bytes of one element by SIZE; a narrow access moves one. -/
def hpBytes (h : HpHeader) : Nat := match h.flags % 4 with | 1 => 2 | 2 => 1 | _ => 4

/-- A header that is performed as a NOP with BAD_HEADER (R186). -/
def badHeader (h : HpHeader) : Bool :=
  !([0x00, 0x10, 0x11, 0x20, 0x21].contains (h.op % 256)) || decide (h.flags % 4 = 3)
    || (decide (h.flags % 4 ≠ 0) && decide (h.len % 256 ≠ 0))

/-- Address of word `i` of a transaction (R186): consecutive, or the same for the FIXED opcodes. -/
def hpAddr (h : HpHeader) (i : Nat) : Nat :=
  if h.op % 256 = 0x11 ∨ h.op % 256 = 0x21 then h.addr % 2 ^ 32 else (h.addr + 4 * i) % 2 ^ 32

/-- Words of burst `k` (R185). -/
def burstLen (h : HpHeader) (k : Nat) : Nat := min 64 (hpWords h - 64 * k)

/-- Bursts of a transaction. -/
def burstCount (h : HpHeader) : Nat := (hpWords h + 63) / 64

/-! ## Accesses (R186, R188, R201) -/

/-- The Cox's full-speed march owns the memory of an address (R201). -/
def checkOwns (s : State) (a : Nat) : Bool :=
  decide (coxState s = 1) && decide (s.cox.test = 5)
    && ((match memInfo s.variant a with | some i => decide (i.id < 0x1C) | none => false) || (aliasOf s.variant a).isSome)

/-- One word read for the host: the data and its result code (0 OK, 4 BUS_ERROR, 7 CHECK_BUSY). -/
def hpReadWord (h : HpHeader) (i : Nat) (s : State) : (Word × Nat) × State :=
  let a := hpAddr h i
  if !(busUp s) then ((0, 0), s)
  else if checkOwns s a then ((0, 7), s)
  else
    let s1 := readAnswered .host a (busRead .host a (hpBytes h) .none s)
    if s1.pages.answer.error then ((0, 4), s1) else ((s1.pages.answer.data, 0), s1)

/-- One word written by the host, and its result code. -/
def hpWriteWord (h : HpHeader) (i : Nat) (w : Word) (s : State) : Nat × State :=
  let a := hpAddr h i
  if !(busUp s) then (0, s)
  else if checkOwns s a then (7, s)
  else
    let s1 := writeAnswered .host a (busWrite .host a (hpBytes h) w .none s)
    (if s1.pages.answer.error then 4 else 0, s1)

/-! ## Status (R187) -/

/-- Byte 3 of the status: the Cox state, and the lines with an asserted source routed to them, whatever LINE_EN says. -/
def statusByte3 (s : State) : Nat :=
  coxState s % 8 * 16 + (List.range 4).foldl (fun acc k => if routedOn s k then acc + 2 ^ k else acc) 0

/-- The six status bytes. -/
def statusBytes (s : State) : List Byte :=
  let w := s.rd Reg.HPT_LAST
  let b := [BitVec.ofNat 8 (bits w 24 8), BitVec.ofNat 8 (bits w 16 8), BitVec.ofNat 8 (bits w 8 8), BitVec.ofNat 8 (statusByte3 s)]
  b ++ beBytesOf 2 (crc16 b).toNat

/-! ## Transactions (R184 to R191) -/

/-- Sets the transaction in progress; a reset in the middle of it has ended it (corner case of R191). -/
def State.setCur (s : State) (t : HpTrans) : State := if s.host.csLow then { s with host := { s.host with cur := some t } } else s

/-- The header is a retry of the last transaction with a good header (R191). A DUPLICATE stands for the OK that it repeats (log entry
34). -/
def isRetry (s : State) (h : HpHeader) : Bool :=
  decide (s.host.prev = some h) && decide (s.host.prevResult = 0 ∨ s.host.prevResult = 1 ∨ s.host.prevResult = 5)

/-- The original of a retry has been performed in full. -/
def isDup (s : State) (h : HpHeader) : Bool := isRetry s h && decide (s.host.prevResult ≠ 5)

/-- Words `lo` to `hi`−1 read fresh, appended to those read before. -/
def readFrom (h : HpHeader) (lo hi : Nat) (acc : List (Word × Nat)) (s : State) : List (Word × Nat) × State :=
  (List.range (hi - lo)).foldl (fun (p : List (Word × Nat) × State) j =>
    let (w, t) := hpReadWord h (lo + j) p.2
    (p.1 ++ [w], t)) (acc, s)

/-- Index and code of the first word whose access failed. -/
def firstErr : List (Word × Nat) → Nat → Option (Nat × Nat)
  | [], _ => none
  | w :: r, i => if w.2 = 0 then firstErr r (i + 1) else some (i, w.2)

/-- The result and detail of a first failing word: BUS_ERROR has its index, CHECK_BUSY has none (R187, R188). -/
def errResult : Option (Nat × Nat) → Nat × Nat
  | none => (0, 0)
  | some (i, c) => (c, if c = 4 then i % 256 else 0)

/-- The CRC-16 that the device sends after each of `n` read bursts (R184, R185). -/
def burstCrcs (h : HpHeader) (ws : List Word) (n : Nat) : List (BitVec 16) :=
  (List.range n).map fun k => crc16 (burstBytes ((ws.drop (64 * k)).take (burstLen h k)))

/-- A read with a good header (R184, R190, R191): `bursts` bursts have been read, `sent` have been sent with their CRC. A retry takes the
words of the original from the replay buffer and reads the rest fresh. -/
def hpReadBody (h : HpHeader) (bursts sent : Nat) (s : State) : State :=
  let n := hpWords h
  let upTo := min n (64 * min (burstCount h) (max bursts sent))
  let base := if isRetry s h then s.host.replay else []
  let (ws, s1) := readFrom h base.length upTo base s
  let (r, d) := errResult (firstErr (ws.take upTo) 0)
  let out := (ws.take (64 * sent)).map Prod.fst
  let s2 := { s1 with host := { s1.host with replay := ws, sent := out, sentCrcs := burstCrcs h out (min (burstCount h) sent) } }
  s2.setCur ⟨h, true, decide (burstCount h ≤ sent), if isDup s h then 1 else r, if isDup s h then 0 else d, false⟩

/-- The words of one burst written, keeping the first failure. -/
def writeWords (h : HpHeader) (lo : Nat) : List Word → Nat × Nat → State → (Nat × Nat) × State
  | [], r, s => (r, s)
  | w :: ws, r, s =>
    let (c, s1) := hpWriteWord h lo w s
    writeWords h (lo + 1) ws (if r.1 = 0 ∧ c ≠ 0 then (c, if c = 4 then lo % 256 else 0) else r) s1

/-- The bursts of a write with a good header, from burst `k` (R185, R189, R191): a burst with a wrong CRC and later ones are not
performed; a burst that is not whole has not arrived. `dup`: the write is not performed again. -/
def writeBursts (h : HpHeader) (dup : Bool) : Nat → List HpBurst → Nat × Nat → State → State
  | k, [], r, s => s.setCur ⟨h, true, decide (burstCount h ≤ k), r.1, r.2, false⟩
  | k, b :: bs, r, s =>
    if burstCount h ≤ k then s.setCur ⟨h, true, true, r.1, r.2, false⟩
    else if b.words.length ≠ burstLen h k then s.setCur ⟨h, true, false, r.1, r.2, false⟩
    else if crc16 (burstBytes b.words) ≠ b.crc then
      let s1 := (s.satInc Reg.HPT_CRC_CNT 16).cause Reg.HPT 1
      s1.setCur ⟨h, true, true, if dup then 1 else 3, if dup then 0 else k, true⟩
    else if dup then writeBursts h dup (k + 1) bs r s
    else
      let (r1, s1) := writeWords h (64 * k) b.words r s
      writeBursts h dup (k + 1) bs r1 s1

/-- A write with a good header. -/
def hpWriteBody (h : HpHeader) (data : List HpBurst) (s : State) : State :=
  let dup := isDup s h
  writeBursts h dup 0 data (if dup then 1 else 0, 0) { s with host := { s.host with replay := [], sent := [], sentCrcs := [] } }

/-- A NOP, and every header that is performed as one; `whole`: its status phase was carried to its end, not cut short in the phase or in a
wait for it (R190). -/
def hpNopBody (h : HpHeader) (whole : Bool) (s : State) : State :=
  let r := if badHeader h then 6 else if isDup s h then 1 else 0
  { s with host := { s.host with replay := [], sent := [], sentCrcs := [] } }.setCur ⟨h, true, whole, r, 0, false⟩

/-- A header arrives (R184, R189, R190): HP_CS_N is low, the device serves the port in target mode, and no header has come in this
transaction. -/
def hpHeader (h : HpHeader) (crc : BitVec 16) (body : State → State) (s : State) : State :=
  if !s.host.csLow || decide (s.host.cur ≠ none) || !(busUp s) || s.boot.controller then s
  else
    let s1 := { s with host := { s.host with quietSince := s.now } }
    if crc16 (headerBytes h) ≠ crc then
      let s2 := (s1.satInc Reg.HPT_CRC_CNT 0).cause Reg.HPT 0
      { s2 with host := { s2.host with status := [], sent := [], sentCrcs := [] } }.setCur ⟨h, false, true, 2, 0, true⟩
    else
      let s2 := { s1 with host := { s1.host with status := statusBytes s1 } }
      let s3 := if isRetry s h then s2.satInc Reg.HPT_RETRY_CNT 0 else s2
      if badHeader h && [0x10, 0x11, 0x20, 0x21].contains h.op then hpNopBody h true s3 else body s3

/-! ## HP_CS_N (R181, R184, R188, R193) -/

/-- HP_CS_N falls: a transaction starts; in HOLD it wakes the device where the enable held for the state allows it (R91), and it abandons
an entry to HOLD that WAKE_CFG lets it wake from (R88). -/
def hpCsFall (s : State) : State :=
  if s.boot.controller ∨ s.host.csLow then s
  else
    let s1 := { s with host := { s.host with csLow := true, quietSince := s.now, cur := none } }
    if enteringWith s 3 3 8 then abandonEntry s1
    else if s.fld Reg.PWR_STATE 0 3 = 3 ∧ s.power.phase = .steady ∧ bit s.power.wakeHeld 8 then s1.startWake 6 0 else s1

/-- The lane mode that waits for the rise of HP_CS_N takes effect, and CFG shows it (R181, R193). -/
def applyMode (s : State) : State :=
  match s.host.pendingMode with
  | none => s
  | some (l, d) =>
    let w := putBit (putBits (s.rd Reg.HPT_CFG) 0 2 l) 4 d
    let s1 := { s with host := { s.host with pendingMode := none, lanes := l, ddr := d } }
    if w = s.rd Reg.HPT_CFG then s1 else (s1.wr Reg.HPT_CFG w).crcTouch 0x30

/-- The transaction that ends is recorded in LAST, and the count of consecutive failing transactions follows (R187 to R189). -/
def hpRecord (t : HpTrans) (s : State) : State :=
  let fails := if t.crcBad then s.host.fails + 1 else 0
  let s1 := { s with host := { s.host with fails := fails, cur := none } }
  if !t.good then s1.wr Reg.HPT_LAST (putBits (putBits (s.rd Reg.HPT_LAST) 16 8 2) 8 8 0)
  else
    let cut := !t.complete && decide (t.result ≠ 1)
    let r := if cut then 5 else t.result
    let d := if cut then 0 else t.detail
    let s2 := s1.wr Reg.HPT_LAST (wordOf (0x1000000 * (t.hdr.seq % 256) + 0x10000 * r + 0x100 * (d % 256)))
    { s2.causeIf cut Reg.HPT 3 with host := { s2.host with prev := some t.hdr, prevResult := r } }

/-- HP_CS_N rises: the transaction ends (R184, R188). -/
def hpCsRise (s : State) : State :=
  if !s.host.csLow then s
  else
    let s1 := { s with host := { s.host with csLow := false } }
    let s2 := match s.host.cur with
      | some t => hpRecord t s1
      | none => s1
    applyMode s2

/-- HP_CS_N has been low for 50 µs without an edge of HP_CLK (R193). -/
def modeReset (s : State) : State :=
  if s.host.csLow ∧ busUp s ∧ s.boot.controller = false ∧ s.host.quietSince + 10000 ≤ s.now then
    { s.cause Reg.HPT 4 with host := { s.host with pendingMode := some (0, false), quietSince := s.now } }
  else s

/-! ## The commands -/

/-- HP_CS_FALL (R184). -/
def execHpCsFall (s : State) : Answer := .next (live 0x30 hpCsFall s)
/-- HP_NOP (R186): a header with the NOP opcode, or with one that names no action. -/
def execHpNop (op len addr seq flags : Nat) (e : NopEnd) (s : State) : Answer :=
  let h : HpHeader := ⟨op % 256, len % 256, addr % 2 ^ 32, seq % 256, flags % 256⟩
  .next (if [0x10, 0x11, 0x20, 0x21].contains h.op then s else live 0x30 (hpHeader h e.crc (hpNopBody h e.whole)) s)
/-- HP_READ (R186). -/
def execHpRead (len addr seq flags : Nat) (crc : BitVec 16) (bursts sent : Nat) (s : State) : Answer :=
  let h : HpHeader := ⟨0x10, len % 256, addr % 2 ^ 32, seq % 256, flags % 256⟩
  .next (live 0x30 (hpHeader h crc (hpReadBody h bursts sent)) s)
/-- HP_READ_FIXED (R186). -/
def execHpReadFixed (len addr seq flags : Nat) (crc : BitVec 16) (bursts sent : Nat) (s : State) : Answer :=
  let h : HpHeader := ⟨0x11, len % 256, addr % 2 ^ 32, seq % 256, flags % 256⟩
  .next (live 0x30 (hpHeader h crc (hpReadBody h bursts sent)) s)
/-- HP_WRITE (R186). -/
def execHpWrite (len addr seq flags : Nat) (crc : BitVec 16) (data : List HpBurst) (s : State) : Answer :=
  let h : HpHeader := ⟨0x20, len % 256, addr % 2 ^ 32, seq % 256, flags % 256⟩
  .next (live 0x30 (hpHeader h crc (hpWriteBody h data)) s)
/-- HP_WRITE_FIXED (R186). -/
def execHpWriteFixed (len addr seq flags : Nat) (crc : BitVec 16) (data : List HpBurst) (s : State) : Answer :=
  let h : HpHeader := ⟨0x21, len % 256, addr % 2 ^ 32, seq % 256, flags % 256⟩
  .next (live 0x30 (hpHeader h crc (hpWriteBody h data)) s)
/-- HP_CS_RISE (R188). -/
def execHpCsRise (s : State) : Answer := .next (live 0x30 hpCsRise s)
/-- MODE_RESET (R193). -/
def execModeReset (s : State) : Answer := .next (live 0x30 modeReset s)

end Sys2Proof.Machine
end

