-- ==== Sys2Proof/Machine/Dma.lean ====
section
/-! DEFINITION. DMA (spec/09_host.md R195 to R199): descriptors, bursts, packets, poison. -/

namespace Sys2Proof.Machine

/-! ## The descriptor in hand (R196) -/

/-- SRC_MODE and DST_MODE: 0 increment, 1 fixed, 2 queue. -/
def DmaChan.srcMode (x : DmaChan) : Nat := bits x.w0 26 2
def DmaChan.dstMode (x : DmaChan) : Nat := bits x.w0 24 2
/-- LENGTH in words. -/
def DmaChan.length (x : DmaChan) : Nat := bits x.w0 0 16
/-- PACKET. -/
def DmaChan.packet (x : DmaChan) : Bool := bit x.w0 29
/-- Queue numbers of source and destination. -/
def DmaChan.srcQueue (x : DmaChan) : Nat := x.src % 512
def DmaChan.dstQueue (x : DmaChan) : Nat := x.dst % 512

/-- The descriptor is invalid (R197). -/
def dmaBad (s : State) (x : DmaChan) : Bool :=
  decide (x.length = 0) || decide (x.srcMode = 3) || decide (x.dstMode = 3) || (x.packet && decide (x.srcMode ≠ 2))
    || (decide (x.srcMode = 2) && decide (queuesOf s.variant ≤ x.srcQueue))
    || (decide (x.dstMode = 2) && decide (queuesOf s.variant ≤ x.dstQueue))

/-- A channel stops in ERROR and latches its ERR cause (R197). -/
def dmaError (n : Nat) (s : State) : State :=
  (s.setDma n { dmaChan s n with st := .error }).cause Reg.DMA (16 + n)

/-- A descriptor completes (R196, R197): words 4 to 6, DONE where asked for; the chain stops after BUS_ERROR, BAD_DESC and QUEUE_LOST,
and follows NEXT otherwise. -/
def dmaComplete (n result : Nat) (s : State) : State :=
  let x := dmaChan s n
  let r := if result = 0 ∧ x.poison.isSome then 2 else result
  let s1 := (dmaWriteBack n r s).causeIf (bit x.w0 30) Reg.DMA n
  if r = 3 ∨ r = 5 ∨ r = 6 then dmaError n s1
  else if x.next = 0 then s1.setDma n { x with st := .done }
  else (s1.wr (Reg.DMA_CH_DESC n) (wordOf x.next)).setDma n { st := .fetch, desc := x.next, pend := x.pend }

/-! ## Fetching a descriptor (R197) -/

/-- The first five words of a descriptor; none where one returns a bus error. -/
def descWords (a : Nat) : Nat → Nat → List Word → State → Option (List Word) × State
  | 0, _, acc, s => (some acc, s)
  | n + 1, k, acc, s => match anyRead .dma (a + 4 * k) 4 .none s with
    | (none, s1) => (none, s1)
    | (some w, s1) => descWords a n (k + 1) (acc ++ [w]) s1

/-- A fetched descriptor that is still owned by the firmware: the trigger that asked counts in PEND (R197, corner case). -/
def dmaOwned (n : Nat) (s : State) : State :=
  let x := dmaChan s n
  let s1 := s.setDma n { x with st := .waitOwn, asked := false }
  if !x.asked then s1
  else if 15 ≤ x.pend then (s1.satInc (Reg.DMA_CH_TRIG_LOST n) 0).cause Reg.DMA (16 + n)
  else s1.setDma n { x with st := .waitOwn, asked := false, pend := x.pend + 1 }

/-- A fetched descriptor that has been handed to the channel. -/
def dmaTake (n : Nat) (x : DmaChan) (s : State) : State :=
  let s1 := s.setDma n x
  if dmaBad s x then dmaComplete n 5 s1
  else if bit x.w0 31 then
    (if 0 < x.pend then s1.setDma n { x with st := .run, pend := x.pend - 1 } else s1.setDma n { x with st := .waitTrig })
  else s1.setDma n { x with st := .run }

/-- DMA_DESC_FETCH. -/
def dmaFetch (n : Nat) (s : State) : State :=
  let x := dmaChan s n
  if !(dmaOn s n) || decide (x.st ≠ .fetch) || !(busUp s) then s
  else if isSram s.variant x.desc = false ∨ x.desc % 32 ≠ 0 then dmaError n s
  else match descWords x.desc 5 0 [] s with
    | (some [w0, src, dst, next, w4], s1) =>
      if bit w4 31 then dmaOwned n s1
      else dmaTake n { st := .run, desc := x.desc, w0 := w0, src := src.toNat, dst := dst.toNat, next := next.toNat, pend := x.pend } s1
    | (_, s1) => dmaError n s1

/-! ## Words (R198, R199) -/

/-- A pop as a REG master: the delivered item (R166). -/
def dmaPop (q : Nat) (s : State) : Popped × State :=
  if s.fld (qAddr q 0x10) 16 8 ≠ 0 then (⟨0, 0, false⟩, s.queueError q 3 0x06 0x04 .dma)
  else
    let (p, s1) := qPop q s
    (p, lastTag q p s1)

/-- A push whose word carries POISON: its queue parity is inverted (R171, R199). -/
def qPushPoison (q : Nat) (w : Word) (s : State) : State :=
  let (s1, ok) := qPush q w s
  if (queue s q).pktOpen ∧ 65535 ≤ (queue s q).pktLen then s.queueError q 3 0x09 0x00 .dma
  else if !ok then s1
  else
    let x := queue s1 q
    s1.setQueue q { x with tail := (x.tail.take (x.tail.length - 1)) ++ (x.tail.drop (x.tail.length - 1)).map fun y => { y with badParity := true } }

/-- The word of source position `k`, whether it carries POISON; none for a bus error. -/
def dmaSource (x : DmaChan) (k : Nat) (s : State) : Option (Word × Bool) × State :=
  if x.srcMode = 2 then
    let (p, s1) := dmaPop x.srcQueue s
    (some (p.word, decide (p.tag = 4)), s1)
  else
    let a := if x.srcMode = 0 then (x.src + 4 * k) % 2 ^ 32 else x.src
    let (r, s1) := busRead .dma a 4 .none s
    (r.map fun w => (w, false), s1)

/-- A memory that takes the poison syndrome: system SRAM, or the Vat where no queue owns it (R199). -/
def takesPoison (s : State) (a : Nat) : Bool :=
  isSram s.variant a || (decide (0x10000000 ≤ a ∧ a < 0x10000000 + vatKiB s.variant * 1024) && (ownerOf s a).isNone)

/-- Writes a word at destination position `k`; answers whether it was performed (R199). -/
def dmaSink (x : DmaChan) (k : Nat) (w : Word) (poison : Bool) (s : State) : Bool × State :=
  if x.dstMode = 2 then
    let q := x.dstQueue
    if poison && decide (s.fld (qAddr q 0x10) 8 8 = 0) then (true, qPushPoison q w s) else (true, regPush .dma q w s)
  else
    let a := if x.dstMode = 0 then (x.dst + 4 * k) % 2 ^ 32 else x.dst
    let (ok, s1) := busWrite .dma a 4 w .none s
    (ok, if ok && poison && takesPoison s a then s1.setEcc (a / 4 * 4) (some .poison) else s1)

/-- A word has moved: COUNT, WORDS, and the first POISON index. -/
def dmaMoved (n : Nat) (poison : Bool) (s : State) : State :=
  let x := dmaChan s n
  (s.wrapInc (Reg.DMA_CH_WORDS n)).setDma n
    { x with moved := x.moved + 1, poison := if poison && x.poison.isNone then some x.moved else x.poison }

/-! ## Bursts (R195) -/

/-- The queue that a channel pops has halted with LENGTH_LOST. -/
def dmaLost (s : State) (x : DmaChan) : Bool := decide (x.srcMode = 2) && (queue s x.srcQueue).lengthLost

/-- One word of a plain or word-mode transfer: none while the burst goes on, else the RESULT that ends the descriptor. -/
def dmaPlain (n : Nat) (s : State) : Option Nat × State :=
  let x := dmaChan s n
  if x.srcMode = 2 ∧ dmaLost s x then (some 6, s)
  else if x.srcMode = 2 ∧ qAvail s x.srcQueue = 0 then (some 0, s)
  else match dmaSource x x.moved s with
    | (none, s1) => (some 3, s1)
    | (some (w, p), s1) =>
      if dmaLost s1 x then (some 6, s1)
      else
        let (ok, s2) := dmaSink x x.moved w p s1
        if !ok then (some 3, s2)
        else
          let s3 := dmaMoved n p s2
          (if x.length ≤ (dmaChan s3 n).moved then some 0 else none, s3)

/-- The end of a packet: TRUNCATED where words were discarded. -/
def dmaPacketEnd (n : Nat) (s : State) : Option Nat × State := (some (if (dmaChan s n).truncated then 4 else 0), s)

/-- A payload word of a packet (R196, R198): words beyond LENGTH are popped and discarded. -/
def dmaPayload (n left : Nat) (s : State) : Option Nat × State :=
  let x := dmaChan s n
  let (p, s1) := dmaPop x.srcQueue s
  if p.tag = 5 then (some 6, s1)
  else if x.length ≤ x.moved then
    let s2 := s1.setDma n { dmaChan s1 n with truncated := true, pktLeft := some (left - 1) }
    if left = 1 then dmaPacketEnd n s2 else (none, s2)
  else
    let (ok, s2) := dmaSink x x.moved p.word (decide (p.tag = 4)) s1
    if !ok then (some 3, s2)
    else
      let s3 := dmaMoved n (decide (p.tag = 4)) s2
      let s4 := s3.setDma n { dmaChan s3 n with pktLeft := some (left - 1) }
      if left = 1 then dmaPacketEnd n s4 else (none, s4)

/-- The length word of a packet (R198): one tagged ABANDON is skipped; the channel waits in WAIT_PACKET until one is there. -/
def dmaLengthWord (n : Nat) (s : State) : Option Nat × State :=
  let x := dmaChan s n
  let (p, s1) := dmaPop x.srcQueue s
  if p.tag = 5 then (some 6, s1)
  else if p.tag = 3 then (none, s1)
  else
    let (ok, s2) := dmaSink x x.moved p.word (decide (p.tag = 4)) s1
    if !ok then (some 3, s2)
    else
      let s3 := dmaMoved n (decide (p.tag = 4)) s2
      let len := bits p.word 0 16
      let s4 := s3.setDma n { dmaChan s3 n with pktLeft := some len }
      if len = 0 then dmaPacketEnd n s4 else (none, s4)

/-- One step of a packet transfer; `true` where the burst must wait for words. -/
def dmaPacket (n : Nat) (s : State) : Option Nat × Bool × State :=
  let x := dmaChan s n
  if dmaLost s x then (some 6, false, s)
  else if qAvail s x.srcQueue = 0 then
    (none, true, s.setDma n { x with st := if x.pktLeft = none then .waitPacket else .run })
  else
    let s0 := s.setDma n { x with st := .run }
    match x.pktLeft with
    | none => let (r, t) := dmaLengthWord n s0; (r, false, t)
    | some left => let (r, t) := dmaPayload n left s0; (r, false, t)

/-- Up to `k` words of a burst. -/
def dmaWords (n : Nat) : Nat → State → State
  | 0, s => s
  | k + 1, s =>
    if (dmaChan s n).packet then
      match dmaPacket n s with
      | (some r, _, t) => dmaComplete n r t
      | (none, true, t) => t
      | (none, false, t) => dmaWords n k t
    else
      match dmaPlain n s with
      | (some r, t) => dmaComplete n r t
      | (none, t) => dmaWords n k t

/-- Words up to the next 64-byte boundary of an incrementing address (R195). -/
def toBoundary (a : Nat) : Nat := 16 - a % 64 / 4

/-- Words of the next burst (R195). -/
def burstSize (x : DmaChan) : Nat :=
  let s := if x.srcMode = 0 then toBoundary (x.src + 4 * x.moved) else 16
  let d := if x.dstMode = 0 then toBoundary (x.dst + 4 * x.moved) else 16
  min 16 (min s d)

/-- A channel requests a burst: it runs, and a packet it waits for has come. -/
def dmaRequests (s : State) (n : Nat) : Bool :=
  let x := dmaChan s n
  dmaOn s n && (decide (x.st = .run)
    || (decide (x.st = .waitPacket) && (decide (0 < qAvail s x.srcQueue) || dmaLost s x)))

/-- The channel that is served next (R195): PRIO 1 before PRIO 0, round robin within a level. -/
def dmaGranted (s : State) : Option Nat :=
  let level (p : Nat) : Option Nat :=
    let from_ := tabGet s.dmaLast p 0
    ((List.range 16).map fun j => (from_ + j) % 16).find? fun n => dmaRequests s n && decide (s.fld (Reg.DMA_CH_CFG n) 4 1 = p)
  match level 1 with | some n => some n | none => level 0

/-- DMA_BURST of channel `n`, where the arbitration grants it. -/
def dmaBurst (n : Nat) (s : State) : State :=
  if busUp s ∧ dmaGranted s = some n then
    let p := s.fld (Reg.DMA_CH_CFG n) 4 1
    dmaWords n (burstSize (dmaChan s n)) { s with dmaLast := tabPut s.dmaLast p (n + 1) 0 }
  else s

/-! ## The commands -/

/-- DMA_DESC_FETCH (R197). -/
def execDmaDescFetch (n : Nat) (s : State) : Answer := .next (live 0x31 (dmaFetch n) s)
/-- DMA_BURST (R195). -/
def execDmaBurst (n : Nat) (s : State) : Answer := .next (live 0x31 (dmaBurst n) s)

end Sys2Proof.Machine
end

