-- ==== Sys2Proof/Machine/Boot.lean ====
section
/-! DEFINITION. Image verification and standalone boot (spec/07_security.md R151 to R153, spec/09_host.md R200 to R205). -/

namespace Sys2Proof.Machine

/-! ## Images (R151, R152) -/

/-- The bytes of words, least significant first. -/
def leBytes (ws : List Word) : List Byte := ws.flatMap fun w => bytesOf 4 w.toNat

/-- Word `k` of a header. -/
def hdrWord (h : List Word) (k : Nat) : Word := h.getD k 0

/-- The boot key slot that a header names. -/
def hdrSlot (h : List Word) : Nat := bits (hdrWord h 1) 8 4

/-- The failed condition among the first four of R152: 1 magic, 2 slot, 3 hash, 4 version; 0 where they all hold. -/
def imageCond (s : State) (h : List Word) : Nat :=
  if hdrWord h 0 ≠ 0x51494B41 ∨ bits (hdrWord h 1) 0 8 ≠ 1 then 1
  else if bootSlotUsed s (hdrSlot h) = false then 2
  else if Config.sha512 (leBytes ((h.drop 4).take 8)) ≠ otpBytes s (0x200 + 64 * hdrSlot h) 16 then 3
  else if (hdrWord h 3).toNat < minVersion s then 4 else 0

/-- The signature verifies (R151): over header bytes 0x00 to 0x2F, header bytes 0x70 to 0x7F and the payload. -/
def imageSigned (h payload : List Word) : Bool :=
  Config.ed25519 (leBytes ((h.drop 4).take 8)) (leBytes (h.take 12 ++ (h.drop 28).take 4 ++ payload)) (leBytes ((h.drop 12).take 16))

/-- The image is loaded unchecked (R139, R152): BLANK, or DEVELOP with no boot key slot in use. -/
def imageUnchecked (s : State) : Bool :=
  decide (lcRule s = 0) || (decide (lcRule s = 1) && !((List.range 4).any (bootSlotUsed s)))

/-! ## SEC.VERIFY (R153) -/

/-- Words of system SRAM read for a verification; none where one cannot be read. -/
def sramRead (master a : Nat) : Nat → List Word → State → Option (List Word) × State
  | 0, acc, s => (some acc, s)
  | n + 1, acc, s =>
    if isSram s.variant a && decide (a % 4 = 0) then
      match readWord master a .none s with
      | (none, s1) => (none, s1)
      | (some w, s1) => sramRead master (a + 4) n (acc ++ [w]) s1
    else (none, s)

/-- The payload copied into the program memory of an SPE from word 0 on. -/
def copyProgram (n : Nat) (ws : List Word) (s : State) : State :=
  ((List.range 16384).zip ws).foldl (fun t p => storeWord (0x20000000 + 0x100000 * n + 4 * p.1) p.2 t) s

/-- A verification ends with a failed condition. -/
def verifyFail (cond : Nat) (s : State) : State := s.wr Reg.SEC_VERIFY_STAT (wordOf (0x80000000 + cond))

/-- VERIFY_DONE (a payload length that R151 does not allow is taken in whole words up to 1 MiB: log entry 122): the image is judged, and where it
is accepted its payload is in program memory, trusted if it was authenticated. -/
def verifyDone (s : State) : State :=
  match s.sec.verify with
  | none => s
  | some v =>
    let s0 := { s with sec := { s.sec with verify := none } }.cause Reg.SEC 4
    match sramRead v.master v.addr 32 [] s0 with
    | (none, s1) => verifyFail 1 s1
    | (some h, s1) =>
      let un := imageUnchecked s1
      let c := if un then 0 else imageCond s1 h
      if c ≠ 0 then verifyFail c s1
      else match sramRead v.master (v.addr + 128) (min 0x40000 ((hdrWord h 2).toNat / 4)) [] s1 with
        | (none, s2) => verifyFail 5 s2
        | (some p, s2) =>
          if un || imageSigned h p then
            let s3 := copyProgram v.spe p s2
            let s4 := if un then s3 else { s3 with sec := { s3.sec with trusted := v.spe :: s3.sec.trusted.filter (· != v.spe) } }
            s4.wr Reg.SEC_VERIFY_STAT (if un then 0xE0000000 else 0xC0000000)
          else verifyFail 5 s2

/-! ## Loading records (R204) -/

/-- A word address that a load may write: system SRAM, or program, X or Y memory of a present SPE. -/
def loadable (s : State) (a : Nat) : Bool :=
  decide (a % 4 = 0) && (match memInfo s.variant a with
    | some i => decide (i.id < 8) || decide (a / 0x10000000 = 2)
    | none => false)

/-- Every word of a range may be written. -/
def loadableRange (s : State) (a n : Nat) : Bool := (List.range n).all fun k => loadable s (a + 4 * k)

/-- Words stored by a load, which remembers what it has written (R205). -/
def loadWords (a : Nat) (ws : List Word) (s : State) : State :=
  ((List.range ws.length).zip ws).foldl
    (fun t p =>
      let x := a + 4 * p.1
      let t1 := storeWord x p.2 t
      let spes := if 0x20000000 ≤ x ∧ x % 0x100000 < 0x10000 then
          let n := x / 0x100000 % 0x10
          n :: t1.boot.loadedSpes.filter (· != n)
        else t1.boot.loadedSpes
      { t1 with boot := { t1.boot with written := x :: t1.boot.written, loadedSpes := spes } }) s

/-- The records of a payload (R204): the failure code of R205, 0 where they end with START, and the mask of SPEs to start. -/
def loadRecords : Nat → List Word → State → Nat × Nat × State
  | 0, _, s => (3, 0, s)
  | n + 1, w0 :: w1 :: r, s =>
    let len := bits w1 0 24
    match bits w1 28 4 with
    | 0 =>
      if !(loadableRange s w0.toNat (len / 4)) then (2, 0, s)
      else if len % 4 ≠ 0 ∨ r.length < len / 4 then (3, 0, s)
      else loadRecords n (r.drop (len / 4)) (loadWords w0.toNat (r.take (len / 4)) s)
    | 1 => if len = 0 ∧ r = [] then (0, bits w0 0 2, s) else (3, 0, s)
    | _ => (2, 0, s)
  | _ + 1, _, s => (3, 0, s)

/-! ## Standalone boot (R203, R205) -/

/-- A boot fails: every word that the load wrote reads 0 with a valid code, the port goes to target mode in 1-lane SDR. -/
def bootFail (fail cond : Nat) (s : State) : State :=
  let s1 := s.boot.written.foldl (fun t a => t.putWord a 0) s
  let s2 := ((s1.setFld Reg.HPT_BOOT 24 4 fail).setFld Reg.HPT_BOOT 30 2 2).wr Reg.SEC_BOOT_STAT (wordOf (0x80000000 + cond))
  { s2.cause Reg.SEC 3 with
    boot := { s2.boot with phase := .ended, controller := false, written := [], loadedSpes := [] }
    host := { s2.host with lanes := 0, ddr := false, pendingMode := none } }

/-- The flash words that the event brings; those it leaves out are free values. -/
def flashWords (image : List Word) (from_ n : Nat) (f : Nat) : List Word :=
  (List.range n).map fun k => (image[from_ + k]?).getD (wordOf (Config.freeNat (f + k)))

/-- BOOT_START: after test 5, the header is read and checked, and the payload streamed into its destinations (R203). A payload length that
R151 does not allow fails with LENGTH (log entry 122). -/
def bootStart (image : List Word) (s : State) : State :=
  if s.boot.phase ≠ .waitTest5 ∨ busUp s = false ∨ coxState s = 0 ∨ (coxState s = 1 ∧ s.cox.test ≤ 5) then s
  else
    let h := flashWords image 0 32 s.freeCtr
    let un := imageUnchecked s
    let c := if un then 0 else imageCond s h
    let s1 := { s with freeCtr := s.freeCtr + 32 }.flashRead s.boot.imageAt 128
    let bytes := (hdrWord h 2).toNat
    if c ≠ 0 then bootFail 1 c s1
    else if bytes % 4 ≠ 0 ∨ 0x100000 < bytes then bootFail 3 0 s1
    else
      let p := flashWords image 32 (bytes / 4) s1.freeCtr
      let (fail, mask, s2) := loadRecords (bytes / 4 + 1) p ({ s1 with freeCtr := s1.freeCtr + bytes / 4 }.flashRead (s.boot.imageAt + 128) bytes)
      let s3 := s2.setFld Reg.HPT_BOOT 0 24 s2.boot.written.length
      if fail ≠ 0 then bootFail fail 0 s3
      else { s3 with boot := { s3.boot with phase := .verifying mask (un || imageSigned h p) un } }

/-- An SPE that the START record names starts at its reset vector (R203, R211). -/
def bootEnable (mask n : Nat) (s : State) : State :=
  if mask / 2 ^ n % 2 = 1 ∧ n < enginesOf s.variant ∧ s.flag (statAddr (0x50 + n)) 2 then
    (if speTrusted s n then blockEnable .spe n ((s.setFlag (ctrlAddr (0x50 + n)) 0 true).blockTo (0x50 + n) 1)
     else s.hwError (ctrlAddr (0x50 + n)) 0x01)
  else s

/-- BOOT_VERIFY_DONE: the signature has been verified (R203, R205). -/
def bootVerifyDone (s : State) : State :=
  match s.boot.phase with
  | .verifying mask good un =>
    if !good then bootFail 1 5 s
    else
      let s1 := if un then s else { s with sec := { s.sec with trusted := s.boot.loadedSpes } }
      let s2 := bootEnable mask 1 (bootEnable mask 0 s1)
      let s3 := (s2.setFld Reg.HPT_BOOT 30 2 3).wr Reg.SEC_BOOT_STAT (if un then 0xE0000000 else 0xC0000000)
      { s3.cause Reg.HPT 5 with boot := { s3.boot with phase := .ended, written := [], loadedSpes := [] } }
  | _ => s

/-- FL_DONE: the words that a flash read has brought go to FL_DST under the rules of R204; ERR where they may not (R203). -/
def flDone (data : List Word) (s : State) : State :=
  if flBusy s && busUp s then
    let n := s.fld Reg.HPT_FL_LEN 0 20
    let dst := (s.rd Reg.HPT_FL_DST).toNat
    let s1 := s.cause Reg.HPT 6
    if n % 4 = 0 ∧ loadableRange s dst (n / 4) then
      let ws := flashWords data 0 (n / 4) s.freeCtr
      let s2 := ((List.range ws.length).zip ws).foldl (fun t p => storeWord (dst + 4 * p.1) p.2 t) { s1 with freeCtr := s1.freeCtr + n / 4 }
      s2.wr Reg.HPT_FL_STAT 0
    else s1.wr Reg.HPT_FL_STAT 0x40000000
  else s

/-! ## The commands -/

/-- VERIFY_DONE (R153). -/
def execVerifyDone (s : State) : Answer := .next (live 0x22 verifyDone s)
/-- BOOT_START (R203): the words that the flash holds from the image header on. -/
def execBootStart (image : List Word) (s : State) : Answer := .next (live 0x30 (bootStart image) s)
/-- BOOT_VERIFY_DONE (R203). -/
def execBootVerifyDone (s : State) : Answer := .next (live 0x30 bootVerifyDone s)
/-- FL_DONE (R203). -/
def execFlDone (data : List Word) (s : State) : Answer := .next (live 0x30 (flDone data) s)

end Sys2Proof.Machine
end

