-- ==== Sys2Proof/Machine/Flags.lean ====
section
/-! DEFINITION. Accumulator arithmetic of an SPE and the flags it writes (spec/10_spe_model.md R213 to R215, spec/11_spe_isa.md R237). -/

namespace Sys2Proof.Machine

/-! ## Bits of SR (R211) -/

/-- Masks of the flags in SR. -/
def flN : Nat := 0x01
def flZ : Nat := 0x02
def flC : Nat := 0x04
def flV : Nat := 0x08
def flE : Nat := 0x10
def flL : Nat := 0x20

/-- The writable bits of SR; [11:6] are reserved. -/
def srMask : Nat := 0xFFF03F

/-- The mode fields IE, IPL, RM and SM, in bits [23:18]. -/
def srModes : Nat := 0xFC0000

/-- The bit of SR that a flag has when it holds. -/
def flagIf (b : Bool) (m : Nat) : Nat := if b then m else 0

/-! ## Results (R212 to R215) -/

/-- Bits [55:47] of an accumulator are all equal: the value lies within Q1.47. -/
def inQ147 (x : Int) : Bool := decide (-(2 ^ 47 : Int) ≤ x) && decide (x < 2 ^ 47)

/-- An accumulator result: its value, whether it sets V, whether it sets L. -/
structure AccRes where
  val : Int
  v : Bool
  l : Bool
  deriving DecidableEq, Repr

/-- The result of an accumulator operation from its exact value (R214): wrapped modulo 2^56, or limited to Q1.47 under SM. -/
def accFit (sm : Bool) (x : Int) : AccRes :=
  if sm then
    if inQ147 x then ⟨x, false, false⟩ else ⟨clampI (-(2 ^ 47 : Int)) (2 ^ 47 - 1) x, true, true⟩
  else ⟨signed 56 (lowBits 56 x), decide (signed 56 (lowBits 56 x) ≠ x), false⟩

/-- A value rounded at bit 23, in units of bit 24 (R215): RM 0 and 3 convergent, 1 half up, 2 truncate. -/
def roundUnits (rm : Nat) (x : Int) : Int :=
  let q := x / 2 ^ 24
  let r := x % 2 ^ 24
  if rm = 2 then q
  else if r < 2 ^ 23 then q
  else if 2 ^ 23 < r then q + 1
  else if rm = 1 then q + 1
  else if q % 2 = 0 then q else q + 1

/-- An accumulator result rounded at bit 23, bits [23:0] cleared (R237, MULR and ROUND). -/
def accRound (sm : Bool) (rm : Nat) (r : AccRes) : AccRes :=
  let r2 := accFit sm (roundUnits rm r.val * 2 ^ 24)
  ⟨r2.val, r.v || r2.v, r.l || r2.l⟩

/-- An accumulator taken to 24 bits (R215): rounded, then limited; whether it was limited. -/
def accTo24 (rm : Nat) (x : Int) : Nat × Bool :=
  let q := roundUnits rm x
  if inQ147 (q * 2 ^ 24) then (lowBits 24 q, false) else (if 0 ≤ q then 0x7FFFFF else 0x800000, true)

/-- The flags N, Z, V and E of an accumulator result as mask and value; L is only ever set (R214). -/
def flagsNZVE (r : AccRes) : Nat × Nat :=
  (flN + flZ + flV + flE + flagIf r.l flL,
   flagIf (decide (r.val < 0)) flN + flagIf (decide (r.val = 0)) flZ + flagIf r.v flV + flagIf (!(inQ147 r.val)) flE
     + flagIf r.l flL)

/-- The same with C. -/
def flagsNZVCE (r : AccRes) (c : Bool) : Nat × Nat := ((flagsNZVE r).1 + flC, (flagsNZVE r).2 + flagIf c flC)

/-- The carry out of bit 55 of a sum. -/
def addCarry (a b : Int) : Bool := decide (2 ^ 56 ≤ lowBits 56 a + lowBits 56 b)

/-- The borrow of a difference. -/
def subBorrow (a b : Int) : Bool := decide (lowBits 56 a < lowBits 56 b)

/-! ## Shifts and normalisation (R243) -/

/-- A shift by a signed count: left for a positive one, right towards minus infinity for a negative one; the exact value. -/
def shiftBy (x k : Int) : Int := if 0 ≤ k then x * 2 ^ k.toNat else x / 2 ^ (-k).toNat

/-- The last bit shifted out: 0 for a count of 0. -/
def shiftCarry (x k : Int) : Bool :=
  if k = 0 then false
  else if 0 < k then (if k ≤ 56 then decide (lowBits 56 x / 2 ^ (56 - k.toNat) % 2 = 1) else false)
  else decide (x / 2 ^ ((-k).toNat - 1) % 2 = 1)

/-- Normalised: bits [55:47] all equal, bit 47 unlike bit 46. -/
def isNormal (x : Int) : Bool := inQ147 x && !(decide (-(2 ^ 46 : Int) ≤ x) && decide (x < 2 ^ 46))

/-- The count that normalises a non-zero accumulator: -8 to 47. -/
def normCount (x : Int) : Int :=
  match (List.range 56).find? fun k => isNormal (shiftBy x (Int.ofNat k - 8)) with
  | some k => Int.ofNat k - 8
  | none => 0

/-! ## Conditions (R239) -/

/-- A flag of SR. -/
def srBit (sr k : Nat) : Bool := decide (sr / 2 ^ k % 2 = 1)

/-- The condition code holds under the visible SR; codes from 21 on are illegal. -/
def condHolds (sr cc : Nat) : Bool :=
  let n := srBit sr 0
  let z := srBit sr 1
  let c := srBit sr 2
  let v := srBit sr 3
  match cc with
  | 0 => true | 1 => z | 2 => !z | 3 => n | 4 => !n | 5 => n != v | 6 => n == v | 7 => !z && (n == v) | 8 => z || (n != v)
  | 9 => v | 10 => !v | 11 => c | 12 => !c | 13 => srBit sr 4 | 14 => !(srBit sr 4) | 15 => srBit sr 5
  | 16 => srBit sr 17 | 17 => srBit sr 16 | 18 => decide (sr / 2 ^ 13 % 8 = 0) | 19 => decide (sr / 2 ^ 13 % 8 ≠ 0)
  | _ => srBit sr 12

end Sys2Proof.Machine
end

