-- ==== Sys2Proof/Machine/Operands.lean ====
section
/-! DEFINITION. Operands of an SPE instruction: fields of the word and which words are legal (spec/11_spe_isa.md R232 to R239),
registers and their visibility (R219, R235), conversions (R236), addressing (spec/10_spe_model.md R216 to R218), memories (R206). -/

namespace Sys2Proof.Machine

/-! ## The instruction word (R232) -/

/-- Class and op of a word: bits [31:29], then the op of that class. -/
def opClass (w : Word) : Nat := bits w 29 3
def opCode (w : Word) : Nat := if opClass w = 1 then bits w 26 3 else bits w 24 5

/-- A 6-bit register code of R235. -/
def regCodeOk (c : Nat) : Bool := decide (c < 0x0C) || (decide (0x10 ≤ c) && decide (c ≤ 0x2A))

/-- The mode codes of R238 for pointer `p`; E space has modes 0 to 4. -/
def modeOk (p mode : Nat) (eSpace : Bool) : Bool :=
  decide (mode ≤ 4) || (decide (mode = 5) && decide (p ≤ 3) && !eSpace)

/-- A parallel-move field (R233): an accumulator store names A0 to A3. -/
def moveOk (f : Nat) : Bool := !(decide (f / 64 = 3) && decide (f / 32 % 2 = 1))

/-- The D register that a parallel-move field loads. -/
def moveLoads (f : Nat) : Option Nat := if f / 64 = 1 then some (f / 8 % 8) else none

/-- A P-format word: a defined op, legal moves, no two loads into one D register (R233, R234). -/
def legalP (w : Word) : Bool :=
  let op := bits w 24 5
  decide (op ≤ 0x1A ∧ op ≠ 0x07) && moveOk (bits w 8 8) && moveOk (bits w 0 8)
    && !(decide (bits w 8 8 / 64 = 1) && decide (moveLoads (bits w 8 8) = moveLoads (bits w 0 8)))
    && !((decide (op = 0x0A ∨ op = 0x0B ∨ op = 0x0D ∨ op = 0x0F)) && bit w 18)

/-- An M-format word (R237, R238). -/
def legalM (w : Word) : Bool :=
  let r := bits w 18 6
  match bits w 24 5 with
  | 0x00 => regCodeOk r && regCodeOk (bits w 12 6) && decide (bits w 0 12 = 0)
  | 0x01 | 0x02 | 0x03 | 0x04 => regCodeOk r && modeOk (bits w 15 3) (bits w 12 3) false && decide (bits w 0 12 = 0)
  | 0x05 | 0x06 | 0x07 | 0x08 => regCodeOk r && decide (bits w 15 3 = 0)
  | 0x09 => decide (bits w 16 5 = 0)
  | 0x0A => decide (r = 0) && modeOk (bits w 15 3) (bits w 12 3) false && decide (bits w 0 12 = 0)
  | 0x0B | 0x0C => regCodeOk r && modeOk (bits w 15 3) (bits w 12 3) true && decide (bits w 0 12 = 0)
  | 0x10 | 0x11 => regCodeOk r && decide (bits w 9 5 = 0)
  | 0x12 => decide (r = 0) && decide (bits w 13 1 = 0)
  | _ => false

/-- An S-format word (R237). -/
def legalS (w : Word) : Bool :=
  match bits w 24 5 with
  | 0x00 | 0x01 => modeOk (bits w 18 3) (bits w 15 3) false && decide (bits w 0 15 = 0)
  | 0x02 | 0x03 => decide (bits w 16 1 = 0) && (!(bit w 17) || decide (bits w 3 13 = 0))
  | 0x04 => decide (bits w 0 16 = 0)
  | 0x05 | 0x06 | 0x07 => decide (bits w 19 3 = 0) && decide (bits w 0 16 = 0)
  | 0x08 => decide (bits w 6 16 = 0)
  | 0x09 | 0x0A => true
  | 0x0B => decide (bits w 0 24 = 0)
  | _ => false

/-- A C-format word (R237, R239). -/
def legalC (w : Word) : Bool :=
  let cc := decide (bits w 15 5 ≤ 20)
  match bits w 24 5 with
  | 0x00 | 0x06 | 0x0B | 0x0C | 0x0D => decide (bits w 0 24 = 0)
  | 0x01 | 0x02 => cc && decide (bits w 20 4 = 0) && decide (bits w 14 1 = 0)
  | 0x03 | 0x04 => cc && decide (bits w 20 4 = 0) && decide (bits w 3 12 = 0)
  | 0x05 => cc && decide (bits w 20 4 = 0) && decide (bits w 0 15 = 0)
  | 0x07 => decide (bits w 16 8 = 0)
  | 0x08 => decide (bits w 6 18 = 0) && regCodeOk (bits w 0 6)
  | 0x09 => true
  | 0x0A => regCodeOk (bits w 18 6) && decide (bits w 14 4 = 0)
  | _ => false

/-- The word is an encoding that chapter 11 defines (R232). -/
def legalWord (w : Word) : Bool :=
  match opClass w with
  | 0 => legalP w
  | 1 => decide (bits w 26 3 ≠ 7)
  | 2 => legalM w
  | 3 => true
  | 4 => legalS w
  | 5 => legalC w
  | _ => false

/-- Instructions that may stand neither in a delay slot nor as the target of a REP (hazards D and R of R237). -/
def noSlot (w : Word) : Bool :=
  (decide (opClass w = 5) && decide (1 ≤ bits w 24 5 ∧ bits w 24 5 ≤ 0x0D))
    || (decide (opClass w = 4) && decide (bits w 24 5 = 2 ∨ bits w 24 5 = 3))

/-- Branches, calls, returns, REPs and DOs, which a DO body's last three instructions must not contain (R224). -/
def isFlow (w : Word) : Bool := decide (opClass w = 5) && decide (1 ≤ bits w 24 5 ∧ bits w 24 5 ≤ 0x0A)

/-! ## Registers (R211, R235) -/

/-- The width of a register by its code. -/
def regWidth (c : Nat) : Nat :=
  if c < 8 then 24 else if c < 0x10 then 56 else if c < 0x20 then 32 else if c < 0x28 then 15 else if c < 0x2A then 16 else 24

/-- Codes of the registers that instructions use by name. -/
def cA (k : Nat) : Nat := 0x08 + k % 4
def cP (k : Nat) : Nat := 0x10 + k % 8
def cIX : Nat := 0x28
def cLC : Nat := 0x29
def cSR : Nat := 0x2A

/-- A register as seen now. -/
def Spe.reg (x : Spe) (c : Nat) : Nat := tabGet x.file c 0

/-- Sets a register at once. -/
def Spe.put (x : Spe) (c v : Nat) : Spe := { x with file := tabPut x.file c v 0 }

/-- Applies one delayed write. -/
def Spe.apply (x : Spe) (q : SpeWrite) : Spe :=
  x.put q.code (x.reg q.code - (x.reg q.code &&& q.mask) + (q.value &&& q.mask))

/-- The registers as the instruction numbered `count` sees them: every write due by then is applied, in program order (R219). -/
def Spe.settle (x : Spe) : Spe :=
  (x.queued.filter fun q => decide (q.seenFrom ≤ x.count)).foldl Spe.apply
    { x with queued := x.queued.filter fun q => decide (x.count < q.seenFrom) }

/-- Every pending write of SR takes effect (R225, R227: what an entry pushes). -/
def Spe.settleSR (x : Spe) : Spe :=
  (x.queued.filter fun q => decide (q.code = cSR)).foldl Spe.apply
    { x with queued := x.queued.filter fun q => decide (q.code ≠ cSR) }

/-- A write by the instruction in hand of some bits of a register, seen from `delay` instructions later. -/
def Spe.later (x : Spe) (delay c mask v : Nat) : Spe :=
  { x with queued := x.queued ++ [⟨c, mask, v, x.count + delay⟩] }

/-- A whole register written by the instruction in hand; SR in two parts, its flags one instruction before its modes (R219, R248). -/
def Spe.write (x : Spe) (delay c v : Nat) : Spe :=
  if c = cSR then (x.later (delay - 1) c (srMask - srModes) v).later delay c srModes v
  else x.later delay c (2 ^ regWidth c - 1) (v % 2 ^ regWidth c)

/-- The delay of a load or pop into a register, and of an LDI (R219, R237: hazards L and A). -/
def loadDelay (c : Nat) : Nat := if c < 0x10 then 2 else if c = cIX then 2 else 3

/-- The delay of a MOVE into a register (R219, R237). -/
def moveDelay (c : Nat) : Nat := if c < 0x10 then 1 else if c = cIX then 1 else 3

/-- A write of flags, seen from i+2 (R219, R247). -/
def Spe.flags (x : Spe) (f : Nat × Nat) : Spe := x.later 2 cSR f.1 f.2

/-- The L flag set where a value was limited (R215). -/
def Spe.limited (x : Spe) (l : Bool) : Spe := if l then x.flags (flL, flL) else x

/-- Modes of the visible SR. -/
def Spe.rm (x : Spe) : Nat := x.reg cSR / 2 ^ 19 % 4
def Spe.sm (x : Spe) : Bool := srBit (x.reg cSR) 18
def Spe.ie (x : Spe) : Bool := srBit (x.reg cSR) 23
def Spe.ipl (x : Spe) : Nat := x.reg cSR / 2 ^ 21 % 4

/-- An accumulator as a signed value. -/
def Spe.acc (x : Spe) (k : Nat) : Int := signed 56 (x.reg (cA k))

/-- A 24-bit value in an accumulator (R212). -/
def toAcc (v : Nat) : Int := signed 24 v * 2 ^ 24

/-- D register `k` as a signed Q1.23 integer. -/
def Spe.dReg (x : Spe) (k : Nat) : Int := signed 24 (x.reg (k % 8))

/-- An accumulator written by an arithmetic result, seen from i+1. -/
def Spe.setAcc (x : Spe) (k : Nat) (v : Int) : Spe := x.write 1 (cA k) (lowBits 56 v)

/-! ## Conversions (R236, R244) -/

/-- A value with the kind of its source: a D register or 24-bit word, an accumulator, a 32-bit word, a zero-extended register. -/
inductive SpeVal
  | d (v : Nat) | a (v : Int) | w (v : Nat) | z (v : Nat)
  deriving DecidableEq, Repr

/-- A register with its kind. -/
def Spe.val (x : Spe) (c : Nat) : SpeVal :=
  if c < 8 then .d (x.reg c) else if c < 0x10 then .a (signed 56 (x.reg c)) else if c < 0x20 then .w (x.reg c) else .z (x.reg c)

/-- A value taken to a D register or a 24-bit word, and whether it was limited. -/
def to24 (rm : Nat) : SpeVal → Nat × Bool
  | .d v => (v % 2 ^ 24, false)
  | .a v => accTo24 rm v
  | .w v => (v % 2 ^ 24, false)
  | .z v => (v % 2 ^ 24, false)

/-- A value taken to an accumulator. -/
def toA : SpeVal → Int
  | .d v => toAcc v
  | .a v => v
  | .w v => signed 32 v
  | .z v => (v : Int)

/-- A value taken to 32 bits: a P or S register, an E word, a queue word (R236, R244). -/
def to32 : SpeVal → Nat
  | .d v => lowBits 32 (signed 24 v)
  | .a v => lowBits 32 v
  | .w v => v % 2 ^ 32
  | .z v => v % 2 ^ 32

/-- A value converted to what register `c` receives, and whether it was limited. -/
def convTo (rm c : Nat) (v : SpeVal) : Nat × Bool :=
  if c < 8 then to24 rm v
  else if c < 0x10 then (lowBits 56 (toA v), false)
  else (to32 v % 2 ^ regWidth c, false)

/-! ## Addressing (R216 to R218) -/

/-- The `m` low bits of a number in reverse order. -/
def reverseBits : Nat → Nat → Nat
  | 0, _ => 0
  | m + 1, v => v % 2 * 2 ^ m + reverseBits m (v / 2)

/-- A pointer after a linear or circular step (R217). -/
def Spe.stepped (x : Spe) (k : Nat) (step : Int) : Nat :=
  let p : Int := (x.reg (cP k) : Nat)
  if k < 4 ∧ x.reg (0x24 + k) ≠ 0 then
    let b : Int := (x.reg (0x20 + k) : Nat)
    lowBits 32 (b + (p - b + step) % (x.reg (0x24 + k) : Nat))
  else lowBits 32 (p + step)

/-- A pointer after a bit-reversed step (R218). -/
def Spe.reversed (x : Spe) (k : Nat) : Nat :=
  let l := x.reg (0x24 + k)
  let m := if l = 0 then 15 else l.log2
  let p := x.reg (cP k)
  p / 2 ^ m * 2 ^ m + reverseBits m ((reverseBits m p + reverseBits m (x.reg (0x18 + k))) % 2 ^ m)

/-- The address that a mode of R238 uses, and the pointer afterwards; `unit` is 1, or 4 bytes in E space (R216). -/
def Spe.ea (x : Spe) (k mode : Nat) (unit : Int) : Nat × Nat :=
  let p := x.reg (cP k)
  let st : Int := signed 32 (x.reg (0x18 + k)) * unit
  match mode with
  | 1 => (p, x.stepped k unit)
  | 2 => (p, x.stepped k (-unit))
  | 3 => (p, x.stepped k st)
  | 4 => (lowBits 32 ((p : Int) + st), p)
  | 5 => (p, x.reversed k)
  | _ => (p, p)

/-- The pointer update of an access, seen from i+1 (R219). -/
def Spe.bump (x : Spe) (k mode new : Nat) : Spe := if mode = 0 ∨ mode = 4 then x else x.write 1 (cP k) new

/-! ## X and Y memory (R206, R207) -/

/-- The bus address of word `a` (its low 15 bits) of X (space 0) or Y (space 1) of SPE `n`. -/
def xyAddr (n space a : Nat) : Nat :=
  0x20000000 + 0x100000 * n + 0x10000 * (space + 1) + 4 * (a % 0x4000) + 0x40000 * (a % 0x8000 / 0x4000)

/-- The bus address of a program word. -/
def progAddr (n a : Nat) : Nat := 0x20000000 + 0x100000 * n + 4 * (a % 0x4000)

/-- A data watchpoint on the address asks for a halt (R231). -/
def speWatch (n space a : Nat) (s : State) : State :=
  if (spe s n).watchpoints.contains (space, a) then s.setSpe n { spe s n with haltAsked := true } else s

/-- A load of a 24-bit word. A word that cannot be resolved answers with a bus error: the load writes 0 (R125, R227). -/
def xyLoad (n space a : Nat) (s : State) : Nat × State :=
  match readWord (2 + n) (xyAddr n space a) .none (speWatch n space (a % 0x8000) s) with
  | (some v, s1) => (v.toNat % 2 ^ 24, s1)
  | (none, s1) => (0, s1.busErrorCause (speMaster n))

/-- A store of a 24-bit word. -/
def xyStore (n space a v : Nat) (s : State) : State :=
  storeWord (xyAddr n space a) (wordOf v) (speWatch n space (a % 0x8000) s)

end Sys2Proof.Machine
end

