-- ==== Sys2Proof/Machine/SpeCore.lean ====
section
/-! DEFINITION. How an SPE runs (spec/10_spe_model.md R211, R219 to R227): issuing one instruction, what follows it, exceptions,
interrupts and the boundaries at which they are taken. -/

namespace Sys2Proof.Machine

/-- The SPE is present, powered and not frozen: it runs in ROW only (R87). -/
def speLive (s : State) (n : Nat) : Bool :=
  decide (n < enginesOf s.variant) && busUp s && decide (s.fld Reg.PWR_STATE 0 3 = 0) && !(frozen s (0x50 + n))

/-- An accepted entry halts the SPE where its atomic unit has ended (R62, R89). -/
def speHalting (s : State) (n : Nat) : Bool := (match s.power.phase with | .entering _ => true | _ => false) && speAtRest s n

/-- The SPE can issue an instruction: it runs, waits for nothing, and no entry to a lower state halts it. -/
def speCan (s : State) (n : Nat) : Bool :=
  speLive s n && decide (speState s n = 1) && decide ((spe s n).stall = none) && !(speHalting s n)

/-- An operation on the engine's own state. -/
def State.onSpe (s : State) (n : Nat) (f : Spe → Spe) : State := s.setSpe n (f (spe s n))

/-! ## The next instruction (R219, R222, R224, R245) -/

/-- The sequential successor of the instruction at `p`: the end of a DO body counts an iteration, the last one pops the loop; a body
that ends where its enclosing body ends counts for both. Answers PC, LC and the loop stack. -/
def seqPc : List SpeLoop → Nat → Nat → Nat × Nat × List SpeLoop
  | [], p, lc => ((p + 1) % 0x4000, lc, [])
  | e :: r, p, lc =>
    if p = e.last then (if 1 < lc then (e.first, lc - 1, e :: r) else seqPc r p e.lc)
    else ((p + 1) % 0x4000, lc, e :: r)

/-- The state after the instruction at `p` where no branch is pending. -/
def Spe.sequential (x : Spe) (p : Nat) : Spe :=
  let r := seqPc x.loops p (x.reg cLC)
  { x.put cLC r.2.1 with pc := r.1, loops := r.2.2 }

/-- A branch reaches its target; a return from interrupt restores SR and the REP count there (R245). -/
def Spe.arrive (x : Spe) (b : SpeBranch) : Spe :=
  let x1 := { x with pc := b.target, branch := none }
  match b.restore with
  | none => x1
  | some (sr, rep) => { x1.put cSR sr with queued := x1.queued.filter (fun q => decide (q.code ≠ cSR)), rep := rep }

/-- PC moves on after a completed instruction. -/
def Spe.nextPc (x : Spe) : Spe :=
  match x.branch with
  | some b => if b.slots ≤ 1 then x.arrive b else { x with pc := (x.pc + 1) % 0x4000, branch := some { b with slots := b.slots - 1 } }
  | none => x.sequential x.pc

/-- An ordinary instruction completes: one iteration of a REP, or one step of PC. -/
def Spe.advance (x : Spe) : Spe :=
  let x1 := { x with count := x.count + 1, repFresh := false }
  if x1.rep = 0 then x1.nextPc
  else if x1.rep = 1 then { x1 with rep := 0, chunk := 0 }.nextPc
  else { x1 with rep := x1.rep - 1, chunk := x1.chunk - 1 }

/-- A branch, taken or not: two delay slots, then the target (R219, R245). -/
def Spe.jump (x : Spe) (b : SpeBranch) : Spe :=
  { x with count := x.count + 1, pc := (x.pc + 1) % 0x4000, branch := some { b with slots := 2 } }

/-! ## Exceptions (R227) -/

/-- The vector of an exception. -/
def excVector (code : Nat) : Nat := 4 * code

/-- The SPE halts in EXC_HALT. -/
def speExcHalt (n code : Nat) (s : State) : State :=
  let s1 := (s.wr (Reg.SPE_EXC n) (wordOf (0x10000000 * code + (spe s n).pc))).cause (Reg.SPE n) 0
  (s1.onSpe n fun x => { x with branch := none, chunk := 0, stall := none, haltAsked := false, stepping := false }).speTo n 6

/-- Entry to a vector: PC, SR and the REP count are pushed, and SR is set; `exc` marks the entry of an exception. -/
def speEnter (n vector sr : Nat) (exc : Bool) (s : State) : State :=
  (s.onSpe n fun x =>
    { x.put cSR sr with
      stack := { pc := x.pc, status := some (x.reg cSR, x.rep), exc := exc } :: x.stack, pc := vector, rep := 0, chunk := 0, repFresh := false,
      branch := none }).speTo n 1

/-- An exception; PC names what is pushed. A second one before RTI, and a push onto a full stack, halt the SPE. -/
def speExcept (n code : Nat) (s : State) : State :=
  let x := (spe s n).settleSR
  if code = 6 then speExcHalt n 6 s
  else if x.excActive then speExcHalt n 7 s
  else if 16 ≤ x.stack.length then speExcHalt n 6 s
  else
    let s1 := (s.wr (Reg.SPE_EXC n) (wordOf (0x10000000 * code + x.pc))).cause (Reg.SPE n) 0
    speEnter n (excVector code) (x.reg cSR % 2 ^ 21 + 3 * 2 ^ 21) true (s1.setSpe n { x with excActive := true })

/-! ## Boundaries (R226, R231) -/

/-- A halt that the debug port asked for or a breakpoint met before, a breakpoint here, or a single step whose instruction is `done`. -/
def speHaltCheck (n : Nat) (done : Bool) (s : State) : State :=
  let x := spe s n
  if x.haltAsked || (x.stepping && done) || x.breakpoints.contains x.pc then
    (s.setSpe n { x with haltAsked := false, stepping := false, resumeTo := speState s n }).speTo n 5
  else s

/-- What happens at a boundary that qualifies: a stopping SPE stops, a bus error is taken, a halt takes effect. -/
def speBoundary (n : Nat) (s : State) : State :=
  if !(speAtRest s n) then s
  else if s.flag (Reg.SPE n + 0x00C) 1 then speStopIfRest n s
  else if !(decide (speState s n = 1 ∨ speState s n = 2)) then s
  else if (spe s n).busError then
    let s1 := speExcept n 2 (s.onSpe n fun x => { x with busError := false })
    if speState s1 n = 1 then speHaltCheck n true s1 else s1
  else speHaltCheck n true s

/-- The SPE stands before an instruction without having executed one: a single step still has its own to do (R231). -/
def speArrived (n : Nat) (s : State) : State := if speState s n = 1 then speHaltCheck n false s else s

/-! ## Issuing (R219, R220, R232) -/

/-- The instruction stands where R220 and R237 forbid it. A VMAX or VMIN in progress continues. -/
def misplaced (x : Spe) (w : Word) : Bool :=
  noSlot w && (decide (x.branch ≠ none) || x.repFresh || (decide (x.rep ≠ 0) && decide (opClass w = 5)))

/-- The engine as an instruction sees it: what is visible by now is settled (R219), a REP chunk begins where none is in progress (R223), and a
breakpoint on an instruction that no qualifying boundary precedes asks for a halt at the next one (R231). -/
def Spe.issue (x : Spe) (cap : Nat) : Spe :=
  let y := x.settle
  { y with chunk := if y.rep ≠ 0 ∧ y.chunk = 0 then min y.rep cap else y.chunk,
           haltAsked := y.haltAsked || (y.breakpoints.contains y.pc && (decide (y.branch ≠ none) || decide (y.chunk ≠ 0))) }

/-- One SPE cycle of an instruction: nothing unless the SPE can issue and the word is of the class and op. An undefined or misplaced word
raises ILLEGAL. Otherwise the meaning runs, and answers 0 or the exception it raises at its own PC. -/
def speRun (cls op n : Nat) (w : Word) (body : State → State × Nat) (s : State) : State :=
  if speCan s n ∧ opClass w = cls ∧ opCode w = op then
    let x1 := (spe s n).issue (s.fld (Reg.SPE_REP_CAP n) 0 16)
    let s1 := s.setSpe n x1
    if !(legalWord w) || misplaced x1 w then speBoundary n (speExcept n 1 s1)
    else
      let (s2, code) := body (s1.wr (Reg.SPE_PC n) (wordOf x1.pc))
      speBoundary n (if code = 0 then s2 else speExcept n code s2)
  else s

/-- A meaning that raises no exception and is followed by the next instruction. -/
def spePlain (n : Nat) (f : State → State) (s : State) : State × Nat := ((f s).onSpe n Spe.advance, 0)

/-- A meaning that concerns the engine's registers alone. -/
def speRegs (cls op n : Nat) (w : Word) (f : Spe → Spe) (s : State) : State :=
  speRun cls op n w (spePlain n fun t => t.onSpe n f) s

/-! ## Interrupts (R225, R226) -/

/-- The level of a source in IPRIO0 to IPRIO3. -/
def speLevel (s : State) (n src : Nat) : Nat := s.fld (Reg.SPE_IPRIO n (src / 16)) (2 * (src % 16)) 2

/-- The routed, asserted sources whose level is above `ipl`, in rising order. -/
def spePending (s : State) (n ipl : Nat) : List Nat :=
  (List.range 64).filter fun k => s.flag (Reg.EVT_ROUTE k) (4 + n) && sourceOn s k && decide (ipl < speLevel s n k)

/-- The source that goes first: the highest level, then the lowest number. -/
def speFirst (s : State) (n ipl : Nat) : Option Nat :=
  [3, 2, 1].findSome? fun l => (spePending s n ipl).find? fun k => decide (speLevel s n k = l)

/-- A source is taken: entry to its vector. -/
def speTake (n src : Nat) (s : State) : State :=
  let x := (spe s n).settleSR
  if 16 ≤ x.stack.length then speExcHalt n 6 s
  else
    let sr := x.reg cSR
    speEnter n (0x40 + 4 * src) (sr / 2 ^ 23 * 2 ^ 23 + speLevel s n src * 2 ^ 21 + sr % 2 ^ 21) false (s.setSpe n x)

/-- The front of an event of SPE `n`. -/
def speEvent (n : Nat) (f : State → State) (s : State) : State := if speLive s n then f s else s

/-- The interrupt of a running SPE at a boundary that qualifies. -/
def speInterrupt (n : Nat) (s : State) : State :=
  if speCan s n ∧ speAtRest s n then
    let x := (spe s n).settle
    if x.ie then
      match speFirst s n x.ipl with
      | some src => speArrived n (speTake n src (s.setSpe n x))
      | none => s
    else s
  else s

/-- WAIT ends when a routed source above IPL asserts (R245): an interrupt with IE 1, the next instruction with IE 0. -/
def speWaitResume (n : Nat) (s : State) : State :=
  if speState s n = 2 then
    let x := (spe s n).settle
    match speFirst s n x.ipl with
    | some src => speArrived n (if x.ie then speTake n src (s.setSpe n x) else (s.setSpe n x).speTo n 1)
    | none => s
  else s

end Sys2Proof.Machine
end

