-- ==== Sys2Proof/Machine/SpeArith.lean ====
section
/-! DEFINITION. The P-format and I-format instructions (spec/11_spe_isa.md R233, R234, R237). -/

namespace Sys2Proof.Machine

/-! ## Parallel moves (R233, R234) -/

/-- The pointer of a parallel move: P0, P1, P4, P5 for X, P2, P3, P6, P7 for Y. -/
def movePtr (space c : Nat) : Nat := c / 2 * 4 + c % 2 + 2 * space

/-- One parallel move. It reads the registers as they were before the instruction; a load is seen from i+2, the pointer from i+1. -/
def parMove (n space f : Nat) (s : State) : State :=
  let x := spe s n
  let k := movePtr space (f / 2 % 4)
  let r := f / 8 % 8
  let mode := if f % 2 = 0 then 1 else 3
  let (a, new) := x.ea k mode 1
  let bump (t : State) : State := t.onSpe n fun y => y.bump k mode new
  match f / 64 % 4 with
  | 1 =>
    let (v, s1) := xyLoad n space a s
    bump (s1.onSpe n fun y => y.write 2 r v)
  | 2 => bump (xyStore n space a (x.reg r) s)
  | 3 =>
    let (v, l) := accTo24 x.rm (x.acc r)
    bump ((xyStore n space a v s).onSpe n fun y => y.limited l)
  | _ => s

/-- Both parallel moves of a P-format word. -/
def parMoves (n : Nat) (w : Word) (s : State) : State := parMove n 1 (bits w 0 8) (parMove n 0 (bits w 8 8) s)

/-! ## Fields and results -/

/-- Fields Ad, Dj and Dk of a P-format word. -/
def fAd (w : Word) : Nat := bits w 22 2
def fDj (w : Word) : Nat := bits w 19 3
def fDk (w : Word) : Nat := bits w 16 3

/-- The accumulator operand and result of a P-format word. -/
def Spe.ad (x : Spe) (w : Word) : Int := x.acc (fAd w)

/-- Dj converted to an accumulator (R212). -/
def Spe.dj (x : Spe) (w : Word) : Int := toAcc (x.reg (fDj w))

/-- The exact Q1.47 product of Dj and Dk (R213). -/
def Spe.product (x : Spe) (w : Word) : Int := x.dReg (fDj w) * x.dReg (fDk w) * 2

/-- An accumulator result stored with flags N, Z, V, E and L. -/
def Spe.result (x : Spe) (k : Nat) (r : AccRes) : Spe := (x.setAcc k r.val).flags (flagsNZVE r)

/-- An accumulator result stored with flags N, Z, V, C, E and L. -/
def Spe.resultC (x : Spe) (k : Nat) (r : AccRes) (c : Bool) : Spe := (x.setAcc k r.val).flags (flagsNZVCE r c)

/-- A sum stored, a difference stored, and the flags of a difference. -/
def Spe.addTo (x : Spe) (k : Nat) (b : Int) : Spe := x.resultC k (accFit x.sm (x.acc k + b)) (addCarry (x.acc k) b)
def Spe.subFrom (x : Spe) (k : Nat) (b : Int) : Spe := x.resultC k (accFit x.sm (x.acc k - b)) (subBorrow (x.acc k) b)
def Spe.compare (x : Spe) (k : Nat) (b : Int) : Spe :=
  x.flags (flagsNZVCE { accFit x.sm (x.acc k - b) with l := false } (subBorrow (x.acc k) b))

/-- A copy: N, Z and E from the value, V cleared. -/
def Spe.copyTo (x : Spe) (k : Nat) (v : Int) : Spe := x.result k ⟨v, false, false⟩

/-- A logical result on all 56 bits: N and Z from it, V cleared. -/
def Spe.logicTo (x : Spe) (k v : Nat) : Spe :=
  (x.write 1 (cA k) v).flags
    (flN + flZ + flV, flagIf (decide (2 ^ 55 ≤ v % 2 ^ 56)) flN + flagIf (decide (v % 2 ^ 56 = 0)) flZ)

/-- The bits of an accumulator and of an operand converted by R212. -/
def Spe.adBits (x : Spe) (k : Nat) : Nat := x.reg (cA k) % 2 ^ 56
def opBits (v : Nat) : Nat := lowBits 56 (toAcc v)

/-- A P-format instruction: the arithmetic on the registers, with the parallel moves. -/
def speP (op n : Nat) (w : Word) (f : Spe → Spe) (s : State) : Answer :=
  .next (speRun 0 op n w (spePlain n fun t => parMoves n w (t.onSpe n f)) s)

/-! ## P-format -/

/-- P_MOVE (R237): moves only (R233). -/
def execPMove (n : Nat) (w : Word) (s : State) : Answer :=
  speP 0x00 n w (fun x => x) s
/-- MUL (R237): Ad receives Dj × Dk. -/
def execMul (n : Nat) (w : Word) (s : State) : Answer :=
  speP 0x01 n w (fun x => x.result (fAd w) (accFit x.sm (x.product w))) s
/-- MULN (R237): Ad receives −(Dj × Dk). -/
def execMuln (n : Nat) (w : Word) (s : State) : Answer :=
  speP 0x02 n w (fun x => x.result (fAd w) (accFit x.sm (-(x.product w)))) s
/-- FMA (R237): Ad receives Ad + Dj × Dk. -/
def execFma (n : Nat) (w : Word) (s : State) : Answer :=
  speP 0x03 n w (fun x => x.result (fAd w) (accFit x.sm (x.ad w + x.product w))) s
/-- FMS (R237): Ad receives Ad − Dj × Dk. -/
def execFms (n : Nat) (w : Word) (s : State) : Answer :=
  speP 0x04 n w (fun x => x.result (fAd w) (accFit x.sm (x.ad w - x.product w))) s
/-- MULR (R237): as MUL, then rounded at bit 23. -/
def execMulr (n : Nat) (w : Word) (s : State) : Answer :=
  speP 0x05 n w (fun x => x.result (fAd w) (accRound x.sm x.rm (accFit x.sm (x.product w)))) s
/-- FMAR (R237): as FMA, then rounded at bit 23. -/
def execFmar (n : Nat) (w : Word) (s : State) : Answer :=
  speP 0x06 n w (fun x => x.result (fAd w) (accRound x.sm x.rm (accFit x.sm (x.ad w + x.product w)))) s
/-- ADD (R237): Ad receives Ad + Dj. -/
def execAdd (n : Nat) (w : Word) (s : State) : Answer :=
  speP 0x08 n w (fun x => x.addTo (fAd w) (x.dj w)) s
/-- SUB (R237): Ad receives Ad − Dj. -/
def execSub (n : Nat) (w : Word) (s : State) : Answer :=
  speP 0x09 n w (fun x => x.subFrom (fAd w) (x.dj w)) s
/-- ADDA (R237): Ad receives Ad + Ak. -/
def execAdda (n : Nat) (w : Word) (s : State) : Answer :=
  speP 0x0A n w (fun x => x.addTo (fAd w) (x.acc (fDk w))) s
/-- SUBA (R237): Ad receives Ad − Ak. -/
def execSuba (n : Nat) (w : Word) (s : State) : Answer :=
  speP 0x0B n w (fun x => x.subFrom (fAd w) (x.acc (fDk w))) s
/-- CMP (R237): the flags of Ad − Dj. -/
def execCmp (n : Nat) (w : Word) (s : State) : Answer :=
  speP 0x0C n w (fun x => x.compare (fAd w) (x.dj w)) s
/-- CMPA (R237): the flags of Ad − Ak. -/
def execCmpa (n : Nat) (w : Word) (s : State) : Answer :=
  speP 0x0D n w (fun x => x.compare (fAd w) (x.acc (fDk w))) s
/-- COPY (R237): Ad receives Dj. -/
def execCopy (n : Nat) (w : Word) (s : State) : Answer :=
  speP 0x0E n w (fun x => x.copyTo (fAd w) (x.dj w)) s
/-- COPYA (R237): Ad receives Ak. -/
def execCopya (n : Nat) (w : Word) (s : State) : Answer :=
  speP 0x0F n w (fun x => x.copyTo (fAd w) (x.acc (fDk w))) s
/-- ABS (R237): Ad receives |Ad|. The spec does not say what C of ABS is: a free value. -/
def execAbsA (n : Nat) (w : Word) (s : State) : Answer :=
  .next (speRun 0 0x10 n w (spePlain n fun t =>
    parMoves n w (t.drawn.onSpe n fun x =>
      x.resultC (fAd w) (accFit x.sm (x.ad w).natAbs) (decide (Config.freeNat t.freeCtr % 2 = 1)))) s)
/-- NEG (R237): Ad receives −Ad; C is the borrow. -/
def execNeg (n : Nat) (w : Word) (s : State) : Answer :=
  speP 0x11 n w (fun x => x.resultC (fAd w) (accFit x.sm (-(x.ad w))) (subBorrow 0 (x.ad w))) s
/-- CLR (R237): Ad receives 0. -/
def execClr (n : Nat) (w : Word) (s : State) : Answer :=
  speP 0x12 n w (fun x => x.copyTo (fAd w) 0) s
/-- ROUND (R237): Ad is rounded at bit 23. -/
def execRound (n : Nat) (w : Word) (s : State) : Answer :=
  speP 0x13 n w (fun x => x.result (fAd w) (accRound x.sm x.rm ⟨x.ad w, false, false⟩)) s
/-- SHL1 (R237): Ad is shifted left by one; C is bit 55 shifted out. -/
def execShl1 (n : Nat) (w : Word) (s : State) : Answer :=
  speP 0x14 n w (fun x => x.resultC (fAd w) (accFit x.sm (x.ad w * 2)) (decide (x.ad w < 0))) s
/-- SHR1 (R237): Ad is shifted right by one, arithmetically; C is bit 0. -/
def execShr1 (n : Nat) (w : Word) (s : State) : Answer :=
  speP 0x15 n w (fun x => x.resultC (fAd w) (accFit x.sm (x.ad w / 2)) (decide (x.ad w % 2 = 1))) s
/-- SAT (R237): Ad is limited to Q1.47 whatever SM is. -/
def execSat (n : Nat) (w : Word) (s : State) : Answer :=
  speP 0x16 n w (fun x => x.result (fAd w) (accFit true (x.ad w))) s
/-- AND (R237): all 56 bits of Ad and Dj. -/
def execAndA (n : Nat) (w : Word) (s : State) : Answer :=
  speP 0x17 n w (fun x => x.logicTo (fAd w) (x.adBits (fAd w) &&& opBits (x.reg (fDj w)))) s
/-- OR (R237): all 56 bits of Ad or Dj. -/
def execOrA (n : Nat) (w : Word) (s : State) : Answer :=
  speP 0x18 n w (fun x => x.logicTo (fAd w) (x.adBits (fAd w) ||| opBits (x.reg (fDj w)))) s
/-- XOR (R237): all 56 bits of Ad exclusive-or Dj. -/
def execXor (n : Nat) (w : Word) (s : State) : Answer :=
  speP 0x19 n w (fun x => x.logicTo (fAd w) (x.adBits (fAd w) ^^^ opBits (x.reg (fDj w)))) s
/-- NOT (R237): all 56 bits of Ad inverted. -/
def execNotA (n : Nat) (w : Word) (s : State) : Answer :=
  speP 0x1A n w (fun x => x.logicTo (fAd w) (2 ^ 56 - 1 - x.adBits (fAd w))) s

/-! ## I-format -/

/-- Ad of an I-format word, and its immediate. -/
def iAd (w : Word) : Nat := bits w 24 2
def imm24 (w : Word) : Nat := bits w 0 24

/-- ADDI (R237): ADD with the immediate for Dj. -/
def execAddi (n : Nat) (w : Word) (s : State) : Answer :=
  .next (speRegs 1 0 n w (fun x => x.addTo (iAd w) (toAcc (imm24 w))) s)
/-- SUBI (R237): SUB with the immediate for Dj. -/
def execSubi (n : Nat) (w : Word) (s : State) : Answer :=
  .next (speRegs 1 1 n w (fun x => x.subFrom (iAd w) (toAcc (imm24 w))) s)
/-- CMPI (R237): CMP with the immediate for Dj. -/
def execCmpi (n : Nat) (w : Word) (s : State) : Answer :=
  .next (speRegs 1 2 n w (fun x => x.compare (iAd w) (toAcc (imm24 w))) s)
/-- ANDI (R237): AND with the immediate for Dj. -/
def execAndi (n : Nat) (w : Word) (s : State) : Answer :=
  .next (speRegs 1 3 n w (fun x => x.logicTo (iAd w) (x.adBits (iAd w) &&& opBits (imm24 w))) s)
/-- ORI (R237): OR with the immediate for Dj. -/
def execOri (n : Nat) (w : Word) (s : State) : Answer :=
  .next (speRegs 1 4 n w (fun x => x.logicTo (iAd w) (x.adBits (iAd w) ||| opBits (imm24 w))) s)
/-- XORI (R237): XOR with the immediate for Dj. -/
def execXori (n : Nat) (w : Word) (s : State) : Answer :=
  .next (speRegs 1 5 n w (fun x => x.logicTo (iAd w) (x.adBits (iAd w) ^^^ opBits (imm24 w))) s)
/-- COPYI (R237): COPY with the immediate for Dj. -/
def execCopyi (n : Nat) (w : Word) (s : State) : Answer :=
  .next (speRegs 1 6 n w (fun x => x.copyTo (iAd w) (toAcc (imm24 w))) s)

end Sys2Proof.Machine
end

