-- ==== Sys2Proof/Machine/SpeMove.lean ====
section
/-! DEFINITION. The L-format and M-format instructions: moves, loads, stores, E space, queues (spec/11_spe_isa.md R235 to R238, R244,
spec/10_spe_model.md R228). -/

namespace Sys2Proof.Machine

/-! ## L-format -/

/-- The register code of an L-format word. -/
def lCode (w : Word) : Nat := if bits w 24 5 < 8 then bits w 24 5 else bits w 24 5 + 8

/-- The immediate as its register receives it: sign-extended into S, zero-extended elsewhere, cut to the width (R236). -/
def lValue (c imm : Nat) : Nat := if 0x18 ≤ c ∧ c < 0x20 then lowBits 32 (signed 24 imm) else imm % 2 ^ regWidth c

/-- LDI (R237). -/
def execLdi (n : Nat) (w : Word) (s : State) : Answer :=
  .next (speRegs 3 (bits w 24 5) n w (fun x => x.write (loadDelay (lCode w)) (lCode w) (lValue (lCode w) (imm24 w))) s)

/-! ## Moves, loads and stores -/

/-- Fields rd or rs, the second register of MOVE, pointer and mode of an M-format word. -/
def mReg (w : Word) : Nat := bits w 18 6
def mSrc (w : Word) : Nat := bits w 12 6
def mPtr (w : Word) : Nat := bits w 15 3
def mMode (w : Word) : Nat := bits w 12 3

/-- MOVE (R236). -/
def execMove (n : Nat) (w : Word) (s : State) : Answer :=
  .next (speRegs 2 0x00 n w (fun x =>
    let (v, l) := convTo x.rm (mReg w) (x.val (mSrc w))
    (x.write (moveDelay (mReg w)) (mReg w) v).limited l) s)

/-- A loaded value enters register `c`; `back` instructions have passed since the load issued. -/
def Spe.loaded (x : Spe) (back c : Nat) (v : SpeVal) : Spe := x.write (loadDelay c - back) c (convTo x.rm c v).1

/-- A load from X or Y at the address that the mode yields. -/
def xyLoadEa (n space : Nat) (w : Word) (s : State) : State :=
  let x := spe s n
  let (a, new) := x.ea (mPtr w) (mMode w) 1
  let (v, s1) := xyLoad n space a s
  s1.onSpe n fun y => (y.bump (mPtr w) (mMode w) new).loaded 0 (mReg w) (.d v)

/-- A store of a register to X or Y at an address (R215, R236). -/
def xyStoreReg (n space a c : Nat) (s : State) : State :=
  let x := spe s n
  let (v, l) := to24 x.rm (x.val c)
  (xyStore n space a v s).onSpe n fun y => y.limited l

/-- A store to X or Y at the address that the mode yields. -/
def xyStoreEa (n space : Nat) (w : Word) (s : State) : State :=
  let x := spe s n
  let (a, new) := x.ea (mPtr w) (mMode w) 1
  (xyStoreReg n space a (mReg w) s).onSpe n fun y => y.bump (mPtr w) (mMode w) new

/-- An absolute load from X or Y. -/
def xyLoadAbs (n space : Nat) (w : Word) (s : State) : State :=
  let (v, s1) := xyLoad n space (bits w 0 15) s
  s1.onSpe n fun y => y.loaded 0 (mReg w) (.d v)

/-- An M-format instruction followed by the next one. -/
def speM (op n : Nat) (w : Word) (f : State → State) (s : State) : Answer := .next (speRun 2 op n w (spePlain n f) s)

/-- LDX (R238). -/
def execLdx (n : Nat) (w : Word) (s : State) : Answer := speM 0x01 n w (xyLoadEa n 0 w) s
/-- LDY (R238). -/
def execLdy (n : Nat) (w : Word) (s : State) : Answer := speM 0x02 n w (xyLoadEa n 1 w) s
/-- STX (R238). -/
def execStx (n : Nat) (w : Word) (s : State) : Answer := speM 0x03 n w (xyStoreEa n 0 w) s
/-- STY (R238). -/
def execSty (n : Nat) (w : Word) (s : State) : Answer := speM 0x04 n w (xyStoreEa n 1 w) s
/-- LDXA (R237). -/
def execLdxa (n : Nat) (w : Word) (s : State) : Answer := speM 0x05 n w (xyLoadAbs n 0 w) s
/-- LDYA (R237). -/
def execLdya (n : Nat) (w : Word) (s : State) : Answer := speM 0x06 n w (xyLoadAbs n 1 w) s
/-- STXA (R237). -/
def execStxa (n : Nat) (w : Word) (s : State) : Answer := speM 0x07 n w (xyStoreReg n 0 (bits w 0 15) (mReg w)) s
/-- STYA (R237). -/
def execStya (n : Nat) (w : Word) (s : State) : Answer := speM 0x08 n w (xyStoreReg n 1 (bits w 0 15) (mReg w)) s

/-- LUI (R237): the upper half of Pn; the lower half is kept. -/
def execLui (n : Nat) (w : Word) (s : State) : Answer :=
  .next (speRegs 2 0x09 n w (fun x => x.later 3 (cP (bits w 21 3)) 0xFFFF0000 (0x10000 * bits w 0 16)) s)

/-- MODP (R237): the pointer update of an access, without the access; the new value is seen by address generation from i+3 (hazard A). -/
def execModp (n : Nat) (w : Word) (s : State) : Answer :=
  .next (speRegs 2 0x0A n w (fun x =>
    if mMode w = 0 ∨ mMode w = 4 then x else x.write 3 (cP (mPtr w)) (x.ea (mPtr w) (mMode w) 1).2) s)

/-! ## E space (R216, R244) -/

/-- LDE (R244): the pipeline stalls until the read has been answered. -/
def execLde (n : Nat) (w : Word) (s : State) : Answer :=
  .next (speRun 2 0x0B n w (spePlain n fun t =>
    let (a, new) := (spe t n).ea (mPtr w) (mMode w) 4
    let t1 := if (spe t n).watchpoints.contains (2, a) then t.onSpe n fun y => { y with haltAsked := true } else t
    (t1.onSpe n fun y => { y.bump (mPtr w) (mMode w) new with stall := some (.read (mReg w) a) }).speTo n 3) s)

/-- STE (R244, R246): the write is posted; with two writes posted the pipeline stalls until one completes. -/
def execSte (n : Nat) (w : Word) (s : State) : Answer :=
  .next (speRun 2 0x0C n w (spePlain n fun t =>
    let x := spe t n
    let (a, new) := x.ea (mPtr w) (mMode w) 4
    let v := wordOf (to32 (x.val (mReg w)))
    let t0 := if x.watchpoints.contains (2, a) then t.onSpe n fun y => { y with haltAsked := true } else t
    let t1 := t0.onSpe n fun y => y.bump (mPtr w) (mMode w) new
    if x.posted.length < 2 then t1.onSpe n fun y => { y with posted := y.posted ++ [(a, v)] }
    else (t1.onSpe n fun y => { y with stall := some (.write a v) }).speTo n 3) s)

/-- A posted write completes on the bus, the oldest first; a bus error raises BUS_ERROR at the next qualifying boundary (R227, R244). -/
def postedDone (n : Nat) (s : State) : State :=
  match (spe s n).posted with
  | [] => s
  | (a, v) :: r =>
    let (ok, s1) := busWrite (speMaster n) a 4 v .none (s.onSpe n fun y => { y with posted := r })
    speBoundary n (if ok then s1 else s1.busErrorCause (speMaster n))

/-! ## Queue instructions (R228) -/

/-- The queue that a queue instruction names. -/
def speQueue (x : Spe) (w : Word) : Nat := if bit w 17 then x.reg (cP (bits w 14 3)) % 512 else bits w 0 9

/-- The flag QE of a queue instruction. -/
def Spe.qe (x : Spe) (b : Bool) : Spe := x.flags (0x10000, flagIf b 0x10000)

/-- An SPE instruction names an absent queue: source 2 is raised under R5. -/
def speAbsentQueue (n q off : Nat) (write : Bool) (s : State) : State := absentRecord (speMaster n) (qAddr q off) write s

/-- PUSH by an SPE: what R166 refuses sets QE; a push that the queue refuses sets QF, an accepted one clears it. -/
def speQPush (n q : Nat) (v : Word) (s : State) : State :=
  if queuePresent s q = false then (speAbsentQueue n q 0x00 true s).onSpe n fun x => x.qe true
  else if s.fld (qAddr q 0x10) 8 8 ≠ 0 then (s.queueError q 3 0x05 0x00 (speMaster n)).onSpe n fun x => x.qe true
  else if (queue s q).pktOpen ∧ 65535 ≤ (queue s q).pktLen then
    (s.queueError q 3 0x09 0x00 (speMaster n)).onSpe n fun x => (x.qe false).flags (0x20000, 0x20000)
  else
    let (s1, ok) := qPush q v s
    s1.onSpe n fun x => (x.qe false).flags (0x20000, flagIf (!ok) 0x20000)

/-- The pop of an SPE waits for a fill: the head is empty and AVAIL is above 0 (R168). -/
def spePopWaits (s : State) (q : Nat) : Bool :=
  let x := queue s q
  queuePresent s q && decide (s.fld (qAddr q 0x10) 16 8 = 0) && qEnabled s q && !x.flushing && !x.lengthLost
    && decide (x.head = []) && decide (0 < qAvail s q)

/-- What a pop writes: the destination, QT and LW, and QE. -/
def Spe.popped (x : Spe) (back c : Nat) (v tag : Nat) (len qe : Bool) : Spe :=
  (x.loaded back c (.w v)).later (2 - back) cSR (0xE000 + 0x1000 + 0x10000)
    (tag % 8 * 0x2000 + flagIf len 0x1000 + flagIf qe 0x10000)

/-- POP by an SPE, `back` instructions after it issued. A refused pop returns 0; QT and LW, which every pop writes, have no stated value
then: free values. -/
def speQPop (n c q back : Nat) (s : State) : State :=
  let f := Config.freeNat s.freeCtr
  let bad (t : State) : State := t.drawn.onSpe n fun x => x.popped back c 0 (f % 8) (decide (f / 8 % 2 = 1)) true
  if queuePresent s q = false then bad (speAbsentQueue n q 0x04 false s)
  else if s.fld (qAddr q 0x10) 16 8 ≠ 0 then bad (s.queueError q 3 0x06 0x04 (speMaster n))
  else
    let (p, s1) := qPop q s
    (lastTag q p s1).onSpe n fun x => x.popped back c p.word.toNat p.tag p.isLength false

/-- PUSH (R228). -/
def execSpePush (n : Nat) (w : Word) (s : State) : Answer :=
  speM 0x10 n w (fun t => speQPush n (speQueue (spe t n) w) (wordOf (to32 ((spe t n).val (mReg w)))) t) s

/-- POP (R228): it stalls while its word is on its way (R221). -/
def execSpePop (n : Nat) (w : Word) (s : State) : Answer :=
  speM 0x11 n w (fun t =>
    let q := speQueue (spe t n) w
    if spePopWaits t q then (t.onSpe n fun y => { y with stall := some (.pop (mReg w) q) }).speTo n 4
    else speQPop n (mReg w) q 0 t) s

/-- QCMD (R228): a queue command as a REG master. QE names an absent queue, or one with neither side bound to REG. -/
def execQcmd (n : Nat) (w : Word) (s : State) : Answer :=
  speM 0x12 n w (fun t =>
    let q := speQueue (spe t n) w
    if queuePresent t q = false then (speAbsentQueue n q 0x1C true t).onSpe n fun x => x.qe true
    else
      let notReg := decide (t.fld (qAddr q 0x10) 8 8 ≠ 0) && decide (t.fld (qAddr q 0x10) 16 8 ≠ 0)
      (cmdWrite (speMaster n) q (wordOf (bits w 9 4)) t).onSpe n fun x => x.qe notReg) s

/-! ## The end of a stall (R221) -/

/-- The pipeline resumes. -/
def speResume (n : Nat) (s : State) : State := speBoundary n ((s.onSpe n fun y => { y with stall := none }).speTo n 1)

/-- The access or pop that the pipeline waits for completes: an E read once every posted write has completed, a third E write once a
post slot is free, a pop once its word is there. -/
def speStallEnd (n : Nat) (s : State) : State :=
  let x := spe s n
  match x.stall with
  | none => s
  | some (.read c a) =>
    if x.posted = [] then
      match busRead (speMaster n) a 4 .none s with
      | (some v, s1) => speResume n (s1.onSpe n fun y => y.loaded 1 c (.w v.toNat))
      | (none, s1) => speResume n ((s1.busErrorCause (speMaster n)).onSpe n fun y => y.loaded 1 c (.w 0))
    else s
  | some (.write a v) =>
    if x.posted.length < 2 then speResume n (s.onSpe n fun y => { y with posted := y.posted ++ [(a, v)] }) else s
  | some (.pop c q) => if spePopWaits s q then s else speResume n (speQPop n c q 1 s)

end Sys2Proof.Machine
end

