-- ==== Sys2Proof/Machine/SpeSearch.lean ====
section
/-! DEFINITION. The S-format instructions: search, division, normalisation, shifts, SR (spec/11_spe_isa.md R237, R240 to R243). -/

namespace Sys2Proof.Machine

/-! ## MAXI, MINI, VMAX, VMIN (R240, R241) -/

/-- Fields of a search instruction: space and pointer. -/
def sSpace (w : Word) : Nat := bits w 21 1
def sPtr (w : Word) : Nat := bits w 18 3

/-- One search step on word `v` at address `a`: whether it wins, Ad and IX. -/
def searchStep (min : Bool) (k a v : Nat) (x : Spe) : Bool × Spe :=
  let win := if min then decide (toAcc v < x.acc k) else decide (x.acc k < toAcc v)
  (win, if win then (x.setAcc k (toAcc v)).write 2 cIX (a % 0x8000) else x)

/-- MAXI or MINI: C says whether the element won. -/
def speSearch (min : Bool) (n : Nat) (w : Word) (s : State) : State :=
  let x := spe s n
  let (a, new) := x.ea (sPtr w) (bits w 15 3) 1
  let (v, s1) := xyLoad n (sSpace w) a s
  s1.onSpe n fun y =>
    let (win, y1) := searchStep min (fAd w) a v y
    (y1.bump (sPtr w) (bits w 15 3) new).flags (flC, flagIf win flC)

/-- The element count of VMAX and VMIN. -/
def blockCount (x : Spe) (w : Word) : Nat := if bit w 17 then x.reg (bits w 0 3) % 0x10000 else bits w 0 16

/-- One iteration of a block search completes: the last one clears Z and moves on. -/
def Spe.blockNext (x : Spe) : Spe := if x.rep ≤ 1 then (x.flags (flZ, 0)).advance else x.advance

/-- One element of VMAX or VMIN: the first one loads Ad and IX and begins a REP of n iterations; n = 0 only sets Z. -/
def speBlock (min : Bool) (n : Nat) (w : Word) (s : State) : State × Nat :=
  let x := spe s n
  let cnt := blockCount x w
  if x.rep = 0 ∧ cnt = 0 then (s.onSpe n fun y => (y.flags (flZ, flZ)).advance, 0)
  else
    let (a, new) := x.ea (sPtr w) 1 1
    let (v, s1) := xyLoad n (sSpace w) a s
    (s1.onSpe n fun y =>
      let y1 :=
        if x.rep = 0 then
          let y0 := { y with rep := cnt, chunk := Nat.min cnt (s.fld (Reg.SPE_REP_CAP n) 0 16) }
          (y0.setAcc (fAd w) (toAcc v)).write 2 cIX (a % 0x8000)
        else (searchStep min (fAd w) a v y).2
      (y1.bump (sPtr w) 1 new).blockNext, 0)

/-- MAXI (R240). -/
def execMaxi (n : Nat) (w : Word) (s : State) : Answer := .next (speRun 4 0x00 n w (spePlain n (speSearch false n w)) s)
/-- MINI (R240). -/
def execMini (n : Nat) (w : Word) (s : State) : Answer := .next (speRun 4 0x01 n w (spePlain n (speSearch true n w)) s)
/-- VMAX (R241): one element; the sender gives the command once per element. -/
def execVmax (n : Nat) (w : Word) (s : State) : Answer := .next (speRun 4 0x02 n w (speBlock false n w) s)
/-- VMIN (R241). -/
def execVmin (n : Nat) (w : Word) (s : State) : Answer := .next (speRun 4 0x03 n w (speBlock true n w) s)

/-! ## DIV (R242) -/

/-- Quotient, remainder or kept dividend, and overrange of a division. -/
def speDivide (a k : Int) : Int × Int × Bool :=
  if k ≠ 0 ∧ a.natAbs < k.natAbs * 2 ^ 24 then
    let q := a.tdiv (2 * k)
    (q, a - 2 * q * k, false)
  else
    let pos := if k = 0 then decide (0 ≤ a) else decide (a < 0) == decide (k < 0)
    (if pos then 0x7FFFFF else -0x800000, a, true)

/-- DIV (R242). -/
def execDiv (n : Nat) (w : Word) (s : State) : Answer :=
  .next (speRegs 4 0x04 n w (fun x =>
    let (q, a, outside) := speDivide (x.acc (fAd w)) (x.dReg (fDk w))
    let x1 := x.write 1 (fDj w) (lowBits 24 q)
    let x2 := if outside then x1 else x1.setAcc (fAd w) a
    x2.flags (flN + flZ + flV + flagIf outside flL,
      flagIf (decide (q < 0)) flN + flagIf (decide (q = 0)) flZ + flagIf outside flV + flagIf outside flL)) s)

/-! ## Normalisation (R243) -/

/-- The count of SCNT for an accumulator, with a free choice: for the value −1 (all bits 1) the definition of normalised form gives 47 and
the stated range ends at 46, so either of the two. -/
def scntOf (a : Int) (free : Nat) : Int := if a = 0 then 0 else if a = -1 then 46 + ((free % 2 : Nat) : Int) else normCount a

/-- NRM (R243). -/
def execNrm (n : Nat) (w : Word) (s : State) : Answer :=
  .next (speRun 4 0x05 n w (spePlain n fun t =>
    t.drawn.onSpe n fun x =>
      let a := x.acc (fAd w)
      let k := if a = 0 ∨ isNormal a then 0 else scntOf a (Config.freeNat t.freeCtr)
      let b := shiftBy a k
      let x1 := if k = 0 then x else (x.setAcc (fAd w) b).write 1 (fDk w) (lowBits 24 (x.dReg (fDk w) - k))
      x1.flags (flagsNZVE ⟨b, false, false⟩)) s)

/-- SCNT (R243): Z is that of the count. -/
def execScnt (n : Nat) (w : Word) (s : State) : Answer :=
  .next (speRun 4 0x06 n w (spePlain n fun t =>
    t.drawn.onSpe n fun x =>
      let k := scntOf (x.acc (fAd w)) (Config.freeNat t.freeCtr)
      (x.write 1 (fDk w) (lowBits 24 k)).flags (flZ, flagIf (decide (k = 0)) flZ)) s)

/-! ## Shifts (R243) -/

/-- An accumulator shifted by a signed count; a count of 0 leaves it and clears C. -/
def Spe.shiftAcc (x : Spe) (k : Nat) (cnt : Int) : Spe :=
  let a := x.acc k
  if cnt = 0 then x.flags (flagsNZVCE ⟨a, false, false⟩ false)
  else x.resultC k (accFit x.sm (shiftBy a cnt)) (shiftCarry a cnt)

/-- ASH (R243). -/
def execAsh (n : Nat) (w : Word) (s : State) : Answer :=
  .next (speRegs 4 0x07 n w (fun x => x.shiftAcc (fAd w) (signed 6 (x.reg (fDk w)))) s)
/-- ASHI (R243). -/
def execAshi (n : Nat) (w : Word) (s : State) : Answer :=
  .next (speRegs 4 0x08 n w (fun x => x.shiftAcc (fAd w) (sbits w 0 6)) s)

/-! ## SR and SIG (R237, R248) -/

/-- Bits of SR set or cleared: flags from i+2, modes from i+3. -/
def Spe.srBits (x : Spe) (m v : Nat) : Spe := (x.later 2 cSR (m &&& (srMask - srModes)) v).later 3 cSR (m &&& srModes) v

/-- SRSET (R237). -/
def execSrset (n : Nat) (w : Word) (s : State) : Answer := .next (speRegs 4 0x09 n w (fun x => x.srBits (imm24 w) 0xFFFFFF) s)
/-- SRCLR (R237). -/
def execSrclr (n : Nat) (w : Word) (s : State) : Answer := .next (speRegs 4 0x0A n w (fun x => x.srBits (imm24 w) 0) s)
/-- SIG (R237): cause SIG latches. -/
def execSig (n : Nat) (w : Word) (s : State) : Answer := .next (speRun 4 0x0B n w (spePlain n fun t => t.cause (Reg.SPE n) 1) s)

end Sys2Proof.Machine
end

