-- ==== Sys2Proof/Machine/SpeFlow.lean ====
section
/-! DEFINITION. The C-format instructions (spec/11_spe_isa.md R239, R245, spec/10_spe_model.md R219 to R224) and the events of the SPEs:
interrupts, the end of a stall or WAIT, lockstep, debug (R225 to R231). -/

namespace Sys2Proof.Machine

/-! ## Branches, calls, returns -/

/-- Condition and target fields. -/
def fCc (w : Word) : Nat := bits w 15 5
def fTarget (w : Word) : Nat := bits w 0 14

/-- The condition of the word holds under the visible SR. -/
def condTaken (x : Spe) (w : Word) : Bool := condHolds (x.reg cSR) (fCc w)

/-- A branch that is not taken: its delay slots and then the instruction after them. -/
def noBranch (x : Spe) : SpeBranch := { slots := 2, target := (x.pc + 3) % 0x4000 }

/-- A branch to a target where the condition holds. -/
def speBranch (n : Nat) (w : Word) (target : Spe → Nat) (s : State) : State × Nat :=
  (s.onSpe n fun x => x.jump (if condTaken x w then { slots := 2, target := target x % 0x4000 } else noBranch x), 0)

/-- A call where the condition holds: the address of i+3 is pushed. A full system stack is exception 6. -/
def speCall (n : Nat) (w : Word) (target : Spe → Nat) (s : State) : State × Nat :=
  let x := spe s n
  if condTaken x w && decide (16 ≤ x.stack.length) then (s, 6)
  else if condTaken x w then
    (s.onSpe n fun x => { x with stack := { pc := (x.pc + 3) % 0x4000 } :: x.stack }.jump { slots := 2, target := target x % 0x4000 }, 0)
  else (s.onSpe n fun x => x.jump (noBranch x), 0)

/-- A C-format instruction that directs the flow. -/
def speC (op n : Nat) (w : Word) (body : State → State × Nat) (s : State) : Answer := .next (speRun 5 op n w body s)

/-- NOP (R237). -/
def execNop (n : Nat) (w : Word) (s : State) : Answer := .next (speRegs 5 0x00 n w (fun x => x) s)
/-- BRA (R245). -/
def execBra (n : Nat) (w : Word) (s : State) : Answer := speC 0x01 n w (speBranch n w fun _ => fTarget w) s
/-- CALL (R245). -/
def execCall (n : Nat) (w : Word) (s : State) : Answer := speC 0x02 n w (speCall n w fun _ => fTarget w) s
/-- JMPR (R245). -/
def execJmpr (n : Nat) (w : Word) (s : State) : Answer := speC 0x03 n w (speBranch n w fun x => x.reg (cP (bits w 0 3))) s
/-- CALLR (R245). -/
def execCallr (n : Nat) (w : Word) (s : State) : Answer := speC 0x04 n w (speCall n w fun x => x.reg (cP (bits w 0 3))) s

/-- RTS (R227, R245): an empty stack raises STACK. -/
def execRts (n : Nat) (w : Word) (s : State) : Answer :=
  speC 0x05 n w (fun t =>
    let x := spe t n
    if condTaken x w then
      match x.stack with
      | [] => (t, 3)
      | f :: r => (t.onSpe n fun x => { x with stack := r }.jump { slots := 2, target := f.pc }, 0)
    else (t.onSpe n fun x => x.jump (noBranch x), 0)) s

/-- RTI (R227, R245): PC, SR and the REP count come back at the target, and the exception whose entry it pops is over. On an entry that a call
pushed, SR and the count have no stated value: free values. -/
def execRti (n : Nat) (w : Word) (s : State) : Answer :=
  speC 0x06 n w (fun t =>
    match (spe t n).stack with
    | [] => (t, 3)
    | f :: r =>
      let v := Config.freeNat t.freeCtr
      let back := match f.status with
        | some p => p
        | none => (v % 2 ^ 24 &&& srMask, v / 2 ^ 24 % 0x10000)
      let t1 := if f.status = none then t.drawn else t
      (t1.onSpe n fun x =>
        { x with stack := r, excActive := x.excActive && !f.exc }.jump { slots := 2, target := f.pc, restore := some back, isRti := true }, 0)) s

/-! ## REP (R222, R223) -/

/-- A REP of `k` iterations: the first chunk begins with the REP; REP 0 skips the next instruction. -/
def Spe.startRep (x : Spe) (k cap : Nat) : Spe :=
  if k = 0 then { x with count := x.count + 1, pc := (x.pc + 2) % 0x4000 }
  else { x with count := x.count + 1, pc := (x.pc + 1) % 0x4000, rep := k, chunk := min k cap, repFresh := true }

/-- REP (R222). -/
def execRep (n : Nat) (w : Word) (s : State) : Answer :=
  speC 0x07 n w (fun t => (t.onSpe n fun x => x.startRep (bits w 0 16) (t.fld (Reg.SPE_REP_CAP n) 0 16), 0)) s
/-- REPR (R222). -/
def execRepr (n : Nat) (w : Word) (s : State) : Answer :=
  speC 0x08 n w (fun t =>
    (t.onSpe n fun x => x.startRep (x.reg (bits w 0 6) % 0x10000) (t.fld (Reg.SPE_REP_CAP n) 0 16), 0)) s

/-! ## DO (R224) -/

/-- The body from `first` to `last` is legal: at least 2 instructions, and no branch, call, return, REP or DO among its last three. -/
def doBodyOk (n first last : Nat) (s : State) : Bool :=
  decide (first < last)
    && (List.range 3).all fun j => decide (last < first + j) || !(isFlow (s.busWord (progAddr n (last - j))))

/-- A DO of `k` iterations up to `last`: ILLEGAL for a bad body, LOOP for a fifth level; DO 0 skips the body. -/
def speDo (n k last : Nat) (s : State) : State × Nat :=
  let x := spe s n
  let first := (x.pc + 1) % 0x4000
  if !(doBodyOk n first last s) then (s, 1)
  else if k = 0 then (s.onSpe n fun x => { x with count := x.count + 1 }.sequential last, 0)
  else if 4 ≤ x.loops.length then (s, 4)
  else
    (s.onSpe n fun x =>
      { x.put cLC k with loops := { lc := x.reg cLC, first := first, last := last } :: x.loops, count := x.count + 1, pc := first }, 0)

/-- DO (R224). -/
def execDoLoop (n : Nat) (w : Word) (s : State) : Answer := speC 0x09 n w (speDo n (bits w 14 10) (fTarget w)) s
/-- DOR (R224). -/
def execDor (n : Nat) (w : Word) (s : State) : Answer :=
  speC 0x0A n w (fun t => speDo n ((spe t n).reg (bits w 18 6) % 0x10000) (fTarget w) t) s

/-- LPOP (R224): one loop-stack entry is removed; an empty loop stack raises LOOP. -/
def execLpop (n : Nat) (w : Word) (s : State) : Answer :=
  speC 0x0B n w (fun t =>
    match (spe t n).loops with
    | [] => (t, 4)
    | e :: r => (t.onSpe n fun x => { x.put cLC e.lc with loops := r }.advance, 0)) s

/-- WAIT (R245). -/
def execWait (n : Nat) (w : Word) (s : State) : Answer :=
  speC 0x0C n w (fun t => ((t.onSpe n Spe.advance).speTo n 2, 0)) s

/-- TRAP (R227): exception 5, with the next instruction's PC pushed. -/
def execTrap (n : Nat) (w : Word) (s : State) : Answer := speC 0x0D n w (fun t => (t.onSpe n Spe.advance, 5)) s

/-- ILLEGAL_ENCODING (R232): a word that chapter 11 does not define raises ILLEGAL at its own PC. -/
def execIllegalEncoding (n : Nat) (w : Word) (s : State) : Answer :=
  .next (if legalWord w then s else speRun (opClass w) (opCode w) n w (fun t => (t, 0)) s)

/-! ## Interrupts and stalls -/

/-- SPE_INTERRUPT (R225). -/
def execSpeInterrupt (n : Nat) (s : State) : Answer := .next (speInterrupt n s)
/-- SPE_STALL_END (R221). -/
def execSpeStallEnd (n : Nat) (s : State) : Answer := .next (speEvent n (speStallEnd n) s)
/-- SPE_WAIT_RESUME (R245). -/
def execSpeWaitResume (n : Nat) (s : State) : Answer := .next (speEvent n (speWaitResume n) s)
/-- POSTED_E_WRITE_DONE (R244). -/
def execPostedEWriteDone (n : Nat) (s : State) : Answer := .next (speEvent n (postedDone n) s)

/-! ## Lockstep (R230) -/

/-- A mismatch of the cores of an SPE that executes: LOCKSTEP, the PC recorded, line 1 or 2 latched. -/
def lockstepMismatch (n : Nat) (s : State) : State :=
  if 1 ≤ speState s n ∧ speState s n ≤ 4 then
    let x := spe s n
    let s1 := s.setSpe n { x with branch := none, chunk := 0, stall := none, haltAsked := false, stepping := false }
    lineCheck (1 + n) true ((s1.wr (Reg.SPE_LOCK_STAT n) (wordOf (0x80000000 + x.pc))).speTo n 7)
  else s

/-- LOCKSTEP_MISMATCH (R230). -/
def execLockstepMismatch (n : Nat) (s : State) : Answer := .next (speEvent n (lockstepMismatch n) s)

/-! ## Debug (R231) -/

/-- The debug port may halt and step SPEs: in BLANK and DEVELOP, and in RETURNED while the Cox is in SAFE or OFF. -/
def debugControls (s : State) : Bool :=
  decide (lcRule s = 0) || decide (lcRule s = 1) || (decide (lcRule s = 3) && decide (coxState s = 2 ∨ coxState s = 5))

/-- A command of the debug access port to an SPE. -/
def debugRow (n : Nat) (f : State → State) (s : State) : State :=
  if decide (n < enginesOf s.variant) && busUp s && debugControls s then f (s.attach .debug) else s

/-- A halt takes effect at the next boundary that qualifies; an idle SPE and a halted one are not concerned. -/
def debugHalt (n : Nat) (s : State) : State :=
  if 1 ≤ speState s n ∧ speState s n ≤ 4 then speBoundary n (s.onSpe n fun x => { x with haltAsked := true }) else s

/-- A halted SPE continues. -/
def debugResume (n : Nat) (s : State) : State :=
  if speState s n = 5 then s.speTo n (spe s n).resumeTo else s

/-- A halted SPE executes one instruction with its delay slots, or one REP chunk, and halts again. -/
def debugStep (n : Nat) (s : State) : State :=
  if speState s n = 5 then (s.onSpe n fun x => { x with stepping := true }).speTo n (spe s n).resumeTo else s

/-- An entry of a list of at most `k` set or cleared; one that is set beyond them is ignored. -/
def pointSet {α : Type} [BEq α] (k : Nat) (x : α) (on : Bool) (l : List α) : List α :=
  if on then (if l.contains x || decide (k ≤ l.length) then l else l ++ [x]) else l.filter fun y => !(y == x)

/-- What the port does with an SPE beside resume and step (R231; log entry 42). It reads and writes the registers of a halted SPE, as its
next instruction will see them; a write of a register ends the delayed writes to it. -/
def debugDo (n : Nat) (act : DebugAct) (s : State) : State :=
  match act with
  | .halt => debugHalt n s
  | .breakpoint pc on => s.onSpe n fun x => { x with breakpoints := pointSet 4 (pc % 0x4000) on x.breakpoints }
  | .watchpoint sp a on =>
    s.onSpe n fun x => { x with watchpoints := pointSet 2 (sp, if sp < 2 then a % 0x8000 else a) on x.watchpoints }
  | .readReg c h => if 5 ≤ speState s n then s.answer (wordOf ((spe s n).settle.reg c / 2 ^ (32 * h))) false else s
  | .writeReg c v =>
    if 5 ≤ speState s n then
      s.onSpe n fun x => { x.settle with queued := x.settle.queued.filter fun q => q.code != c }.put c (v % 2 ^ regWidth c)
    else s

/-- The unlocked port of a DEPLOYED device may read SPE registers (R154). -/
def debugReads (s : State) : DebugAct → Bool
  | .readReg _ _ => decide (lcRule s = 2) && s.flag Reg.SEC_DBG_STAT 31
  | _ => false

/-- DEBUG_HALT (R231). -/
def execDebugHalt (r : DebugReq) (s : State) : Answer :=
  .next (if debugReads s r.act then (if r.spe < enginesOf s.variant ∧ busUp s then debugDo r.spe r.act s else s)
    else debugRow r.spe (debugDo r.spe r.act) s)
/-- DEBUG_RESUME (R231). -/
def execDebugResume (n : Nat) (s : State) : Answer := .next (debugRow n (debugResume n) s)
/-- DEBUG_STEP (R231). -/
def execDebugStep (n : Nat) (s : State) : Answer := .next (debugRow n (debugStep n) s)

end Sys2Proof.Machine
end

