-- ==== Sys2Proof/Machine/Dispatch.lean ====
section
/-! DEFINITION. The dispatch: one arm per command, each one direct call of its meaning. -/

namespace Sys2Proof.Machine

/-- The effect of a command on everything but the queue. -/
def exec (i : Instr) (s : State) : Host.Outcome State Fault Refusal :=
  match i with
  | .registerWrite m addr v => Sys2Proof.Machine.execRegisterWrite m addr v s
  | .absentPageAccess m addr write => Sys2Proof.Machine.execAbsentPageAccess m addr write s
  | .unbackedAccess m addr write => Sys2Proof.Machine.execUnbackedAccess m addr write s
  | .narrowRegisterAccess m addr bytes write => Sys2Proof.Machine.execNarrowRegisterAccess m addr bytes write s
  | .keyWrite m page v => Sys2Proof.Machine.execKeyWrite m page v s
  | .keySequenceLapse page => Sys2Proof.Machine.execKeySequenceLapse page s
  | .keyOpeningLapse page => Sys2Proof.Machine.execKeyOpeningLapse page s
  | .lockWrite m page v => Sys2Proof.Machine.execLockWrite m page v s
  | .errCntClear m page v => Sys2Proof.Machine.execErrCntClear m page v s
  | .absentStatClear m v => Sys2Proof.Machine.execAbsentStatClear m v s
  | .counterClear m addr v => Sys2Proof.Machine.execCounterClear m addr v s
  | .pageCrcUpdate page => Sys2Proof.Machine.execPageCrcUpdate page s
  | .ctrlEnSet m page v => Sys2Proof.Machine.execCtrlEnSet m page v s
  | .ctrlEnClear m page v => Sys2Proof.Machine.execCtrlEnClear m page v s
  | .stopComplete page => Sys2Proof.Machine.execStopComplete page s
  | .ctrlAbort m page v => Sys2Proof.Machine.execCtrlAbort m page v s
  | .ctrlSoftReset m page v => Sys2Proof.Machine.execCtrlSoftReset m page v s
  | .ctrlFreeze m page v => Sys2Proof.Machine.execCtrlFreeze m page v s
  | .irqStatClear m page v => Sys2Proof.Machine.execIrqStatClear m page v s
  | .irqSet m page v => Sys2Proof.Machine.execIrqSet m page v s
  | .softSet m v => Sys2Proof.Machine.execSoftSet m v s
  | .softClear m v => Sys2Proof.Machine.execSoftClear m v s
  | .spreadCfgWrite m v => Sys2Proof.Machine.execSpreadCfgWrite m v s
  | .spreadApplied => Sys2Proof.Machine.execSpreadApplied s
  | .powerUp => Sys2Proof.Machine.execPowerUp s
  | .porstNLow ns => Sys2Proof.Machine.execPorstNLow ns s
  | .resetPinLow ns => Sys2Proof.Machine.execResetPinLow ns s
  | .rstKey m v => Sys2Proof.Machine.execRstKey m v s
  | .supplyUndervoltage sup present => Sys2Proof.Machine.execSupplyUndervoltage sup present s
  | .supplyOvervoltage sup present => Sys2Proof.Machine.execSupplyOvervoltage sup present s
  | .vinWarn => Sys2Proof.Machine.execVinWarn s
  | .clockLoss k present => Sys2Proof.Machine.execClockLoss k present s
  | .pwrReq m v => Sys2Proof.Machine.execPwrReq m v s
  | .powerStateGating => Sys2Proof.Machine.execPowerStateGating s
  | .vinLoss => Sys2Proof.Machine.execVinLoss s
  | .vinReturn => Sys2Proof.Machine.execVinReturn s
  | .holdCanActivity k => Sys2Proof.Machine.execHoldCanActivity k s
  | .hpCsFall => Sys2Proof.Machine.execHpCsFall s
  | .wakeStepDone => Sys2Proof.Machine.execWakeStepDone s
  | .wakeStepTimeout => Sys2Proof.Machine.execWakeStepTimeout s
  | .wakeStepRetry => Sys2Proof.Machine.execWakeStepRetry s
  | .faultLineCheck line present => Sys2Proof.Machine.execFaultLineCheck line present s
  | .eventLineIdleCheck line => Sys2Proof.Machine.execEventLineIdleCheck line s
  | .coxStopTimeout => Sys2Proof.Machine.execCoxStopTimeout s
  | .latchClear m k v => Sys2Proof.Machine.execLatchClear m k v s
  | .fmapEntryWrite m line v => Sys2Proof.Machine.execFmapEntryWrite m line v s
  | .releaseRun m => Sys2Proof.Machine.execReleaseRun m s
  | .releaseCheck m => Sys2Proof.Machine.execReleaseCheck m s
  | .senEnWrite m v => Sys2Proof.Machine.execSenEnWrite m v s
  | .coxAutoReset => Sys2Proof.Machine.execCoxAutoReset s
  | .checkStart => Sys2Proof.Machine.execCheckStart s
  | .checkTestDone pass => Sys2Proof.Machine.execCheckTestDone pass s
  | .wdWinWrite m v => Sys2Proof.Machine.execWdWinWrite m v s
  | .wdaWrite m v => Sys2Proof.Machine.execWdaWrite m v s
  | .wdWindowExpire => Sys2Proof.Machine.execWdWindowExpire s
  | .spewdWrite m n v => Sys2Proof.Machine.execSpewdWrite m n v s
  | .speWdExpire n => Sys2Proof.Machine.execSpeWdExpire n s
  | .leLivenessCheck n => Sys2Proof.Machine.execLeLivenessCheck n s
  | .firstClear m v => Sys2Proof.Machine.execFirstClear m v s
  | .swStop m => Sys2Proof.Machine.execSwStop m s
  | .swOff m => Sys2Proof.Machine.execSwOff m s
  | .memoryRead m addr bytes upset => Sys2Proof.Machine.execMemoryRead m addr bytes upset s
  | .memoryWrite m addr bytes v => Sys2Proof.Machine.execMemoryWrite m addr bytes v s
  | .atomicAddRead m addr upset => Sys2Proof.Machine.execAtomicAddRead m addr upset s
  | .atomicAddWrite m addr v upset => Sys2Proof.Machine.execAtomicAddWrite m addr v upset s
  | .atomicSwapRead m addr upset => Sys2Proof.Machine.execAtomicSwapRead m addr upset s
  | .atomicSwapWrite m addr v => Sys2Proof.Machine.execAtomicSwapWrite m addr v s
  | .ceWriteback addr => Sys2Proof.Machine.execCeWriteback addr s
  | .starve master bank => Sys2Proof.Machine.execStarve master bank s
  | .injectWrite m v => Sys2Proof.Machine.execInjectWrite m v s
  | .rmapWrite m k limit v => Sys2Proof.Machine.execRmapWrite m k limit v s
  | .skimBlockStart upsets => Sys2Proof.Machine.execSkimBlockStart upsets s
  | .skimBlockWriteback marchFail => Sys2Proof.Machine.execSkimBlockWriteback marchFail s
  | .skimPassLimitCheck => Sys2Proof.Machine.execSkimPassLimitCheck s
  | .secmemAccess m addr write v => Sys2Proof.Machine.execSecmemAccess m addr write v s
  | .lcReq m v => Sys2Proof.Machine.execLcReq m v s
  | .lcWordProgrammed => Sys2Proof.Machine.execLcWordProgrammed s
  | .wipe m v => Sys2Proof.Machine.execWipe m v s
  | .wipeDone verified => Sys2Proof.Machine.execWipeDone verified s
  | .tamperDetect b present => Sys2Proof.Machine.execTamperDetect b present s
  | .tamperStatClear m v => Sys2Proof.Machine.execTamperStatClear m v s
  | .verifyStart m v => Sys2Proof.Machine.execVerifyStart m v s
  | .verifyDone => Sys2Proof.Machine.execVerifyDone s
  | .dbgMailboxRead => Sys2Proof.Machine.execDbgMailboxRead s
  | .dbgUnlock key sig => Sys2Proof.Machine.execDbgUnlock key sig s
  | .progCmd m v => Sys2Proof.Machine.execProgCmd m v s
  | .progDone verified => Sys2Proof.Machine.execProgDone verified s
  | .queuePush m q v => Sys2Proof.Machine.execQueuePush m q v s
  | .queuePop m q => Sys2Proof.Machine.execQueuePop m q s
  | .headTransfer q => Sys2Proof.Machine.execHeadTransfer q s
  | .spillBurst q => Sys2Proof.Machine.execSpillBurst q s
  | .fillBurst q upsets => Sys2Proof.Machine.execFillBurst q upsets s
  | .flush m q => Sys2Proof.Machine.execFlush m q s
  | .flushDone q => Sys2Proof.Machine.execFlushDone q s
  | .pktOpen m q => Sys2Proof.Machine.execPktOpen m q s
  | .pktClose m q => Sys2Proof.Machine.execPktClose m q s
  | .pktAbort m q => Sys2Proof.Machine.execPktAbort m q s
  | .regionWrite m q v => Sys2Proof.Machine.execRegionWrite m q v s
  | .queueCfgWrite m q v => Sys2Proof.Machine.execQueueCfgWrite m q v s
  | .hpNop op len addr seq flags crc => Sys2Proof.Machine.execHpNop op len addr seq flags crc s
  | .hpRead len addr seq flags crc bursts sent => Sys2Proof.Machine.execHpRead len addr seq flags crc bursts sent s
  | .hpReadFixed len addr seq flags crc bursts sent => Sys2Proof.Machine.execHpReadFixed len addr seq flags crc bursts sent s
  | .hpWrite len addr seq flags crc data => Sys2Proof.Machine.execHpWrite len addr seq flags crc data s
  | .hpWriteFixed len addr seq flags crc data => Sys2Proof.Machine.execHpWriteFixed len addr seq flags crc data s
  | .hpCsRise => Sys2Proof.Machine.execHpCsRise s
  | .modeReset => Sys2Proof.Machine.execModeReset s
  | .dmaDescWrite m n v => Sys2Proof.Machine.execDmaDescWrite m n v s
  | .dmaDescFetch n => Sys2Proof.Machine.execDmaDescFetch n s
  | .dmaTrig m n => Sys2Proof.Machine.execDmaTrig m n s
  | .dmaRoutedTrigger src => Sys2Proof.Machine.execDmaRoutedTrigger src s
  | .dmaBurst n => Sys2Proof.Machine.execDmaBurst n s
  | .bootStart image => Sys2Proof.Machine.execBootStart image s
  | .bootVerifyDone => Sys2Proof.Machine.execBootVerifyDone s
  | .flLenWrite m v => Sys2Proof.Machine.execFlLenWrite m v s
  | .flDone data => Sys2Proof.Machine.execFlDone data s
  | .speEnable m n => Sys2Proof.Machine.execSpeEnable m n s
  | .speInterrupt n => Sys2Proof.Machine.execSpeInterrupt n s
  | .speStallEnd n => Sys2Proof.Machine.execSpeStallEnd n s
  | .speWaitResume n => Sys2Proof.Machine.execSpeWaitResume n s
  | .lockstepMismatch n => Sys2Proof.Machine.execLockstepMismatch n s
  | .debugHalt n => Sys2Proof.Machine.execDebugHalt n s
  | .debugResume n => Sys2Proof.Machine.execDebugResume n s
  | .debugStep n => Sys2Proof.Machine.execDebugStep n s
  | .pMove n w => Sys2Proof.Machine.execPMove n w s
  | .mul n w => Sys2Proof.Machine.execMul n w s
  | .muln n w => Sys2Proof.Machine.execMuln n w s
  | .fma n w => Sys2Proof.Machine.execFma n w s
  | .fms n w => Sys2Proof.Machine.execFms n w s
  | .mulr n w => Sys2Proof.Machine.execMulr n w s
  | .fmar n w => Sys2Proof.Machine.execFmar n w s
  | .add n w => Sys2Proof.Machine.execAdd n w s
  | .sub n w => Sys2Proof.Machine.execSub n w s
  | .adda n w => Sys2Proof.Machine.execAdda n w s
  | .suba n w => Sys2Proof.Machine.execSuba n w s
  | .cmp n w => Sys2Proof.Machine.execCmp n w s
  | .cmpa n w => Sys2Proof.Machine.execCmpa n w s
  | .copy n w => Sys2Proof.Machine.execCopy n w s
  | .copya n w => Sys2Proof.Machine.execCopya n w s
  | .absA n w => Sys2Proof.Machine.execAbsA n w s
  | .neg n w => Sys2Proof.Machine.execNeg n w s
  | .clr n w => Sys2Proof.Machine.execClr n w s
  | .round n w => Sys2Proof.Machine.execRound n w s
  | .shl1 n w => Sys2Proof.Machine.execShl1 n w s
  | .shr1 n w => Sys2Proof.Machine.execShr1 n w s
  | .sat n w => Sys2Proof.Machine.execSat n w s
  | .andA n w => Sys2Proof.Machine.execAndA n w s
  | .orA n w => Sys2Proof.Machine.execOrA n w s
  | .xor n w => Sys2Proof.Machine.execXor n w s
  | .notA n w => Sys2Proof.Machine.execNotA n w s
  | .addi n w => Sys2Proof.Machine.execAddi n w s
  | .subi n w => Sys2Proof.Machine.execSubi n w s
  | .cmpi n w => Sys2Proof.Machine.execCmpi n w s
  | .andi n w => Sys2Proof.Machine.execAndi n w s
  | .ori n w => Sys2Proof.Machine.execOri n w s
  | .xori n w => Sys2Proof.Machine.execXori n w s
  | .copyi n w => Sys2Proof.Machine.execCopyi n w s
  | .ldi n w => Sys2Proof.Machine.execLdi n w s
  | .move n w => Sys2Proof.Machine.execMove n w s
  | .ldx n w => Sys2Proof.Machine.execLdx n w s
  | .ldy n w => Sys2Proof.Machine.execLdy n w s
  | .stx n w => Sys2Proof.Machine.execStx n w s
  | .sty n w => Sys2Proof.Machine.execSty n w s
  | .ldxa n w => Sys2Proof.Machine.execLdxa n w s
  | .ldya n w => Sys2Proof.Machine.execLdya n w s
  | .stxa n w => Sys2Proof.Machine.execStxa n w s
  | .stya n w => Sys2Proof.Machine.execStya n w s
  | .lui n w => Sys2Proof.Machine.execLui n w s
  | .modp n w => Sys2Proof.Machine.execModp n w s
  | .lde n w => Sys2Proof.Machine.execLde n w s
  | .ste n w => Sys2Proof.Machine.execSte n w s
  | .spePush n w => Sys2Proof.Machine.execSpePush n w s
  | .spePop n w => Sys2Proof.Machine.execSpePop n w s
  | .qcmd n w => Sys2Proof.Machine.execQcmd n w s
  | .maxi n w => Sys2Proof.Machine.execMaxi n w s
  | .mini n w => Sys2Proof.Machine.execMini n w s
  | .vmax n w => Sys2Proof.Machine.execVmax n w s
  | .vmin n w => Sys2Proof.Machine.execVmin n w s
  | .div n w => Sys2Proof.Machine.execDiv n w s
  | .nrm n w => Sys2Proof.Machine.execNrm n w s
  | .scnt n w => Sys2Proof.Machine.execScnt n w s
  | .ash n w => Sys2Proof.Machine.execAsh n w s
  | .ashi n w => Sys2Proof.Machine.execAshi n w s
  | .srset n w => Sys2Proof.Machine.execSrset n w s
  | .srclr n w => Sys2Proof.Machine.execSrclr n w s
  | .sig n w => Sys2Proof.Machine.execSig n w s
  | .nop n w => Sys2Proof.Machine.execNop n w s
  | .bra n w => Sys2Proof.Machine.execBra n w s
  | .call n w => Sys2Proof.Machine.execCall n w s
  | .jmpr n w => Sys2Proof.Machine.execJmpr n w s
  | .callr n w => Sys2Proof.Machine.execCallr n w s
  | .rts n w => Sys2Proof.Machine.execRts n w s
  | .rti n w => Sys2Proof.Machine.execRti n w s
  | .rep n w => Sys2Proof.Machine.execRep n w s
  | .repr n w => Sys2Proof.Machine.execRepr n w s
  | .doLoop n w => Sys2Proof.Machine.execDoLoop n w s
  | .dor n w => Sys2Proof.Machine.execDor n w s
  | .lpop n w => Sys2Proof.Machine.execLpop n w s
  | .wait n w => Sys2Proof.Machine.execWait n w s
  | .trap n w => Sys2Proof.Machine.execTrap n w s
  | .adcConversionDone k code => Sys2Proof.Machine.execAdcConversionDone k code s
  | .seqRoundStart => Sys2Proof.Machine.execSeqRoundStart s
  | .refBlind => Sys2Proof.Machine.execRefBlind s
  | .refDiffUpdate => Sys2Proof.Machine.execRefDiffUpdate s
  | .refSelWrite m v => Sys2Proof.Machine.execRefSelWrite m v s
  | .sdmOutput k ones fastOnes => Sys2Proof.Machine.execSdmOutput k ones fastOnes s
  | .sdmStuck k => Sys2Proof.Machine.execSdmStuck k s
  | .tempUpdate t0 t1 t2 t3 => Sys2Proof.Machine.execTempUpdate t0 t1 t2 t3 s
  | .encEdge n a b z back => Sys2Proof.Machine.execEncEdge n a b z back s
  | .encVelTimeout n => Sys2Proof.Machine.execEncVelTimeout n s
  | .posSetHi m n v => Sys2Proof.Machine.execPosSetHi m n v s
  | .pwmCarrierZero n => Sys2Proof.Machine.execPwmCarrierZero n s
  | .pwmCarrierPeriod n => Sys2Proof.Machine.execPwmCarrierPeriod n s
  | .pwmCommit m n => Sys2Proof.Machine.execPwmCommit m n s
  | .pwmXcmpFire n k => Sys2Proof.Machine.execPwmXcmpFire n k s
  | .pwmEdgeRequest n x => Sys2Proof.Machine.execPwmEdgeRequest n x s
  | .pwmDeadTimeEnd n x => Sys2Proof.Machine.execPwmDeadTimeEnd n x s
  | .pwmTrip n level => Sys2Proof.Machine.execPwmTrip n level s
  | .tripClear m n => Sys2Proof.Machine.execTripClear m n s
  | .hrCal n taps => Sys2Proof.Machine.execHrCal n taps s
  | .pwmSyncStart n => Sys2Proof.Machine.execPwmSyncStart n s
  | .leSampleTrigger n => Sys2Proof.Machine.execLeSampleTrigger n s
  | .leSlotStart le slot => Sys2Proof.Machine.execLeSlotStart le slot s
  | .lePairMismatch le slot step => Sys2Proof.Machine.execLePairMismatch le slot step s
  | .paramCommit m n => Sys2Proof.Machine.execParamCommit m n s
  | .axEnable m n => Sys2Proof.Machine.execAxEnable m n s
  | .axDisable m n => Sys2Proof.Machine.execAxDisable m n s
  | .snapReq m le v => Sys2Proof.Machine.execSnapReq m le v s
  | .repClear m n => Sys2Proof.Machine.execRepClear m n s
  | .repClearDone n => Sys2Proof.Machine.execRepClearDone n s
  | .repCtrlEnable m n play learn => Sys2Proof.Machine.execRepCtrlEnable m n play learn s
  | .repFadeTimeout n => Sys2Proof.Machine.execRepFadeTimeout n s
  | .profStop m n => Sys2Proof.Machine.execProfStop m n s
  | .profGo m n => Sys2Proof.Machine.execProfGo m n s
  | .profRefusedClear m n => Sys2Proof.Machine.execProfRefusedClear m n s
  | .vmLoad m n => Sys2Proof.Machine.execVmLoad m n s
  | .latchEdge k level back => Sys2Proof.Machine.execLatchEdge k level back s
  | .latRecordPush k => Sys2Proof.Machine.execLatRecordPush k s
  | .latNext m k => Sys2Proof.Machine.execLatNext m k s
  | .actCmdOpen m k => Sys2Proof.Machine.execActCmdOpen m k s
  | .actCmdClose m k => Sys2Proof.Machine.execActCmdClose m k s
  | .actClearTrip m k => Sys2Proof.Machine.execActClearTrip m k s
  | .actSample k current drain => Sys2Proof.Machine.execActSample k current drain s
  | .actChopToffEnd k => Sys2Proof.Machine.execActChopToffEnd k s
  | .actBoostTmax k => Sys2Proof.Machine.execActBoostTmax k s
  | .actPeakEnd k => Sys2Proof.Machine.execActPeakEnd k s
  | .actFinishWindowEnd k => Sys2Proof.Machine.execActFinishWindowEnd k s
  | .nozzleCoilOn k => Sys2Proof.Machine.execNozzleCoilOn k s
  | .nozzleCoilOff k => Sys2Proof.Machine.execNozzleCoilOff k s
  | .boostWaitTimeout k => Sys2Proof.Machine.execBoostWaitTimeout k s
  | .boostRailReady k => Sys2Proof.Machine.execBoostRailReady k s
  | .actTrip k => Sys2Proof.Machine.execActTrip k s
  | .actTripRetry k => Sys2Proof.Machine.execActTripRetry k s
  | .actThermalUpdate k => Sys2Proof.Machine.execActThermalUpdate k s
  | .groupShortCheck g current => Sys2Proof.Machine.execGroupShortCheck g current s
  | .actDiagPeriodic k => Sys2Proof.Machine.execActDiagPeriodic k s
  | .propPeriodStart k => Sys2Proof.Machine.execPropPeriodStart k s
  | .lampPeriodStart k => Sys2Proof.Machine.execLampPeriodStart k s
  | .inrushEnd k => Sys2Proof.Machine.execInrushEnd k s
  | .actSlotBind m k v => Sys2Proof.Machine.execActSlotBind m k v s
  | .latOpenWrite m k close v => Sys2Proof.Machine.execLatOpenWrite m k close v s
  | .bstRailSample x microvolts => Sys2Proof.Machine.execBstRailSample x microvolts s
  | .bstIlim x => Sys2Proof.Machine.execBstIlim x s
  | .bstToffEnd x => Sys2Proof.Machine.execBstToffEnd x s
  | .bstChargeTimeout x => Sys2Proof.Machine.execBstChargeTimeout x s
  | .incrCommit m x v => Sys2Proof.Machine.execIncrCommit m x v s
  | .laneAdj m x v => Sys2Proof.Machine.execLaneAdj m x v s
  | .laneStep m x v => Sys2Proof.Machine.execLaneStep m x v s
  | .feedTimeout x => Sys2Proof.Machine.execFeedTimeout x s
  | .holdoverLimit x => Sys2Proof.Machine.execHoldoverLimit x s
  | .errBudgetExceeded x => Sys2Proof.Machine.execErrBudgetExceeded x s
  | .selWrite m v => Sys2Proof.Machine.execSelWrite m v s
  | .autoSelect => Sys2Proof.Machine.execAutoSelect s
  | .bridgeDone => Sys2Proof.Machine.execBridgeDone s
  | .agreeCheck => Sys2Proof.Machine.execAgreeCheck s
  | .timeOkRise => Sys2Proof.Machine.execTimeOkRise s
  | .snap m => Sys2Proof.Machine.execSnap m s
  | .ppsOutPulse => Sys2Proof.Machine.execPpsOutPulse s
  | .ppsOutEnd => Sys2Proof.Machine.execPpsOutEnd s
  | .ppsInEdge rising back => Sys2Proof.Machine.execPpsInEdge rising back s
  | .tsuAlarm k => Sys2Proof.Machine.execTsuAlarm k s
  | .tpinPulseEnd k => Sys2Proof.Machine.execTpinPulseEnd k s
  | .schInsert => Sys2Proof.Machine.execSchInsert s
  | .schFire upset => Sys2Proof.Machine.execSchFire upset s
  | .schCancel m ident => Sys2Proof.Machine.execSchCancel m ident s
  | .schFlush m => Sys2Proof.Machine.execSchFlush m s
  | .schCompletionPush => Sys2Proof.Machine.execSchCompletionPush s
  | .canIntegrated n => Sys2Proof.Machine.execCanIntegrated n s
  | .canFrameReceived n frame back => Sys2Proof.Machine.execCanFrameReceived n frame back s
  | .canRxbSnapshot m n b => Sys2Proof.Machine.execCanRxbSnapshot m n b s
  | .canRxbNewClear m n b v => Sys2Proof.Machine.execCanRxbNewClear m n b v s
  | .canRxQueuePush n => Sys2Proof.Machine.execCanRxQueuePush n s
  | .canTxcommit m n v => Sys2Proof.Machine.execCanTxcommit m n v s
  | .canTxreq m n v => Sys2Proof.Machine.execCanTxreq m n v s
  | .canTxcancel m n v => Sys2Proof.Machine.execCanTxcancel m n v s
  | .canArbitrationStart n => Sys2Proof.Machine.execCanArbitrationStart n s
  | .canTxDone n delay => Sys2Proof.Machine.execCanTxDone n delay s
  | .canTxError n how lec => Sys2Proof.Machine.execCanTxError n how lec s
  | .canRecover m n => Sys2Proof.Machine.execCanRecover m n s
  | .canRecoveryDone n => Sys2Proof.Machine.execCanRecoveryDone n s
  | .mtxCycleStart n => Sys2Proof.Machine.execMtxCycleStart n s
  | .mtxWindowOpen n e => Sys2Proof.Machine.execMtxWindowOpen n e s
  | .mtxWindowClose n e => Sys2Proof.Machine.execMtxWindowClose n e s
  | .kswFrameRx port frame fcs => Sys2Proof.Machine.execKswFrameRx port frame fcs s
  | .kswEgressStart port read => Sys2Proof.Machine.execKswEgressStart port read s
  | .kswAgeOut sa => Sys2Proof.Machine.execKswAgeOut sa s
  | .gclEntryChange port => Sys2Proof.Machine.execGclEntryChange port s
  | .streamHistoryReset stream => Sys2Proof.Machine.execStreamHistoryReset stream s
  | .beatTx => Sys2Proof.Machine.execBeatTx s
  | .beatAgeCheck => Sys2Proof.Machine.execBeatAgeCheck s
  | .kntAuthUpdate => Sys2Proof.Machine.execKntAuthUpdate s
  | .seqReset m => Sys2Proof.Machine.execSeqReset m s
  | .posWrite m v => Sys2Proof.Machine.execPosWrite m v s
  | .ltxKick m => Sys2Proof.Machine.execLtxKick m s
  | .mdioPoll port up => Sys2Proof.Machine.execMdioPoll port up s
  | .mdioCmd m port v => Sys2Proof.Machine.execMdioCmd m port v s
  | .mdioDone port data => Sys2Proof.Machine.execMdioDone port data s
  | .ldlArm m c => Sys2Proof.Machine.execLdlArm m c s
  | .ldlDisarm m c => Sys2Proof.Machine.execLdlDisarm m c s
  | .ldlFire m c => Sys2Proof.Machine.execLdlFire m c s
  | .ldlArmComplete c back => Sys2Proof.Machine.execLdlArmComplete c back s
  | .ldlSample c back => Sys2Proof.Machine.execLdlSample c back s
  | .ldlEventTrigger c => Sys2Proof.Machine.execLdlEventTrigger c s
  | .ldlTimeTrigger c => Sys2Proof.Machine.execLdlTimeTrigger c s
  | .ldlNetFireTime c => Sys2Proof.Machine.execLdlNetFireTime c s
  | .ldlRingWrite c words => Sys2Proof.Machine.execLdlRingWrite c words s
  | .ldlRecordPush c => Sys2Proof.Machine.execLdlRecordPush c s
  | .ldlCaptureDisable m c => Sys2Proof.Machine.execLdlCaptureDisable m c s
  | .aonSwitchToVbat => Sys2Proof.Machine.execAonSwitchToVbat s
  | .aonReturnToVin => Sys2Proof.Machine.execAonReturnToVin s
  | .aonPor => Sys2Proof.Machine.execAonPor s
  | .rtcCalDone n => Sys2Proof.Machine.execRtcCalDone n s
  | .xtal32Fail => Sys2Proof.Machine.execXtal32Fail s
  | .rtcSet m v => Sys2Proof.Machine.execRtcSet m v s
  | .rtcAlarm k => Sys2Proof.Machine.execRtcAlarm k s
  | .wakePinEdge rising => Sys2Proof.Machine.execWakePinEdge rising s
  | .vbatMeasure millivolts drawn => Sys2Proof.Machine.execVbatMeasure millivolts drawn s
  | .gaugeCapWrite m v => Sys2Proof.Machine.execGaugeCapWrite m v s
  | .padWrite m p v => Sys2Proof.Machine.execPadWrite m p v s
  | .gpioEdge p level => Sys2Proof.Machine.execGpioEdge p level s
  | .ldlNetArmTime c => Sys2Proof.Machine.execLdlNetArmTime c s
  | .canRxError n lec eight => Sys2Proof.Machine.execCanRxError n lec eight s
  | .canProtocolException n => Sys2Proof.Machine.execCanProtocolException n s
  | .minPulseStretchEnd n x => Sys2Proof.Machine.execMinPulseStretchEnd n x s
  | .actDutyGateOff k => Sys2Proof.Machine.execActDutyGateOff k s
  | .illegalEncoding n w => Sys2Proof.Machine.execIllegalEncoding n w s
  | .postedEWriteDone n => Sys2Proof.Machine.execPostedEWriteDone n s
  | .kswEgressDone port => Sys2Proof.Machine.execKswEgressDone port s

end Sys2Proof.Machine
end

