-- ==== Sys2Proof/Machine/Tick.lean ====
section
/-! DEFINITION. The passing of time: one TICK of root time, which is what a step does while no command waits (spec/18_time.md R376 to
R379, spec/04_clocks_power.md R76, R80, R91; log entries 3 and 4). -/

namespace Sys2Proof.Machine

/-- The root clock runs: from OSC_RDY on, in ROW, PADDLE, EASY and HOLD (R87, R94, R376). -/
def rootRuns (s : State) : Bool :=
  match s.power.phase with
  | .held => false
  | .waking f _ _ _ _ => decide (f ≤ 3) || s.flag Reg.PWR_WAKE_STAT 1
  | _ => decide (s.fld Reg.PWR_STATE 0 3 ≤ 3)

/-- TICKs that pass at a step of time: 8 in EASY and HOLD, where TICK counts XTAL periods (R76, R378). -/
def ticksPerStep (s : State) : Nat := if rootRuns s then tickUnit s else 0

/-- What the actuator channels learned in the TICK is stored (R365, R366), the Ladle has seen its event sources (R464), TICK advances, and with it
the branch clocks, the time unit, the halt of frozen PWMs and the work of the Loop Engines' samples (R296); the limit of R133 and the millisecond
of R256 do not run while the power state halts the Skimmer and the sequencer. -/
def rootTick (n : Nat) (s : State) : State :=
  let s1 := { eventsLook (actLearned s) with now := s.now + n }
  let s2 := if s.fld Reg.PWR_STATE 0 3 = 2 ∨ s.fld Reg.PWR_STATE 0 3 = 3 then
      { s1 with skim := { s1.skim with limitFrom := s1.skim.limitFrom + n }, sense := { s1.sense with seqFrom := s1.now } } else s1
  coresLate <| leAdvance 1 (leAdvance 0 (leInhibits 1 (leInhibits 0 (pwmFrozenTicks n (tsuAdvance n (branchTick (4 * n) s2))))))

/-- The supervision oscillator of the Cox over `k` times 5 ns, within its ±5% (R80): the ratio is a free value. -/
def coxTick (k : Nat) (s : State) : State :=
  if s.fld Reg.PWR_STATE 0 3 ≤ 3 then
    let (d, s1) := s.freeIn 4750 5250
    { s1 with cox := { s1.cox with ps := s1.cox.ps + k * d.toNat } }
  else s

/-- The RTC's oscillator over `k` times 5 ns, in fs: the crystal within ±200 ppm, RC within ±2%, each ratio a free value (R475). It
stands while the domain's own reset holds it (R473). -/
def rtcTick (k : Nat) (s : State) : State :=
  if s.power.aonLost then s else
  let (d, s1) := if s.aon.onXtal then s.freeIn 4999000 5001000 else s.freeIn 4900000 5100000
  rtcAdvance (k * d.toNat) s1

/-- An asserted source that is routed to a host line, an SPE or the Cox ends PADDLE and EASY (R91), and abandons an entry to them (R88). -/
def sourceWake (s : State) : State :=
  if (s.power.phase = .entering 1 ∨ s.power.phase = .entering 2) ∧ eventWake s then abandonEntry s
  else if (s.fld Reg.PWR_STATE 0 3 = 1 ∨ s.fld Reg.PWR_STATE 0 3 = 2) ∧ s.power.phase = .steady then
    if eventWake s then s.startWake 1 0 else s
  else s

/-- One step of time. -/
def tick (s : State) : State :=
  let n := ticksPerStep s
  let k := max 1 n
  let s1 := if n = 0 then s else rootTick n (padEdges s)
  sourceWake (coxPulses (rtcTick k (coxTick k (resetLowTick (5 * k) s1))))

end Sys2Proof.Machine
end

