-- ==== Sys2Proof/Safety.lean ====
section
/-! DEFINITION. The terms in which claims are stated: a command that completes, who reaches a register, an accepted register write, and
what a command leaves alone. -/

namespace Sys2Proof

open Machine

/-- The command completes: exec answers a next state, and `P` holds of it. -/
def Completes (c : Instr) (s : State) (P : State → Prop) : Prop := ∃ t, exec c s = .next t ∧ P t

/-- The master's access reaches the register page of the address: a master can use the bus, the debug access port may make the access,
and the page is present (R5, R139). -/
def Reaches (m : Master) (a : Nat) (s : State) : Prop :=
  busUp s = true ∧ debugMay s m a true = true ∧ s.hasPage (pageOf a) = true

/-- The page index has a page with the common header (R45, R72). -/
def HeaderPage (page : Nat) : Prop := page < 0x400 ∧ isQueuePage page = false

/-- The write is neither refused by a lock nor for want of an opening (R51, R53). -/
def Accepted (d : RegDef) (a : Nat) (m : Master) (v : Word) (s : State) : Prop :=
  (isConfig d = true → cfgLocked s (pageOf a) = false)
    ∧ (safeLocked s (pageOf a) = true → safeMoves d (s.rd a) (storeValue d (s.rd a) v) = true)
    ∧ (d.kind = .rwk → holdsOpening s (pageOf a) m = true)

/-- No rule of its block treats a write to the register apart (R9). -/
def PlainRow (c : PageClass) (d : RegDef) : Prop := ∀ k a m v s, blockWrite c d k a m v s = genericWrite c d a m v s

/-- The address is that of a register of a present page with a header, from offset 0x040 upward, in the table row `d`, and the write is
an aligned one (R42, R47, R72). -/
def RegisterAt (c : PageClass) (d : RegDef) (a : Nat) (s : State) : Prop :=
  isRegAddr a = true ∧ a % 4 = 0 ∧ isQueuePage (pageOf a) = false ∧ 0x040 ≤ a % 0x1000
    ∧ s.hasPage (pageOf a) = true ∧ (∃ i, pageClass (pageOf a) = some (c, i)) ∧ (∃ k, findReg c (a % 0x1000) = some (d, k))

/-- Every register word but those of the list reads as before. -/
def SameRegsBut (l : List Nat) (s t : State) : Prop := ∀ a, a ∉ l → t.rd a = s.rd a

/-- The state registers of the Profile Units, which go on when an accepted entry is abandoned (R88, R89). -/
def profStats : List Nat := (List.range 16).map Reg.AX_PROF_STAT

/-- Every byte of memory reads as before. -/
def SameMemory (s t : State) : Prop := ∀ a, t.byteAt a = s.byteAt a

/-- Every byte of memory but the `n` bytes from `a` reads as before. -/
def SameMemoryBut (a n : Nat) (s t : State) : Prop := ∀ b, ¬(a ≤ b ∧ b < a + n) → t.byteAt b = s.byteAt b

/-- A word of memory that a read finds good: no code error is recorded or occurs, and no test is destroying it (R123, R134). -/
def GoodWord (a : Nat) (s : State) : Prop := s.eccAt a = none ∧ underTest s a = false

/-- Nothing but register words changes, and of those only the ones in the list: memory, queues, engines, timers, key state and every
other part of the state stay. -/
def OnlyRegs (l : List Nat) (s t : State) : Prop := t = { s with regs := t.regs } ∧ SameRegsBut l s t

/-- Nothing but register words and the key and answer state of the register pages changes, and of the words only the ones in the list. -/
def OnlyPageRegs (l : List Nat) (s t : State) : Prop := t = { s with regs := t.regs, pages := t.pages } ∧ SameRegsBut l s t

/-- An error is recorded on the page with this base address: ERR_CODE keeps the first and takes this one where it holds none, and
ERR_CNT counts it and saturates (R57, R58). -/
def ErrorRecorded (base cls num detail : Nat) (s t : State) : Prop :=
  t.rd (base + 0x20) = (if s.rd (base + 0x20) = 0 then BitVec.ofNat 32 (0x1000000 * cls + 0x10000 * num + detail % 0x10000)
      else s.rd (base + 0x20))
    ∧ t.fld (base + 0x24) 0 16 = min 0xFFFF (s.fld (base + 0x24) 0 16 + 1)

/-- SPE `n` issues the word (R219, R220, R223, R232): it runs and waits for nothing, the word is of this class and op, legal and well placed, and
`x` is the engine as the instruction sees it: every write due by now applied, a chunk begun where a REP has none in progress, and a breakpoint
noted (`Spe.issue`). -/
def SpeIssues (cls op n : Nat) (w : Word) (s : State) (x : Spe) : Prop :=
  speCan s n = true ∧ opClass w = cls ∧ opCode w = op ∧ legalWord w = true ∧ misplaced x w = false
    ∧ x = (spe s n).issue (s.fld (Reg.SPE_REP_CAP n) 0 16)

/-- The state in which an issued instruction acts: the engine as it sees it, and SPE.PC at the instruction (R211). -/
def speAt (n : Nat) (x : Spe) (s : State) : State := (s.setSpe n x).wr (Reg.SPE_PC n) (wordOf x.pc)

/-- The command completes: its instruction has the effect `f`, the engine moves on, and what waits for a boundary is taken (R219, R226). -/
def SpeCompletes (c : Instr) (n : Nat) (x : Spe) (f : State → State) (s : State) : Prop :=
  Completes c s fun t => t = speBoundary n ((f (speAt n x s)).onSpe n Spe.advance)

/-- The same for an instruction that concerns the registers of its engine alone, whose new value is `y`. -/
def SpeRegsComplete (c : Instr) (n : Nat) (x y : Spe) (s : State) : Prop := SpeCompletes c n x (fun u => u.setSpe n y) s

/-- The same for an instruction that directs the flow: the engine's new value is `y`. -/
def SpeFlowComplete (c : Instr) (n : Nat) (x y : Spe) (s : State) : Prop :=
  Completes c s fun t => t = speBoundary n ((speAt n x s).setSpe n y)

/-- The engine after a DO of `k` iterations (R224): LC holds the count, the enclosing LC is pushed with the first and the last instruction of the
body, and the body follows. -/
def doStart (x : Spe) (k last : Nat) : Spe :=
  { x.put cLC k with
    loops := { lc := x.reg cLC, first := (x.pc + 1) % 0x4000, last := last } :: x.loops
    count := x.count + 1
    pc := (x.pc + 1) % 0x4000 }

/-- A queue command of a master reaches the queue: the bus is up, the debug access port may make the access, and the queue is present. -/
def ReachesQueue (m : Master) (q off : Nat) (w : Bool) (s : State) : Prop :=
  busUp s = true ∧ debugMay s m (qAddr q off) w = true ∧ queuePresent s q = true

/-- PUSH_CNT − POP_CNT − DROP_CNT = DEPTH modulo 2^32. -/
def QueueBalanced (q : Nat) (s : State) : Prop :=
  s.rd (qAddr q 0x38) - s.rd (qAddr q 0x3C) - s.rd (qAddr q 0x40) = wordOf (queue s q).depth

/-- A Knatis frame ends at an external port of a running switch, goes to the local port too and reaches the parser; `pl` is its payload. The other
external port takes no frame, so nothing is forwarded, and no stream eliminates it (R430 to R439). -/
def KnatisArrives (p : Nat) (b pl : List Byte) (s : State) : Prop :=
  frozen s 0xF8 = false ∧ frozen s (0xF9 + p) = false ∧ p < portsOf s.variant ∧ portsRun s = true ∧ macOn s p = true ∧ kswOn s = true ∧ 60 ≤ b.length ∧ b.length ≤ 1518
    ∧ (parseFrame b).sa ≠ ownMac s ∧ (parseFrame b).knatis = true ∧ ringEnd s p = false
    ∧ (∃ vm, vlanMask s p (parseFrame b) = some vm ∧ (portMask s (parseFrame b).da &&& vm) / 4 % 2 = 1)
    ∧ portUp s (1 - p) = false ∧ cutOk s (1 - p) (s.now - byteTicks (b.length + 4)) (staticClass s (parseFrame b).da) = false ∧ elimHit (elimOf s b) s = none ∧ pl = b.drop (parseFrame b).pay

/-- Checks 1 to 7 of R445 pass for a frame without AUTH. -/
def KnatisPasses (p : Nat) (pl : List Byte) (s : State) : Prop :=
  knatisWellFormed s p pl = true ∧ crc32Bytes (pl.take (20 + beAt pl 6 2)) = beAt pl (20 + beAt pl 6 2) 4 ∧ beAt pl 1 1 < 128
    ∧ authNeeded s (beAt pl 0 1 % 16) = false
    ∧ (beAt pl 3 1 ≠ s.fld Reg.KSW_POS 0 7 ∨ enumRequest pl = true ∧ s.flag Reg.KSW_POS 31 = false) ∧ seqInWindow s pl = true

/-- The device's own Knatis frames leave untagged, in class `c`, on the ports they are meant for: no streams, no VLANs, no ring, and a static entry
of their address that gives the class (R435, R438, R439). -/
def PlainSend (c : Nat) (s : State) : Prop :=
  (∀ k, k < 32 → s.flag (Reg.KSW_STR_CFG k) 31 = false) ∧ s.flag Reg.KSW_CFG 4 = false ∧ s.flag Reg.KSW_CFG 16 = false
    ∧ staticClass s 0x034B4E5400FF = some c

/-- Memory stands in its one canonical form: addresses rise strictly, and no entry equals what an unlisted address reads as. -/
def MemoryCanonical (s : State) : Prop := Memory.wf s.mem = true

/-- A run is safe when no step of it ends in a fault. -/
def NoFault (s : State) : Prop := ∀ f, Machine.step s ≠ .fault f

end Sys2Proof
end

