-- ==== Sys2Proof/Certificates/Slice0/Obligations.lean ====
section
/-! DEFINITION. The statements for the provers: what the commands do, by the spec's rules, and what they leave alone. -/

open Sys2Proof Sys2Proof.Machine

/-! ## Register pages (spec/03_pages.md) -/

/-- R50 and R51: the first key word starts a sequence that its master owns, the second from the same master opens one write, every other
KEY write is refused, clears the key state and records ACCESS/KEY_SEQUENCE; a sequence or an opening whose time has passed lapses without
an error. Nothing but the key state and, on a refusal, the error record changes.
Parts of R6, R9, R48, R51, R53, R56: a write to a RW, RWK or RWO register that no block treats apart stores its writable bits when it is
accepted, and PAGE_CRC is due where a configuration word changed; while CFG_LOCK refuses it, or for want of an opening, it stores nothing
and records the refusal; a register of an absent feature ignores it; in every case the write consumes an opening of its master, and no
other's. -/
def Obligations.KeysAndPlainWrites : Prop :=
  ((∀ (m : Master) (page : Nat) (v : Word) (s : State), HeaderPage page → Reaches m (pageAddr page + 0x02C) s →
     (keyNow s page = .idle → v = 0x0000C0A7 →
       Completes (.keyWrite m page v) s fun t => keyNow t page = .first (masterCode m) (sysCycles s) ∧ OnlyPageRegs [] s t)
     ∧ (∀ since, keyNow s page = .first (masterCode m) since → v = 0x00003F58 →
       Completes (.keyWrite m page v) s fun t => keyNow t page = .opened (masterCode m) (sysCycles s) ∧ OnlyPageRegs [] s t)
     ∧ (((keyNow s page = .idle ∧ v ≠ 0x0000C0A7)
         ∨ (∃ o since, keyNow s page = .first o since ∧ (o ≠ masterCode m ∨ v ≠ 0x00003F58))
         ∨ (∃ o since, keyNow s page = .opened o since ∧ (o ≠ masterCode m ∨ v ≠ 0x0000C0A7))) →
       Completes (.keyWrite m page v) s fun t => keyNow t page = .idle
         ∧ ErrorRecorded (pageAddr page) 0x01 0x03 (errDetail (masterCode m) 0x02C) s t
         ∧ OnlyPageRegs [pageAddr page + 0x20, pageAddr page + 0x24] s t))
   ∧ (∀ (page o since : Nat) (s : State), tabGet s.pages.keys page .idle = .first o since →
     Completes (.keySequenceLapse page) s fun t => OnlyPageRegs [] s t
       ∧ tabGet t.pages.keys page .idle = if since + 64 < sysCycles s then .idle else .first o since)
   ∧ (∀ (page o since : Nat) (s : State), tabGet s.pages.keys page .idle = .opened o since →
     Completes (.keyOpeningLapse page) s fun t => OnlyPageRegs [] s t
       ∧ tabGet t.pages.keys page .idle = if since + 256 < sysCycles s then .idle else .opened o since))
  ∧ (∀ (m : Master) (a : Nat) (v : Word) (c : PageClass) (d : RegDef) (s : State),
      RegisterAt c d a s → PlainRow c d → Reaches m a s → d.kind = .rw ∨ d.kind = .rwk ∨ d.kind = .rwo →
      (Completes (.registerWrite m a v) s fun t =>
          keyNow t (pageOf a) = if holdsOpening s (pageOf a) m then .idle else keyNow s (pageOf a))
      ∧ (featureAbsent s.variant c (a % 0x1000) = false →
        (Accepted d a m v s → Completes (.registerWrite m a v) s fun t =>
          t.rd a = (s.rd a &&& ~~~d.mask) ||| (v &&& d.mask) ∧ OnlyPageRegs [a] s t
          ∧ (isConfig d = true → t.rd a ≠ s.rd a → tabGet t.pages.crcBusy (pageOf a) false = true))
        ∧ (isConfig d = true → cfgLocked s (pageOf a) = true → clearedEnables d (s.rd a) v = 0 →
          Completes (.registerWrite m a v) s fun t =>
            ErrorRecorded (pageAddr (pageOf a)) 0x01 0x02 (errDetail (masterCode m) (a % 0x1000)) s t
            ∧ OnlyPageRegs [pageAddr (pageOf a) + 0x20, pageAddr (pageOf a) + 0x24] s t)
        ∧ (d.kind = .rwk → (isConfig d = true → cfgLocked s (pageOf a) = false) → safeLocked s (pageOf a) = false →
          holdsOpening s (pageOf a) m = false → Completes (.registerWrite m a v) s fun t =>
            ErrorRecorded (pageAddr (pageOf a)) 0x01 0x04 (errDetail (masterCode m) (a % 0x1000)) s t
            ∧ OnlyPageRegs [pageAddr (pageOf a) + 0x20, pageAddr (pageOf a) + 0x24] s t))
      ∧ (featureAbsent s.variant c (a % 0x1000) = true → v &&& featureEnables c d = 0 → Completes (.registerWrite m a v) s (OnlyPageRegs [] s)))

/-- R52 and parts of R57, R65 and R70: the first write of LOCK after a reset stores both bits and later ones record ACCESS/WRITE_ONCE; a 0
written to ERR_CNT clears it and ERR_CODE and another value neither; IRQ_SET latches causes of the page and IRQ_STAT clears the bits written as
1; SOFT_SET and SOFT do the same to the SOFT events. No other register word changes.
R61 and parts of R59, R60 and R62: EN written to an IDLE block sets STAT.ACTIVE and clears IDLE, and the block starts; while STOPPING it is
ignored with CONTROL/EN_WHILE_STOPPING; while ACTIVE it changes nothing. EN cleared on an active block sets STOPPING, and the block completes its
atomic unit as R62 says (`blockDisable`); on an IDLE block it has no effect. ABORT acts while STOPPING. A stopping block whose unit has ended
sets IDLE. The axis and the SPE, which keep a state of their own, end their stop in `axisOff` and `speStopIfRest`. -/
def Obligations.HeaderEnableAndStop : Prop :=
  (∀ (m : Master) (page : Nat) (v : Word) (s : State),
     (HeaderPage page →
       (Reaches m (pageAddr page + 0x028) s → tabGet s.pages.lockWritten page false = false →
         Completes (.lockWrite m page v) s fun t => t.rd (pageAddr page + 0x028) = v &&& 0x3
           ∧ tabGet t.pages.lockWritten page false = true ∧ OnlyPageRegs [pageAddr page + 0x028] s t)
       ∧ (Reaches m (pageAddr page + 0x028) s → tabGet s.pages.lockWritten page false = true →
         Completes (.lockWrite m page v) s fun t =>
           ErrorRecorded (pageAddr page) 0x01 0x05 (errDetail (masterCode m) 0x028) s t
           ∧ OnlyPageRegs [pageAddr page + 0x20, pageAddr page + 0x24] s t)
       ∧ (Reaches m (pageAddr page + 0x024) s → bits v 0 16 = 0 → Completes (.errCntClear m page v) s fun t =>
           t.rd (pageAddr page + 0x24) = 0 ∧ t.rd (pageAddr page + 0x20) = 0
           ∧ OnlyPageRegs [pageAddr page + 0x20, pageAddr page + 0x24] s t)
       ∧ (Reaches m (pageAddr page + 0x024) s → bits v 0 16 ≠ 0 → Completes (.errCntClear m page v) s fun t => OnlyPageRegs [] s t)
       ∧ (Reaches m (pageAddr page + 0x018) s → Completes (.irqStatClear m page v) s fun t =>
           t.rd (pageAddr page + 0x018) = s.rd (pageAddr page + 0x018) &&& ~~~v ∧ OnlyPageRegs [pageAddr page + 0x018] s t)
       ∧ (Reaches m (pageAddr page + 0x01C) s → Completes (.irqSet m page v) s fun t =>
           t.rd (pageAddr page + 0x018) = s.rd (pageAddr page + 0x018) ||| (v &&& pageCauses page)
           ∧ OnlyPageRegs [pageAddr page + 0x018] s t))
     ∧ (Reaches m Reg.EVT_SOFT_SET s → Completes (.softSet m v) s fun t =>
         t.rd Reg.EVT_SOFT = s.rd Reg.EVT_SOFT ||| (v &&& 0xF) ∧ OnlyPageRegs [Reg.EVT_SOFT] s t)
     ∧ (Reaches m Reg.EVT_SOFT s → Completes (.softClear m v) s fun t =>
         t.rd Reg.EVT_SOFT = s.rd Reg.EVT_SOFT &&& ~~~(v &&& 0xF) ∧ OnlyPageRegs [Reg.EVT_SOFT] s t))
  ∧ (∀ (m : Master) (page i : Nat) (c : PageClass) (v : Word) (s : State), pageClass page = some (c, i) → HeaderPage page →
      (Reaches m (ctrlAddr page) s → c ≠ .cox → c ≠ .aon → bit v 1 = false → bit v 2 = false → bit v 3 = false →
        s.flag (ctrlAddr page) 2 = false →
        (s.fld (statAddr page) 0 3 = 4 → (c = .ax → s.flag (Reg.PWM_CFG i) 4 = true) → (c = .spe → speTrusted s i = true) →
          Completes (.ctrlEnSet m page v) s fun t => ∃ u, t = blockEnable c i u ∧ OnlyPageRegs [ctrlAddr page, statAddr page] s u
            ∧ u.flag (ctrlAddr page) 0 = true ∧ u.fld (statAddr page) 0 3 = 1)
        ∧ (s.flag (statAddr page) 1 = true → Completes (.ctrlEnSet m page v) s fun t =>
            ErrorRecorded (pageAddr page) 0x02 0x01 (errDetail (masterCode m) 0x008) s t
            ∧ OnlyPageRegs [pageAddr page + 0x20, pageAddr page + 0x24] s t)
        ∧ (s.fld (statAddr page) 0 3 = 1 → Completes (.ctrlEnSet m page v) s fun t => OnlyPageRegs [] s t)
        ∧ (s.flag (statAddr page) 0 = true → Completes (.ctrlEnClear m page v) s fun t =>
            ∃ u, t = blockDisable c i page false u ∧ OnlyPageRegs [ctrlAddr page, statAddr page] s u
            ∧ u.flag (ctrlAddr page) 0 = false ∧ u.fld (statAddr page) 0 3 = 2)
        ∧ (s.fld (statAddr page) 0 3 = 4 → Completes (.ctrlEnClear m page v) s fun t => OnlyPageRegs [] s t)
        ∧ (s.fld (statAddr page) 0 3 = 2 → bit v 0 = false → Completes (.ctrlAbort m page v) s fun t =>
            ∃ u, t = blockAbort c i page u ∧ OnlyPageRegs [] s u))
      ∧ (frozen s page = false → s.flag (statAddr page) 1 = true → unitDone c i s = true →
        Completes (.stopComplete page) s fun t =>
          (c ≠ .ax → c ≠ .spe → t.fld (statAddr page) 0 3 = 4 ∧ OnlyRegs [statAddr page] s t)
          ∧ (c = .ax → t = axisOff i s) ∧ (c = .spe → t = speStopIfRest i s)))

/-- Parts of R5, R41, R44, R47, R539: an access to an absent page latches ABSENT_ACCESS, counts, records the first one, and answers 0, with a bus
error to the host while ABSENT_BUSERR is 1; an address that nothing backs answers with a bus error; a narrow or misaligned access to a
present page answers with a bus error and records ACCESS/WIDTH; a 0 written to the count of ABSENT_STAT clears count and record. Memory
stays as it is. -/
def Obligations.AccessesElsewhere : Prop :=
  (∀ (m : Master) (a : Nat) (w : Bool) (s : State), busUp s = true → debugMay s m a w = true →
    (isRegAddr a = true → pageHere s a = false → Completes (.absentPageAccess m a w) s fun t =>
      t.pages.answer = { data := 0, error := s.flag Reg.SYS_CFG 0 && decide (m = .host) }
      ∧ t.flag (Reg.SYS + 0x18) 0 = true
      ∧ t.fld Reg.SYS_ABSENT_STAT 0 16 = min 0xFFFF (s.fld Reg.SYS_ABSENT_STAT 0 16 + 1)
      ∧ t.rd Reg.SYS_ABSENT_ADDR = (if s.flag Reg.SYS_ABSENT_STAT 31 then s.rd Reg.SYS_ABSENT_ADDR else wordOf a)
      ∧ SameMemory s t)
    ∧ (isRegAddr a = false → ¬(0x60000000 ≤ a ∧ a < 0x60002000) →
      s.sec.scrapped = true ∨ (memInfo s.variant a = none ∧ aliasOf s.variant a = none) →
      Completes (.unbackedAccess m a w) s fun t => t.pages.answer = { data := 0, error := true } ∧ SameMemory s t)
    ∧ (isRegAddr a = true → pageHere s a = true → ∀ n, ¬(n = 4 ∧ a % 4 = 0) →
      Completes (.narrowRegisterAccess m a n w) s fun t => t.pages.answer = { data := 0, error := true }
        ∧ (isQueuePage (pageOf a) = false →
            ErrorRecorded (pageAddr (pageOf a)) 0x01 0x01 (errDetail (masterCode m) (a % 0x1000)) s t)
        ∧ (isQueuePage (pageOf a) = true → ErrorRecorded Reg.CHN 0x01 0x01 (errDetail (masterCode m) (a % 0x80)) s t)
        ∧ SameMemory s t))
  ∧ (∀ (m : Master) (v : Word) (s : State), Reaches m Reg.SYS_ABSENT_STAT s →
    Completes (.absentStatClear m v) s fun t =>
      (bits v 0 16 = 0 → t.rd Reg.SYS_ABSENT_STAT = 0 ∧ t.rd Reg.SYS_ABSENT_ADDR = 0)
      ∧ (bits v 0 16 ≠ 0 → t.rd Reg.SYS_ABSENT_STAT = s.rd Reg.SYS_ABSENT_STAT ∧ t.rd Reg.SYS_ABSENT_ADDR = s.rd Reg.SYS_ABSENT_ADDR)
      ∧ OnlyPageRegs [Reg.SYS_ABSENT_STAT, Reg.SYS_ABSENT_ADDR] s t)

/-- Parts of R63 and R64: SOFT_RESET on an IDLE block that CFG_LOCK does not protect returns the registers of the page to their reset values,
which are those that the last device reset loaded from OTP where it did, LOCK and the registers that record an outcome or a live state apart, and
leaves every other register and memory; otherwise it is refused with ACCESS/LOCKED or CONTROL/RESET_WHILE_ACTIVE. FREEZE is taken only in DEVELOP
with the debug port attached, and refused with CONTROL/FREEZE_DENIED otherwise. The Cox and the AON domain ignore CTRL. Which registers show a
live state is the model's choice (log entry 32).
Parts of R55, R56, R539: a recomputation ends, and a read of PAGE_CRC delivers the CRC-32 over the configuration registers as they stand; a 0
written to a 16-bit counter that a write of 0 clears clears it, and any other value leaves it. -/
def Obligations.SoftResetCrcAndCounters : Prop :=
  (∀ (m : Master) (page i : Nat) (c : PageClass) (v : Word) (s : State), pageClass page = some (c, i) → HeaderPage page →
     Reaches m (ctrlAddr page) s →
     (c = .cox ∨ c = .aon → Completes (.ctrlSoftReset m page v) s (OnlyPageRegs [] s) ∧ Completes (.ctrlFreeze m page v) s (OnlyPageRegs [] s))
     ∧ (c ≠ .cox → c ≠ .aon →
       (cfgLocked s page = false → s.flag (statAddr page) 2 = true → Completes (.ctrlSoftReset m page v) s fun t =>
         (∀ a, isRegAddr a = true → pageOf a = page → softKeeps a = false →
           t.rd a = match (s.power.loaded.filter fun p => p.1 == a).getLast? with | some p => p.2 | none => resetWord s.variant a)
         ∧ ((∀ p ∈ s.power.loaded, p.1 ≠ pageAddr page + 0x028) → t.rd (pageAddr page + 0x028) = s.rd (pageAddr page + 0x028))
         ∧ (∀ a, pageAddr (pageOf a) ≠ pageAddr page → t.rd a = s.rd a) ∧ SameMemory s t)
       ∧ (cfgLocked s page = true → bit v 0 = s.flag (statAddr page) 0 → bit v 2 = false → s.flag (statAddr page) 1 = false →
         Completes (.ctrlSoftReset m page v) s fun t =>
           ErrorRecorded (pageAddr page) 0x01 0x02 (errDetail (masterCode m) 0x008) s t
           ∧ OnlyPageRegs [pageAddr page + 0x20, pageAddr page + 0x24, ctrlAddr page] s t)
       ∧ (cfgLocked s page = false → s.flag (statAddr page) 2 = false → s.flag (statAddr page) 0 = true → s.flag (statAddr page) 1 = false →
         bit v 0 = true → bit v 2 = false → Completes (.ctrlSoftReset m page v) s fun t =>
           ErrorRecorded (pageAddr page) 0x02 0x03 (errDetail (masterCode m) 0x008) s t
           ∧ OnlyPageRegs [pageAddr page + 0x20, pageAddr page + 0x24, ctrlAddr page] s t)
       ∧ (bit v 1 = false → bit v 0 = s.flag (statAddr page) 0 → s.flag (statAddr page) 1 = false →
         (freezeOk (s.attach m) = true → Completes (.ctrlFreeze m page v) s fun t =>
           t.flag (ctrlAddr page) 2 = true ∧ OnlyPageRegs [ctrlAddr page] s t)
         ∧ (freezeOk (s.attach m) = false → Completes (.ctrlFreeze m page v) s fun t =>
           ErrorRecorded (pageAddr page) 0x02 0x04 (errDetail (masterCode m) 0x008) s t
           ∧ OnlyPageRegs [pageAddr page + 0x20, pageAddr page + 0x24] s t))))
  ∧ ((∀ (page : Nat) (s : State), Completes (.pageCrcUpdate page) s fun t =>
        tabGet t.pages.crcBusy page false = false ∧ OnlyPageRegs [] s t)
    ∧ (∀ (m : Master) (page : Nat) (up : Upset) (s : State), HeaderPage page → (pageClass page).isSome = true → busUp s = true →
        debugMay s m (pageAddr page + 0x30) false = true → s.hasPage page = true →
        Completes (.memoryRead m (pageAddr page + 0x30) 4 up) s fun t =>
          t.pages.answer = { data := pageCrc s page, error := false } ∧ tabGet t.pages.crcBusy page false = false ∧ OnlyPageRegs [] s t)
    ∧ (∀ (m : Master) (a : Nat) (v : Word) (c : PageClass) (d : RegDef) (s : State), RegisterAt c d a s → PlainRow c d → Reaches m a s →
        d.kind = .cz → Accepted d a m v s → featureAbsent s.variant c (a % 0x1000) = false →
        (d.mask = 0x0000FFFF → Completes (.counterClear m a v) s fun t => OnlyPageRegs [a] s t
          ∧ t.fld a 0 16 = (if bits v 0 16 = 0 then 0 else s.fld a 0 16) ∧ t.fld a 16 16 = s.fld a 16 16)
        ∧ (d.mask = 0xFFFF0000 → Completes (.counterClear m a v) s fun t => OnlyPageRegs [a] s t
          ∧ t.fld a 16 16 = (if bits v 16 16 = 0 then 0 else s.fld a 16 16) ∧ t.fld a 0 16 = s.fld a 0 16)
        ∧ (d.mask = 0xFFFFFFFF → Completes (.counterClear m a v) s fun t => OnlyPageRegs [a] s t
          ∧ t.fld a 0 16 = (if bits v 0 16 = 0 then 0 else s.fld a 0 16)
          ∧ t.fld a 16 16 = (if bits v 16 16 = 0 then 0 else s.fld a 16 16))))

/-! ## Clocks, resets and the power ladder (spec/04_clocks_power.md) -/

/-- Parts of R84 and R87: the one scope of every reset. Every register outside the AON domain returns to its reset value, RST_CAUSE, WAKE_STAT and
PLL_STAT apart; RST_CAUSE adds the new causes to those of a reset still under way; memory reads zero with a valid code, queues are empty,
engines and the Cox are at reset with both safe-off paths low, TICK is 0; the AON registers that R473 keeps, the OTP array, the variant and
the commands that wait stay; the wake runs from the regulator step once the supplies allow it. -/
def Obligations.ResetScope : Prop :=
  ∀ (causes : Word) (s : State),
    (∀ a, isRegAddr a = true → pageOf a ≠ 0x24 → a ≠ Reg.SYS_RST_CAUSE → a ≠ Reg.PWR_WAKE_STAT → a ≠ Reg.CLK_PLL_STAT →
      (deviceReset causes s).rd a = resetWord s.variant a)
    ∧ (∀ a, aonKept (a, 0) = true → (deviceReset causes s).rd a = s.rd a)
    ∧ (deviceReset causes s).rd Reg.SYS_RST_CAUSE = resetCausesSoFar s ||| causes
    ∧ (∀ a, (deviceReset causes s).byteAt a = 0) ∧ (deviceReset causes s).ecc = [] ∧ (deviceReset causes s).queues = []
    ∧ (deviceReset causes s).spes = [] ∧ (deviceReset causes s).dma = [] ∧ (deviceReset causes s).sch = {}
    ∧ (deviceReset causes s).cox.safeOffN = false ∧ (deviceReset causes s).cox.safePulse = false ∧ (deviceReset causes s).cox.actSen = []
    ∧ (deviceReset causes s).now = 0 ∧ (deviceReset causes s).otp = otpThrough s ∧ (deviceReset causes s).variant = s.variant
    ∧ (deviceReset causes s).pending = s.pending
    ∧ (deviceReset causes s).power.phase = (if suppliesUp s then .waking 6 1 1 false 0 else .held)

/-- R86 and parts of R82 and R85: PORST_N low for 10 µs or longer and RESET_N driven low from outside for 1 µs or longer reset the device, and a
pulse under 1 µs does nothing; a low of RESET_N that resets the device holds LOGIC_RDY back for as long as it lasts, and one that comes while the
device drives RESET_N itself holds it back until 1 µs after it has ended; an opened write of 0x0000_A5C3 to RST_KEY resets it, of any other value
records BLOCK/RST_VALUE, and one that is not opened records ACCESS/KEY_REQUIRED, whatever the state of the outputs; supplies in range with
PORST_N high end the hold and start the wake, as a first power-up where the AON domain was lost. BEACHED, where only the AON domain has a supply,
is left out of the PORST_N clause. -/
def Obligations.ResetSources : Prop :=
  (∀ (ns : Nat) (s : State),
    (10000 ≤ ns → s.fld Reg.PWR_STATE 0 3 ≠ 5 → Completes (.porstNLow ns) s fun t =>
      t = { deviceReset 0x00000002 s with power := { (deviceReset 0x00000002 s).power with wakeFault := false } })
    ∧ (ns < 1000 → Completes (.porstNLow ns) s fun t => t = s)
    ∧ (1000 ≤ ns → drivesResetN s = false → Completes (.resetPinLow ns) s fun t =>
        t = { deviceReset 0x00000004 s with
                power := { (deviceReset 0x00000004 s).power with resetLow := max (deviceReset 0x00000004 s).power.resetLow ns } })
    ∧ (ns < 1000 → drivesResetN s = false → Completes (.resetPinLow ns) s fun t => t = s)
    ∧ (0 < ns → drivesResetN s = true → Completes (.resetPinLow ns) s fun t =>
        t = { s with power := { s.power with resetLow := max s.power.resetLow (ns + 1000) } }))
  ∧ (∀ (m : Master) (v : Word) (s : State), Reaches m Reg.SYS_RST_KEY s →
      (holdsOpening s 0x00 m = true → v = 0x0000A5C3 → Completes (.rstKey m v) s fun t =>
          t = deviceReset 0x00000010 ((s.attach m).consumeKey 0x00 m))
      ∧ (holdsOpening s 0x00 m = true → v ≠ 0x0000A5C3 → Completes (.rstKey m v) s fun t =>
          ErrorRecorded Reg.SYS 0x03 0x01 (errDetail (masterCode m) 0x054) s t ∧ OnlyPageRegs [Reg.SYS + 0x20, Reg.SYS + 0x24] s t)
      ∧ (holdsOpening s 0x00 m = false → Completes (.rstKey m v) s fun t =>
          ErrorRecorded Reg.SYS 0x01 0x04 (errDetail (masterCode m) 0x054) s t ∧ OnlyPageRegs [Reg.SYS + 0x20, Reg.SYS + 0x24] s t))
  ∧ (∀ s : State, s.power.phase = .held → Completes .powerUp s fun t =>
      t.power.phase = .waking 6 1 1 false 0 ∧ (∀ x ∈ t.power.under, x = .vbat)
      ∧ t.rd Reg.SYS_RST_CAUSE = (if s.power.aonLost then s.rd Reg.SYS_RST_CAUSE ||| 0x3 else s.rd Reg.SYS_RST_CAUSE)
      ∧ SameRegsBut [Reg.SYS_RST_CAUSE] s t ∧ SameMemory s t)

/-- Parts of R78 to R81: an accepted write of SPREAD_CFG waits with PENDING until the next modulation period, and is refused as a whole with
SPREAD_CONFLICT where it would spread ETH_CLK, spread CAN_CLK beyond 0.25% or select rate 3; at the boundary the settings come into force and
SPREAD_APPLIED latches; the loss of a clock shows in PLL_STAT, and an unlock outside EASY or a window violation latches its CLK cause; an
overvoltage is held as the condition of its line; VIN_WARN latches and changes nothing else.
Parts of R81, R90: an undervoltage of VCORE, VIO, VHP or VANA in ROW to HOLD resets the device, which is held while it persists, and its end
releases nothing by itself; VIN below its threshold puts the device in BEACHED from any state with the wake enables copied; the return of VIN
resets it, as WAKE where the AON domain kept its state and as a first power-up otherwise. -/
def Obligations.ClocksSuppliesAndTheirLoss : Prop :=
  ((∀ (m : Master) (v n : Word) (s : State), Reaches m Reg.CLK_SPREAD_CFG s → Accepted (defOf .clk 0x048) Reg.CLK_SPREAD_CFG m v s →
     n = storeValue (defOf .clk 0x048) (s.rd Reg.CLK_SPREAD_CFG) v →
     ((bit n 22 = true ∨ (bit n 20 = true ∧ 1 < bits n 0 2) ∨ bits n 4 2 = 3) → Completes (.spreadCfgWrite m v) s fun t =>
         ErrorRecorded Reg.CLK 0x03 0x01 (errDetail (masterCode m) 0x048) s t ∧ OnlyPageRegs [Reg.CLK + 0x20, Reg.CLK + 0x24] s t)
     ∧ (¬(bit n 22 = true ∨ (bit n 20 = true ∧ 1 < bits n 0 2) ∨ bits n 4 2 = 3) → Completes (.spreadCfgWrite m v) s fun t =>
         t.rd Reg.CLK_SPREAD_CFG = n ∧ t.flag Reg.CLK_SPREAD_STAT 31 = true
         ∧ SameRegsBut [Reg.CLK_SPREAD_CFG, Reg.CLK_SPREAD_STAT] s t ∧ SameMemory s t))
   ∧ (∀ s : State, frozen s 0x01 = false → s.flag Reg.CLK_SPREAD_STAT 31 = true → atModBoundary s = true →
       Completes .spreadApplied s fun t => t.rd Reg.CLK_SPREAD_STAT = s.rd Reg.CLK_SPREAD_CFG ∧ t.flag (Reg.CLK + 0x18) 2 = true
         ∧ t.power.modOrigin = modBoundary s ∧ SameRegsBut [Reg.CLK_SPREAD_STAT, Reg.CLK + 0x18] s t ∧ SameMemory s t)
   ∧ (∀ (b : Bool) (s : State),
       (Completes (.clockLoss .xtalLoss b) s fun t => t.flag Reg.CLK_PLL_STAT 0 = !b ∧ OnlyRegs [Reg.CLK_PLL_STAT] s t)
       ∧ (Completes (.clockLoss .rootLoss b) s fun t => t.flag Reg.CLK_PLL_STAT 2 = !b ∧ OnlyRegs [Reg.CLK_PLL_STAT] s t)
       ∧ (s.fld Reg.PWR_STATE 0 3 ≠ 2 → Completes (.clockLoss .pllUnlock b) s fun t => t.flag Reg.CLK_PLL_STAT 1 = !b
           ∧ (b = true → s.flag Reg.CLK_PLL_STAT 1 = true → t.flag (Reg.CLK + 0x18) 0 = true)
           ∧ OnlyRegs [Reg.CLK_PLL_STAT, Reg.CLK + 0x18] s t)
       ∧ (Completes (.clockLoss .window b) s fun t => t.power.window = b
           ∧ (b = true → s.power.window = false → t.flag (Reg.CLK + 0x18) 1 = true)
           ∧ SameRegsBut [Reg.CLK + 0x18] s t ∧ SameMemory s t))
   ∧ (∀ (x : Supply) (b : Bool) (s : State), Completes (.supplyOvervoltage x b) s fun t =>
       t.power.above.contains x = b ∧ (∀ y, y ≠ x → t.power.above.contains y = s.power.above.contains y) ∧ lineCond t (overLine x) = some b
       ∧ t = { s with power := { s.power with above := t.power.above } })
   ∧ (∀ s : State, s.power.phase ≠ .held → (∀ k n b d, s.power.phase ≠ .waking 6 k n b d) → s.fld Reg.PWR_STATE 0 3 ≤ 3 →
       Completes .vinWarn s fun t => t.flag (Reg.PWR + 0x18) 3 = true ∧ OnlyRegs [Reg.PWR + 0x18] s t))
  ∧ ((∀ (x : Supply) (s : State),
      (x ≠ .vin → x ≠ .vbat → s.fld Reg.PWR_STATE 0 3 ≤ 3 → Completes (.supplyUndervoltage x true) s fun t =>
        t = deviceReset 0x00000020 { s with power := { s.power with under := setSupply s.power.under x true } } ∧ t.power.phase = .held)
      ∧ (x ≠ .vin → (x = .vbat ∨ 3 < s.fld Reg.PWR_STATE 0 3) → Completes (.supplyUndervoltage x true) s fun t =>
        t = { s with power := { s.power with under := setSupply s.power.under x true } })
      ∧ (x = .vin → Completes (.supplyUndervoltage x true) s fun t => exec .vinLoss s = .next t)
      ∧ (Completes (.supplyUndervoltage x false) s fun t =>
        t = { s with power := { s.power with under := setSupply s.power.under x false } }))
    ∧ (∀ s : State, s.fld Reg.PWR_STATE 0 3 ≠ 5 → Completes .vinLoss s fun t =>
        t.fld Reg.PWR_STATE 0 3 = 5 ∧ t.power.phase = .steady
        ∧ t.power.wakeHeld = (if s.fld Reg.PWR_STATE 0 3 = 4 ∧ s.power.phase = .steady then s.power.wakeHeld else s.rd Reg.PWR_WAKE_CFG)
        ∧ t.flag Reg.AON_AON_STAT 31 = true ∧ t.queues = [] ∧ (∀ a, t.byteAt a = 0) ∧ t.cox.safeOffN = false)
    ∧ (∀ s : State, s.fld Reg.PWR_STATE 0 3 = 5 → s.power.phase = .steady → Completes .vinReturn s fun t =>
        t.rd Reg.SYS_RST_CAUSE = (if s.power.aonLost then 0x00000003 else 0x00000040) ∧ t.fld Reg.PWR_WAKE_STAT 8 4 = 8
        ∧ t.power.pendRtc = false ∧ t.power.pendPin = false ∧ t.power.under.contains .vin = false))

/-- Parts of R88, R89, R91, R157: a request for the current state has no effect; one for codes 5 to 7 records BAD_TARGET; one for a lower state
is refused with the first cause that applies, OUTPUTS_LIVE, WAKE_PENDING (also while a word of OTP is in programming, log entry 51), COX_BUSY,
and otherwise accepted, the Cox leaving RUN for SAFE at an entry to HOLD or MOORED; one for a higher state starts a wake; during a transition it
records BUSY, and abandons an entry to PADDLE or EASY. Gating waits until the units that halt are at rest (`unitsAtRest`, `haltsDone`); then it
ends an accepted entry in the new state, MOORED keeping the AON registers and state and OTP and clearing memory, queues and engines, unless a
wake source has asserted: then the entry is abandoned. -/
def Obligations.PowerLadder : Prop :=
  (∀ (m : Master) (v : Word) (s : State), Reaches m Reg.PWR_REQ s → Accepted (defOf .pwr 0x040) Reg.PWR_REQ m v s →
    (s.power.phase = .steady →
      (bits v 0 3 = s.fld Reg.PWR_STATE 0 3 → bits v 0 3 < 5 → Completes (.pwrReq m v) s fun t => OnlyPageRegs [] s t)
      ∧ (5 ≤ bits v 0 3 → Completes (.pwrReq m v) s fun t =>
          ErrorRecorded Reg.PWR 0x03 0x01 (errDetail (masterCode m) 0x040) s t ∧ OnlyPageRegs [Reg.PWR + 0x20, Reg.PWR + 0x24] s t)
      ∧ (bits v 0 3 < 5 → s.fld Reg.PWR_STATE 0 3 < bits v 0 3 →
          (outputsLive s = true → Completes (.pwrReq m v) s fun t => t.flag Reg.PWR_ENTRY 31 = true
            ∧ t.fld Reg.PWR_ENTRY 8 3 = bits v 0 3 ∧ t.fld Reg.PWR_ENTRY 0 4 = 1 ∧ t.flag (Reg.PWR + 0x18) 0 = true ∧ t.power.phase = .steady
            ∧ t.fld Reg.PWR_STATE 0 3 = s.fld Reg.PWR_STATE 0 3)
          ∧ (outputsLive s = false → wakePending s (bits v 0 3) (s.rd Reg.PWR_WAKE_CFG) = true ∨ s.otp.prog ≠ none → Completes (.pwrReq m v) s fun t =>
              t.flag Reg.PWR_ENTRY 31 = true ∧ t.fld Reg.PWR_ENTRY 8 3 = bits v 0 3 ∧ t.fld Reg.PWR_ENTRY 0 4 = 2 ∧ t.flag (Reg.PWR + 0x18) 0 = true
              ∧ t.power.phase = .steady ∧ t.fld Reg.PWR_STATE 0 3 = s.fld Reg.PWR_STATE 0 3)
          ∧ (outputsLive s = false → wakePending s (bits v 0 3) (s.rd Reg.PWR_WAKE_CFG) = false → s.otp.prog = none →
              s.fld (Reg.COX + 0x00C) 4 4 = 1 ∨ s.fld (Reg.COX + 0x00C) 4 4 = 4 → Completes (.pwrReq m v) s fun t =>
              t.flag Reg.PWR_ENTRY 31 = true ∧ t.fld Reg.PWR_ENTRY 0 4 = 3 ∧ t.fld Reg.PWR_ENTRY 8 3 = bits v 0 3 ∧ t.flag (Reg.PWR + 0x18) 0 = true
              ∧ t.power.phase = .steady ∧ t.fld Reg.PWR_STATE 0 3 = s.fld Reg.PWR_STATE 0 3)
          ∧ (outputsLive s = false → wakePending s (bits v 0 3) (s.rd Reg.PWR_WAKE_CFG) = false → s.otp.prog = none →
              s.fld (Reg.COX + 0x00C) 4 4 ≠ 1 → s.fld (Reg.COX + 0x00C) 4 4 ≠ 4 → Completes (.pwrReq m v) s fun t =>
              t.power.phase = .entering (bits v 0 3) ∧ t.rd Reg.PWR_REQ = wordOf (bits v 0 3)
              ∧ (3 ≤ bits v 0 3 → s.fld (Reg.COX + 0x00C) 4 4 = 3 → t.fld (Reg.COX + 0x00C) 4 4 = 2 ∧ t.cox.safeOffN = false
                  ∧ t.cox.safePulse = false ∧ t.cox.actSen = [])))
      ∧ (bits v 0 3 < s.fld Reg.PWR_STATE 0 3 → Completes (.pwrReq m v) s fun t =>
          t.power.phase = .waking (s.fld Reg.PWR_STATE 0 3) 1 1 false (bits v 0 3) ∧ t.rd Reg.PWR_WAKE_STAT = 0x00000200))
    ∧ (∀ f k n b x, s.power.phase = .waking f k n b x → Completes (.pwrReq m v) s fun t =>
          ErrorRecorded Reg.PWR 0x03 0x02 (errDetail (masterCode m) 0x040) s t ∧ OnlyPageRegs [Reg.PWR + 0x20, Reg.PWR + 0x24] s t)
    ∧ (∀ g, s.power.phase = .entering g → Completes (.pwrReq m v) s fun t =>
          ErrorRecorded Reg.PWR 0x03 0x02 (errDetail (masterCode m) 0x040) s t
          ∧ (g ≤ 2 → t.power.phase = .steady ∧ t.flag Reg.PWR_ENTRY 31 = true ∧ t.fld Reg.PWR_ENTRY 0 4 = 2)
          ∧ (2 < g → t.power.phase = .entering g)))
  ∧ (∀ (target : Nat) (s : State), s.power.phase = .entering target → unitsAtRest s = false ∨ haltsDone s target = false →
      Completes .powerStateGating s (· = s))
  ∧ (∀ (target : Nat) (s : State), s.power.phase = .entering target → unitsAtRest s = true → haltsDone s target = true →
      (wakePending s target (s.rd Reg.PWR_WAKE_CFG) = true → Completes .powerStateGating s fun t => t.power.phase = .steady
        ∧ t.flag Reg.PWR_ENTRY 31 = true ∧ t.fld Reg.PWR_ENTRY 0 4 = 2 ∧ t.fld Reg.PWR_STATE 0 3 = s.fld Reg.PWR_STATE 0 3)
      ∧ (wakePending s target (s.rd Reg.PWR_WAKE_CFG) = false → (target = 1 ∨ target = 2 ∨ target = 3) → Completes .powerStateGating s fun t =>
          t.power.phase = .steady ∧ t.fld Reg.PWR_STATE 0 3 = target ∧ t.fld Reg.PWR_STATE 4 3 = s.fld Reg.PWR_STATE 0 3
          ∧ t.power.wakeHeld = s.rd Reg.PWR_WAKE_CFG ∧ t.power.retHeld = s.rd Reg.PWR_RET_CFG
          ∧ (target = 2 → t.flag Reg.CLK_PLL_STAT 1 = false))
      ∧ (wakePending s target (s.rd Reg.PWR_WAKE_CFG) = false → target = 4 → Completes .powerStateGating s fun t =>
          t.power.phase = .steady ∧ t.fld Reg.PWR_STATE 0 3 = 4 ∧ t.power.wakeHeld = s.rd Reg.PWR_WAKE_CFG ∧ t.queues = []
          ∧ t.cox.safeOffN = false ∧ t.aon = s.aon ∧ t.otp = s.otp ∧ (∀ a, aonKept (a, 0) = true → t.rd a = s.rd a) ∧ (∀ a, t.byteAt a = 0)
          ∧ t.spes = [] ∧ t.dma = [] ∧ t.sch = {}))

/-- Parts of R88, R91, R92, R94, R95: enabled CAN activity and the fall of HP_CS_N wake the device from HOLD and abandon an entry to it; a wake
step sets its ready bit and the next one starts, the fourth, once no wipe and no low of RESET_N holds it back, ends the wake in its destination
with WAKE_DONE; a step that misses its timeout pauses, is tried again with one more attempt, and at the fourth attempt returns the device to
MOORED with the record in BKP0 and FAULT_N held. -/
def Obligations.WakeSteps : Prop :=
  (∀ (k : Nat) (s : State), s.fld Reg.PWR_STATE 0 3 = 3 → s.power.phase = .steady → k < cansOf s.variant → bit s.power.wakeHeld (4 + k) = true →
      Completes (.holdCanActivity k) s fun t => t.power.phase = .waking 3 1 1 false 0 ∧ t.rd Reg.PWR_WAKE_STAT = 0x00000500
        ∧ SameRegsBut [Reg.PWR_WAKE_STAT] s t ∧ SameMemory s t)
  ∧ (∀ (k : Nat) (s : State), s.power.phase = .entering 3 → k < cansOf s.variant → s.flag Reg.PWR_WAKE_CFG (4 + k) = true →
      Completes (.holdCanActivity k) s fun t => t.power.phase = .steady ∧ t.flag Reg.PWR_ENTRY 31 = true ∧ t.fld Reg.PWR_ENTRY 0 4 = 2
        ∧ t.fld Reg.PWR_ENTRY 8 3 = 3 ∧ SameRegsBut ([Reg.PWR_ENTRY, Reg.PWR + 0x18] ++ profStats) s t ∧ SameMemory s t)
  ∧ (∀ s : State, frozen s 0x30 = false → s.boot.controller = false → s.host.csLow = false → Completes .hpCsFall s fun t =>
      t.host.csLow = true ∧ SameMemory s t ∧ SameRegsBut ([Reg.PWR_WAKE_STAT, Reg.PWR_ENTRY, Reg.PWR + 0x18] ++ profStats) s t
      ∧ (s.power.phase = .entering 3 → s.flag Reg.PWR_WAKE_CFG 8 = true → t.power.phase = .steady ∧ t.fld Reg.PWR_ENTRY 0 4 = 2)
      ∧ (s.fld Reg.PWR_STATE 0 3 = 3 → s.power.phase = .steady → bit s.power.wakeHeld 8 = true →
          t.power.phase = .waking 3 1 1 false 0 ∧ t.rd Reg.PWR_WAKE_STAT = 0x00000600))
  ∧ (∀ (f k n dest : Nat) (s : State), s.power.phase = .waking f k n false dest →
      ((k = 1 ∨ k = 2) → Completes .wakeStepDone s fun t => t.power.phase = .waking f (k + 1) 1 false dest
        ∧ t.flag Reg.PWR_WAKE_STAT (k - 1) = true ∧ SameRegsBut [Reg.PWR_WAKE_STAT, Reg.CLK_PLL_STAT] s t ∧ SameMemory s t)
      ∧ (k = 3 → Completes .wakeStepDone s fun t => t.power.phase = .waking f 4 1 false dest ∧ t.flag Reg.PWR_WAKE_STAT 2 = true)
      ∧ (k = 4 → s.sec.wipeStart = none → s.sec.wipeDue = none → (f = 6 → s.power.resetLow = 0) → Completes .wakeStepDone s fun t => t.power.phase = .steady
        ∧ t.flag Reg.PWR_WAKE_STAT 3 = true ∧ t.flag (Reg.PWR + 0x18) 1 = true ∧ t.fld Reg.PWR_WAKE_STAT 12 4 = s.power.retries % 16
        ∧ t.power.wakeFault = false ∧ SameMemory s t ∧ (f ≠ 6 → t.fld Reg.PWR_STATE 0 3 = dest % 8 ∧ t.fld Reg.PWR_STATE 4 3 = f % 8)
        ∧ (f = 6 → t.fld Reg.SEC_LC_STATE 0 3 = lcCode s ∧ t.flag Reg.OTP_LOAD_STAT 31 = true))
      ∧ (n < 4 → Completes .wakeStepTimeout s fun t =>
          t = { s with power := { s.power with phase := .waking f k n true dest, retries := s.power.retries + 1 } })
      ∧ (4 ≤ n → Completes .wakeStepTimeout s fun t => t.power.phase = .steady ∧ t.fld Reg.PWR_STATE 0 3 = 4 ∧ t.power.wakeFault = true
        ∧ t.rd (Reg.AON_BKP 0) = BitVec.ofNat 32 (0xFA110000 + (if f = 6 then s.power.wokeFrom else f) * 0x100 + 4 * 0x10 + k)))
  ∧ (∀ (f k n dest : Nat) (s : State), s.power.phase = .waking f k n true dest → Completes .wakeStepRetry s fun t =>
      t = { s with power := { s.power with phase := .waking f k (n + 1) false dest } })

/-! ## The Cox safety island (spec/05_cox.md) -/

/-- Parts of R98, R99, R102, R112: a check that finds the condition absent restarts the count of its line; one that finds it present counts, and
latches the line once DEBOUNCE consecutive checks have found it, not again while it stays; the lines of an absent unit never assert. A latch sets
its bit, holds class and mask of the entry, writes the log entry and the first record, and then acts by its class (`react`). An event-free
millisecond of an event-type source is an absent check. The condition is the state's own where the state holds it. A check of line 6 reads every
output pad back first (`padReadback`, R32). -/
def Obligations.FaultLineCounting : Prop :=
  (∀ (n : Nat) (b : Bool) (s r : State), n < 96 → coxAlive s = true → r = (if n = 6 then padReadback s else s) →
    (lineAbsent s.variant n = true → Completes (.faultLineCheck n b) s fun t => t = s)
    ∧ (lineAbsent s.variant n = false →
      ((lineCond s n).getD b = false → Completes (.faultLineCheck n b) s fun t => tabGet t.cox.count n 0 = 0
        ∧ tabGet t.cox.stuck n false = false ∧ lineActive t n = false ∧ OnlyRegs [Reg.COX_ACTIVE (n / 32)] { r with cox := t.cox } t)
      ∧ ((lineCond s n).getD b = true →
        (tabGet s.cox.stuck n false = true → Completes (.faultLineCheck n b) s fun t =>
          lineActive t n = true ∧ tabGet t.cox.lastEvent n 0 = s.cox.ps ∧ t.cox = { s.cox with lastEvent := t.cox.lastEvent }
          ∧ OnlyRegs [Reg.COX_ACTIVE (n / 32)] { r with cox := t.cox } t)
        ∧ (tabGet s.cox.stuck n false = false → tabGet s.cox.count n 0 + 1 < max 1 (s.fld (Reg.COX_FMAP_ENTRY n) 8 8) →
          Completes (.faultLineCheck n b) s fun t => tabGet t.cox.count n 0 = tabGet s.cox.count n 0 + 1
            ∧ lineActive t n = true ∧ OnlyRegs [Reg.COX_ACTIVE (n / 32)] { r with cox := t.cox } t)
        ∧ (tabGet s.cox.stuck n false = false → max 1 (s.fld (Reg.COX_FMAP_ENTRY n) 8 8) ≤ tabGet s.cox.count n 0 + 1 →
          Completes (.faultLineCheck n b) s fun t => ∃ u, t = coxRefresh (react n (s.fld (Reg.COX_FMAP_ENTRY n) 0 2) u)
            ∧ lineLatched u n = true ∧ tabGet u.cox.count n 0 = 0
            ∧ tabGet u.cox.held n ⟨0, 8⟩ = ⟨s.fld (Reg.COX_FMAP_ENTRY n) 0 2, s.fld (Reg.COX_FMAP_ENTRY n) 2 3⟩
            ∧ u.rd (Reg.COX_LOG (2 * s.fld Reg.COX_LOG_IDX 0 6))
                = wordOf (0x1000 * coxState s + 0x100 * s.fld (Reg.COX_FMAP_ENTRY n) 0 2 + n)
            ∧ u.rd (Reg.COX_LOG (2 * s.fld Reg.COX_LOG_IDX 0 6 + 1)) = wordOf s.now
            ∧ (s.flag Reg.COX_FIRST 31 = false → u.rd Reg.COX_FIRST = wordOf (0x80000000 + n) ∧ u.rd64 (Reg.COX_FIRST_TICK 0) = s.now % 2 ^ 64)))))
  ∧ (∀ (n : Nat) (s : State), n < 96 → coxAlive s = true → lineAbsent s.variant n = false →
      (eventLine n = true → tabGet s.cox.lastEvent n 0 + 1000000000 ≤ s.cox.ps → Completes (.eventLineIdleCheck n) s fun t =>
        tabGet t.cox.count n 0 = 0 ∧ tabGet t.cox.stuck n false = false ∧ lineActive t n = false
        ∧ SameRegsBut [Reg.COX_ACTIVE (n / 32)] s t)
      ∧ (eventLine n = false ∨ s.cox.ps < tabGet s.cox.lastEvent n 0 + 1000000000 → Completes (.eventLineIdleCheck n) s fun t => t = s))

/-- Parts of R29, R101, R103, R104, and R113: a C3 reaction in any state but OFF, that of line 15 in CHECK apart, ends in OFF with SAFE_OFF_N
low, SAFE_PULSE stopped and every ACT_SENn low, and notes the entry where a line of 0 to 4 is latched; so does the end of STOP_TIME in STOPPING.
SW_STOP and SW_OFF assert lines 94 and 95 for one check, whatever the locks and the key state. 10 ms after the noted entry to OFF, AUTO_RESET
orders a reset.
Parts of R104, R107, R108, R134: LOGIC_RDY takes the Cox from INIT to CHECK with test 1; a test that finishes is followed by the next (a CHECK
from OFF leaves out test 5), test 5 leaves every tested word 0 with a valid code, and a failed one sets its bit in CHECK_RES and latches line 15
without ending CHECK; test 6 also fails by its own readbacks and where a drain readback of COX_SEN_TEST has not followed its switch; after the
last test CHECK_RES reads DONE, with PASS when no bit is set, and the Cox stands in SAFE, or in OFF with both paths low where line 15 is held
with class C2 or C3. -/
def Obligations.OffReactionAndStartUp : Prop :=
  ((∀ (n : Nat) (s : State), 3 ≤ s.fld (Reg.COX_FMAP_ENTRY n) 0 2 → coxState s ≠ 5 → ¬(n = 15 ∧ coxState s = 1) →
       coxState (coxRefresh (react n (s.fld (Reg.COX_FMAP_ENTRY n) 0 2) s)) = 5
       ∧ (coxRefresh (react n (s.fld (Reg.COX_FMAP_ENTRY n) 0 2) s)).cox.safeOffN = false
       ∧ (coxRefresh (react n (s.fld (Reg.COX_FMAP_ENTRY n) 0 2) s)).cox.safePulse = false
       ∧ (coxRefresh (react n (s.fld (Reg.COX_FMAP_ENTRY n) 0 2) s)).cox.actSen = []
       ∧ (coxRefresh (react n (s.fld (Reg.COX_FMAP_ENTRY n) 0 2) s)).cox.offSince
           = if bits (s.rd (Reg.COX_LATCH 0)) 0 5 ≠ 0 then some s.cox.ps else none)
   ∧ (∀ (e : Nat) (s : State), s.cox.stopEnd = some e → e ≤ s.cox.ps → coxState s = 4 → Completes .coxStopTimeout s fun t =>
       coxState t = 5 ∧ t.cox.safeOffN = false ∧ t.cox.safePulse = false ∧ t.cox.actSen = [])
   ∧ (∀ (m : Master) (s : State), Reaches m Reg.COX_SW_FAULT s →
       (Completes (.swStop m) s fun t => ∃ r, r = lineCount 94 true ((s.attach m).consumeKey 0x10 m)
         ∧ (coxAlive s = true → lineActive r.1 94 = true) ∧ t = if r.2 then latchLine 94 r.1 else r.1)
       ∧ (Completes (.swOff m) s fun t => ∃ r, r = lineCount 95 true ((s.attach m).consumeKey 0x10 m)
         ∧ (coxAlive s = true → lineActive r.1 95 = true) ∧ t = if r.2 then latchLine 95 r.1 else r.1))
   ∧ (∀ (e : Nat) (s : State), s.cox.offSince = some e → e + 10000000000 ≤ s.cox.ps → coxState s = 5 →
       (s.flag Reg.COX_CFG 8 = true → Completes .coxAutoReset s fun t => t = deviceReset 0x00000008 s)
       ∧ (s.flag Reg.COX_CFG 8 = false → Completes .coxAutoReset s fun t => t = s)))
  ∧ ((∀ s : State, coxAlive s = true → coxState s = 0 → s.power.phase = .steady → busUp s = true → Completes .checkStart s fun t =>
        coxState t = 1 ∧ t.cox.test = 1 ∧ t.cox.fromOff = false ∧ t.rd Reg.COX_CHECK_RES = 0)
    ∧ (∀ (l : List Nat) (s : State), coxAlive s = true → coxState s = 1 → 1 ≤ s.cox.test → s.cox.test < 6 → s.cox.test ≠ 5 →
        (Completes (.checkTestDone ⟨true, l⟩) s fun t =>
          t.cox.test = (if s.cox.test = 4 ∧ s.cox.fromOff = true then 6 else s.cox.test + 1) ∧ OnlyRegs [] { s with cox := t.cox } t)
        ∧ (lineLatched s 15 = true → Completes (.checkTestDone ⟨false, l⟩) s fun t => t.flag Reg.COX_CHECK_RES (s.cox.test - 1) = true
            ∧ t.cox.test = (if s.cox.test = 4 ∧ s.cox.fromOff = true then 6 else s.cox.test + 1) ∧ SameRegsBut [Reg.COX_CHECK_RES] s t))
    ∧ (∀ (l : List Nat) (s : State), coxAlive s = true → coxState s = 1 → 1 ≤ s.cox.test → s.cox.test < 6 → lineLatched s 15 = false →
        Completes (.checkTestDone ⟨false, l⟩) s fun t => t.flag Reg.COX_CHECK_RES (s.cox.test - 1) = true ∧ lineLatched t 15 = true ∧ coxState t = 1
          ∧ t.cox.test = (if s.cox.test = 4 ∧ s.cox.fromOff = true then 6 else s.cox.test + 1))
    ∧ (∀ (b : Bool) (l : List Nat) (s : State), coxAlive s = true → coxState s = 1 → s.cox.test = 5 → Completes (.checkTestDone ⟨b, l⟩) s fun t =>
        t.cox.test = 6 ∧ (b = true → SameRegsBut [] s t) ∧ (∀ a, marched s.variant a = true → t.byteAt a = 0 ∧ t.eccAt a = none)
        ∧ (∀ a, marched s.variant a = false → t.byteAt a = s.byteAt a ∧ t.eccAt a = s.eccAt a))
    ∧ (∀ (l : List Nat) (s : State), coxAlive s = true → coxState s = 1 → s.cox.test = 6 → s.cox.pulseBad = false → (∀ g, senTested s g = true → g ∈ l) →
        (Completes (.checkTestDone ⟨true, l⟩) s fun t => t.flag Reg.COX_CHECK_RES 31 = true
          ∧ t.flag Reg.COX_CHECK_RES 29 = false ∧ t.flag Reg.COX_CHECK_RES 30 = decide (s.fld Reg.COX_CHECK_RES 0 6 = 0) ∧ t.cox.test = 0)
        ∧ ((∀ p ∈ s.cox.held, p.1 = 15 → lineLatched s 15 = true → p.2.cls < 2) → Completes (.checkTestDone ⟨true, l⟩) s fun t => coxState t = 2)
        ∧ (∀ p, lineLatched s 15 = true → s.cox.held.find? (fun x => x.1 == 15) = some p → 2 ≤ p.2.cls →
          Completes (.checkTestDone ⟨true, l⟩) s fun t => coxState t = 5 ∧ t.cox.safeOffN = false ∧ t.cox.safePulse = false ∧ t.cox.actSen = []))
    ∧ (∀ (ok : Bool) (l : List Nat) (s : State), coxAlive s = true → coxState s = 1 → s.cox.test = 6 →
        ok = false ∨ s.cox.pulseBad = true ∨ (∃ g, senTested s g = true ∧ g ∉ l) →
        Completes (.checkTestDone ⟨ok, l⟩) s fun t => t.flag Reg.COX_CHECK_RES 5 = true ∧ t.flag Reg.COX_CHECK_RES 31 = true
          ∧ t.flag Reg.COX_CHECK_RES 30 = false ∧ t.cox.test = 0 ∧ lineLatched t 15 = true))

/-- Parts of R105 and R106: an opened release is refused with the first cause that applies, in the order BAD_CODE, WRONG_STATE, RESET_NEEDED,
CHECK_FAILED, LINE_ACTIVE, NOT_LOCKED, WATCHDOG (`releaseCause`), which REL_STAT reports and RELEASE_REFUSED latches; an accepted release into RUN
drives SAFE_OFF_N high, starts SAFE_PULSE and drives ACT_SENn high for the present groups of SEN_EN; an accepted release from OFF starts a CHECK. A
change of SEN_EN in RUN drives ACT_SENn at once.
Parts of R100, R102, R112: a fixed entry refuses a write with BLOCK/FIXED_LINE, or with ACCESS/LOCKED while CFG_LOCK is 1; another entry takes an
accepted write, DEBOUNCE 0 as 1. A clear of a latch bit acts only where the line's source no longer reports and never on lines 0 to 4. A clear of
FIRST.VALID re-arms the record. -/
def Obligations.ReleasesMapAndLatches : Prop :=
  ((∀ (m : Master) (s : State), Reaches m Reg.COX_RELEASE s → holdsOpening s 0x10 m = true →
     (releaseCause s 0x0000AC01 = 0 → Completes (.releaseRun m) s fun t => t.rd Reg.COX_REL_STAT = 0x80000000 ∧ coxState t = 3
         ∧ t.rd Reg.COX_RELEASE = 0x0000AC01
         ∧ t.cox.safeOffN = true ∧ t.cox.safePulse = true
         ∧ t.cox.actSen = (setBitsOf (s.rd Reg.COX_CFG) 6).filter (fun g => decide (g < groupsOf s.variant)))
     ∧ (∀ c, releaseCause s 0x0000AC01 = c + 1 → Completes (.releaseRun m) s fun t => t.rd Reg.COX_REL_STAT = wordOf (c + 1)
         ∧ t.flag (Reg.COX + 0x18) 3 = true ∧ OnlyPageRegs [Reg.COX_RELEASE, Reg.COX_REL_STAT, Reg.COX + 0x18] s t)
     ∧ (releaseCause s 0x0000AC02 = 0 → Completes (.releaseCheck m) s fun t => t.rd Reg.COX_REL_STAT = 0x80000000 ∧ coxState t = 1
         ∧ t.cox.test = 1 ∧ t.cox.fromOff = true)
     ∧ (∀ c, releaseCause s 0x0000AC02 = c + 1 → Completes (.releaseCheck m) s fun t => t.rd Reg.COX_REL_STAT = wordOf (c + 1)
         ∧ t.flag (Reg.COX + 0x18) 3 = true ∧ OnlyPageRegs [Reg.COX_RELEASE, Reg.COX_REL_STAT, Reg.COX + 0x18] s t))
   ∧ (∀ (m : Master) (v : Word) (s : State), Reaches m Reg.COX_CFG s → Accepted (defOf .cox 0x040) Reg.COX_CFG m v s →
       Completes (.senEnWrite m v) s fun t => t.rd Reg.COX_CFG = (s.rd Reg.COX_CFG &&& ~~~0x13F) ||| (v &&& 0x13F)
         ∧ (coxState s = 3 → t.cox.actSen = (setBitsOf (t.rd Reg.COX_CFG) 6).filter (fun g => decide (g < groupsOf s.variant)))
         ∧ (coxState s ≠ 3 → t.cox = s.cox) ∧ SameRegsBut [Reg.COX_CFG] s t ∧ SameMemory s t))
  ∧ ((∀ (m : Master) (n : Nat) (v : Word) (s : State), n < 96 → Reaches m (Reg.COX_FMAP_ENTRY n) s →
      (s.flag (Reg.COX_FMAP_ENTRY n) 31 = true → cfgLocked s 0x11 = false → Completes (.fmapEntryWrite m n v) s fun t =>
        ErrorRecorded Reg.COX_FMAP 0x03 0x01 (errDetail (masterCode m) (Reg.COX_FMAP_ENTRY n % 0x1000)) s t
        ∧ OnlyPageRegs [Reg.COX_FMAP + 0x20, Reg.COX_FMAP + 0x24] s t)
      ∧ (s.flag (Reg.COX_FMAP_ENTRY n) 31 = true → cfgLocked s 0x11 = true → Completes (.fmapEntryWrite m n v) s fun t =>
        ErrorRecorded Reg.COX_FMAP 0x01 0x02 (errDetail (masterCode m) (Reg.COX_FMAP_ENTRY n % 0x1000)) s t
        ∧ OnlyPageRegs [Reg.COX_FMAP + 0x20, Reg.COX_FMAP + 0x24] s t)
      ∧ (∀ w, s.flag (Reg.COX_FMAP_ENTRY n) 31 = false → w = (if bits v 8 8 = 0 then putBits v 8 8 1 else v) →
        Accepted (defOf .cox_fmap 0x040) (Reg.COX_FMAP_ENTRY n) m w s → Completes (.fmapEntryWrite m n v) s fun t =>
          t.rd (Reg.COX_FMAP_ENTRY n) = storeValue (defOf .cox_fmap 0x040) (s.rd (Reg.COX_FMAP_ENTRY n)) w
          ∧ OnlyPageRegs [Reg.COX_FMAP_ENTRY n] s t))
    ∧ (∀ (m : Master) (k b : Nat) (s : State), k < 3 → b < 32 → Reaches m (Reg.COX_LATCH k) s →
      lineLatched s (32 * k + b) = true →
      (lineReports s (32 * k + b) = true ∨ 32 * k + b < 5 → Completes (.latchClear m k (wordOf (2 ^ b))) s fun t =>
        t.rd (Reg.COX_LATCH k) = s.rd (Reg.COX_LATCH k))
      ∧ (lineReports s (32 * k + b) = false → 5 ≤ 32 * k + b → Completes (.latchClear m k (wordOf (2 ^ b))) s fun t =>
        t.rd (Reg.COX_LATCH k) = putBit (s.rd (Reg.COX_LATCH k)) b false ∧ (∀ p ∈ t.cox.held, p.1 ≠ 32 * k + b)))
    ∧ (∀ (m : Master) (v : Word) (s : State), Reaches m Reg.COX_FIRST s → Completes (.firstClear m v) s fun t =>
        t.rd Reg.COX_FIRST = s.rd Reg.COX_FIRST &&& ~~~(v &&& 0x80000000) ∧ OnlyPageRegs [Reg.COX_FIRST] s t))

/-- Parts of R109 to R111: the first write of WD_WIN makes the host watchdog active and publishes the seed xor 0xA633 as the first question; a
correct answer inside the window sets LAST_OK and publishes the next question; a wrong, early, late or missing one counts an error, clears
LAST_OK, latches WD_ERR, keeps the question, restarts the window and is a check of line 23; an answer before the activation is ignored. A service
write of an SPE that runs is one check of its line, absent when value and time are right; a missing one is a present check; the liveness reading
is one check of line 26+n. -/
def Obligations.Watchdogs : Prop :=
  (∀ (m : Master) (v : Word) (s : State), Reaches m Reg.COX_WD_WIN s → Accepted (defOf .cox 0x088) Reg.COX_WD_WIN m v s →
    Completes (.wdWinWrite m v) s fun t => t.rd Reg.COX_WD_WIN = v
      ∧ (s.cox.wd.active = true → t.cox = s.cox)
      ∧ (s.cox.wd.active = false → t.cox.wd.active = true ∧ t.flag Reg.COX_WD_STAT 31 = true
          ∧ t.cox.wd.wopen = bits v 0 16 ∧ t.cox.wd.wclose = bits v 16 16 ∧ t.cox.wd.start = s.cox.ps
          ∧ t.fld Reg.COX_WDQ 0 16 = (if s.fld Reg.COX_WD_SEED 0 16 ^^^ 0xA633 = 0 then 1 else s.fld Reg.COX_WD_SEED 0 16 ^^^ 0xA633)))
  ∧ (∀ (m : Master) (v : Word) (s : State), Reaches m Reg.COX_WDA s →
    (s.cox.wd.active = false → Completes (.wdaWrite m v) s fun t => OnlyPageRegs [] s t)
    ∧ (s.cox.wd.active = true → s.cox.wd.wopen * 1000000 ≤ s.cox.ps - s.cox.wd.start → s.cox.ps - s.cox.wd.start < s.cox.wd.wclose * 1000000 →
        bits v 0 16 = rotl16 (s.fld Reg.COX_WDQ 0 16 ^^^ s.cox.wd.seedAt) 3 ^^^ 0x5A3C → Completes (.wdaWrite m v) s fun t =>
        ∃ u, t = lineCheck 23 false u ∧ u.flag Reg.COX_WD_STAT 30 = true ∧ u.cox.wd.start = s.cox.ps
          ∧ u.fld Reg.COX_WDQ 0 16 = (s.fld Reg.COX_WDQ 0 16 * 2 % 0x10000) ^^^ (if 0x8000 ≤ s.fld Reg.COX_WDQ 0 16 then 0x1021 else 0))
    ∧ (s.cox.wd.active = true → ¬(s.cox.wd.wopen * 1000000 ≤ s.cox.ps - s.cox.wd.start ∧ s.cox.ps - s.cox.wd.start < s.cox.wd.wclose * 1000000
          ∧ bits v 0 16 = rotl16 (s.fld Reg.COX_WDQ 0 16 ^^^ s.cox.wd.seedAt) 3 ^^^ 0x5A3C) → Completes (.wdaWrite m v) s fun t =>
        ∃ u, t = lineCheck 23 true u ∧ u.flag Reg.COX_WD_STAT 30 = false ∧ u.flag (Reg.COX + 0x18) 2 = true ∧ u.cox.wd.start = s.cox.ps
          ∧ u.rd Reg.COX_WDQ = s.rd Reg.COX_WDQ ∧ u.fld Reg.COX_WD_STAT 0 16 = min 0xFFFF (s.fld Reg.COX_WD_STAT 0 16 + 1)))
  ∧ (∀ s : State, s.cox.wd.active = true → s.cox.wd.start + s.cox.wd.wclose * 1000000 ≤ s.cox.ps → coxAlive s = true →
      Completes .wdWindowExpire s fun t => ∃ u, t = lineCheck 23 true u ∧ u.flag Reg.COX_WD_STAT 30 = false
        ∧ u.flag (Reg.COX + 0x18) 2 = true ∧ u.cox.wd.start = s.cox.ps ∧ u.rd Reg.COX_WDQ = s.rd Reg.COX_WDQ)
  ∧ (∀ (m : Master) (n : Nat) (v : Word) (s : State), n < enginesOf s.variant →
    (Reaches m (Reg.COX_SPEWD n) s → speIdle s n = false →
      (v = (if (speWd s n).nextA5 then 0x000000A5 else 0x0000005A) → ((speWd s n).active = true →
          s.fld Reg.COX_SPE_WD_WIN 0 16 * 1000000 ≤ s.cox.ps - (speWd s n).last
          ∧ s.cox.ps - (speWd s n).last ≤ s.fld Reg.COX_SPE_WD_WIN 16 16 * 1000000) → Completes (.spewdWrite m n v) s fun t =>
        ∃ u, t = lineCheck (24 + n) false u ∧ (speWd u n).active = true ∧ (speWd u n).last = s.cox.ps
          ∧ (speWd u n).nextA5 = decide (v = 0x0000005A))
      ∧ (v ≠ (if (speWd s n).nextA5 then 0x000000A5 else 0x0000005A) → Completes (.spewdWrite m n v) s fun t =>
        ∃ u, t = lineCheck (24 + n) true u ∧ (speWd u n).last = s.cox.ps))
    ∧ ((speWd s n).active = true → speIdle s n = false → (speWd s n).last + s.fld Reg.COX_SPE_WD_WIN 16 16 * 1000000 < s.cox.ps →
      Completes (.speWdExpire n) s fun t => ∃ u, t = lineCheck (24 + n) true u ∧ (speWd u n).last = s.cox.ps)
    ∧ (s.flag (Reg.LE n + 0x008) 0 = true → Completes (.leLivenessCheck n) s fun t =>
        ∃ u, t = lineCheck (26 + n) (decide (((s.rd (Reg.LE_SAMPLE_CNT n)).toNat + 4294967296
            - (if n = 0 then s.cox.live0 else s.cox.live1)) % 4294967296 < s.fld Reg.COX_LE_LIVE_MIN (16 * n) 16)) u
          ∧ (if n = 0 then u.cox.live0 else u.cox.live1) = (s.rd (Reg.LE_SAMPLE_CNT n)).toNat))

/-! ## Memories and the Skimmer (spec/06_memory.md) -/

/-- Parts of R40, R116, R123 to R125: a read of a memory that the master reaches answers the stored word, or the bytes of a narrow access, and
changes no memory; a single-bit error is corrected, counted, recorded and reported; an uncorrectable or poisoned word answers with a bus error,
is poisoned and, where nothing has detected it in the same cycle, logged, and takes the reaction of its class (`classReaction`). An access that
the master cannot make answers with a bus error and stores nothing. -/
def Obligations.MemoryReads : Prop :=
  ∀ (m : Master) (a bytes : Nat) (up : Upset) (i : MemInfo) (s : State),
    busUp s = true → debugMay s m a false = true → isRegAddr a = false → aliasOf s.variant a = none → ¬(0x60000000 ≤ a ∧ a < 0x60002000) →
    (reach s m a bytes = some i → secGate m a false s = (true, s) → underTest s (a / 4 * 4) = false →
      (foundCode s (a / 4 * 4) up = none → Completes (.memoryRead m a bytes up) s fun t =>
        t.pages.answer = { data := if bytes = 4 then s.busWord (a / 4 * 4) else narrowOf (s.busWord (a / 4 * 4)) a bytes, error := false }
        ∧ OnlyPageRegs [] s t)
      ∧ (∀ x, foundCode s (a / 4 * 4) up = some (.single x) → Completes (.memoryRead m a bytes up) s fun t =>
        t.pages.answer = { data := if bytes = 4 then s.busWord (a / 4 * 4) else narrowOf (s.busWord (a / 4 * 4)) a bytes, error := false }
        ∧ t.fld Reg.MEM_CE_CNT 0 16 = min 0xFFFF (s.fld Reg.MEM_CE_CNT 0 16 + 1) ∧ t.rd Reg.MEM_CE_LAST = wordOf (a / 4 * 4)
        ∧ t.flag (Reg.MEM + 0x18) 0 = true ∧ t.memctl.writeBack.contains (a / 4 * 4) = true ∧ SameMemory s t
        ∧ SameRegsBut [Reg.MEM_CE_CNT, Reg.MEM_CE_LAST, Reg.MEM + 0x18] s t)
      ∧ (∀ e k x, foundCode s (a / 4 * 4) up = some e → (e = .uncorrectable x ∧ k = 2) ∨ (e = .poison ∧ k = 3 ∧ x = poisonSyn s.variant (a / 4 * 4)) →
          detectedNow s (a / 4 * 4) = none → Completes (.memoryRead m a bytes up) s fun t =>
        t.pages.answer = { data := 0, error := true } ∧ t.eccAt (a / 4 * 4) = some .poison
        ∧ ∃ u x', x' = (classReaction (memClass s (a / 4 * 4)) (a / 4 * 4) u).setEcc (a / 4 * 4) (some .poison)
            ∧ t = busError m (x'.noteDetected (a / 4 * 4) (s.fld Reg.MEM_LOG_IDX 0 4) false) ∧ SameMemory s u
            ∧ u.rd (Reg.MEM_LOG (4 * s.fld Reg.MEM_LOG_IDX 0 4)) = wordOf (a / 4 * 4)
            ∧ u.rd (Reg.MEM_LOG (4 * s.fld Reg.MEM_LOG_IDX 0 4) + 4)
                = wordOf (0x10000000 * k + 0x1000000 * memClass s (a / 4 * 4) + 0x100000 * masterCode m)
            ∧ u.rd (Reg.MEM_LOG (4 * s.fld Reg.MEM_LOG_IDX 0 4) + 8) = wordOf s.now
            ∧ u.rd (Reg.MEM_LOG (4 * s.fld Reg.MEM_LOG_IDX 0 4) + 12) = wordOf (0x1000000 * (x % (if i.w24 then 0x40 else 0x80)) + i.id)))
    ∧ (reach s m a bytes = none → Completes (.memoryRead m a bytes up) s fun t =>
        t.pages.answer = { data := 0, error := true } ∧ SameMemory s t ∧ t.ecc = s.ecc)

/-- Parts of R116, R122, R124, R540: an aligned full-word write stores the new data with a valid code, clears poison, drops a pending write-back,
and for a word of SPE program memory ends its trust; a narrow write replaces its bytes of the word; a narrow write to a poisoned or uncorrectable
word answers with a bus error and stores nothing. Every other byte of memory reads as before.
Parts of R120 to R122: an atomic access to a word of system SRAM through an alias. ADD: a read returns the word and stores it plus the operand of
the master, a write stores it plus v; SWAP: a read returns the word and stores the operand, a write stores v. Sums wrap modulo 2^32, and nothing
else of memory changes. A poisoned word stays, and the access answers with a bus error. -/
def Obligations.MemoryWritesAndAliases : Prop :=
  (∀ (m : Master) (a : Nat) (v : Word) (i : MemInfo) (s : State),
     busUp s = true → debugMay s m a true = true → isRegAddr a = false → aliasOf s.variant a = none → leWriteBlocked s a = false →
     secGate m a true s = (true, s) →
     (reach s m a 4 = some i → isSram s.variant a = false ∨ s.flag Reg.MEM_INJECT 31 = false → Completes (.memoryWrite m a 4 v) s fun t =>
       t.rawWord a = storedValue s.variant a v ∧ t.eccAt a = none ∧ t.memctl.writeBack.contains a = false
       ∧ t.pages.answer = { data := 0, error := false } ∧ SameMemoryBut a 4 s t ∧ SameRegsBut [] s t
       ∧ (0x20000000 ≤ a → a < 0x20200000 → a % 0x100000 < 0x10000 → t.sec.trusted.contains (a / 0x100000 % 0x10) = false))
     ∧ (isSram s.variant a = true → s.flag Reg.MEM_INJECT 31 = true → reach s m a 4 = some i → Completes (.memoryWrite m a 4 v) s fun t =>
         t.flag Reg.MEM_INJECT 31 = false ∧ SameRegsBut [Reg.MEM_INJECT] s t
         ∧ (weight7 (s.fld Reg.MEM_INJECT 0 7) ≠ 3 → t.rawWord a = v ∧ SameMemoryBut a 4 s t)
         ∧ (weight7 (s.fld Reg.MEM_INJECT 0 7) = 1 → t.eccAt a = some (.single (s.fld Reg.MEM_INJECT 0 7)))
         ∧ ((weight7 (s.fld Reg.MEM_INJECT 0 7) ∈ [2, 4, 5, 6]) → t.eccAt a = some (.uncorrectable (s.fld Reg.MEM_INJECT 0 7)))
         ∧ (weight7 (s.fld Reg.MEM_INJECT 0 7) = 7 → t.eccAt a = some .poison))
     ∧ (∀ n, n = 1 ∨ n = 2 → reach s m a n = some i → GoodWord (a / 4 * 4) s → Completes (.memoryWrite m a n v) s fun t =>
         (∀ k, k < n → (t.byteAt (a + k)).toNat = bits v (8 * k) 8) ∧ SameMemoryBut a n s t ∧ SameRegsBut [] s t)
     ∧ (∀ n, n = 1 ∨ n = 2 → reach s m a n = some i → s.eccAt (a / 4 * 4) = some .poison → Completes (.memoryWrite m a n v) s fun t =>
         t.pages.answer = { data := 0, error := true } ∧ t.eccAt (a / 4 * 4) = some .poison))
  ∧ (∀ (m : Master) (a : Nat) (v : Word) (s : State),
      busUp s = true → (∀ b w, debugMay s m b w = true) → a < sramKiB s.variant * 1024 → a % 4 = 0 → s.sec.scrapped = false →
      (GoodWord a s → s.flag Reg.MEM_INJECT 31 = false →
        (Completes (.atomicAddRead m a .none) s fun t => t.pages.answer = { data := s.rawWord a, error := false }
          ∧ t.rawWord a = s.rawWord a + s.rd (Reg.MEM_ATOM_OPND (masterCode m)) ∧ SameMemoryBut a 4 s t ∧ SameRegsBut [] s t)
        ∧ (Completes (.atomicAddWrite m a v .none) s fun t => t.pages.answer = { data := 0, error := false }
          ∧ t.rawWord a = s.rawWord a + v ∧ SameMemoryBut a 4 s t ∧ SameRegsBut [] s t)
        ∧ (Completes (.atomicSwapRead m a .none) s fun t => t.pages.answer = { data := s.rawWord a, error := false }
          ∧ t.rawWord a = s.rd (Reg.MEM_ATOM_OPND (masterCode m)) ∧ SameMemoryBut a 4 s t ∧ SameRegsBut [] s t)
        ∧ (Completes (.atomicSwapWrite m a v) s fun t => t.pages.answer = { data := 0, error := false }
          ∧ t.rawWord a = v ∧ SameMemoryBut a 4 s t ∧ SameRegsBut [] s t))
      ∧ (s.eccAt a = some .poison →
        (Completes (.atomicAddRead m a .none) s fun t => t.pages.answer = { data := 0, error := true } ∧ t.eccAt a = some .poison)
        ∧ (Completes (.atomicAddWrite m a v .none) s fun t => t.pages.answer = { data := 0, error := true } ∧ t.eccAt a = some .poison)))

/-- R128 and parts of R118, R123 and R540: a corrected word is written back; a request that starves is counted and recorded with its master and
bank; INJECT is a keyed register; an RMAP word takes an accepted write, and under SAFE_LOCK a write that would take SAFETY from an address is
refused with ACCESS/LOCKED.
Parts of R130, R132, R133, R135: a block starts where the Skimmer runs and its interval has passed, at the position of the visiting order, whose
address SKIM.POS shows; without an error in its words nothing else changes. When the words are written back, the position moves on, and after the
last block of the last enabled memory the pass ends: it is counted, timed and reported, and the next one starts at the first block; so it does
where the memories that remain have been disabled. A check of line 37 finds PASS_LIMIT exceeded in RUN; elsewhere it is the check of a
millisecond without an event. -/
def Obligations.MemoryServiceAndSkimmer : Prop :=
  ((∀ (a : Nat) (s : State), frozen s 0x20 = false → busUp s = true → Completes (.ceWriteback a) s fun t =>
     SameMemory s t ∧ SameRegsBut [] s t ∧ t.memctl.writeBack.contains a = false
     ∧ (s.memctl.writeBack.contains a = true → ∀ x, s.eccAt a = some (.single x) → t.eccAt a = none))
   ∧ (∀ (who bank : Nat) (s : State), frozen s 0x20 = false → busUp s = true → who < 16 → bank < 256 → Completes (.starve who bank) s fun t =>
       t.fld Reg.MEM_STARVE_STAT 16 16 = min 0xFFFF (s.fld Reg.MEM_STARVE_STAT 16 16 + 1) ∧ t.fld Reg.MEM_STARVE_STAT 8 4 = who
       ∧ t.fld Reg.MEM_STARVE_STAT 0 8 = bank ∧ t.flag (Reg.MEM + 0x18) 2 = true ∧ OnlyRegs [Reg.MEM_STARVE_STAT, Reg.MEM + 0x18] s t)
   ∧ (∀ (m : Master) (v : Word) (s : State), Reaches m Reg.MEM_INJECT s →
       (holdsOpening s 0x20 m = true → Completes (.injectWrite m v) s fun t =>
         t.rd Reg.MEM_INJECT = (s.rd Reg.MEM_INJECT &&& ~~~0x8000007F) ||| (v &&& 0x8000007F) ∧ OnlyPageRegs [Reg.MEM_INJECT] s t)
       ∧ (holdsOpening s 0x20 m = false → Completes (.injectWrite m v) s fun t =>
         ErrorRecorded Reg.MEM 0x01 0x04 (errDetail (masterCode m) 0x050) s t ∧ OnlyPageRegs [Reg.MEM + 0x20, Reg.MEM + 0x24] s t))
   ∧ (∀ (m : Master) (k : Nat) (limit : Bool) (v w : Word) (a : Nat) (s : State), k < 32 →
       w = storeValue (defOf .mem (if limit then 0x104 else 0x100)) (s.rd a) v → a = (if limit then Reg.MEM_RMAP_LIMIT k else Reg.MEM_RMAP_BASE k) → Reaches m a s → cfgLocked s 0x20 = false →
       (safeLocked s 0x20 = false ∨ safetyKept s (s.wr a w) = true →
         Completes (.rmapWrite m k limit v) s fun t => t.rd a = w ∧ OnlyPageRegs [a] s t)
       ∧ (safeLocked s 0x20 = true → safetyKept s (s.wr a w) = false →
         Completes (.rmapWrite m k limit v) s fun t =>
           ErrorRecorded Reg.MEM 0x01 0x02 (errDetail (masterCode m) (a % 0x1000)) s t ∧ OnlyPageRegs [Reg.MEM + 0x20, Reg.MEM + 0x24] s t)))
  ∧ ((∀ (i : Nat) (r : SkimRun) (s : State), frozen s 0x21 = false → skimOn s = true → s.skim.inHand = none →
      s.skim.anew = true ∨ s.skim.lastStart + s.fld Reg.SKIM_INTERVAL 0 16 ≤ s.now → nextRun s s.skim.memIdx = some (i, r) →
      r.en ≠ 5 ∨ s.sec.wipeStart = none → s.ecc = [] → Completes (.skimBlockStart []) s fun t =>
        t.skim.inHand = some (r.base + 64 * (if i = s.skim.memIdx then s.skim.block else 0)) ∧ t.skim.lastStart = s.now
        ∧ t.rd Reg.SKIM_POS = wordOf (r.base + 64 * (if i = s.skim.memIdx then s.skim.block else 0))
        ∧ t.skim.march = (s.flag Reg.SKIM_CFG 8 && decide (r.en ≠ 5)) ∧ OnlyRegs [Reg.SKIM_POS] { s with skim := t.skim } t)
    ∧ (∀ s : State, frozen s 0x21 = false → skimOn s = true → s.skim.inHand = none → s.skim.fresh = false →
        s.skim.anew = true ∨ s.skim.lastStart + s.fld Reg.SKIM_INTERVAL 0 16 ≤ s.now → nextRun s s.skim.memIdx = none → nextRun s 0 = none →
        Completes (.skimBlockStart []) s fun t => t = skimPassEnd s)
    ∧ (∀ (a : Nat) (r : SkimRun) (s : State), frozen s 0x21 = false → s.skim.inHand = some a → s.memctl.writeBack = [] → s.skim.fresh = false →
        (skimRuns s.variant)[s.skim.memIdx]? = some r → s.flag Reg.SKIM_CFG r.en = true →
        (64 * (s.skim.block + 1) < r.size → Completes (.skimBlockWriteback none) s fun t =>
          t.skim.inHand = none ∧ t.skim.block = s.skim.block + 1 ∧ OnlyRegs [] { s with skim := t.skim } t)
        ∧ (r.size ≤ 64 * (s.skim.block + 1) → nextRun s (s.skim.memIdx + 1) = none → Completes (.skimBlockWriteback none) s fun t =>
          t.rd Reg.SKIM_PASS_CNT = s.rd Reg.SKIM_PASS_CNT + 1 ∧ t.flag (Reg.SKIM + 0x18) 0 = true
          ∧ t.rd Reg.SKIM_PASS_TIME = wordOf (min 0xFFFF ((s.now - s.skim.passStart) / 200000)) ∧ t.skim.fresh = true
          ∧ t.skim.inHand = none ∧ t.skim.limitFrom = s.now
          ∧ OnlyRegs [Reg.SKIM_PASS_CNT, Reg.SKIM_PASS_TIME, Reg.SKIM + 0x18] { s with skim := t.skim } t))
    ∧ (∀ s : State,
        (coxState s = 3 → s.skim.limitFrom + passLimit (s.fld Reg.SKIM_CFG 9 3) * 200000000 < s.now → Completes .skimPassLimitCheck s fun t =>
          t = lineCheck 37 true s)
        ∧ (coxState s ≠ 3 ∨ s.now ≤ s.skim.limitFrom + passLimit (s.fld Reg.SKIM_CFG 9 3) * 200000000 →
          Completes .skimPassLimitCheck s fun t => t = eventLineIdle 37 s)))

/-! ## Life cycle, secure memory, tamper and OTP (spec/07_security.md) -/

/-- Parts of R137 to R139, R145, R147: while secure memory is closed (a wipe, a failed wipe, RETURNED, SCRAPPED), every access answers with a bus
error and records no violation; an access that its slot does not grant answers with a bus error, performs nothing, and latches and records
SLOT_VIOLATION; a granted aligned access reads or writes the word.
Parts of R155, R157: an opened write of 0x0F5E to PROG_CMD in ROW, with no programming in hand, starts the programming of the addressed word, or
reports the result that refuses it (`progCause`) with PROG_ERR; another value does nothing. At its end the word holds the value, with PROG_DONE,
or with VERIFY_FAIL and PROG_ERR where the read-back differs. -/
def Obligations.SecureMemoryAndOtp : Prop :=
  (∀ (m : Master) (off a : Nat) (w : Bool) (v : Word) (s : State), a = 0x30000000 + off % 0x4000 → a % 4 = 0 →
     busUp s = true → debugMay s m a w = true →
     (secClosed s = true → Completes (.secmemAccess m off w v) s fun t => t.pages.answer = { data := 0, error := true }
       ∧ SameMemory s t ∧ t.rd Reg.SEC_VIOL = s.rd Reg.SEC_VIOL ∧ t.rd (Reg.SEC + 0x18) = s.rd (Reg.SEC + 0x18))
     ∧ (secClosed s = false → slotGrants s m a w = false → Completes (.secmemAccess m off w v) s fun t =>
         t.pages.answer = { data := 0, error := true } ∧ SameMemory s t ∧ t.flag (Reg.SEC + 0x18) 6 = true
         ∧ t.rd Reg.SEC_VIOL = wordOf (0x10000000 * masterCode m + off % 0x4000))
     ∧ (secClosed s = false → slotGrants s m a w = true → GoodWord a s →
         (w = false → Completes (.secmemAccess m off w v) s fun t =>
           t.pages.answer = { data := s.rawWord a, error := false } ∧ OnlyPageRegs [] s t)
         ∧ (w = true → Completes (.secmemAccess m off w v) s fun t => t.pages.answer = { data := 0, error := false }
           ∧ t.rawWord a = v ∧ t.eccAt a = none ∧ SameMemoryBut a 4 s t ∧ SameRegsBut [] s t)))
  ∧ ((∀ (m : Master) (v : Word) (off : Nat) (s : State), off = s.fld Reg.OTP_PROG_ADDR 2 11 * 4 → Reaches m Reg.OTP_PROG_CMD s →
      holdsOpening s 0x23 m = true → s.otp.prog = none → s.fld Reg.PWR_STATE 0 3 = 0 →
      (v = 0x00000F5E → progCause s off (s.rd Reg.OTP_PROG_DATA) = 0 → Completes (.progCmd m v) s fun t =>
        t.rd Reg.OTP_PROG_STAT = 0x80000000 ∧ t.otp.prog = some ⟨off, s.rd Reg.OTP_PROG_DATA⟩
        ∧ t.rd Reg.OTP_PROG_CMD = v ∧ SameRegsBut [Reg.OTP_PROG_CMD, Reg.OTP_PROG_STAT] s t ∧ SameMemory s t)
      ∧ (∀ c, v = 0x00000F5E → progCause s off (s.rd Reg.OTP_PROG_DATA) = c + 1 → Completes (.progCmd m v) s fun t =>
        t.rd Reg.OTP_PROG_STAT = wordOf (c + 1) ∧ t.flag (Reg.OTP + 0x18) 1 = true
        ∧ OnlyPageRegs [Reg.OTP_PROG_CMD, Reg.OTP_PROG_STAT, Reg.OTP + 0x18] s t)
      ∧ (v ≠ 0x00000F5E → Completes (.progCmd m v) s fun t => t.rd Reg.OTP_PROG_CMD = v ∧ OnlyPageRegs [Reg.OTP_PROG_CMD] s t))
    ∧ (∀ (g : OtpProg) (s : State), frozen s 0x23 = false → s.otp.prog = some g → s.sec.lc = .idle →
        (Completes (.progDone true) s fun t => tabGet t.otp.words g.off 0 = g.value ∧ t.otp.prog = none ∧ t.rd Reg.OTP_PROG_STAT = 0
          ∧ t.flag (Reg.OTP + 0x18) 0 = true ∧ OnlyRegs [Reg.OTP_PROG_STAT, Reg.OTP + 0x18] { s with otp := t.otp } t)
        ∧ (Completes (.progDone false) s fun t => tabGet t.otp.words g.off 0 = g.value ∧ t.otp.prog = none ∧ t.rd Reg.OTP_PROG_STAT = 4
          ∧ t.flag (Reg.OTP + 0x18) 1 = true
          ∧ OnlyRegs [Reg.OTP_PROG_STAT, Reg.OTP + 0x18] { s with otp := t.otp, freeCtr := t.freeCtr } t)))

/-- Parts of R141, R142, R144 to R147, R155: an opened LC_REQ is refused with its cause (`lcCause`) or starts the programming of the word of its
life-cycle state, which keeps its value where it is programmed already, and whose end starts a wipe, whose end gives LC_STATE the new code. An
opened WIPE write of 0x5EC0 starts a wipe, or joins the one in progress; any other value records BLOCK/WIPE_VALUE. The end of a wipe leaves
secure memory 0, counts it, latches WIPE_DONE, gives its outcome in FAIL, and opens the debug port where an accepted unlock waits for it: for
reads of SPE memories and registers only, while accesses of secure memory are left to their slots. -/
def Obligations.LifeCycleAndWipes : Prop :=
  (∀ (m : Master) (v : Word) (s : State), Reaches m Reg.SEC_LC_REQ s → holdsOpening s 0x22 m = true →
    (lcCause s (bits v 0 3) = 0 → Completes (.lcReq m v) s fun t => t.rd Reg.SEC_LC_STAT = 0xC0000000 ∧ t.sec.lc = .programming (bits v 0 3)
      ∧ (lcProgrammed s (bits v 0 3 - 1) = false → ∃ g, t.otp.prog = some g ∧ g.off = 0x100 + 4 * (bits v 0 3 - 1) ∧ g.value ≠ 0)
      ∧ (lcProgrammed s (bits v 0 3 - 1) = true → t.otp = s.otp)
      ∧ t.fld Reg.SEC_LC_REQ 0 3 = bits v 0 3 ∧ SameRegsBut [Reg.SEC_LC_REQ, Reg.SEC_LC_STAT] s t ∧ SameMemory s t)
    ∧ (∀ c, lcCause s (bits v 0 3) = c + 1 → Completes (.lcReq m v) s fun t =>
      t.fld Reg.SEC_LC_STAT 0 4 = c + 1 ∧ t.flag Reg.SEC_LC_STAT 31 = false ∧ t.flag Reg.SEC_LC_STAT 30 = s.flag Reg.SEC_LC_STAT 30
      ∧ OnlyPageRegs [Reg.SEC_LC_REQ, Reg.SEC_LC_STAT] s t))
  ∧ (∀ (k : Nat) (s : State), frozen s 0x22 = false → s.sec.lc = .programming k →
      Completes .lcWordProgrammed s fun t => (∀ g, s.otp.prog = some g → tabGet t.otp.words g.off 0 = g.value) ∧ (s.otp.prog = none → t.otp = s.otp)
        ∧ t.otp.prog = none ∧ t.sec.lc = .wiping k ∧ SameMemory s t
        ∧ (busUp s = true → s.sec.wipeStart = none → t.sec.wipeStart = some s.now ∧ t.fld Reg.SEC_WIPE_STAT 16 5 = 1
            ∧ t.flag Reg.SEC_WIPE_STAT 31 = true))
  ∧ (∀ (m : Master) (v : Word) (s : State), Reaches m Reg.SEC_WIPE s → holdsOpening s 0x22 m = true →
      (v = 0x00005EC0 → s.sec.wipeStart = none → Completes (.wipe m v) s fun t => t.sec.wipeStart = some s.now ∧ secClosed t = true
        ∧ t.fld Reg.SEC_WIPE_STAT 16 5 = 8 ∧ t.flag Reg.SEC_WIPE_STAT 31 = true ∧ SameMemory s t)
      ∧ (v = 0x00005EC0 → s.sec.wipeStart ≠ none → Completes (.wipe m v) s fun t => t.sec = s.sec
        ∧ t.flag Reg.SEC_WIPE_STAT 19 = true ∧ t.flag Reg.SEC_WIPE_STAT 20 = true ∧ OnlyPageRegs [Reg.SEC_WIPE, Reg.SEC_WIPE_STAT] s t)
      ∧ (v ≠ 0x00005EC0 → Completes (.wipe m v) s fun t =>
        ErrorRecorded Reg.SEC 0x03 0x01 (errDetail (masterCode m) 0x04C) s t ∧ OnlyPageRegs [Reg.SEC + 0x20, Reg.SEC + 0x24] s t))
  ∧ (∀ (ok : Bool) (s : State), frozen s 0x22 = false → s.sec.wipeStart ≠ none → Completes (.wipeDone ok) s fun t =>
      (∀ a, 0x30000000 ≤ a → a < 0x30004000 → t.byteAt a = 0) ∧ SameMemoryBut 0x30000000 0x4000 s t
      ∧ t.sec.wipeStart = none ∧ t.sec.wipeFailed = (s.sec.wipeFailed || !ok)
      ∧ t.fld Reg.SEC_WIPE_STAT 0 16 = min 0xFFFF (s.fld Reg.SEC_WIPE_STAT 0 16 + 1) ∧ t.flag Reg.SEC_WIPE_STAT 31 = false
      ∧ t.flag Reg.SEC_WIPE_STAT 30 = !ok ∧ t.flag (Reg.SEC + 0x18) 0 = true
      ∧ (∀ k, s.sec.lc = .wiping k → t.rd Reg.SEC_LC_STATE = wordOf k ∧ t.flag Reg.SEC_LC_STAT 31 = true
          ∧ t.flag Reg.SEC_LC_STAT 30 = false ∧ t.flag (Reg.SEC + 0x18) 2 = true
          ∧ (k = 2 ∨ k = 3 → t.rd Reg.SEC_TAMPER_CFG = s.rd Reg.SEC_TAMPER_CFG ||| 0x1F))
      ∧ (s.sec.unlocking = true → t.rd Reg.SEC_DBG_STAT = 0x80000000 ∧ t.flag (Reg.SEC + 0x18) 5 = true ∧ t.sec.unlocking = false
          ∧ (lcRule t = 2 → ∀ a w, a < 0x30000000 ∨ 0x30004000 ≤ a → debugMay t .debug a w
            = (!w && (decide (0x20000000 ≤ a ∧ a < 0x20200000) || decide (0x40050000 ≤ a ∧ a < 0x40052000)))))
      ∧ (s.sec.unlocking = false → t.rd Reg.SEC_DBG_STAT = s.rd Reg.SEC_DBG_STAT)
      ∧ SameRegsBut [Reg.SEC_WIPE_STAT, Reg.SEC + 0x18, Reg.SEC_LC_STATE, Reg.SEC_LC_STAT, Reg.SEC_TAMPER_CFG, Reg.SEC_DBG_STAT] s t)

/-- Parts of R148 to R150, R154: a tamper event latches its bit, clears the backup words 32 to 63 and no other, and on the rising edge latches
TAMPER and starts a wipe where its WIPE bit reads 1; a clear of TAMPER_STAT acts only on a source that is absent. A read of the locked mailbox
presents a challenge; an accepted unlock wipes secure memory first, and the port stays locked until that wipe ends (`LifeCycleAndWipes`); a
refusal for the Cox is reported alone, any other is a DEBUG tamper event, and so is any other transaction of the locked port. -/
def Obligations.TamperAndDebug : Prop :=
  (∀ (b : Nat) (s : State), b < 5 →
    (tamperSeen s b = true → busUp s = true → s.power.aonLost = false → s.fld Reg.PWR_STATE 0 3 ≤ 2 → Completes (.tamperDetect b true) s fun t =>
      t.flag Reg.AON_TAMPER_LATCH b = true ∧ t.sec.tamperNow.contains b = true
      ∧ (∀ k, 32 ≤ k → k < 64 → t.rd (Reg.AON_BKP k) = 0) ∧ (∀ k, k < 32 → t.rd (Reg.AON_BKP k) = s.rd (Reg.AON_BKP k)) ∧ SameMemory s t
      ∧ (s.flag Reg.AON_TAMPER_LATCH b = false → t.flag (Reg.SEC + 0x18) 1 = true
          ∧ (tamperWipes s b = true → s.sec.wipeStart = none → t.sec.wipeStart = some s.now ∧ t.fld Reg.SEC_WIPE_STAT 16 5 = 2)
          ∧ (tamperWipes s b = false → t.sec.wipeStart = s.sec.wipeStart)))
    ∧ (b = 0 → s.power.phase = .steady → s.power.aonLost = false → s.fld Reg.PWR_STATE 0 3 = 3 → Completes (.tamperDetect b true) s fun t =>
        t.power.phase = .waking 3 1 1 false 0 ∧ t.fld Reg.PWR_WAKE_STAT 8 4 = 7 ∧ t.flag Reg.AON_TAMPER_LATCH 0 = true
        ∧ (∀ k, 32 ≤ k → k < 64 → t.rd (Reg.AON_BKP k) = 0))
    ∧ (b = 0 → s.power.phase = .steady → s.power.aonLost = false → s.fld Reg.PWR_STATE 0 3 = 4 → Completes (.tamperDetect b true) s fun t =>
        t.rd Reg.SYS_RST_CAUSE = 0x000000C0 ∧ t.fld Reg.PWR_WAKE_STAT 8 4 = 7 ∧ t.flag Reg.AON_TAMPER_LATCH 0 = true
        ∧ (∀ k, 32 ≤ k → k < 64 → t.rd (Reg.AON_BKP k) = 0))
    ∧ (Completes (.tamperDetect b false) s fun t => t.sec.tamperNow.contains b = false ∧ OnlyRegs [] { s with sec := t.sec } t))
  ∧ (∀ (m : Master) (v : Word) (s : State), Reaches m Reg.SEC_TAMPER_STAT s → Completes (.tamperStatClear m v) s fun t =>
      (∀ b, b < 5 → t.flag Reg.AON_TAMPER_LATCH b = (s.flag Reg.AON_TAMPER_LATCH b && !(bit v b && !(s.sec.tamperNow.contains b))))
      ∧ OnlyPageRegs [Reg.AON_TAMPER_LATCH] s t)
  ∧ (∀ s : State, busUp s = true → debugLocked s = true → Completes .dbgMailboxRead s fun t =>
      t.sec.challenge ≠ none ∧ OnlyRegs [] { s with sec := t.sec, freeCtr := t.freeCtr } t)
  ∧ (∀ (key sig : List Byte) (s : State), busUp s = true → debugLocked s = true → s.fld Reg.PWR_STATE 0 3 ≤ 2 →
      (unlockCause s key sig = 0 → Completes (.dbgUnlock key sig) s fun t => t.sec.unlocking = true ∧ t.rd Reg.SEC_DBG_STAT = s.rd Reg.SEC_DBG_STAT
        ∧ debugLocked t = true ∧ (s.sec.wipeStart = none → t.sec.wipeStart = some s.now ∧ t.fld Reg.SEC_WIPE_STAT 16 5 = 4))
      ∧ (unlockCause s key sig = 1 → Completes (.dbgUnlock key sig) s fun t =>
        t.fld Reg.SEC_DBG_STAT 0 4 = 1 ∧ OnlyRegs [Reg.SEC_DBG_STAT] s t)
      ∧ (2 ≤ unlockCause s key sig → Completes (.dbgUnlock key sig) s fun t => t.fld Reg.SEC_DBG_STAT 0 4 = unlockCause s key sig
        ∧ t.flag Reg.AON_TAMPER_LATCH 4 = true ∧ (∀ k, 32 ≤ k → k < 64 → t.rd (Reg.AON_BKP k) = 0)))
  ∧ (∀ (a bytes : Nat) (up : Upset) (s : State), busUp s = true → debugLocked s = true → Completes (.memoryRead .debug a bytes up) s fun t =>
      t.pages.answer = s.pages.answer ∧ t.flag Reg.AON_TAMPER_LATCH 4 = true ∧ (∀ k, 32 ≤ k → k < 64 → t.rd (Reg.AON_BKP k) = 0)
      ∧ SameMemory s t
      ∧ (s.flag Reg.AON_TAMPER_LATCH 4 = false → t.flag (Reg.SEC + 0x18) 1 = true
          ∧ (tamperWipes s 4 = true → s.sec.wipeStart = none → t.sec.wipeStart = some s.now)))

/-! ## Churn queues (spec/08_churn.md) -/

/-- Parts of R163, R164, R166, R168 to R170, R174, R175: a push to a REG producer queue that takes it appends the word and counts it; a refused
one stores nothing, counts OVF_CNT and latches OVF; on another binding it is NOT_PRODUCER. A pop delivers the oldest word that no abandon marked,
with its tag, and counts it; a queue that is empty, disabled, flushing or halted, or whose next word is a reserved slot, delivers IDLE_ITEM with
tag IDLE, LOST or OPEN and removes nothing; a length word whose complement fails halts the queue; on another binding the pop is NOT_CONSUMER.
What the fabric moves first (`qPrepare` at a full tail, `qReady` at an empty head) keeps the words where no error is recorded, moves nothing in a
queue that takes no push (R176), and touches memory only where it spills. -/
def Obligations.QueuePushAndPop : Prop :=
  (∀ (m : Master) (q : Nat) (v : Word) (s : State), ReachesQueue m q 0x00 true s →
    (s.fld (qAddr q 0x10) 8 8 ≠ 0 → Completes (.queuePush m q v) s fun t =>
      ErrorRecorded Reg.CHN 0x03 0x05 (errDetail (masterCode m) 0x00) s t ∧ t.queues = s.queues ∧ SameMemory s t)
    ∧ (s.fld (qAddr q 0x10) 8 8 = 0 → (queue s q).pktOpen = false ∨ (queue s q).pktLen < 65535 →
      (qRefuses (qPrepare q s) q = false → Completes (.queuePush m q v) s fun t =>
        kept (queue t q).words = kept (queue (qPrepare q s) q).words ++ [{ data := v }] ∧ (queue t q).lastRefused = false
        ∧ (s.ecc = [] → kept (queue t q).words = kept (queue s q).words ++ [{ data := v }])
        ∧ t.rd (qAddr q 0x38) = s.rd (qAddr q 0x38) + 1 ∧ (∀ p, p ≠ q → queue t p = queue s p) ∧ SameMemory (qPrepare q s) t
        ∧ SameRegsBut [qAddr q 0x34, qAddr q 0x38] (qPrepare q s) t
        ∧ ((queue s q).tail.length < 8 ∨ (queue s q).middle = [] →
            SameMemory s t ∧ SameRegsBut [qAddr q 0x34, qAddr q 0x38, qAddr q 0x40] s t))
      ∧ (qRefuses (qPrepare q s) q = true → Completes (.queuePush m q v) s fun t =>
        kept (queue t q).words = kept (queue (qPrepare q s) q).words ∧ (queue t q).lastRefused = true ∧ t.flag (qAddr q 0x34) 8 = true
        ∧ (qTakes s q = false → (queue t q).words = (queue s q).words) ∧ (s.ecc = [] → kept (queue t q).words = kept (queue s q).words)
        ∧ t.fld (qAddr q 0x44) 0 16 = min 0xFFFF (s.fld (qAddr q 0x44) 0 16 + 1) ∧ t.rd (qAddr q 0x38) = s.rd (qAddr q 0x38)
        ∧ SameMemory (qPrepare q s) t)))
  ∧ (∀ (m : Master) (q : Nat) (s x : State), ReachesQueue m q 0x04 false s → x = qReady q ((queue s q).depth + 1) s →
    (s.fld (qAddr q 0x10) 16 8 ≠ 0 → Completes (.queuePop m q) s fun t => t.pages.answer = { data := 0, error := false }
      ∧ ErrorRecorded Reg.CHN 0x03 0x06 (errDetail (masterCode m) 0x04) s t ∧ t.queues = s.queues)
    ∧ (s.fld (qAddr q 0x10) 16 8 = 0 →
      ((queue s q).lengthLost = true → Completes (.queuePop m q) s fun t => t.pages.answer = { data := s.rd (qAddr q 0x18), error := false }
        ∧ t.rd (qAddr q 0x0C) = 5 ∧ t.queues = s.queues ∧ OnlyPageRegs [qAddr q 0x0C] s t)
      ∧ ((queue s q).lengthLost = false → qEnabled s q = false ∨ (queue s q).flushing = true → Completes (.queuePop m q) s fun t =>
        t.pages.answer = { data := s.rd (qAddr q 0x18), error := false } ∧ t.rd (qAddr q 0x0C) = 1 ∧ OnlyPageRegs [qAddr q 0x0C] s t)
      ∧ ((queue s q).lengthLost = false → qEnabled s q = true → (queue s q).flushing = false → (∀ w ∈ (queue s q).head, w.abandoned = false) →
        (kept (queue s q).words = [] → Completes (.queuePop m q) s fun t =>
          t.pages.answer = { data := s.rd (qAddr q 0x18), error := false } ∧ t.rd (qAddr q 0x0C) = 1
          ∧ t.fld (qAddr q 0x48) 0 16 = min 0xFFFF (s.fld (qAddr q 0x48) 0 16 + 1) ∧ t.rd (qAddr q 0x3C) = s.rd (qAddr q 0x3C))
        ∧ (s.ecc = [] → kept (queue x q).words = kept (queue s q).words ∧ SameRegsBut [qAddr q 0x34, qAddr q 0x40] s x) ∧ SameMemory s x
        ∧ (∀ w r, kept (queue x q).words = w :: r →
          (w.reserved = true → Completes (.queuePop m q) s fun t =>
            t.pages.answer = { data := s.rd (qAddr q 0x18), error := false } ∧ t.rd (qAddr q 0x0C) = 2
            ∧ kept (queue t q).words = w :: r ∧ t.rd (qAddr q 0x3C) = s.rd (qAddr q 0x3C))
          ∧ (w.reserved = false → badLength w = true → Completes (.queuePop m q) s fun t =>
            t.pages.answer = { data := s.rd (qAddr q 0x18), error := false } ∧ t.rd (qAddr q 0x0C) = 5
            ∧ (queue t q).lengthLost = true ∧ t.flag (qAddr q 0x34) 10 = true ∧ kept (queue t q).words = w :: r)
          ∧ (w.reserved = false → badLength w = false → Completes (.queuePop m q) s fun t =>
            t.pages.answer = { data := w.data, error := false }
            ∧ t.rd (qAddr q 0x0C) = wordOf (wordTag w + (if w.length then 8 else 0)) ∧ kept (queue t q).words = r
            ∧ t.rd (qAddr q 0x3C) = s.rd (qAddr q 0x3C) + 1 ∧ (∀ p, p ≠ q → queue t p = queue s p) ∧ SameMemory s t
            ∧ (w.badParity = true → t.flag (qAddr q 0x34) 9 = true
                ∧ t.fld (qAddr q 0x4C) 0 16 = min 0xFFFF (s.fld (qAddr q 0x4C) 0 16 + 1))
            ∧ SameRegsBut [qAddr q 0x0C, qAddr q 0x34, qAddr q 0x3C, qAddr q 0x4C] x t)))))

/-- Parts of R123, R129, R159, R171 to R173, R175, R177: a transfer, a spill and a fill move words in push order, a spill into the region of its
queue alone; a register of the tail or the head that has failed marks its word; a fill marks a word that it reads uncorrectable and writes its
log entry, and corrects and counts a single-bit error. PKT_OPEN reserves a slot, PKT_CLOSE writes the length word into it, PKT_ABORT writes
0xFFFF0000 and marks the payload, each in packet mode and otherwise refused by name; FLUSH empties the queue at its end and counts the words. -/
def Obligations.QueueMovesAndPackets : Prop :=
  (∀ (q : Nat) (s : State), busUp s = true → queuePresent s q = true → qEnabled s q = true → (queue s q).flushing = false → frozen s 0x40 = false →
    (∀ w r, (queue s q).tail = w :: r → w.abandoned = false → (queue s q).middle = [] → (queue s q).head.length < 8 →
      (Completes (.headTransfer ⟨q, .none⟩) s fun t => (queue t q).head = (queue s q).head ++ [w] ∧ (queue t q).tail = r ∧ (queue t q).middle = []
        ∧ SameRegsBut [qAddr q 0x34, qAddr q 0x40] s t ∧ SameMemory s t)
      ∧ (Completes (.headTransfer ⟨q, .tail⟩) s fun t => (∃ d, (queue t q).head = (queue s q).head ++ [{ w with data := d, badParity := true }])
        ∧ (queue t q).tail = r ∧ (queue t q).middle = [] ∧ SameRegsBut [qAddr q 0x34, qAddr q 0x40] s t ∧ SameMemory s t)
      ∧ (∀ x l, (queue s q).head = x :: l → Completes (.headTransfer ⟨q, .head 0⟩) s fun t =>
          (∃ d, (queue t q).head = { x with data := d, badParity := true } :: (l ++ [w])) ∧ (queue t q).tail = r ∧ (queue t q).middle = []
          ∧ SameRegsBut [qAddr q 0x34, qAddr q 0x40] s t ∧ SameMemory s t))
    ∧ (4 ≤ (queue s q).tail.length → (queue s q).middle ≠ [] ∨ 8 ≤ (queue s q).head.length →
        (queue s q).middle.length < 256 * qSize s q → Completes (.spillBurst q) s fun t => (queue t q).words = (queue s q).words
        ∧ (queue t q).middle.length = (queue s q).middle.length + min 4 (256 * qSize s q - (queue s q).middle.length) ∧ SameRegsBut [] s t
        ∧ SameMemoryBut (0x10000000 + qBase s q * 1024) (qSize s q * 1024) s t)
    ∧ ((queue s q).head.length ≤ 4 → (queue s q).middle ≠ [] → s.ecc = [] → Completes (.fillBurst q []) s fun t =>
        kept (queue t q).middle = kept ((queue s q).middle.drop 4)
        ∧ (queue t q).head = (queue s q).head ++ kept ((queue s q).middle.take 4) ∧ (queue t q).tail = (queue s q).tail ∧ SameMemory s t
        ∧ t.rd (qAddr q 0x40) = s.rd (qAddr q 0x40) + wordOf (((queue s q).middle.take 4).length - (kept ((queue s q).middle.take 4)).length))
    ∧ (∀ (w : QWord) (r : List QWord) (a syn : Nat), (queue s q).head.length ≤ 4 → (queue s q).middle = w :: r → w.abandoned = false →
        s.ecc = [] → s.skim.inHand = none → detectedNow s a = none → a = vatWordAddr s q (queue s q).midStart →
        (Completes (.fillBurst q [(a, .multi syn)]) s fun t =>
          ((queue t q).head[(queue s q).head.length]?.map (fun x => (x.badParity, x.length, x.reserved))) = some (true, w.length, w.reserved)
          ∧ t.rd (Reg.MEM_LOG (4 * s.fld Reg.MEM_LOG_IDX 0 4)) = wordOf a
          ∧ t.rd (Reg.MEM_LOG (4 * s.fld Reg.MEM_LOG_IDX 0 4) + 4) = 0x22600000 ∧ SameMemory s t)
        ∧ (r = [] → Completes (.fillBurst q [(a, .single syn)]) s fun t => (queue t q).head = (queue s q).head ++ [w]
          ∧ t.fld Reg.MEM_CE_CNT 0 16 = min 0xFFFF (s.fld Reg.MEM_CE_CNT 0 16 + 1) ∧ t.rd Reg.MEM_CE_LAST = wordOf a
          ∧ t.flag (Reg.MEM + 0x18) 0 = true ∧ t.memctl.writeBack.contains a = true ∧ SameMemory s t)))
  ∧ (∀ (m : Master) (q : Nat) (s : State), ReachesQueue m q 0x1C true s →
    (s.flag (qAddr q 0x10) 1 = true → (queue s q).pktOpen = false → qRefuses (qPrepare q s) q = false → Completes (.pktOpen m q) s fun t =>
      (queue t q).pktOpen = true ∧ (queue t q).pktLen = 0 ∧ 
      kept (queue t q).words = kept (queue (qPrepare q s) q).words ++ [{ data := 0, reserved := true }]
      ∧ t.rd (qAddr q 0x38) = s.rd (qAddr q 0x38) + 1)
    ∧ (s.flag (qAddr q 0x10) 1 = true → (queue s q).pktOpen = true →
      (Completes (.pktOpen m q) s fun t => ErrorRecorded Reg.CHN 0x03 0x07 (errDetail (masterCode m) 0x1C) s t ∧ t.queues = s.queues)
      ∧ (Completes (.pktClose m q) s fun t => (queue t q).pktOpen = false ∧ SameRegsBut [] s t
          ∧ (queue t q).words = fillSlot (wordOf ((0xFFFF - (queue s q).pktLen % 0x10000) * 0x10000 + (queue s q).pktLen % 0x10000)) false (queue s q).words)
      ∧ (Completes (.pktAbort m q) s fun t => (queue t q).pktOpen = false ∧ t.flag (qAddr q 0x34) 13 = true
          ∧ kept (queue t q).words = kept (fillSlot 0xFFFF0000 true (markAfter false (queue s q).words))))
    ∧ (s.flag (qAddr q 0x10) 1 = false ∨ (queue s q).pktOpen = false →
      (Completes (.pktClose m q) s fun t => ErrorRecorded Reg.CHN 0x03 0x08 (errDetail (masterCode m) 0x1C) s t ∧ t.queues = s.queues)
      ∧ (Completes (.pktAbort m q) s fun t => ErrorRecorded Reg.CHN 0x03 0x08 (errDetail (masterCode m) 0x1C) s t ∧ t.queues = s.queues))
    ∧ (Completes (.flush m q) s fun t => (queue t q).flushing = true ∧ (queue t q).pktOpen = false
      ∧ (queue t q).words = (queue s q).words ∧ SameRegsBut [] s t))
  ∧ (∀ (q : Nat) (s : State), busUp s = true → queuePresent s q = true → frozen s 0x40 = false → (queue s q).flushing = true →
      Completes (.flushDone q) s fun t => (queue t q).words = [] ∧ (queue t q).flushing = false ∧ (queue t q).lengthLost = false
        ∧ (queue t q).pktOpen = false ∧ t.rd (qAddr q 0x40) = s.rd (qAddr q 0x40) + wordOf (queue s q).depth ∧ SameMemory s t
        ∧ SameRegsBut [qAddr q 0x34, qAddr q 0x40] s t)

/-- Parts of R162, R164, R165, R176, R180: REGION takes a write only on an idle, empty queue, inside the Vat and clear of every other region, and
otherwise records REGION_BUSY, REGION_OVERLAP or REGION_RANGE and stays; CFG takes a legal binding only on an idle queue and a mode change only
on an idle, empty one, loads IDLE_ITEM for a Profile Unit, and otherwise records BINDING or MODE_BUSY and keeps its bindings and mode; CHN.LOCK
refuses both. -/
def Obligations.QueueConfiguration : Prop :=
  (∀ (m : Master) (q : Nat) (v new : Word) (s : State), ReachesQueue m q 0x14 true s →
    new = storeValue (queueDef 0x14) (s.rd (qAddr q 0x14)) v →
    (cfgLocked s 0x40 = true → Completes (.regionWrite m q v) s fun t =>
      ErrorRecorded Reg.CHN 0x01 0x02 (errDetail (masterCode m) 0x14) s t ∧ t.rd (qAddr q 0x14) = s.rd (qAddr q 0x14))
    ∧ (cfgLocked s 0x40 = false →
      (qEnabled s q = true ∨ (queue s q).depth ≠ 0 → Completes (.regionWrite m q v) s fun t =>
        ErrorRecorded Reg.CHN 0x03 0x03 (errDetail (masterCode m) 0x14) s t ∧ t.rd (qAddr q 0x14) = s.rd (qAddr q 0x14))
      ∧ (qEnabled s q = false → (queue s q).depth = 0 →
        ((bits new 16 11 ≠ 0 ∧ ∃ p, p < queuesOf s.variant ∧ p ≠ q ∧ qSize s p ≠ 0
            ∧ overlap (bits new 0 11) (bits new 16 11) (qBase s p) (qSize s p) = true) → Completes (.regionWrite m q v) s fun t =>
          ErrorRecorded Reg.CHN 0x03 0x01 (errDetail (masterCode m) 0x14) s t ∧ t.rd (qAddr q 0x14) = s.rd (qAddr q 0x14))
        ∧ ((bits new 16 11 = 0 ∨ ∀ p, p < queuesOf s.variant → p ≠ q → qSize s p ≠ 0 →
            overlap (bits new 0 11) (bits new 16 11) (qBase s p) (qSize s p) = false) →
          (bits new 16 11 ≠ 0 → vatKiB s.variant < bits new 0 11 + bits new 16 11 → Completes (.regionWrite m q v) s fun t =>
            ErrorRecorded Reg.CHN 0x03 0x02 (errDetail (masterCode m) 0x14) s t ∧ t.rd (qAddr q 0x14) = s.rd (qAddr q 0x14))
          ∧ (bits new 16 11 = 0 ∨ bits new 0 11 + bits new 16 11 ≤ vatKiB s.variant → Completes (.regionWrite m q v) s fun t =>
            t.rd (qAddr q 0x14) = new ∧ SameRegsBut [qAddr q 0x14] s t ∧ SameMemory s t)))))
  ∧ (∀ (m : Master) (q : Nat) (v new : Word) (s : State), ReachesQueue m q 0x10 true s →
    new = storeValue (queueDef 0x10) (s.rd (qAddr q 0x10)) v →
    (cfgLocked s 0x40 = true → Completes (.queueCfgWrite m q v) s fun t =>
      t.rd (qAddr q 0x10) = (if bit new 0 then s.rd (qAddr q 0x10) else putBit (s.rd (qAddr q 0x10)) 0 false) ∧ t.queues = s.queues)
    ∧ (cfgLocked s 0x40 = false → bits (s.rd (qAddr q 0x10)) 8 16 ≠ bits new 8 16 → qEnabled s q = true ∨ bindingOk s q new = false →
      Completes (.queueCfgWrite m q v) s fun t => ErrorRecorded Reg.CHN 0x03 0x04 (errDetail (masterCode m) 0x10) s t
        ∧ t.rd (qAddr q 0x10) = s.rd (qAddr q 0x10) ∧ t.queues = s.queues)
    ∧ (cfgLocked s 0x40 = false → bits (s.rd (qAddr q 0x10)) 8 16 = bits new 8 16 → bit (s.rd (qAddr q 0x10)) 1 ≠ bit new 1 →
      qEnabled s q = true ∨ (queue s q).depth ≠ 0 → Completes (.queueCfgWrite m q v) s fun t =>
        ErrorRecorded Reg.CHN 0x03 0x0A (errDetail (masterCode m) 0x10) s t
        ∧ t.rd (qAddr q 0x10) = s.rd (qAddr q 0x10) ∧ t.queues = s.queues)
    ∧ (cfgLocked s 0x40 = false → bits (s.rd (qAddr q 0x10)) 8 16 = bits new 8 16 ∨ (qEnabled s q = false ∧ bindingOk s q new = true) →
      bit (s.rd (qAddr q 0x10)) 1 = bit new 1 ∨ (qEnabled s q = false ∧ (queue s q).depth = 0) → Completes (.queueCfgWrite m q v) s fun t =>
        t.rd (qAddr q 0x10) = new ∧ (0x80 ≤ bits new 16 8 → bits new 16 8 ≤ 0x8F → t.rd (qAddr q 0x18) = 0xF0000000)
        ∧ t.queues = s.queues ∧ SameRegsBut [qAddr q 0x10, qAddr q 0x18] s t ∧ SameMemory s t))

/-- Parts of R178: no command of the queues unbalances the three counters and the depth of any queue. -/
def Obligations.QueueCountersBalance : Prop :=
  ∀ (q : Nat) (s : State), q < 256 → QueueBalanced q s → ∀ (m : Master) (p : Nat) (v : Word) (fault : CellFault) (ups : List (Nat × Upset)),
    Completes (.queuePush m p v) s (QueueBalanced q) ∧ Completes (.queuePop m p) s (QueueBalanced q)
    ∧ Completes (.headTransfer ⟨p, fault⟩) s (QueueBalanced q) ∧ Completes (.spillBurst p) s (QueueBalanced q)
    ∧ Completes (.fillBurst p ups) s (QueueBalanced q) ∧ Completes (.flush m p) s (QueueBalanced q)
    ∧ Completes (.flushDone p) s (QueueBalanced q) ∧ Completes (.pktOpen m p) s (QueueBalanced q)
    ∧ Completes (.pktClose m p) s (QueueBalanced q) ∧ Completes (.pktAbort m p) s (QueueBalanced q)

/-! ## Host port, DMA and boot (spec/09_host.md) -/

/-- Parts of R184, R186 to R191, R193: the fall of HP_CS_N starts a transaction. A header with a wrong CRC performs nothing, is counted and
latches HDR_CRC; a good one is answered with the status of the transaction before. A NOP reports OK, an invalid header BAD_HEADER. A read sends
the words it has read, each burst with its CRC-16; its retry sends what the original read and reads only the rest. A write of one burst performs
it where its CRC is right, and where it is wrong counts it, latches DATA_CRC and performs nothing; the retry of a write whose result was OK or
DUPLICATE is not performed again. At the rise of HP_CS_N the result is recorded in LAST, TRUNCATED where the transaction was cut short, and a
waiting lane mode takes effect; after 50 µs without an edge the 1-lane mode waits for it and MODE_RESET latches. -/
def Obligations.HostTransactions : Prop :=
  (∀ s : State, frozen s 0x30 = false → s.boot.controller = false → s.host.csLow = false → s.fld Reg.PWR_STATE 0 3 ≠ 3 → enteringWith s 3 3 8 = false →
    Completes .hpCsFall s fun t => t.host.csLow = true ∧ t.host.cur = none ∧ OnlyRegs [] { s with host := t.host } t)
  ∧ (∀ (s u : State), frozen s 0x30 = false → s.host.csLow = true → s.host.cur = none → busUp s = true → s.boot.controller = false →
      u = { s with host := { s.host with quietSince := s.now, status := statusBytes s } } →
    (∀ (op len addr seq fl b k : Nat) (data : List HpBurst) (whole : Bool) (crc : BitVec 16) (h : HpHeader) (c : Instr),
      h = ⟨op % 256, len % 256, addr % 2 ^ 32, seq % 256, fl % 256⟩ →
      op = 0x10 ∧ c = .hpRead len addr seq fl crc b k ∨ op = 0x11 ∧ c = .hpReadFixed len addr seq fl crc b k
        ∨ op = 0x20 ∧ c = .hpWrite len addr seq fl crc data ∨ op = 0x21 ∧ c = .hpWriteFixed len addr seq fl crc data
        ∨ op % 256 ∉ [0x10, 0x11, 0x20, 0x21] ∧ c = .hpNop op len addr seq fl ⟨crc, whole⟩ →
      (crc16 (headerBytes h) ≠ crc → Completes c s fun t =>
        t.host.cur = some ⟨h, false, true, 2, 0, true⟩ ∧ t.host.status = [] ∧ t.host.sent = []
        ∧ t.fld Reg.HPT_CRC_CNT 0 16 = min 0xFFFF (s.fld Reg.HPT_CRC_CNT 0 16 + 1)
        ∧ t.flag (Reg.HPT + 0x18) 0 = true ∧ OnlyRegs [Reg.HPT_CRC_CNT, Reg.HPT + 0x18] { s with host := t.host } t)
      ∧ (crc16 (headerBytes h) = crc → badHeader h = true → isRetry s h = false → op % 256 ∈ [0x10, 0x11, 0x20, 0x21] → Completes c s fun t =>
        t.host.cur = some ⟨h, true, true, 6, 0, false⟩ ∧ t.host.status = statusBytes s ∧ OnlyRegs [] { s with host := t.host } t))
    ∧ (∀ (len addr seq fl b k : Nat) (h : HpHeader) (crc : BitVec 16) (m : Nat), h = ⟨0x10, len % 256, addr % 2 ^ 32, seq % 256, fl % 256⟩ →
      m = min (hpWords h) (64 * min (burstCount h) (max b k)) → crc16 (headerBytes h) = crc → badHeader h = false →
      (isRetry s h = false → Completes (.hpRead len addr seq fl crc b k) s fun t =>
        t.host.sent = ((readFrom h 0 m [] u).1.take (64 * k)).map Prod.fst ∧ t.host.status = statusBytes s
        ∧ t.host.sentCrcs = burstCrcs h t.host.sent (min (burstCount h) k))
      ∧ (isRetry s h = true → Completes (.hpRead len addr seq fl crc b k) s fun t => t.host.status = statusBytes s
        ∧ t.host.sent = ((readFrom h s.host.replay.length m s.host.replay (u.satInc Reg.HPT_RETRY_CNT 0)).1.take (64 * k)).map Prod.fst
        ∧ (m ≤ s.host.replay.length → t.host.sent = (s.host.replay.take (64 * k)).map Prod.fst
          ∧ OnlyRegs [Reg.HPT_RETRY_CNT] { s with host := t.host } t)))
    ∧ (∀ (len addr seq fl b k : Nat) (h : HpHeader) (crc : BitVec 16), h = ⟨0x11, len % 256, addr % 2 ^ 32, seq % 256, fl % 256⟩ →
      crc16 (headerBytes h) = crc → badHeader h = false → isRetry s h = false → Completes (.hpReadFixed len addr seq fl crc b k) s fun t =>
        t.host.sent = ((readFrom h 0 (min (hpWords h) (64 * min (burstCount h) (max b k))) [] u).1.take (64 * k)).map Prod.fst
        ∧ t.host.status = statusBytes s ∧ t.host.sentCrcs = burstCrcs h t.host.sent (min (burstCount h) k))
    ∧ (∀ (op len addr seq fl : Nat) (h : HpHeader) (crc : BitVec 16), h = ⟨op % 256, len % 256, addr % 2 ^ 32, seq % 256, fl % 256⟩ →
      op % 256 ∉ [0x10, 0x11, 0x20, 0x21] → crc16 (headerBytes h) = crc → isRetry s h = false → ∀ whole,
        Completes (.hpNop op len addr seq fl ⟨crc, whole⟩) s fun t =>
        t.host.status = statusBytes s ∧ t.host.cur = some ⟨h, true, whole, if badHeader h then 6 else 0, 0, false⟩
        ∧ OnlyRegs [] { s with host := t.host } t)
    ∧ (∀ (len addr seq fl : Nat) (h : HpHeader) (crc : BitVec 16) (b : HpBurst), h = ⟨0x20, len % 256, addr % 2 ^ 32, seq % 256, fl % 256⟩ →
      crc16 (headerBytes h) = crc → badHeader h = false → isRetry s h = false → burstCount h = 1 → b.words.length = burstLen h 0 →
      (crc16 (burstBytes b.words) = b.crc → Completes (.hpWrite len addr seq fl crc [b]) s fun t =>
        ∃ r v, writeWords h 0 b.words (0, 0) { u with host := { u.host with replay := [], sent := [], sentCrcs := [] } } = (r, v)
          ∧ t = v.setCur ⟨h, true, true, r.1, r.2, false⟩)
      ∧ (crc16 (burstBytes b.words) ≠ b.crc → Completes (.hpWrite len addr seq fl crc [b]) s fun t =>
        t.host.cur = some ⟨h, true, true, 3, 0, true⟩ ∧ t.fld Reg.HPT_CRC_CNT 16 16 = min 0xFFFF (s.fld Reg.HPT_CRC_CNT 16 16 + 1)
        ∧ t.flag (Reg.HPT + 0x18) 1 = true ∧ OnlyRegs [Reg.HPT_CRC_CNT, Reg.HPT + 0x18] { s with host := t.host } t))
    ∧ (∀ (len addr seq fl : Nat) (h : HpHeader) (crc : BitVec 16) (data : List HpBurst),
      h = ⟨0x20, len % 256, addr % 2 ^ 32, seq % 256, fl % 256⟩ → crc16 (headerBytes h) = crc → badHeader h = false → isDup s h = true →
      (∀ b ∈ data, crc16 (burstBytes b.words) = b.crc) → Completes (.hpWrite len addr seq fl crc data) s fun t =>
        (∃ c, t.host.cur = some ⟨h, true, c, 1, 0, false⟩) ∧ OnlyRegs [Reg.HPT_RETRY_CNT] { s with host := t.host } t)
    ∧ (∀ (len addr seq fl : Nat) (h : HpHeader) (crc : BitVec 16) (b : HpBurst), h = ⟨0x21, len % 256, addr % 2 ^ 32, seq % 256, fl % 256⟩ →
      crc16 (headerBytes h) = crc → badHeader h = false → isRetry s h = false → burstCount h = 1 → b.words.length = burstLen h 0 →
      crc16 (burstBytes b.words) = b.crc → Completes (.hpWriteFixed len addr seq fl crc [b]) s fun t =>
        ∃ r v, writeWords h 0 b.words (0, 0) { u with host := { u.host with replay := [], sent := [], sentCrcs := [] } } = (r, v)
          ∧ t = v.setCur ⟨h, true, true, r.1, r.2, false⟩))
  ∧ (∀ (x : HpTrans) (s : State), frozen s 0x30 = false → s.host.csLow = true → s.host.cur = some x → s.host.pendingMode = none →
      (x.good = true → Completes .hpCsRise s fun t => t.host.csLow = false ∧ t.host.cur = none ∧ t.host.prev = some x.hdr
        ∧ (x.complete = true → t.rd Reg.HPT_LAST = wordOf (0x1000000 * (x.hdr.seq % 256) + 0x10000 * x.result + 0x100 * (x.detail % 256))
            ∧ t.host.prevResult = x.result)
        ∧ (x.complete = false → x.result ≠ 1 → t.rd Reg.HPT_LAST = wordOf (0x1000000 * (x.hdr.seq % 256) + 0x50000)
            ∧ t.host.prevResult = 5 ∧ t.flag (Reg.HPT + 0x18) 3 = true)
        ∧ t.host.fails = (if x.crcBad then s.host.fails + 1 else 0) ∧ OnlyRegs [Reg.HPT_LAST, Reg.HPT + 0x18] { s with host := t.host } t)
      ∧ (x.good = false → Completes .hpCsRise s fun t => t.fld Reg.HPT_LAST 16 8 = 2 ∧ t.fld Reg.HPT_LAST 24 8 = s.fld Reg.HPT_LAST 24 8
        ∧ t.host.prev = s.host.prev ∧ OnlyRegs [Reg.HPT_LAST] { s with host := t.host } t))
  ∧ (∀ (l : Nat) (d : Bool) (s : State), frozen s 0x30 = false → s.host.csLow = true → s.host.cur = none → s.host.pendingMode = some (l, d) →
      l < 4 → Completes .hpCsRise s fun t => t.host.lanes = l ∧ t.host.ddr = d ∧ t.host.pendingMode = none
        ∧ t.fld Reg.HPT_CFG 0 2 = l ∧ t.flag Reg.HPT_CFG 4 = d ∧ SameRegsBut [Reg.HPT_CFG] s t ∧ SameMemory s t)
  ∧ (∀ s : State, frozen s 0x30 = false → busUp s = true → s.boot.controller = false → s.host.csLow = true → s.host.quietSince + 10000 ≤ s.now →
      Completes .modeReset s fun t => t.host.pendingMode = some (0, false) ∧ t.flag (Reg.HPT + 0x18) 4 = true
        ∧ OnlyRegs [Reg.HPT + 0x18] { s with host := t.host } t)

/-- Parts of R195 to R197: a write to DESC starts an enabled channel that is IDLE, END or ERROR and is CH_BUSY otherwise; a fetch takes the
descriptor from system SRAM, waits where it is still owned or wants a trigger, and stops in ERROR at an illegal address; a trigger releases a
waiting channel, else accumulates to 15 and is then lost; a burst moves a word, and the last word of a descriptor writes words 4 and 5 back and
ends or continues the chain. -/
def Obligations.DmaChannels : Prop :=
  (∀ (m : Master) (n : Nat) (v : Word) (s : State), n < 16 → Reaches m (Reg.DMA_CH_DESC n) s →
    ((dmaChan s n).st = .idle ∨ (dmaChan s n).st = .done ∨ (dmaChan s n).st = .error → Completes (.dmaDescWrite m n v) s fun t =>
      t.rd (Reg.DMA_CH_DESC n) = v &&& 0xFFFFFFE0 ∧ SameRegsBut [Reg.DMA_CH_DESC n] s t ∧ SameMemory s t
      ∧ (dmaOn s n = true → (dmaChan t n).st = .fetch ∧ (dmaChan t n).desc = (v &&& 0xFFFFFFE0).toNat) ∧ (dmaOn s n = false → t.dma = s.dma))
    ∧ (¬((dmaChan s n).st = .idle ∨ (dmaChan s n).st = .done ∨ (dmaChan s n).st = .error) → Completes (.dmaDescWrite m n v) s fun t =>
      ErrorRecorded Reg.DMA 0x03 0x01 (errDetail (masterCode m) (Reg.DMA_CH_DESC n % 0x1000)) s t
      ∧ OnlyPageRegs [Reg.DMA + 0x20, Reg.DMA + 0x24] s t))
  ∧ (∀ (n d : Nat) (x : DmaChan) (s : State), frozen s 0x31 = false → dmaOn s n = true → (dmaChan s n).st = .fetch → busUp s = true →
      d = (dmaChan s n).desc →
      x = { st := .run, desc := d, w0 := s.rawWord d, src := (s.rawWord (d + 4)).toNat, dst := (s.rawWord (d + 8)).toNat,
            next := (s.rawWord (d + 12)).toNat, pend := (dmaChan s n).pend } →
    (isSram s.variant d = false ∨ d % 32 ≠ 0 → Completes (.dmaDescFetch n) s fun t =>
      (dmaChan t n).st = .error ∧ t.flag (Reg.DMA + 0x18) (16 + n) = true ∧ SameMemory s t ∧ SameRegsBut [Reg.DMA + 0x18] s t)
    ∧ (isSram s.variant d = true → d % 32 = 0 → s.sec.scrapped = false → (∀ k, k < 5 → GoodWord (d + 4 * k) s) →
      (bit (s.rawWord (d + 16)) 31 = true → (dmaChan s n).asked = false → Completes (.dmaDescFetch n) s fun t =>
        (dmaChan t n).st = .waitOwn ∧ OnlyRegs [] { s with dma := t.dma } t)
      ∧ (bit (s.rawWord (d + 16)) 31 = false → dmaBad s x = false →
        (bit x.w0 31 = false → Completes (.dmaDescFetch n) s fun t => dmaChan t n = x ∧ OnlyRegs [] { s with dma := t.dma } t)
        ∧ (bit x.w0 31 = true → x.pend = 0 → Completes (.dmaDescFetch n) s fun t =>
          dmaChan t n = { x with st := .waitTrig } ∧ OnlyRegs [] { s with dma := t.dma } t)
        ∧ (bit x.w0 31 = true → 0 < x.pend → Completes (.dmaDescFetch n) s fun t =>
          dmaChan t n = { x with pend := x.pend - 1 } ∧ OnlyRegs [] { s with dma := t.dma } t))))
  ∧ (∀ (m : Master) (n : Nat) (s : State), n < 16 → Reaches m (Reg.DMA_CH_TRIG n) s →
      (dmaOn s n = false → Completes (.dmaTrig m n) s fun t => OnlyPageRegs [] s t)
      ∧ (dmaOn s n = true → frozen (s.attach m) 0x31 = false → (dmaChan s n).st = .waitTrig → Completes (.dmaTrig m n) s fun t =>
        dmaChan t n = { dmaChan s n with st := .run } ∧ SameRegsBut [] s t)
      ∧ (dmaOn s n = true → frozen (s.attach m) 0x31 = false → (dmaChan s n).st = .waitOwn → Completes (.dmaTrig m n) s fun t =>
        dmaChan t n = { dmaChan s n with st := .fetch, asked := true } ∧ SameRegsBut [] s t)
      ∧ (dmaOn s n = true → frozen (s.attach m) 0x31 = true → Completes (.dmaTrig m n) s fun t => OnlyPageRegs [] s t)
      ∧ (dmaOn s n = true → frozen (s.attach m) 0x31 = false → (dmaChan s n).st ≠ .waitTrig → (dmaChan s n).st ≠ .waitOwn →
        ((dmaChan s n).pend < 15 → Completes (.dmaTrig m n) s fun t =>
          dmaChan t n = { dmaChan s n with pend := (dmaChan s n).pend + 1 } ∧ SameRegsBut [] s t)
        ∧ (15 ≤ (dmaChan s n).pend → Completes (.dmaTrig m n) s fun t => t.dma = s.dma ∧ t.flag (Reg.DMA + 0x18) (16 + n) = true
          ∧ t.fld (Reg.DMA_CH_TRIG_LOST n) 0 16 = min 0xFFFF (s.fld (Reg.DMA_CH_TRIG_LOST n) 0 16 + 1))))
  ∧ (∀ (src n : Nat) (s : State), src < 64 → busUp s = true → sourceOn s src = true → s.pages.dmaSeen.contains src = false →
      n = s.fld (Reg.EVT_ROUTE src) 8 4 → s.flag (Reg.EVT_ROUTE src) 14 = true → dmaOn s n = true → frozen s 0x31 = false → (dmaChan s n).st = .waitTrig →
      Completes (.dmaRoutedTrigger src) s fun t => dmaChan t n = { dmaChan s n with st := .run } ∧ t.pages.dmaSeen.contains src = true
        ∧ SameRegsBut [] s t)
  ∧ (∀ (n a b : Nat) (x : DmaChan) (s : State), frozen s 0x31 = false → busUp s = true → dmaGranted s = some n → x = dmaChan s n → x.st = .run →
      x.packet = false → x.srcMode = 0 → x.dstMode = 0 → x.length = x.moved + 1 → x.poison = none → a = (x.src + 4 * x.moved) % 2 ^ 32 →
      b = (x.dst + 4 * x.moved) % 2 ^ 32 → isSram s.variant a = true → isSram s.variant b = true → isSram s.variant x.desc = true → a % 4 = 0 →
      b % 4 = 0 → x.desc % 32 = 0 → ¬(x.desc ≤ b ∧ b < x.desc + 32) → GoodWord a s → s.sec.scrapped = false → s.flag Reg.MEM_INJECT 31 = false →
      Completes (.dmaBurst n) s fun t => t.rawWord b = s.rawWord a ∧ t.rawWord (x.desc + 16) = wordOf (0x80000000 + (x.moved + 1))
        ∧ t.rawWord (x.desc + 20) = wordOf s.now ∧ t.rd (Reg.DMA_CH_WORDS n) = s.rd (Reg.DMA_CH_WORDS n) + 1
        ∧ (bit x.w0 30 = true → t.flag (Reg.DMA + 0x18) n = true)
        ∧ (x.next = 0 → (dmaChan t n).st = .done) ∧ (x.next ≠ 0 → (dmaChan t n).st = .fetch ∧ (dmaChan t n).desc = x.next)
        ∧ (∀ c, ¬(b ≤ c ∧ c < b + 4) → ¬(x.desc + 16 ≤ c ∧ c < x.desc + 28) → t.byteAt c = s.byteAt c))

/-- Parts of R151 to R153, R200 to R205: a standalone boot checks the header, loads the records, and waits for the signature; a failure clears
what it wrote and reports its code; its success trusts the SPEs it loaded and starts those of the START record. SEC.VERIFY copies an accepted
image into program memory and trusts it. FL_LEN starts a flash read in controller mode, whose words go to FL_DST. The result of hash and
signature is the accelerator's (log entry 22). -/
def Obligations.BootAndVerify : Prop :=
  (∀ (image : List Word) (c : Nat) (s : State), frozen s 0x30 = false → s.boot.phase = .waitTest5 → s.boot.written = [] → busUp s = true →
      coxState s ≠ 0 → ¬(coxState s = 1 ∧ s.cox.test ≤ 5) → 32 ≤ image.length → imageUnchecked s = false → imageCond s (image.take 32) = c →
    (c ≠ 0 → Completes (.bootStart image) s fun t => t.boot.phase = .ended ∧ t.boot.controller = false ∧ t.host.lanes = 0
      ∧ t.boot.flash = some (flashCmd s s.boot.imageAt 128) ∧ t.fld Reg.HPT_BOOT 24 4 = 1 ∧ t.rd Reg.SEC_BOOT_STAT = wordOf (0x80000000 + c) ∧ t.flag (Reg.SEC + 0x18) 3 = true ∧ SameMemory s t
      ∧ SameRegsBut [Reg.HPT_BOOT, Reg.SEC_BOOT_STAT, Reg.SEC + 0x18] s t)
    ∧ (∀ n mask u, n = (hdrWord image 2).toNat / 4 → c = 0 → (hdrWord image 2).toNat = 4 * n → 4 * n ≤ 0x100000 → 32 + n ≤ image.length →
      loadRecords (n + 1) ((image.drop 32).take n) { s with
        freeCtr := s.freeCtr + 32 + n, boot := { s.boot with flash := some (flashCmd s (s.boot.imageAt + 128) (4 * n)) } } = (0, mask, u) →
      Completes (.bootStart image) s fun t =>
        t.boot.phase = .verifying mask (imageSigned (image.take 32) ((image.drop 32).take n)) false
        ∧ t.fld Reg.HPT_BOOT 0 24 = u.boot.written.length % 2 ^ 24 ∧ SameMemory u t)
    ∧ (∀ n f mask u, n = (hdrWord image 2).toNat / 4 → c = 0 → (hdrWord image 2).toNat = 4 * n → 4 * n ≤ 0x100000 → 32 + n ≤ image.length →
      loadRecords (n + 1) ((image.drop 32).take n) { s with
        freeCtr := s.freeCtr + 32 + n, boot := { s.boot with flash := some (flashCmd s (s.boot.imageAt + 128) (4 * n)) } } = (f, mask, u) → f ≠ 0 →
      Completes (.bootStart image) s fun t => t.boot.phase = .ended ∧ t.boot.controller = false ∧ t.fld Reg.HPT_BOOT 24 4 = f
        ∧ t.flag (Reg.SEC + 0x18) 3 = true ∧ ∀ a ∈ u.boot.written, t.rawWord a = 0))
  ∧ (∀ (mask : Nat) (un : Bool) (s : State), frozen s 0x30 = false →
      (s.boot.phase = .verifying mask false un → Completes .bootVerifyDone s fun t => t.boot.phase = .ended ∧ t.boot.controller = false
        ∧ (∀ a ∈ s.boot.written, t.rawWord a = 0) ∧ t.fld Reg.HPT_BOOT 24 4 = 1 ∧ t.rd Reg.SEC_BOOT_STAT = 0x80000005)
      ∧ (s.boot.phase = .verifying mask true un → Completes .bootVerifyDone s fun t => t.boot.phase = .ended ∧ t.fld Reg.HPT_BOOT 30 2 = 3
        ∧ t.rd Reg.SEC_BOOT_STAT = (if un then 0xE0000000 else 0xC0000000) ∧ t.flag (Reg.HPT + 0x18) 5 = true
        ∧ (un = false → t.sec.trusted = s.boot.loadedSpes) ∧ SameMemory s t
        ∧ (mask = 0 → SameRegsBut [Reg.HPT_BOOT, Reg.SEC_BOOT_STAT, Reg.HPT + 0x18] s t)
        ∧ (∀ e, e < enginesOf s.variant → mask / 2 ^ e % 2 = 1 → s.flag (statAddr (0x50 + e)) 2 = true → speState s e ≠ 7 →
            (un = false → e ∈ s.boot.loadedSpes) → (un = true → speTrusted s e = true) →
            t.flag (ctrlAddr (0x50 + e)) 0 = true ∧ speState t e = 1 ∧ (spe t e).pc = 0)))
  ∧ (∀ (m : Master) (v : Word) (s : State), Reaches m Reg.SEC_VERIFY_CTRL s → bit v 0 = true → s.sec.verify = none →
      (bits v 4 2 < enginesOf s.variant → Completes (.verifyStart m v) s fun t => t.rd Reg.SEC_VERIFY_STAT = 0
        ∧ t.sec.verify = some ⟨(s.rd Reg.SEC_VERIFY_ADDR).toNat, bits v 4 2, masterCode m⟩ ∧ SameRegsBut [Reg.SEC_VERIFY_STAT] s t)
      ∧ (enginesOf s.variant ≤ bits v 4 2 → Completes (.verifyStart m v) s fun t =>
        ErrorRecorded Reg.SEC 0x02 0x02 (errDetail (masterCode m) 0x064) s t ∧ OnlyPageRegs [Reg.SEC + 0x20, Reg.SEC + 0x24] s t))
  ∧ (∀ (j : Verify) (h p : List Word) (n : Nat) (s : State), frozen s 0x22 = false → s.sec.verify = some j → imageUnchecked s = false →
      j.addr % 4 = 0 → h = (List.range 32).map (fun k => s.rawWord (j.addr + 4 * k)) → n = min 0x40000 ((hdrWord h 2).toNat / 4) →
      p = (List.range n).map (fun k => s.rawWord (j.addr + 128 + 4 * k)) → isSram s.variant (j.addr + 124 + 4 * n) = true →
      (∀ k, k < 32 + n → GoodWord (j.addr + 4 * k) s) →
      (imageCond s h ≠ 0 → Completes .verifyDone s fun t => t.rd Reg.SEC_VERIFY_STAT = wordOf (0x80000000 + imageCond s h)
        ∧ t.flag (Reg.SEC + 0x18) 4 = true ∧ t.sec.verify = none ∧ t.sec.trusted = s.sec.trusted ∧ SameMemory s t)
      ∧ (imageCond s h = 0 → imageSigned h p = false → Completes .verifyDone s fun t => t.rd Reg.SEC_VERIFY_STAT = 0x80000005
        ∧ t.sec.verify = none ∧ t.sec.trusted = s.sec.trusted ∧ SameMemory s t)
      ∧ (imageCond s h = 0 → imageSigned h p = true → j.spe < 2 → Completes .verifyDone s fun t => t.rd Reg.SEC_VERIFY_STAT = 0xC0000000
        ∧ t.sec.trusted.contains j.spe = true
        ∧ (∀ k, k < n → k < 16384 → some (t.rawWord (0x20000000 + 0x100000 * j.spe + 4 * k)) = p[k]?)
        ∧ SameMemoryBut (0x20000000 + 0x100000 * j.spe) 0x10000 s t))
  ∧ (∀ (m : Master) (v : Word) (s : State), Reaches m Reg.HPT_FL_LEN s →
      (s.boot.controller = false → Completes (.flLenWrite m v) s fun t =>
        ErrorRecorded Reg.HPT 0x03 0x02 (errDetail (masterCode m) 0x060) s t ∧ OnlyPageRegs [Reg.HPT + 0x20, Reg.HPT + 0x24] s t)
      ∧ (s.boot.controller = true → flBusy s = true → Completes (.flLenWrite m v) s fun t =>
        ErrorRecorded Reg.HPT 0x03 0x03 (errDetail (masterCode m) 0x060) s t ∧ OnlyPageRegs [Reg.HPT + 0x20, Reg.HPT + 0x24] s t)
      ∧ (s.boot.controller = true → flBusy s = false → Completes (.flLenWrite m v) s fun t => t.rd Reg.HPT_FL_LEN = v &&& 0x000FFFFF
        ∧ t.rd Reg.HPT_FL_STAT = 0x80000000
        ∧ t.boot = { s.boot with flash := some (flashCmd s (s.rd Reg.HPT_FL_ADDR).toNat (bits v 0 20)) }
        ∧ OnlyPageRegs [Reg.HPT_FL_LEN, Reg.HPT_FL_STAT] { s with boot := t.boot } t))
  ∧ (∀ (data : List Word) (n d : Nat) (s : State), frozen s 0x30 = false → flBusy s = true → busUp s = true → d = (s.rd Reg.HPT_FL_DST).toNat →
      (s.fld Reg.HPT_FL_LEN 0 20 = 4 * n → loadableRange s d n = true → data.length = n → d + 4 * n ≤ sramKiB s.variant * 1024 →
        s.flag Reg.MEM_INJECT 31 = false → Completes (.flDone data) s fun t => (∀ k, k < n → some (t.rawWord (d + 4 * k)) = data[k]?)
          ∧ t.rd Reg.HPT_FL_STAT = 0 ∧ t.flag (Reg.HPT + 0x18) 6 = true ∧ SameMemoryBut d (4 * n) s t)
      ∧ (s.fld Reg.HPT_FL_LEN 0 20 % 4 ≠ 0 ∨ loadableRange s d (s.fld Reg.HPT_FL_LEN 0 20 / 4) = false → Completes (.flDone data) s fun t =>
        t.rd Reg.HPT_FL_STAT = 0x40000000 ∧ t.flag (Reg.HPT + 0x18) 6 = true ∧ SameMemory s t))

/-! ## Signal Processing Engines (spec/10_spe_model.md, spec/11_spe_isa.md) -/

/-- Parts of R212 to R215, R233, R237: the multiplying instructions give Ad the product of Dj and Dk in Q1.47, its negative, or Ad plus or minus
it, limited under SM, rounded at bit 23 for MULR and FMAR, with flags N, Z, V, E and L; MOVE does its moves only. Each makes its parallel moves.
Parts of R212, R214, R237: sums, differences, comparisons, absolute value, negation and one-bit shifts of an accumulator, with Dj, Ak or the
immediate as operand: the value, limited under SM, and C as the carry out of bit 55, the borrow, or the bit shifted out. The C of ABS is a free
value, which the spec does not state (log entry 1). A comparison writes the flags alone. -/
def Obligations.SpeArithmetic : Prop :=
  (∀ (n : Nat) (w : Word) (x : Spe) (s : State) (p a : Int), p = x.dReg (bits w 19 3) * x.dReg (bits w 16 3) * 2 → a = x.acc (bits w 22 2) →
     (SpeIssues 0 0x00 n w s x → SpeCompletes (.pMove n w) n x (parMoves n w) s)
     ∧ (SpeIssues 0 0x01 n w s x →
         SpeCompletes (.mul n w) n x (fun u => parMoves n w (u.setSpe n (x.result (bits w 22 2) (accFit x.sm p)))) s)
     ∧ (SpeIssues 0 0x02 n w s x →
         SpeCompletes (.muln n w) n x (fun u => parMoves n w (u.setSpe n (x.result (bits w 22 2) (accFit x.sm (-p))))) s)
     ∧ (SpeIssues 0 0x03 n w s x →
         SpeCompletes (.fma n w) n x (fun u => parMoves n w (u.setSpe n (x.result (bits w 22 2) (accFit x.sm (a + p))))) s)
     ∧ (SpeIssues 0 0x04 n w s x →
         SpeCompletes (.fms n w) n x (fun u => parMoves n w (u.setSpe n (x.result (bits w 22 2) (accFit x.sm (a - p))))) s)
     ∧ (SpeIssues 0 0x05 n w s x →
         SpeCompletes (.mulr n w) n x (fun u => parMoves n w (u.setSpe n (x.result (bits w 22 2) (accRound x.sm x.rm (accFit x.sm p))))) s)
     ∧ (SpeIssues 0 0x06 n w s x → SpeCompletes (.fmar n w) n x
         (fun u => parMoves n w (u.setSpe n (x.result (bits w 22 2) (accRound x.sm x.rm (accFit x.sm (a + p)))))) s))
  ∧ (∀ (n k : Nat) (w : Word) (x : Spe) (s : State) (a d b i : Int), k = bits w 22 2 → a = x.acc k → d = toAcc (x.reg (bits w 19 3)) →
      b = x.acc (bits w 16 3) → i = toAcc (bits w 0 24) →
      (SpeIssues 0 0x08 n w s x → SpeCompletes (.add n w) n x
          (fun u => parMoves n w (u.setSpe n (x.resultC k (accFit x.sm (a + d)) (addCarry a d)))) s)
      ∧ (SpeIssues 0 0x09 n w s x → SpeCompletes (.sub n w) n x
          (fun u => parMoves n w (u.setSpe n (x.resultC k (accFit x.sm (a - d)) (subBorrow a d)))) s)
      ∧ (SpeIssues 0 0x0A n w s x → SpeCompletes (.adda n w) n x
          (fun u => parMoves n w (u.setSpe n (x.resultC k (accFit x.sm (a + b)) (addCarry a b)))) s)
      ∧ (SpeIssues 0 0x0B n w s x → SpeCompletes (.suba n w) n x
          (fun u => parMoves n w (u.setSpe n (x.resultC k (accFit x.sm (a - b)) (subBorrow a b)))) s)
      ∧ (SpeIssues 0 0x0C n w s x → SpeCompletes (.cmp n w) n x
          (fun u => parMoves n w (u.setSpe n (x.flags (flagsNZVCE { accFit x.sm (a - d) with l := false } (subBorrow a d))))) s)
      ∧ (SpeIssues 0 0x0D n w s x → SpeCompletes (.cmpa n w) n x
          (fun u => parMoves n w (u.setSpe n (x.flags (flagsNZVCE { accFit x.sm (a - b) with l := false } (subBorrow a b))))) s)
      ∧ (SpeIssues 0 0x10 n w s x → ∃ c, SpeCompletes (.absA n w) n x
          (fun u => parMoves n w (u.drawn.setSpe n (x.resultC k (accFit x.sm a.natAbs) c))) s)
      ∧ (SpeIssues 0 0x11 n w s x → SpeCompletes (.neg n w) n x
          (fun u => parMoves n w (u.setSpe n (x.resultC k (accFit x.sm (-a)) (decide (a ≠ 0))))) s)
      ∧ (SpeIssues 0 0x14 n w s x → SpeCompletes (.shl1 n w) n x
          (fun u => parMoves n w (u.setSpe n (x.resultC k (accFit x.sm (a * 2)) (decide (a < 0))))) s)
      ∧ (SpeIssues 0 0x15 n w s x → SpeCompletes (.shr1 n w) n x
          (fun u => parMoves n w (u.setSpe n (x.resultC k (accFit x.sm (a / 2)) (decide (a % 2 = 1))))) s)
      ∧ (SpeIssues 1 0 n w s x →
          SpeRegsComplete (.addi n w) n x (x.resultC (bits w 24 2) (accFit x.sm (x.acc (bits w 24 2) + i)) (addCarry (x.acc (bits w 24 2)) i)) s)
      ∧ (SpeIssues 1 1 n w s x →
          SpeRegsComplete (.subi n w) n x (x.resultC (bits w 24 2) (accFit x.sm (x.acc (bits w 24 2) - i)) (subBorrow (x.acc (bits w 24 2)) i)) s)
      ∧ (SpeIssues 1 2 n w s x → SpeRegsComplete (.cmpi n w) n x
          (x.flags (flagsNZVCE { accFit x.sm (x.acc (bits w 24 2) - i) with l := false } (subBorrow (x.acc (bits w 24 2)) i))) s))

/-- Parts of R212, R215, R237: copies, CLR, ROUND and SAT, the logical instructions on all 56 bits, and LDI, MOVE, LUI, MODP, SRSET, SRCLR: each
gives its destination the converted value, seen after the delay of its kind, and writes the flags of its row and no others. -/
def Obligations.SpeCopiesAndLogic : Prop :=
  ∀ (n k : Nat) (w : Word) (x : Spe) (s : State) (d m : Nat), k = bits w 22 2 → d = lowBits 56 (toAcc (x.reg (bits w 19 3))) →
    m = lowBits 56 (toAcc (bits w 0 24)) →
    (SpeIssues 0 0x0E n w s x → SpeCompletes (.copy n w) n x
        (fun u => parMoves n w (u.setSpe n (x.result k ⟨toAcc (x.reg (bits w 19 3)), false, false⟩))) s)
    ∧ (SpeIssues 0 0x0F n w s x → SpeCompletes (.copya n w) n x
        (fun u => parMoves n w (u.setSpe n (x.result k ⟨x.acc (bits w 16 3), false, false⟩))) s)
    ∧ (SpeIssues 0 0x12 n w s x → SpeCompletes (.clr n w) n x (fun u => parMoves n w (u.setSpe n (x.result k ⟨0, false, false⟩))) s)
    ∧ (SpeIssues 0 0x13 n w s x → SpeCompletes (.round n w) n x
        (fun u => parMoves n w (u.setSpe n (x.result k (accRound x.sm x.rm ⟨x.acc k, false, false⟩)))) s)
    ∧ (SpeIssues 0 0x16 n w s x → SpeCompletes (.sat n w) n x (fun u => parMoves n w (u.setSpe n (x.result k (accFit true (x.acc k))))) s)
    ∧ (SpeIssues 0 0x17 n w s x → SpeCompletes (.andA n w) n x
        (fun u => parMoves n w (u.setSpe n (x.logicTo k ((x.reg (cA k) % 2 ^ 56) &&& d)))) s)
    ∧ (SpeIssues 0 0x18 n w s x → SpeCompletes (.orA n w) n x
        (fun u => parMoves n w (u.setSpe n (x.logicTo k ((x.reg (cA k) % 2 ^ 56) ||| d)))) s)
    ∧ (SpeIssues 0 0x19 n w s x → SpeCompletes (.xor n w) n x
        (fun u => parMoves n w (u.setSpe n (x.logicTo k ((x.reg (cA k) % 2 ^ 56) ^^^ d)))) s)
    ∧ (SpeIssues 0 0x1A n w s x → SpeCompletes (.notA n w) n x
        (fun u => parMoves n w (u.setSpe n (x.logicTo k (2 ^ 56 - 1 - x.reg (cA k) % 2 ^ 56)))) s)
    ∧ (SpeIssues 1 3 n w s x →
        SpeRegsComplete (.andi n w) n x (x.logicTo (bits w 24 2) ((x.reg (cA (bits w 24 2)) % 2 ^ 56) &&& m)) s)
    ∧ (SpeIssues 1 4 n w s x →
        SpeRegsComplete (.ori n w) n x (x.logicTo (bits w 24 2) ((x.reg (cA (bits w 24 2)) % 2 ^ 56) ||| m)) s)
    ∧ (SpeIssues 1 5 n w s x →
        SpeRegsComplete (.xori n w) n x (x.logicTo (bits w 24 2) ((x.reg (cA (bits w 24 2)) % 2 ^ 56) ^^^ m)) s)
    ∧ (SpeIssues 1 6 n w s x → SpeRegsComplete (.copyi n w) n x (x.result (bits w 24 2) ⟨toAcc (bits w 0 24), false, false⟩) s)
    ∧ (SpeIssues 3 (bits w 24 5) n w s x →
        SpeRegsComplete (.ldi n w) n x (x.write (loadDelay (lCode w)) (lCode w) (lValue (lCode w) (bits w 0 24))) s)
    ∧ (SpeIssues 2 0x00 n w s x → SpeRegsComplete (.move n w) n x
        ((x.write (moveDelay (bits w 18 6)) (bits w 18 6) (convTo x.rm (bits w 18 6) (x.val (bits w 12 6))).1).limited
          (convTo x.rm (bits w 18 6) (x.val (bits w 12 6))).2) s)
    ∧ (SpeIssues 2 0x09 n w s x → SpeRegsComplete (.lui n w) n x (x.later 3 (cP (bits w 21 3)) 0xFFFF0000 (0x10000 * bits w 0 16)) s)
    ∧ (SpeIssues 2 0x0A n w s x → SpeRegsComplete (.modp n w) n x (if bits w 12 3 = 0 ∨ bits w 12 3 = 4 then x
        else x.write 3 (cP (bits w 15 3)) (x.ea (bits w 15 3) (bits w 12 3) 1).2) s)
    ∧ (SpeIssues 4 0x09 n w s x → SpeRegsComplete (.srset n w) n x
        ((x.later 2 cSR (bits w 0 24 &&& (srMask - srModes)) 0xFFFFFF).later 3 cSR (bits w 0 24 &&& srModes) 0xFFFFFF) s)
    ∧ (SpeIssues 4 0x0A n w s x → SpeRegsComplete (.srclr n w) n x
        ((x.later 2 cSR (bits w 0 24 &&& (srMask - srModes)) 0).later 3 cSR (bits w 0 24 &&& srModes) 0) s)

/-- Parts of R206, R216, R217, R236, R237, R244: loads and stores of X, Y and E space, absolute or at the address that the mode yields, whose
pointer is updated; a load gives the register the converted word, a store stores the converted register and nothing else. An E read stalls the
engine until it is answered; a write is posted, and a third one stalls. -/
def Obligations.SpeMemoryAccess : Prop :=
  (∀ (n a new : Nat) (w : Word) (x : Spe) (s : State), (a, new) = x.ea (bits w 15 3) (bits w 12 3) 1 → x.watchpoints = [] →
    (SpeIssues 2 0x01 n w s x → GoodWord (xyAddr n 0 a) s → SpeRegsComplete (.ldx n w) n x
      ((x.bump (bits w 15 3) (bits w 12 3) new).loaded 0 (bits w 18 6) (.d ((s.rawWord (xyAddr n 0 a)).toNat % 2 ^ 24))) s)
    ∧ (SpeIssues 2 0x02 n w s x → GoodWord (xyAddr n 1 a) s → SpeRegsComplete (.ldy n w) n x
      ((x.bump (bits w 15 3) (bits w 12 3) new).loaded 0 (bits w 18 6) (.d ((s.rawWord (xyAddr n 1 a)).toNat % 2 ^ 24))) s)
    ∧ (SpeIssues 2 0x03 n w s x → SpeCompletes (.stx n w) n x (fun u =>
        (storeWord (xyAddr n 0 a) (wordOf (to24 x.rm (x.val (bits w 18 6))).1) u).setSpe n
          ((x.limited (to24 x.rm (x.val (bits w 18 6))).2).bump (bits w 15 3) (bits w 12 3) new)) s)
    ∧ (SpeIssues 2 0x04 n w s x → SpeCompletes (.sty n w) n x (fun u =>
        (storeWord (xyAddr n 1 a) (wordOf (to24 x.rm (x.val (bits w 18 6))).1) u).setSpe n
          ((x.limited (to24 x.rm (x.val (bits w 18 6))).2).bump (bits w 15 3) (bits w 12 3) new)) s))
  ∧ (∀ (n a : Nat) (w : Word) (x : Spe) (s : State), a = bits w 0 15 → x.watchpoints = [] →
    (SpeIssues 2 0x05 n w s x → GoodWord (xyAddr n 0 a) s → SpeRegsComplete (.ldxa n w) n x
      (x.loaded 0 (bits w 18 6) (.d ((s.rawWord (xyAddr n 0 a)).toNat % 2 ^ 24))) s)
    ∧ (SpeIssues 2 0x06 n w s x → GoodWord (xyAddr n 1 a) s → SpeRegsComplete (.ldya n w) n x
      (x.loaded 0 (bits w 18 6) (.d ((s.rawWord (xyAddr n 1 a)).toNat % 2 ^ 24))) s)
    ∧ (SpeIssues 2 0x07 n w s x → SpeCompletes (.stxa n w) n x (fun u =>
        (storeWord (xyAddr n 0 a) (wordOf (to24 x.rm (x.val (bits w 18 6))).1) u).setSpe n (x.limited (to24 x.rm (x.val (bits w 18 6))).2)) s)
    ∧ (SpeIssues 2 0x08 n w s x → SpeCompletes (.stya n w) n x (fun u =>
        (storeWord (xyAddr n 1 a) (wordOf (to24 x.rm (x.val (bits w 18 6))).1) u).setSpe n (x.limited (to24 x.rm (x.val (bits w 18 6))).2)) s))
  ∧ (∀ (n a new : Nat) (w : Word) (x : Spe) (s : State), (a, new) = x.ea (bits w 15 3) (bits w 12 3) 4 → x.watchpoints = [] →
    (SpeIssues 2 0x0B n w s x → SpeCompletes (.lde n w) n x (fun u => (u.setSpe n { x.bump (bits w 15 3) (bits w 12 3) new with
        stall := some (.read (bits w 18 6) a) }).speTo n 3) s)
    ∧ (SpeIssues 2 0x0C n w s x → x.posted.length < 2 → SpeRegsComplete (.ste n w) n x { x.bump (bits w 15 3) (bits w 12 3) new with
        posted := x.posted ++ [(a, wordOf (to32 (x.val (bits w 18 6))))] } s)
    ∧ (SpeIssues 2 0x0C n w s x → 2 ≤ x.posted.length → SpeCompletes (.ste n w) n x (fun u =>
        (u.setSpe n { x.bump (bits w 15 3) (bits w 12 3) new with
          stall := some (.write a (wordOf (to32 (x.val (bits w 18 6))))) }).speTo n 3) s))
  ∧ (∀ (n a v : Nat) (s : State), n < enginesOf s.variant →
      (storeWord (xyAddr n 0 a) (wordOf v) s).rawWord (xyAddr n 0 a) = wordOf (v % 2 ^ 24)
      ∧ SameMemoryBut (xyAddr n 0 a) 4 s (storeWord (xyAddr n 0 a) (wordOf v) s))

/-- Parts of R166, R227, R228, R244: PUSH and QCMD act on their queue as a REG master and report in QF and QE; POP takes the next word with its
tag into QT and LW, or stalls while the word is on its way; the end of a stall, and the completion of a posted write, let the engine go on. A
refused POP returns 0, and its QT and LW are free values, which the spec does not state (log entry 1). -/
def Obligations.SpeQueueAccess : Prop :=
  (∀ (n q : Nat) (w : Word) (x : Spe) (s : State), q = (if bit w 17 then x.reg (cP (bits w 14 3)) % 512 else bits w 0 9) →
    (SpeIssues 2 0x10 n w s x → queuePresent s q = true → s.fld (qAddr q 0x10) 8 8 = 0 → (queue s q).pktOpen = false →
      SpeCompletes (.spePush n w) n x (fun u => ((qPush q (wordOf (to32 (x.val (bits w 18 6)))) u).1).setSpe n
        ((x.qe false).flags (0x20000, if (qPush q (wordOf (to32 (x.val (bits w 18 6)))) u).2 then 0 else 0x20000))) s)
    ∧ (SpeIssues 2 0x10 n w s x → queuePresent s q = true → s.fld (qAddr q 0x10) 8 8 ≠ 0 →
      SpeCompletes (.spePush n w) n x (fun u => (u.queueError q 3 0x05 0x00 (speMaster n)).setSpe n (x.qe true)) s)
    ∧ (SpeIssues 2 0x11 n w s x → queuePresent s q = true → s.fld (qAddr q 0x10) 16 8 = 0 → spePopWaits s q = false →
      SpeCompletes (.spePop n w) n x (fun u => (lastTag q (qPop q u).1 (qPop q u).2).setSpe n
        (x.popped 0 (bits w 18 6) (qPop q u).1.word.toNat (qPop q u).1.tag (qPop q u).1.isLength false)) s)
    ∧ (SpeIssues 2 0x11 n w s x → spePopWaits s q = true →
      SpeCompletes (.spePop n w) n x (fun u => (u.setSpe n { x with stall := some (.pop (bits w 18 6) q) }).speTo n 4) s)
    ∧ (SpeIssues 2 0x11 n w s x → queuePresent s q = true → s.fld (qAddr q 0x10) 16 8 ≠ 0 → ∃ tag len,
      SpeCompletes (.spePop n w) n x (fun u => ((u.queueError q 3 0x06 0x04 (speMaster n)).drawn).setSpe n
        (x.popped 0 (bits w 18 6) 0 tag len true)) s)
    ∧ (SpeIssues 2 0x12 n w s x → queuePresent s q = true →
      SpeCompletes (.qcmd n w) n x (fun u => (cmdWrite (speMaster n) q (wordOf (bits w 9 4)) u).setSpe n
        (x.qe (decide (s.fld (qAddr q 0x10) 8 8 ≠ 0) && decide (s.fld (qAddr q 0x10) 16 8 ≠ 0)))) s))
  ∧ (∀ (n c a : Nat) (s : State), speLive s n = true → (spe s n).stall = some (.read c a) → (spe s n).posted = [] →
      isRegAddr a = false → (memRead (speMaster n) a 4 .none s) = (some (s.rawWord a), s) → aliasOf s.variant a = none → ¬(0x60000000 ≤ a ∧ a < 0x60002000) →
      Completes (.speStallEnd n) s fun t => t = speBoundary n
        ((s.setSpe n { (spe s n).loaded 1 c (.w (s.rawWord a).toNat) with stall := none }).speTo n 1))
  ∧ (∀ (n a : Nat) (v : Word) (r : List (Nat × Word)) (i : MemInfo) (s : State), speLive s n = true → (spe s n).posted = (a, v) :: r →
      isRegAddr a = false → aliasOf s.variant a = none → reach s (speMaster n) a 4 = some i → leWriteBlocked s a = false →
      secGate (speMaster n) a true s = (true, s) → Completes (.postedEWriteDone n) s fun t =>
        t = speBoundary n (storeWord a v (s.setSpe n { spe s n with posted := r })))

/-- Parts of R237, R240 to R243: MAXI and MINI replace Ad and IX by a strictly greater or smaller word and say so in C; VMAX and VMIN take one
element of a block; DIV gives quotient and remainder or the limited quotient with V and L; NRM, SCNT and the shifts move Ad by the count; SIG
latches its cause. The normalising count of −1, for which the spec states two values, is a free choice between them (log entry 1). -/
def Obligations.SpeSearchAndShift : Prop :=
  (∀ (n a new v : Nat) (w : Word) (x : Spe) (s : State), (a, new) = x.ea (bits w 18 3) (bits w 15 3) 1 → x.watchpoints = [] →
    v = (s.rawWord (xyAddr n (bits w 21 1) a)).toNat % 2 ^ 24 → GoodWord (xyAddr n (bits w 21 1) a) s →
    (SpeIssues 4 0x00 n w s x → x.acc (bits w 22 2) < toAcc v → SpeRegsComplete (.maxi n w) n x
        ((((x.setAcc (bits w 22 2) (toAcc v)).write 2 cIX (a % 0x8000)).bump (bits w 18 3) (bits w 15 3) new).flags (flC, flC)) s)
    ∧ (SpeIssues 4 0x00 n w s x → toAcc v ≤ x.acc (bits w 22 2) → SpeRegsComplete (.maxi n w) n x
        ((x.bump (bits w 18 3) (bits w 15 3) new).flags (flC, 0)) s)
    ∧ (SpeIssues 4 0x01 n w s x → toAcc v < x.acc (bits w 22 2) → SpeRegsComplete (.mini n w) n x
        ((((x.setAcc (bits w 22 2) (toAcc v)).write 2 cIX (a % 0x8000)).bump (bits w 18 3) (bits w 15 3) new).flags (flC, flC)) s)
    ∧ (SpeIssues 4 0x01 n w s x → x.acc (bits w 22 2) ≤ toAcc v → SpeRegsComplete (.mini n w) n x
        ((x.bump (bits w 18 3) (bits w 15 3) new).flags (flC, 0)) s))
  ∧ (∀ (n a new v cnt : Nat) (w : Word) (x : Spe) (s : State), (a, new) = x.ea (bits w 18 3) 1 1 → x.watchpoints = [] →
    v = (s.rawWord (xyAddr n (bits w 21 1) a)).toNat % 2 ^ 24 → GoodWord (xyAddr n (bits w 21 1) a) s →
    cnt = (if bit w 17 then x.reg (bits w 0 3) % 0x10000 else bits w 0 16) → x.rep = 0 →
    (SpeIssues 4 0x02 n w s x → cnt = 0 → SpeFlowComplete (.vmax n w) n x ((x.flags (flZ, flZ)).advance) s)
    ∧ (SpeIssues 4 0x03 n w s x → cnt = 0 → SpeFlowComplete (.vmin n w) n x ((x.flags (flZ, flZ)).advance) s)
    ∧ (SpeIssues 4 0x02 n w s x → cnt ≠ 0 → SpeFlowComplete (.vmax n w) n x
        ((((({ x with rep := cnt, chunk := Nat.min cnt (s.fld (Reg.SPE_REP_CAP n) 0 16) } : Spe).setAcc (bits w 22 2) (toAcc v)).write 2 cIX
          (a % 0x8000)).bump (bits w 18 3) 1 new).blockNext) s)
    ∧ (SpeIssues 4 0x03 n w s x → cnt ≠ 0 → SpeFlowComplete (.vmin n w) n x
        ((((({ x with rep := cnt, chunk := Nat.min cnt (s.fld (Reg.SPE_REP_CAP n) 0 16) } : Spe).setAcc (bits w 22 2) (toAcc v)).write 2 cIX
          (a % 0x8000)).bump (bits w 18 3) 1 new).blockNext) s))
  ∧ (∀ (n k j : Nat) (w : Word) (x : Spe) (s : State) (a d : Int), k = bits w 22 2 → j = bits w 16 3 → a = x.acc k → d = x.dReg j →
    (SpeIssues 4 0x04 n w s x → d ≠ 0 → a.natAbs < d.natAbs * 2 ^ 24 → SpeRegsComplete (.div n w) n x
        (((x.write 1 (bits w 19 3) (lowBits 24 (a.tdiv (2 * d)))).setAcc k (a - 2 * a.tdiv (2 * d) * d)).flags
          (flN + flZ + flV, flagIf (decide (a.tdiv (2 * d) < 0)) flN + flagIf (decide (a.tdiv (2 * d) = 0)) flZ)) s)
    ∧ (SpeIssues 4 0x04 n w s x → d = 0 ∨ d.natAbs * 2 ^ 24 ≤ a.natAbs → SpeRegsComplete (.div n w) n x
        ((x.write 1 (bits w 19 3) (if (d = 0 ∧ 0 ≤ a) ∨ (d ≠ 0 ∧ (a < 0 ↔ d < 0)) then 0x7FFFFF else 0x800000)).flags
          (flN + flZ + flV + flL, (if (d = 0 ∧ 0 ≤ a) ∨ (d ≠ 0 ∧ (a < 0 ↔ d < 0)) then 0 else flN) + flV + flL)) s)
    ∧ (SpeIssues 4 0x05 n w s x → a = 0 ∨ isNormal a = true →
        SpeCompletes (.nrm n w) n x (fun u => u.drawn.setSpe n (x.flags (flagsNZVE ⟨a, false, false⟩))) s)
    ∧ (SpeIssues 4 0x05 n w s x → a ≠ 0 → a ≠ -1 → isNormal a = false → normCount a ≠ 0 → SpeCompletes (.nrm n w) n x (fun u => u.drawn.setSpe n
        (((x.setAcc k (shiftBy a (normCount a))).write 1 j (lowBits 24 (d - normCount a))).flags
          (flagsNZVE ⟨shiftBy a (normCount a), false, false⟩))) s)
    ∧ (SpeIssues 4 0x06 n w s x → a ≠ -1 → SpeCompletes (.scnt n w) n x (fun u => u.drawn.setSpe n
        ((x.write 1 j (lowBits 24 (if a = 0 then 0 else normCount a))).flags
          (flZ, flagIf (decide ((if a = 0 then 0 else normCount a) = 0)) flZ))) s)
    ∧ (SpeIssues 4 0x07 n w s x → SpeRegsComplete (.ash n w) n x (x.shiftAcc k (signed 6 (x.reg j))) s)
    ∧ (SpeIssues 4 0x08 n w s x → SpeRegsComplete (.ashi n w) n x (x.shiftAcc k (sbits w 0 6)) s)
    ∧ (SpeIssues 4 0x0B n w s x → SpeCompletes (.sig n w) n x (fun u => u.cause (Reg.SPE n) 1) s))

/-- Parts of R219, R220, R222, R224, R227, R237, R239, R245: a branch, call or return takes effect after its two delay slots, and where its
condition fails the instruction after them follows; a call pushes i+3, and a full or empty system stack raises STACK_OVF or STACK; RTI restores
PC, SR and the REP count, and ends the exception whose entry it pops; REP starts its iterations of the next instruction, and REP 0 skips it; DO
pushes its loop, DO 0 skips the body, and a fifth level or an LPOP of nothing raises LOOP; WAIT stops fetching; TRAP raises exception 5 with the
next PC; an undefined word, a branch, call, RTI, REP or DO where it is misplaced, and a bad body of a DO raise ILLEGAL. -/
def Obligations.SpeFlow : Prop :=
  ∀ (n : Nat) (w : Word) (x : Spe) (s : State),
    (SpeIssues 5 0x00 n w s x → SpeFlowComplete (.nop n w) n x x.advance s)
    ∧ (SpeIssues 5 0x01 n w s x → SpeFlowComplete (.bra n w) n x (x.jump
        { slots := 2, target := if condHolds (x.reg cSR) (bits w 15 5) then bits w 0 14 else (x.pc + 3) % 0x4000 }) s)
    ∧ (SpeIssues 5 0x03 n w s x → SpeFlowComplete (.jmpr n w) n x (x.jump
        { slots := 2, target := if condHolds (x.reg cSR) (bits w 15 5) then x.reg (cP (bits w 0 3)) % 0x4000 else (x.pc + 3) % 0x4000 }) s)
    ∧ (SpeIssues 5 0x02 n w s x → condHolds (x.reg cSR) (bits w 15 5) = true → x.stack.length < 16 → SpeFlowComplete (.call n w) n x
        ({ x with stack := { pc := (x.pc + 3) % 0x4000 } :: x.stack }.jump { slots := 2, target := bits w 0 14 }) s)
    ∧ (SpeIssues 5 0x02 n w s x → condHolds (x.reg cSR) (bits w 15 5) = true → 16 ≤ x.stack.length →
        Completes (.call n w) s fun t => t = speBoundary n (speExcept n 6 (speAt n x s)))
    ∧ (SpeIssues 5 0x04 n w s x → condHolds (x.reg cSR) (bits w 15 5) = true → 16 ≤ x.stack.length →
        Completes (.callr n w) s fun t => t = speBoundary n (speExcept n 6 (speAt n x s)))
    ∧ (∀ op c, op = 0x02 ∧ c = Instr.call n w ∨ op = 0x04 ∧ c = .callr n w ∨ op = 0x05 ∧ c = .rts n w → SpeIssues 5 op n w s x →
        condHolds (x.reg cSR) (bits w 15 5) = false → SpeFlowComplete c n x (x.jump { slots := 2, target := (x.pc + 3) % 0x4000 }) s)
    ∧ (SpeIssues 5 0x04 n w s x → condHolds (x.reg cSR) (bits w 15 5) = true → x.stack.length < 16 → SpeFlowComplete (.callr n w) n x
        ({ x with stack := { pc := (x.pc + 3) % 0x4000 } :: x.stack }.jump { slots := 2, target := x.reg (cP (bits w 0 3)) % 0x4000 }) s)
    ∧ (SpeIssues 5 0x05 n w s x → condHolds (x.reg cSR) (bits w 15 5) = true →
        (x.stack = [] → Completes (.rts n w) s fun t => t = speBoundary n (speExcept n 3 (speAt n x s)))
        ∧ (∀ f r, x.stack = f :: r → SpeFlowComplete (.rts n w) n x ({ x with stack := r }.jump { slots := 2, target := f.pc }) s))
    ∧ (SpeIssues 5 0x06 n w s x → x.stack = [] → Completes (.rti n w) s fun t => t = speBoundary n (speExcept n 3 (speAt n x s)))
    ∧ (SpeIssues 5 0x06 n w s x → ∀ p q e r, x.stack = ⟨p, some q, e⟩ :: r → SpeFlowComplete (.rti n w) n x
        ({ x with stack := r, excActive := x.excActive && !e }.jump { slots := 2, target := p, restore := some q, isRti := true }) s)
    ∧ (SpeIssues 5 0x07 n w s x → SpeFlowComplete (.rep n w) n x (x.startRep (bits w 0 16) (s.fld (Reg.SPE_REP_CAP n) 0 16)) s)
    ∧ (SpeIssues 5 0x08 n w s x →
        SpeFlowComplete (.repr n w) n x (x.startRep (x.reg (bits w 0 6) % 0x10000) (s.fld (Reg.SPE_REP_CAP n) 0 16)) s)
    ∧ (∀ k cap, (k = 0 → (x.startRep k cap).pc = (x.pc + 2) % 0x4000 ∧ (x.startRep k cap).rep = x.rep)
        ∧ (k ≠ 0 → (x.startRep k cap).pc = (x.pc + 1) % 0x4000 ∧ (x.startRep k cap).rep = k ∧ (x.startRep k cap).chunk = min k cap))
    ∧ (SpeIssues 5 0x09 n w s x → doBodyOk n ((x.pc + 1) % 0x4000) (bits w 0 14) s = true → bits w 14 10 ≠ 0 → x.loops.length < 4 →
        SpeFlowComplete (.doLoop n w) n x (Sys2Proof.doStart x (bits w 14 10) (bits w 0 14)) s)
    ∧ (SpeIssues 5 0x09 n w s x → doBodyOk n ((x.pc + 1) % 0x4000) (bits w 0 14) s = true → bits w 14 10 ≠ 0 → 4 ≤ x.loops.length →
        Completes (.doLoop n w) s fun t => t = speBoundary n (speExcept n 4 (speAt n x s)))
    ∧ (SpeIssues 5 0x0A n w s x → doBodyOk n ((x.pc + 1) % 0x4000) (bits w 0 14) s = true → x.reg (bits w 18 6) % 0x10000 ≠ 0 →
        x.loops.length < 4 → SpeFlowComplete (.dor n w) n x (Sys2Proof.doStart x (x.reg (bits w 18 6) % 0x10000) (bits w 0 14)) s)
    ∧ (SpeIssues 5 0x0A n w s x → doBodyOk n ((x.pc + 1) % 0x4000) (bits w 0 14) s = true → x.reg (bits w 18 6) % 0x10000 ≠ 0 →
        4 ≤ x.loops.length → Completes (.dor n w) s fun t => t = speBoundary n (speExcept n 4 (speAt n x s)))
    ∧ (∀ op c k, op = 0x09 ∧ c = Instr.doLoop n w ∧ k = bits w 14 10 ∨ op = 0x0A ∧ c = .dor n w ∧ k = x.reg (bits w 18 6) % 0x10000 →
        SpeIssues 5 op n w s x →
        (doBodyOk n ((x.pc + 1) % 0x4000) (bits w 0 14) s = false → Completes c s fun t => t = speBoundary n (speExcept n 1 (speAt n x s)))
        ∧ (doBodyOk n ((x.pc + 1) % 0x4000) (bits w 0 14) s = true → k = 0 →
          SpeFlowComplete c n x ({ x with count := x.count + 1 }.sequential (bits w 0 14)) s))
    ∧ (SpeIssues 5 0x0B n w s x → (x.loops = [] → Completes (.lpop n w) s fun t => t = speBoundary n (speExcept n 4 (speAt n x s)))
        ∧ (∀ e r, x.loops = e :: r → SpeFlowComplete (.lpop n w) n x ({ x.put cLC e.lc with loops := r }.advance) s))
    ∧ (SpeIssues 5 0x0C n w s x → Completes (.wait n w) s fun t => t = speBoundary n (((speAt n x s).setSpe n x.advance).speTo n 2))
    ∧ (SpeIssues 5 0x0D n w s x → Completes (.trap n w) s fun t => t = speBoundary n (speExcept n 5 ((speAt n x s).setSpe n x.advance)))
    ∧ (speCan s n = true → x = (spe s n).issue (s.fld (Reg.SPE_REP_CAP n) 0 16) →
        (legalWord w = false → Completes (.illegalEncoding n w) s fun t => t = speBoundary n (speExcept n 1 (s.setSpe n x)))
        ∧ (∀ op c, op = 0x01 ∧ c = Instr.bra n w ∨ op = 0x02 ∧ c = .call n w ∨ op = 0x06 ∧ c = .rti n w ∨ op = 0x07 ∧ c = .rep n w
            ∨ op = 0x09 ∧ c = .doLoop n w → opClass w = 5 → opCode w = op → legalWord w = true → misplaced x w = true →
          Completes c s fun t => t = speBoundary n (speExcept n 1 (s.setSpe n x))))

/-- Parts of R211, R225 to R227, R230, R231, R245: an interrupt pushes PC, SR and the REP count and enters the vector of the first source above
IPL; WAIT ends when one is there; a mismatch of the lockstep cores stops the SPE and is a check of line 1 or 2; the debug port, where it may,
halts a running SPE, lets a halted one go on, or lets it run one instruction, sets its breakpoints and watchpoints, and reads and writes its core
registers while it is halted (how the port asks for these is log entry 42); an accepted enable starts the SPE at word 0 with every register 0. -/
def Obligations.SpeEvents : Prop :=
  (∀ (n src : Nat) (x : Spe) (s : State), speCan s n = true → speAtRest s n = true → x = (spe s n).settle → x.ie = true →
    speFirst s n x.ipl = some src → x.stack.length < 16 → x.busError = false → x.haltAsked = false → x.stepping = false → x.breakpoints = [] →
    s.flag (Reg.SPE n + 0x00C) 1 = false → Completes (.speInterrupt n) s fun t => (spe t n).pc = 0x40 + 4 * src ∧ (spe t n).rep = 0
      ∧ (∃ y, y = x.settleSR ∧ (spe t n).stack = ⟨x.pc, some (y.reg cSR, x.rep), false⟩ :: x.stack
          ∧ (spe t n).reg cSR = y.reg cSR / 2 ^ 23 * 2 ^ 23 + speLevel s n src * 2 ^ 21 + y.reg cSR % 2 ^ 21) ∧ speState t n = 1)
  ∧ (∀ (n src : Nat) (x : Spe) (s : State), speLive s n = true → speState s n = 2 → x = (spe s n).settle → speFirst s n x.ipl = some src →
      x.ie = false → Completes (.speWaitResume n) s fun t => t = speArrived n ((s.setSpe n x).speTo n 1))
  ∧ (∀ (n : Nat) (s : State), speLive s n = true → 1 ≤ speState s n → speState s n ≤ 4 → Completes (.lockstepMismatch n) s fun t =>
      ∃ u, t = lineCheck (1 + n) true u ∧ speState u n = 7 ∧ u.rd (Reg.SPE_LOCK_STAT n) = wordOf (0x80000000 + (spe s n).pc)
        ∧ (spe u n).stall = none ∧ (spe u n).branch = none)
  ∧ (∀ (n : Nat) (s : State), n < enginesOf s.variant → busUp s = true → debugControls s = true →
      (1 ≤ speState s n → speState s n ≤ 2 → speAtRest s n = true → s.flag (Reg.SPE n + 0x00C) 1 = false → (spe s n).busError = false →
        Completes (.debugHalt ⟨n, .halt⟩) s fun t => speState t n = 5 ∧ (spe t n).resumeTo = speState s n ∧ (spe t n).pc = (spe s n).pc)
      ∧ (speState s n = 5 → (spe s n).resumeTo < 5 → Completes (.debugResume n) s fun t => speState t n = (spe s n).resumeTo
          ∧ t.spes = s.spes ∧ SameMemory s t)
      ∧ (speState s n = 5 → (spe s n).resumeTo < 5 → Completes (.debugStep n) s fun t => speState t n = (spe s n).resumeTo
          ∧ (spe t n).stepping = true ∧ SameMemory s t)
      ∧ (∀ pc on, Completes (.debugHalt ⟨n, .breakpoint pc on⟩) s fun t =>
          (spe t n).breakpoints = pointSet 4 (pc % 0x4000) on (spe s n).breakpoints ∧ SameRegsBut [] s t ∧ SameMemory s t)
      ∧ (∀ sp a on, Completes (.debugHalt ⟨n, .watchpoint sp a on⟩) s fun t =>
          (spe t n).watchpoints = pointSet 2 (sp, if sp < 2 then a % 0x8000 else a) on (spe s n).watchpoints ∧ SameRegsBut [] s t ∧ SameMemory s t)
      ∧ (∀ c h, speState s n = 5 → Completes (.debugHalt ⟨n, .readReg c h⟩) s fun t =>
          t.pages.answer = { data := wordOf ((spe s n).settle.reg c / 2 ^ (32 * h)), error := false } ∧ OnlyPageRegs [] s t)
      ∧ (∀ c v, speState s n = 5 → Completes (.debugHalt ⟨n, .writeReg c v⟩) s fun t => SameRegsBut [] s t ∧ SameMemory s t
          ∧ ∃ y, y = { (spe s n).settle with queued := (spe s n).settle.queued.filter fun q => q.code != c } ∧ spe t n = y.put c (v % 2 ^ regWidth c)))
  ∧ (∀ (m : Master) (n : Nat) (s : State), n < 2 → Reaches m (ctrlAddr (0x50 + n)) s → s.rd (statAddr (0x50 + n)) = 4 →
      s.rd (ctrlAddr (0x50 + n)) = 0 → speTrusted s n = true → Completes (.speEnable m n) s fun t => speState t n = 1 ∧ (spe t n).pc = 0
        ∧ (spe t n).file = [] ∧ (spe t n).stack = [] ∧ (spe t n).loops = [] ∧ (spe t n).rep = 0 ∧ t.flag (ctrlAddr (0x50 + n)) 0 = true
        ∧ t.fld (statAddr (0x50 + n)) 0 3 = 1 ∧ SameMemory s t)

/-- Parts of R242: in range the quotient of DIV is exact to one unit of Q1.23, and the remainder is smaller than |Dk| × 2^-23 and is 0 or has the
sign of the dividend; out of range the dividend is kept. -/
def Obligations.DivisionIsExact : Prop :=
  ∀ a k : Int, -(2 ^ 55 : Int) ≤ a → a < 2 ^ 55 → -(2 ^ 23 : Int) ≤ k → k < 2 ^ 23 →
    (k ≠ 0 → a.natAbs < k.natAbs * 2 ^ 24 → ∃ q r, speDivide a k = (q, r, false) ∧ a = 2 * q * k + r ∧ r.natAbs < 2 * k.natAbs
      ∧ -(2 ^ 23 : Int) < q ∧ q < 2 ^ 23 ∧ (r = 0 ∨ (r < 0 ↔ a < 0)))
    ∧ (k = 0 ∨ k.natAbs * 2 ^ 24 ≤ a.natAbs → ∃ q, speDivide a k = (q, a, true) ∧ (q = 0x7FFFFF ∨ q = -0x800000))

/-- Parts of R214, R219: what an accumulator instruction computes is read by the next instruction: after MUL the accumulator holds the limited
product, whatever else was waiting to be written. -/
def Obligations.AccumulatorSeenNext : Prop :=
  ∀ (x : Spe) (k : Nat) (v : Int), k < 4 → ((x.result k ⟨v, false, false⟩).advance.settle).acc k = signed 56 (lowBits 56 v)

/-! ## Sensing (spec/12_sensing.md) -/

/-- Parts of R250, R251, R253 to R264: a conversion's calibrated result goes to the LE input, fresh, or to TRES or RES; a round takes the
reference that REF.SEL names and gives each idle core its list; a round is due every ROUND_PERIOD, and one that finds another running counts
late; a conversion ends 13 ADC_CLK cycles after its hold instant at the earliest; BLIND; the update of DIFF; REF.SEL is written in SAFE only;
sigma-delta outputs and stuck inputs. The factory trims are free (log entry 23), and so is the rounding of DIFF (log entry 24). -/
def Obligations.Converters : Prop :=
  (∀ (k : Nat) (code : Int) (s : State), frozen s (0xB0 + k) = false → senseRuns s = true → adcOn s k = true →
    ((adc s k).work = .idle → Completes (.adcConversionDone k code) s fun t => t = s)
    ∧ (∀ ch, ch < 16 → (adc s k).work = .seq ch → converted s k = true → Completes (.adcConversionDone k code) s fun t =>
        t.rd (Reg.ADC_RES k ch) = putBits (resultWord (adcResult k ch code s).1.1 (adcResult k ch code s).1.2) 28 4 (s.fld Reg.ADCSEQ_ROUND_CNT 0 4)
        ∧ ((adcResult k ch code s).1.2 = true → t.flag (Reg.ADC k + 0x18) 1 = true) ∧ (14 ≤ ch → (adcResult k ch code s).1 = (0, false))
        ∧ (adc t k).again = none ∧ t.axes = s.axes)
    ∧ ((adc s k).work ≠ .idle → converted s k = false → Completes (.adcConversionDone k code) s fun t => t = s)
    ∧ (∀ j ch, j < 4 → (adc s k).work = .direct j ch → converted s k = true → Completes (.adcConversionDone k code) s fun t =>
        (s.flag (Reg.ADC_TRIG k j) 30 = true →
          (ax t (8 * s.fld (Reg.ADC_TRIG k j) 29 1 + s.fld (Reg.ADC_TRIG k j) 26 3)).inputs
            = listSet (ax s (8 * s.fld (Reg.ADC_TRIG k j) 29 1 + s.fld (Reg.ADC_TRIG k j) 26 3)).inputs (s.fld (Reg.ADC_TRIG k j) 24 2)
                (adcResult k ch code s).1.1
          ∧ (ax t (8 * s.fld (Reg.ADC_TRIG k j) 29 1 + s.fld (Reg.ADC_TRIG k j) 26 3)).fresh.contains (s.fld (Reg.ADC_TRIG k j) 24 2) = true
          ∧ (s.sense.inRound = false → (adcResult k ch code s).1.2 = false → SameRegsBut [] s t))
        ∧ (s.flag (Reg.ADC_TRIG k j) 30 = false →
          t.rd (Reg.ADC_TRES k j) = resultWord (adcResult k ch code s).1.1 (adcResult k ch code s).1.2 ∧ t.axes = s.axes)
        ∧ ((adcResult k ch code s).1.2 = true → t.flag (Reg.ADC k + 0x18) 1 = true)
        ∧ (∀ c, (adc s k).again = some c → (adc t k).work = .seq c) ∧ SameMemory s t))
  ∧ (∀ s : State, frozen s 0xBD = false → senseRuns s = true → seqOn s = true →
      (s.now < s.sense.nextRound → Completes .seqRoundStart s fun t => t = s)
      ∧ (s.sense.nextRound ≤ s.now → s.sense.inRound = true → Completes .seqRoundStart s fun t => t.fld Reg.ADCSEQ_LATE_CNT 0 16 = min 0xFFFF (s.fld Reg.ADCSEQ_LATE_CNT 0 16 + 1)
        ∧ t.flag (Reg.ADCSEQ + 0x18) 1 = true ∧ t.sense.late = true ∧ t.adcs = s.adcs
        ∧ t.sense.nextRound = s.now + s.fld Reg.ADCSEQ_ROUND_PERIOD 0 16 * 200
        ∧ SameRegsBut [Reg.ADCSEQ_LATE_CNT, Reg.ADCSEQ + 0x18] s t)
      ∧ (s.sense.nextRound ≤ s.now → s.sense.inRound = false → Completes .seqRoundStart s fun t => t.sense.selNow = s.fld Reg.REF_SEL 0 1
        ∧ t.sense.nextRound = s.now + s.fld Reg.ADCSEQ_ROUND_PERIOD 0 16 * 200
        ∧ t.sense.inRound = decide (enabledCores s ≠ [])
        ∧ (∀ k ∈ enabledCores s, (adc s k).work = .idle → (adc s k).again = none → ∃ c l, (adc t k).work = .seq c ∧ (adc t k).todo = l
          ∧ c :: l = listCodes (s.rd (Reg.ADCSEQ_LIST k)) ++ (if s.flag Reg.REF_EXT_CFG 31 && decide (s.fld Reg.REF_EXT_CFG 0 4 = k) then [11] else [])
              ++ [if s.fld Reg.REF_SEL 0 1 = 1 then 8 else 9, 10])
        ∧ SameRegsBut [] s t))
  ∧ (∀ s : State, frozen s 0x07 = false → coxState s = 3 → s.sense.lastRound + 2000000 ≤ s.now → Completes .refBlind s fun t =>
      t.sense.blind = true ∧ (s.sense.blind = false → t.flag (Reg.REF + 0x18) 5 = true)
      ∧ OnlyRegs [Reg.REF + 0x18] { s with sense := t.sense } t)
  ∧ (∀ (d : Rat) (s : State), frozen s 0x07 = false → senseRuns s = true →
      d = (if s.sense.xCount = 0 then s.sense.diff else s.sense.diff + (s.sense.xSum / (s.sense.xCount : Rat) - s.sense.diff) / 1000) →
      Completes .refDiffUpdate s fun t => t.sense.diff = d ∧ t.sense.xSum = 0 ∧ t.sense.xCount = 0
        ∧ (∃ i : Int, (i = d.floor ∨ i = d.ceil) ∧ t.rd Reg.REF_DIFF = wordOf (lowBits 16 (satS 16 i)))
        ∧ (((s.fld Reg.REF_TH_DRIFT 0 16 : Nat) : Rat) ≤ d.abs → t.sense.warn = true ∧ (s.sense.warn = false → t.flag (Reg.REF + 0x18) 0 = true))
        ∧ (((s.fld Reg.REF_TH_DRIFT 16 16 : Nat) : Rat) ≤ d.abs → t.sense.drift = true ∧ (s.sense.drift = false → t.flag (Reg.REF + 0x18) 1 = true))
        ∧ (d.abs ≤ ((s.fld Reg.REF_TH_DRIFT 0 16 : Nat) : Rat) - 10 → t.sense.warn = false)
        ∧ (d.abs ≤ ((s.fld Reg.REF_TH_DRIFT 16 16 : Nat) : Rat) - 10 → t.sense.drift = false)
        ∧ SameRegsBut [Reg.REF_DIFF, Reg.REF + 0x18] s t ∧ SameMemory s t)
  ∧ (∀ (m : Master) (v : Word) (s : State), Reaches m Reg.REF_SEL s → Accepted (defOf .ref 0x040) Reg.REF_SEL m v s →
      (coxState s = 2 → Completes (.refSelWrite m v) s fun t => t.rd Reg.REF_SEL = storeValue (defOf .ref 0x040) (s.rd Reg.REF_SEL) v
        ∧ OnlyPageRegs [Reg.REF_SEL] s t)
      ∧ (coxState s ≠ 2 → Completes (.refSelWrite m v) s fun t =>
        ErrorRecorded Reg.REF 0x03 0x01 (errDetail (masterCode m) 0x040) s t ∧ OnlyPageRegs [Reg.REF + 0x20, Reg.REF + 0x24] s t))
  ∧ (∀ (k ones fast : Nat) (value quick : Int) (s : State), frozen s 0xBC = false → senseRuns s = true → sdmOn s k = true →
      value = densityValue 24 (12 + 3 * s.fld (Reg.SDM_CFG k) 8 3) ones → quick = densityValue 16 8 fast →
      (s.flag (Reg.SDM_CFG k) 29 = false → sdmSettled s k = true → Completes (.sdmOutput k ones fast) s fun t =>
        (s.flag (Reg.SDM_CFG k) 28 = true →
          (ax t (8 * s.fld (Reg.SDM_CFG k) 27 1 + s.fld (Reg.SDM_CFG k) 24 3)).inputs
            = listSet (ax s (8 * s.fld (Reg.SDM_CFG k) 27 1 + s.fld (Reg.SDM_CFG k) 24 3)).inputs (s.fld (Reg.SDM_CFG k) 22 2) value
          ∧ (ax t (8 * s.fld (Reg.SDM_CFG k) 27 1 + s.fld (Reg.SDM_CFG k) 24 3)).fresh.contains (s.fld (Reg.SDM_CFG k) 22 2) = true
          ∧ (s.flag (Reg.SDM_CFG k) 30 = true → SameRegsBut [] s t))
        ∧ (s.flag (Reg.SDM_CFG k) 28 = false ∨ s.flag (Reg.SDM_CFG k) 30 = false → t.fld (Reg.SDM_RES k) 0 24 = lowBits 24 value
          ∧ t.fld (Reg.SDM_RES k) 28 4 = (s.fld (Reg.SDM_RES k) 28 4 + 1) % 16 ∧ SameRegsBut [Reg.SDM_RES k] s t)
        ∧ (s.flag (Reg.SDM_CFG k) 28 = false → t.axes = s.axes)
        ∧ (sdm t k).winStart = none ∧ SameMemory s t)
      ∧ (s.flag (Reg.SDM_CFG k) 29 = false → sdmSettled s k = false → Completes (.sdmOutput k ones fast) s fun t => t.axes = s.axes ∧ SameRegsBut [] s t)
      ∧ (s.flag (Reg.SDM_CFG k) 29 = true → Completes (.sdmOutput k ones fast) s fun t =>
        (sdm t k).hi = decide (s.sfld (Reg.SDM_CMP k) 16 16 < quick) ∧ (sdm t k).lo = decide (quick < s.sfld (Reg.SDM_CMP k) 0 16)
        ∧ ((sdm s k).hi = false → (sdm t k).hi = true → t.flag (Reg.SDM + 0x18) 1 = true)
        ∧ ((sdm s k).lo = false → (sdm t k).lo = true → t.flag (Reg.SDM + 0x18) 2 = true)))
  ∧ (∀ (k : Nat) (s : State), frozen s 0xBC = false → senseRuns s = true → k < sdmsOf s.variant → s.flag (Reg.SDM + 0x008) 0 = true →
      s.flag (Reg.SDM_CFG k) 31 = true → Completes (.sdmStuck k) s fun t => (sdm t k).stuck = true
        ∧ ((sdm s k).stuck = false → t.flag (Reg.SDM + 0x18) 0 = true) ∧ SameRegsBut [Reg.SDM + 0x18] s t ∧ SameMemory s t)

/-- Parts of R265 to R271: the die sensors with the exclusion of the ones 20 °C off the median, MAX, and the lines with their hysteresis; the
counting of each mode on levels that the filter accepts, its errors, POS and RAW; the velocity timeout; the load of POS. Which direction counts
up in QUAD and HALL is log entry 20. -/
def Obligations.TemperatureAndPosition : Prop :=
  (∀ (t0 t1 t2 t3 mx : Int) (s : State), frozen s 0x06 = false → busUp s = true → (∀ x ∈ [t0, t1, t2, t3], -800 ≤ x ∧ x ≤ 2560) →
      (∃ x ∈ [t0, t1, t2, t3], x = mx ∧ ((x : Rat) - median [t0, t1, t2, t3]).abs ≤ 320) →
      (∀ x ∈ [t0, t1, t2, t3], ((x : Rat) - median [t0, t1, t2, t3]).abs ≤ 320 → x ≤ mx) →
      Completes (.tempUpdate t0 t1 t2 t3) s fun t =>
        t.rd (Reg.TEMP_T 0) = wordOf (lowBits 16 t0) ∧ t.rd (Reg.TEMP_T 1) = wordOf (lowBits 16 t1)
        ∧ t.rd (Reg.TEMP_T 2) = wordOf (lowBits 16 t2) ∧ t.rd (Reg.TEMP_T 3) = wordOf (lowBits 16 t3)
        ∧ t.rd Reg.TEMP_MAX = wordOf (lowBits 16 mx)
        ∧ t.flag Reg.TEMP_TSTAT 0 = decide (320 < ((t0 : Rat) - median [t0, t1, t2, t3]).abs)
        ∧ t.flag Reg.TEMP_TSTAT 1 = decide (320 < ((t1 : Rat) - median [t0, t1, t2, t3]).abs)
        ∧ t.flag Reg.TEMP_TSTAT 2 = decide (320 < ((t2 : Rat) - median [t0, t1, t2, t3]).abs)
        ∧ t.flag Reg.TEMP_TSTAT 3 = decide (320 < ((t3 : Rat) - median [t0, t1, t2, t3]).abs)
        ∧ (s.sfld Reg.TEMP_TH 0 16 ≤ mx → t.sense.tWarn = true ∧ (s.sense.tWarn = false → t.flag (Reg.TEMP + 0x18) 0 = true))
        ∧ (mx ≤ s.sfld Reg.TEMP_TH 0 16 - 80 → t.sense.tWarn = false)
        ∧ (s.sfld Reg.TEMP_TH 16 16 ≤ mx → t.sense.tHigh = true ∧ (s.sense.tHigh = false → t.flag (Reg.TEMP + 0x18) 1 = true))
        ∧ SameRegsBut [Reg.TEMP_T 0, Reg.TEMP_T 1, Reg.TEMP_T 2, Reg.TEMP_T 3, Reg.TEMP_TSTAT, Reg.TEMP_MAX, Reg.TEMP + 0x18] s t
        ∧ SameMemory s t)
  ∧ (∀ (n : Nat) (a b z : Bool) (back : Nat) (s : State), frozen s (0xC0 + n) = false → encCounts s n = true →
      -posMax < (enc s n).pos → (enc s n).pos < posMax →
      ((back : Int) < encDelay s n → Completes (.encEdge n a b z back) s fun t => t = s)
      ∧ (encDelay s n ≤ back →
      (∀ up, encMode s n = 1 → (z = false ∨ (enc s n).z = true) →
        ((enc s n).a ≠ a ∧ (enc s n).b = b ∧ up = ((a != b) != s.flag (Reg.ENC_CFG n) 29)
          ∨ (enc s n).a = a ∧ (enc s n).b ≠ b ∧ up = ((b == a) != s.flag (Reg.ENC_CFG n) 29)) →
        Completes (.encEdge n a b z back) s fun t => (enc t n).pos = (enc s n).pos + (if up = true then 1 else -1)
          ∧ t.rd (Reg.ENC_RAW n) = (if up = true then s.rd (Reg.ENC_RAW n) + 1 else s.rd (Reg.ENC_RAW n) - 1)
          ∧ SameRegsBut [Reg.ENC_RAW n] s t ∧ SameMemory s t)
      ∧ (encMode s n = 1 → (z = false ∨ (enc s n).z = true) → (enc s n).a ≠ a → (enc s n).b ≠ b → Completes (.encEdge n a b z back) s fun t =>
          (enc t n).pos = (enc s n).pos ∧ t.flag (Reg.ENC n + 0x18) 0 = true
          ∧ t.fld (Reg.ENC_ERR_CNTS n) 16 16 = min 0xFFFF (s.fld (Reg.ENC_ERR_CNTS n) 16 16 + 1)
          ∧ SameRegsBut [Reg.ENC_ERR_CNTS n, Reg.ENC n + 0x18] s t)
      ∧ (encMode s n = 1 → (enc s n).a = a → (enc s n).b = b → z = true → (enc s n).z = false → Completes (.encEdge n a b z back) s fun t =>
          t.flag (Reg.ENC n + 0x18) 4 = true ∧ t.rd (Reg.ENC_RAW n) = s.rd (Reg.ENC_RAW n)
          ∧ (s.flag (Reg.ENC_Z_CFG n) 30 = true → (enc s n).zSeen = false → (enc t n).pos = 0)
          ∧ (s.flag (Reg.ENC_Z_CFG n) 31 = true → (enc s n).zSeen = true → t.rd (Reg.ENC_Z_POS n) = s.rd (Reg.ENC_RAW n)))
      ∧ (encMode s n = 2 → hallSector a b z = none → Completes (.encEdge n a b z back) s fun t =>
          (enc t n).pos = (enc s n).pos ∧ t.flag (Reg.ENC n + 0x18) 2 = true ∧ SameRegsBut [Reg.ENC n + 0x18] s t)
      ∧ (∀ i j, encMode s n = 2 → hallSector a b z = some j → hallSector (enc s n).a (enc s n).b (enc s n).z = some i → i ≠ j →
          (j = (i + 1) % 6 → s.flag (Reg.ENC_CFG n) 29 = false → Completes (.encEdge n a b z back) s fun t =>
            (enc t n).pos = (enc s n).pos + 1 ∧ t.rd (Reg.ENC_RAW n) = s.rd (Reg.ENC_RAW n) + 1 ∧ SameRegsBut [Reg.ENC_RAW n] s t)
          ∧ (i = (j + 1) % 6 → s.flag (Reg.ENC_CFG n) 29 = false → Completes (.encEdge n a b z back) s fun t =>
            (enc t n).pos = (enc s n).pos - 1 ∧ t.rd (Reg.ENC_RAW n) = s.rd (Reg.ENC_RAW n) - 1 ∧ SameRegsBut [Reg.ENC_RAW n] s t)
          ∧ (j ≠ (i + 1) % 6 → i ≠ (j + 1) % 6 → Completes (.encEdge n a b z back) s fun t =>
            (enc t n).pos = (enc s n).pos ∧ t.flag (Reg.ENC n + 0x18) 2 = true ∧ SameRegsBut [Reg.ENC n + 0x18] s t))
      ∧ (encMode s n = 3 → (enc s n).a = false → a = true → (enc s n).b = b →
          (∀ u, (enc s n).lastB = some u → encDelay s n < rootNow s - back - u) →
          Completes (.encEdge n a b z back) s fun t => (enc t n).pos = (enc s n).pos + (if b != s.flag (Reg.ENC_CFG n) 29 then 1 else -1)
            ∧ SameRegsBut [Reg.ENC_RAW n] s t)
      ∧ (∀ l, encMode s n = 4 → (enc s n).a = false → a = true → (enc s n).last = some l → s.flag (Reg.ENC_CFG n) 29 = false →
          Completes (.encEdge n a b z back) s fun t => (enc t n).pos = (enc s n).pos + 1
            ∧ t.rd (Reg.ENC_PERIOD n) = wordOfInt ((rootNow s - back - l) * 5 / 4) ∧ SameRegsBut [Reg.ENC_RAW n, Reg.ENC_PERIOD n] s t)))
  ∧ (∀ (n : Nat) (s : State), frozen s (0xC0 + n) = false → encCounts s n = true →
      ((∀ l, (enc s n).last = some l → l + s.fld (Reg.ENC_VEL_CFG n) 0 16 * 800 ≤ rootNow s) → Completes (.encVelTimeout n) s fun t =>
        t.rd (Reg.ENC_VEL n) = 0 ∧ OnlyRegs [Reg.ENC_VEL n] { s with ldl := t.ldl } t)
      ∧ (∀ l, (enc s n).last = some l → rootNow s < l + s.fld (Reg.ENC_VEL_CFG n) 0 16 * 800 → Completes (.encVelTimeout n) s fun t => t = s))
  ∧ (∀ (m : Master) (n : Nat) (v : Word) (s : State), n < 16 → Reaches m (Reg.ENC_POS_SET_HI n) s →
      Accepted (defOf .enc 0x084) (Reg.ENC_POS_SET_HI n) m v s →
      (axisOn s n = true → Completes (.posSetHi m n v) s fun t =>
        ErrorRecorded (Reg.ENC n) 0x03 0x01 (errDetail (masterCode m) 0x084) s t
        ∧ OnlyPageRegs [Reg.ENC n + 0x20, Reg.ENC n + 0x24] s t)
      ∧ (axisOn s n = false → Completes (.posSetHi m n v) s fun t =>
        (enc t n).pos = clampI (-posMax) posMax (signed 64 (pairNat (s.rd (Reg.ENC_POS_SET_LO n)) v) / 65536)
        ∧ t.rd (Reg.ENC_RAW n) = wordOfInt (enc t n).pos ∧ t.rd (Reg.ENC_POS_SET_HI n) = v
        ∧ SameRegsBut [Reg.ENC_RAW n, Reg.ENC_POS_SET_HI n] s t ∧ SameMemory s t))

/-! ## Axis PWM (spec/13_pwm.md) -/

/-- Parts of R273 to R291: carrier zero and carrier period, with the load of TOP and of the committed compares, a miss, and the release of a trip
by AUTO_CLR; a commit; extra compares; requests, dead time, the minimum pulse filter and the stretched pulse; the trip comparator with its
threshold and hysteresis, in µV at a VREF of 1.200 V (log entry 95), a trip at once, frozen or not, and its clearing only while every comparator
is inactive; the calibration; the start of the counter. Causes of the carrier latch at every event with IRQ_PRESC 0. Instants are in HR units of
78.125 ps. -/
def Obligations.AxisPwm : Prop :=
  (∀ (n : Nat) (s : State), frozen s (0x90 + n) = false → n < axesOf s.variant → pwmOn s n = true → inRow s = true → (pwm s n).run = true →
      halfEnd s n ≤ hrEnd s →
    ((pwm s n).down = true → Completes (.pwmCarrierZero n) s fun t =>
      (pwm t n).down = false ∧ t.rd (Reg.PWM_PERIOD_CNT n) = s.rd (Reg.PWM_PERIOD_CNT n) + 1
      ∧ (s.fld (Reg.PWM_CFG n) 12 2 = 0 → t.rd (Reg.PWM_TOP n) = s.rd (Reg.PWM_TOP_SH n)
          ∧ (pwm t n).half = (pwm s n).half + (pwm s n).len ∧ (pwm t n).len = s.fld (Reg.PWM_TOP_SH n) 0 24)
      ∧ (s.fld (Reg.PWM_CFG n) 24 4 = 0 → t.flag (Reg.PWM n + 0x18) 0 = true)
      ∧ (loadsAtZero s n = true → (∀ d ∈ (pwm s n).sets, s.now ≤ d.at_) → ∀ c, (pwm s n).commit = some c → c < s.now →
          (∀ x, x < 3 → t.rd (Reg.PWM_CMP n x) = s.rd (Reg.PWM_CMP_SH n x))
          ∧ ((∀ l, (pwm s n).commitLast = some l → l < s.now) → (pwm t n).commit = none))
      ∧ (loadsAtZero s n = true → ∀ d, ((pwm s n).sets.filter fun e => decide (e.at_ < s.now)).getLast? = some d →
          t.rd (Reg.PWM_CMP n 0) = d.u ∧ t.rd (Reg.PWM_CMP n 1) = d.v ∧ t.rd (Reg.PWM_CMP n 2) = d.w)
      ∧ (loadsAtZero s n = false ∨ ((∀ c, (pwm s n).commit = some c → s.now ≤ c) ∧ ∀ d ∈ (pwm s n).sets, s.now ≤ d.at_) →
          ∀ x, x < 3 → t.rd (Reg.PWM_CMP n x) = s.rd (Reg.PWM_CMP n x))
      ∧ (loadsAtZero s n = true → s.fld (Reg.PWM_CFG n) 4 1 = 1 → (pwm s n).leOpen = true →
          t.fld (Reg.PWM_SHADOW_MISS n) 0 16 = min 0xFFFF (s.fld (Reg.PWM_SHADOW_MISS n) 0 16 + 1) ∧ t.flag (Reg.PWM n + 0x18) 7 = true)
      ∧ (s.flag (Reg.PWM_CFG n) 22 = true → tripLatched s n = true → tripActive s n = false → tripLatched t n = false ∧ (pwm t n).resume = false)
      ∧ (s.flag (Reg.PWM_CFG n) 22 = false ∨ tripActive s n = true → tripLatched t n = tripLatched s n)
      ∧ SameMemory s t)
    ∧ ((pwm s n).down = false → Completes (.pwmCarrierPeriod n) s fun t =>
      (pwm t n).down = true ∧ (pwm t n).half = halfEnd s n ∧ t.rd (Reg.PWM_TOP n) = s.rd (Reg.PWM_TOP n)
      ∧ (s.fld (Reg.PWM_CFG n) 24 4 = 0 → t.flag (Reg.PWM n + 0x18) 1 = true)
      ∧ (loadsAtPeriod s n = true → (∀ d ∈ (pwm s n).sets, s.now ≤ d.at_) → ∀ c, (pwm s n).commit = some c → c < s.now →
          (∀ x, x < 3 → t.rd (Reg.PWM_CMP n x) = s.rd (Reg.PWM_CMP_SH n x))
          ∧ ((∀ l, (pwm s n).commitLast = some l → l < s.now) → (pwm t n).commit = none))
      ∧ (loadsAtPeriod s n = true → ∀ d, ((pwm s n).sets.filter fun e => decide (e.at_ < s.now)).getLast? = some d →
          t.rd (Reg.PWM_CMP n 0) = d.u ∧ t.rd (Reg.PWM_CMP n 1) = d.v ∧ t.rd (Reg.PWM_CMP n 2) = d.w)
      ∧ (loadsAtPeriod s n = false ∨ ((∀ c, (pwm s n).commit = some c → s.now ≤ c) ∧ ∀ d ∈ (pwm s n).sets, s.now ≤ d.at_) →
          (pwm t n).commit = (pwm s n).commit ∧ ∀ x, x < 3 → t.rd (Reg.PWM_CMP n x) = s.rd (Reg.PWM_CMP n x))
      ∧ SameRegsBut [Reg.PWM_CMP n 0, Reg.PWM_CMP n 1, Reg.PWM_CMP n 2, Reg.PWM_CMP_SH n 0, Reg.PWM_CMP_SH n 1, Reg.PWM_CMP_SH n 2,
          Reg.PWM_SHADOW_MISS n, Reg.PWM_MP_CNT n, Reg.PWM n + 0x18] s t ∧ SameMemory s t))
  ∧ (∀ (m : Master) (n : Nat) (s : State), n < 16 → Reaches m (Reg.PWM_COMMIT n) s →
      (s.fld (Reg.PWM_CFG n) 4 1 = 0 → Completes (.pwmCommit m n) s fun t => (pwm t n).commit = some ((pwm s n).commit.getD s.now)
        ∧ (pwm t n).commitLast = some s.now ∧ SameRegsBut [] s t ∧ SameMemory s t)
      ∧ (s.fld (Reg.PWM_CFG n) 4 1 = 1 → Completes (.pwmCommit m n) s fun t => t.pwms = s.pwms
        ∧ ErrorRecorded (Reg.PWM n) 0x03 0x02 (errDetail (masterCode m) 0x058) s t ∧ OnlyPageRegs [Reg.PWM n + 0x20, Reg.PWM n + 0x24] s t))
  ∧ (∀ (n k : Nat) (s : State), frozen s (0x90 + n) = false → n < axesOf s.variant → xcmpDue s n k = true →
      Completes (.pwmXcmpFire n k) s fun t => (pwm t n).fired = k :: (pwm s n).fired
        ∧ (s.fld (Reg.PWM_CFG n) 24 4 = 0 → t.flag (Reg.PWM n + 0x18) (2 + k) = true)
        ∧ (s.fld (Reg.AX_LOOP_CFG n) 16 2 = k → (ax t n).due = some (xcmpRoot s n k + s.fld (Reg.AX_LOOP_CFG n) 20 5 * 16))
        ∧ (senseRuns s = true → ∀ c j, j < 4 → adcOn s c = true → frozen s (0xB0 + c) = false → s.flag (Reg.ADC_TRIG c j) 31 = true → s.fld (Reg.ADC_TRIG c j) 16 4 = n →
            s.fld (Reg.ADC_TRIG c j) 12 2 = k → (∀ i, i < 4 → s.flag (Reg.ADC_TRIG c i) 31 = true → s.fld (Reg.ADC_TRIG c i) 16 4 = n →
              s.fld (Reg.ADC_TRIG c i) 12 2 = k → i = j) →
            ((adc s c).work = .idle → (adc t c).work = .direct j (s.fld (Reg.ADC_TRIG c j) 0 4))
            ∧ (∀ old, (adc s c).work = .seq old → (adc t c).work = .direct j (s.fld (Reg.ADC_TRIG c j) 0 4) ∧ (adc t c).again = some old
                ∧ t.fld (Reg.ADC_PREEMPT c) 0 16 = min 0xFFFF (s.fld (Reg.ADC_PREEMPT c) 0 16 + 1))
            ∧ (∀ i ch, (adc s c).work = .direct i ch → (adc s c).since / 4 ≠ xcmpRoot s n k / 4 → (adc t c).work = .direct i ch
                ∧ t.fld (Reg.ADC_OVERRUN c) 0 16 = min 0xFFFF (s.fld (Reg.ADC_OVERRUN c) 0 16 + 1) ∧ t.flag (Reg.ADC c + 0x18) 0 = true))
        ∧ SameMemory s t)
  ∧ (∀ (n x : Nat) (s : State), frozen s (0x90 + n) = false → n < axesOf s.variant → x < 3 →
      (pwmOn s n = true → inRow s = true → (pwm s n).run = true → ((pwm s n).phase x).crossed = false →
        (((pwm s n).phase x).req = startRequest s n x → cmpCrosses s n x = false ∨ hrEnd s < crossing s n x →
          Completes (.pwmEdgeRequest n x) s fun t => t = s)
        ∧ (∀ (high : Bool) (at_ on : Int) (q : PwmPhase),
            (((pwm s n).phase x).req ≠ startRequest s n x ∧ high = startRequest s n x ∧ at_ = grid s n (pwm s n).half)
              ∨ (((pwm s n).phase x).req = startRequest s n x ∧ cmpCrosses s n x = true ∧ crossing s n x ≤ hrEnd s
                  ∧ high = !(pwm s n).down ∧ at_ = crossing s n x) →
            q = ((pwm s n).phase x).side high →
            (tripLatched s n = true ∨ (pwm s n).resume = true → Completes (.pwmEdgeRequest n x) s fun t => ((pwm t n).phase x).req = high
              ∧ (((pwm t n).phase x).side high).high = q.high ∧ (((pwm t n).phase x).side high).low = q.low
              ∧ (((pwm t n).phase x).side high).highOn = q.highOn ∧ (((pwm t n).phase x).side high).lowOn = q.lowOn ∧ SameRegsBut [] s t)
            ∧ (tripLatched s n = false → (pwm s n).resume = false → q.dropLow = false → q.stretchEnd = none →
              (q.ext = none → on = grid s n (at_ + deadTime s n high) →
                (pulseFilter s n x high on = .keep → Completes (.pwmEdgeRequest n x) s fun t =>
                  (((pwm t n).phase x).side high).low = false ∧ (((pwm t n).phase x).side high).lowOn = none
                  ∧ (((pwm t n).phase x).side high).highOn = some on ∧ ((pwm t n).phase x).ext = none ∧ ((pwm t n).phase x).req = high
                  ∧ SameRegsBut [] s t ∧ SameMemory s t)
                ∧ (pulseFilter s n x high on = .drop → Completes (.pwmEdgeRequest n x) s fun t =>
                  (((pwm t n).phase x).side high).dropHigh = true ∧ (((pwm t n).phase x).side high).low = q.low
                  ∧ (((pwm t n).phase x).side high).lowOn = q.lowOn ∧ (((pwm t n).phase x).side high).highOn = q.highOn
                  ∧ t.fld (Reg.PWM_MP_CNT n) 0 16 = min 0xFFFF (s.fld (Reg.PWM_MP_CNT n) 0 16 + 1) ∧ t.flag (Reg.PWM n + 0x18) 8 = true
                  ∧ SameRegsBut [Reg.PWM_MP_CNT n, Reg.PWM n + 0x18] s t ∧ SameMemory s t)
                ∧ (∀ e, pulseFilter s n x high on = .stretch e → Completes (.pwmEdgeRequest n x) s fun t =>
                  ((pwm t n).phase x).ext = some e ∧ (((pwm t n).phase x).side high).highOn = some on
                  ∧ t.fld (Reg.PWM_MP_CNT n) 16 16 = min 0xFFFF (s.fld (Reg.PWM_MP_CNT n) 16 16 + 1) ∧ t.flag (Reg.PWM n + 0x18) 8 = true
                  ∧ SameRegsBut [Reg.PWM_MP_CNT n, Reg.PWM n + 0x18] s t ∧ SameMemory s t))
              ∧ (∀ e stop, q.ext = some e → q.low = true → q.lowOn = none → stop = min e (loadAfter s n false) → at_ < stop →
                on = grid s n (stop + deadTime s n high) → pulseFilter s n x high on = .keep → Completes (.pwmEdgeRequest n x) s fun t =>
                  (((pwm t n).phase x).side high).low = true ∧ ((pwm t n).phase x).stretchEnd = some stop
                  ∧ (((pwm t n).phase x).side high).highOn = some on ∧ SameRegsBut [] s t))))
      ∧ (((pwm s n).phase x).stretchEnd = none →
        (∀ g, ((pwm s n).phase x).highOn = some g → g ≤ hrEnd s → Completes (.pwmDeadTimeEnd n x) s fun t =>
          ((pwm t n).phase x).high = true ∧ ((pwm t n).phase x).highOn = none ∧ SameRegsBut [] s t)
        ∧ (∀ g, ((pwm s n).phase x).highOn = none → ((pwm s n).phase x).lowOn = some g → g ≤ hrEnd s → Completes (.pwmDeadTimeEnd n x) s fun t =>
          ((pwm t n).phase x).low = true ∧ ((pwm t n).phase x).lowOn = none ∧ SameRegsBut [] s t))
      ∧ (∀ g, ((pwm s n).phase x).stretchEnd = some g → g ≤ hrEnd s →
        (((pwm s n).phase x).low = true → Completes (.minPulseStretchEnd n x) s fun t =>
          ((pwm t n).phase x).low = false ∧ ((pwm t n).phase x).stretchEnd = none ∧ SameRegsBut [] s t
          ∧ ((pwm t n).phase x).highOn = if ((pwm s n).phase x).dropLow then some (grid s n (g + s.fld (Reg.PWM_DT n) 0 16)) else ((pwm s n).phase x).highOn)
        ∧ (((pwm s n).phase x).low = false → Completes (.minPulseStretchEnd n x) s fun t =>
          ((pwm t n).phase x).high = false ∧ ((pwm t n).phase x).stretchEnd = none ∧ SameRegsBut [] s t
          ∧ ((pwm t n).phase x).lowOn = if ((pwm s n).phase x).dropHigh then some (grid s n (g + s.fld (Reg.PWM_DT n) 16 16)) else ((pwm s n).phase x).lowOn)))
  ∧ (∀ (n level : Nat) (s : State), n < axesOf s.variant → s.flag (Reg.PWM_TRIP_CFG n) 31 = true → (pwm s n).cmp = false →
      s.fld (Reg.PWM_TRIP_CFG n) 0 10 * 2400000 < level * 1024 →
      Completes (.pwmTrip n level) s fun t => tripLatched t n = true ∧ (pwm t n).tripNow = (pwm s n).run ∧ (pwm t n).cmp = true
        ∧ t.fld (Reg.PWM_TRIP_CNT n) 0 16 = min 0xFFFF (s.fld (Reg.PWM_TRIP_CNT n) 0 16 + 1) ∧ t.flag (Reg.PWM n + 0x18) 6 = true
        ∧ (s.fld (Reg.PWM_CFG n) 20 2 = 0 → pwmGates t n = [false, false, false, false, false, false])
        ∧ (∀ x, x < 3 → ((pwm t n).phase x).high = false ∧ ((pwm t n).phase x).low = false ∧ ((pwm t n).phase x).stretchEnd = none
            ∧ ((pwm t n).phase x).highOn = none ∧ ((pwm t n).phase x).lowOn = none)
        ∧ SameRegsBut [Reg.PWM_TRIP_CNT n, Reg.PWM_TRIP_STAT n, Reg.PWM n + 0x18] s t ∧ SameMemory s t)
  ∧ (∀ (n level : Nat) (s : State), n < axesOf s.variant →
      ((level + tripHyst s n) * 1024 ≤ s.fld (Reg.PWM_TRIP_CFG n) 0 10 * 2400000 → Completes (.pwmTrip n level) s fun t =>
        (pwm t n).cmp = false ∧ tripLatched t n = tripLatched s n ∧ SameRegsBut [] s t)
      ∧ (s.fld (Reg.PWM_TRIP_CFG n) 0 10 * 2400000 < (level + tripHyst s n) * 1024 → level * 1024 ≤ s.fld (Reg.PWM_TRIP_CFG n) 0 10 * 2400000 →
        Completes (.pwmTrip n level) s fun t => (pwm t n).cmp = (pwm s n).cmp ∧ tripLatched t n = tripLatched s n ∧ SameRegsBut [] s t))
  ∧ (∀ (m : Master) (n : Nat) (s : State), n < 16 → Reaches m (Reg.PWM_TRIP_STAT n) s →
      (tripActive s n = true → Completes (.tripClear m n) s fun t => tripLatched t n = tripLatched s n ∧ SameRegsBut [] s t)
      ∧ (tripActive s n = false → tripLatched s n = true → Completes (.tripClear m n) s fun t =>
        tripLatched t n = false ∧ (pwm t n).resume = true ∧ SameRegsBut [Reg.PWM_TRIP_STAT n] s t ∧ SameMemory s t))
  ∧ (∀ (n taps : Nat) (s : State), frozen s (0x90 + n) = false → n < axesOf s.variant → taps < 256 → Completes (.hrCal n taps) s fun t =>
      t.fld (Reg.PWM_HR_STAT n) 0 8 = taps ∧ t.flag (Reg.PWM_HR_STAT n) 31 = decide (24 ≤ taps ∧ taps ≤ 40)
      ∧ (s.flag (Reg.PWM_HR_STAT n) 31 = true → (taps < 24 ∨ 40 < taps) → t.flag (Reg.PWM n + 0x18) 10 = true)
      ∧ SameRegsBut [Reg.PWM_HR_STAT n, Reg.PWM n + 0x18] s t ∧ SameMemory s t)
  ∧ (∀ (n : Nat) (first : Int) (s : State), frozen s (0x90 + n) = false → n < axesOf s.variant → pwmOn s n = true → inRow s = true →
      (pwm s n).run = false → (pwm s n).enabledAt < s.now → first = (((pwm s n).enabledAt + 1) * 64 : Nat) →
      (s.fld (Reg.PWM_CFG n) 12 2 = 0 → s.fld (Reg.PWM_TOP n) 0 24 ≠ 0 → Completes (.pwmSyncStart n) s fun t => (pwm t n).run = true ∧ (pwm t n).down = false
        ∧ (pwm t n).half = first ∧ (pwm t n).len = s.fld (Reg.PWM_TOP n) 0 24
        ∧ SameRegsBut [Reg.PWM_MP_CNT n, Reg.PWM n + 0x18] s t ∧ SameMemory s t)
      ∧ (∀ q, s.fld (Reg.PWM_CFG n) 12 2 = 1 → q = pwm s (s.fld (Reg.PWM_CFG n) 16 4) →
        (q.run = true → q.down = false → q.held = false → frozen s (0x90 + s.fld (Reg.PWM_CFG n) 16 4) = false → first ≤ q.half → q.half ≤ hrEnd s →
          Completes (.pwmSyncStart n) s fun t => (pwm t n).run = true ∧ t.rd (Reg.PWM_TOP n) = s.rd (Reg.PWM_TOP (s.fld (Reg.PWM_CFG n) 16 4))
            ∧ (s.fld (Reg.PWM_SYNC_PHASE n) 0 24 = 0 → s.fld (Reg.PWM_TOP (s.fld (Reg.PWM_CFG n) 16 4)) 0 24 ≠ 0 →
                (pwm t n).half = q.half ∧ (pwm t n).down = false)
            ∧ SameRegsBut [Reg.PWM_TOP n, Reg.PWM_MP_CNT n, Reg.PWM n + 0x18] s t ∧ SameMemory s t)
        ∧ (q.run = false ∨ q.down = true ∨ q.held = true ∨ q.half < first → Completes (.pwmSyncStart n) s fun t => t = s))
      ∧ (∀ d : Int, s.fld (Reg.PWM_CFG n) 12 2 = 2 →
          d = ((s.fld (Reg.PWM_SYNC_PHASE n) 0 24 : Nat) - itHr s) % ((2 * max 1 (s.fld (Reg.PWM_TOP n) 0 24) : Nat) : Int) →
        (d < 64 → s.fld (Reg.PWM_TOP n) 0 24 ≠ 0 → Completes (.pwmSyncStart n) s fun t => (pwm t n).run = true ∧ (pwm t n).down = false
          ∧ (pwm t n).half = hrNow s + d ∧ SameRegsBut [Reg.PWM_MP_CNT n, Reg.PWM n + 0x18] s t)
        ∧ (64 ≤ d → Completes (.pwmSyncStart n) s fun t => t = s)))

/-! ## Loop Engines (spec/14_loops.md) -/

/-- Parts of R269, R292, R293, R296, R297, R305 to R307, R309, R310, R312: the sample instant captures position, angles and TICK, and its lead
slot triggers the Loop Engine, or overloads it; a slot's loop starts when the slot before it is done and its inputs are fresh, consumes them, and
commits its compares after its fixed cost where the PWM takes them, with the integrators of an inhibited axis held at 0; the work that follows
the last slot runs piece by piece and ends the sample; PAIR_HALT; parameters that move into force together; the enable and the disable of an
axis; a snapshot request.
Parts of R321, R323, R326, R327: CLEAR starts a clear while LEARN_EN is 0 and is refused otherwise; the end of the clear leaves every bin 0;
PLAY_EN and LEARN_EN cannot be set outside the modes with a velocity loop under the current loop; on a device without the feature they are
refused; ψ becomes 0 when no bin is crossed for 100 ms while it falls. -/
def Obligations.LoopEnginesAndLearning : Prop :=
  ((∀ (n : Nat) (at_ : Int) (cpr : Nat) (s : State), n < axesOf s.variant → (ax s n).due = some at_ → at_ ≤ rootNow s + 3 →
       cpr = s.fld (Reg.ENC_CPR n) 0 24 → cpr ≠ 0 → frozen s (0xC0 + n) = false → Completes (.leSampleTrigger n) s fun t =>
         (ax t n).due = none ∧ (ax t n).capAt = some s.now
         ∧ t.rd (Reg.ENC_CAP_MANG n) = wordOf ((posAt s n at_ % ((cpr : Int) * 65536)).toNat * 16777216 / (cpr * 65536))
         ∧ t.rd (Reg.ENC_CAP_EANG n) = wordOf (((posAt s n at_ % ((cpr : Int) * 65536)).toNat * 16777216 * s.fld (Reg.ENC_CFG n) 8 4 / (cpr * 65536)
             + s.fld (Reg.ENC_EANG_OFS n) 0 24) % 16777216)
         ∧ t.rd (Reg.ENC_CAP_TICK n) = wordOfInt (at_ / 4) ∧ t.rd (Reg.ENC_CAP_POS n 0) = wordOf (lowBits 64 (posAt s n at_))
         ∧ (s.fld (Reg.LE_CFG (n / 8)) 0 3 ≠ n % 8 → t.loops = s.loops)
         ∧ (s.fld (Reg.LE_CFG (n / 8)) 0 3 = n % 8 → leOn s (n / 8) = true → (le s (n / 8)).trig ≠ none →
             (le t (n / 8)).trig = (le s (n / 8)).trig ∧ t.flag (Reg.LE (n / 8) + 0x18) 0 = true
             ∧ t.fld (Reg.LE_OVERLOAD_CNT (n / 8)) 0 16 = min 0xFFFF (s.fld (Reg.LE_OVERLOAD_CNT (n / 8)) 0 16 + 1)
             ∧ t.rd (Reg.LE_SAMPLE_CNT (n / 8)) = s.rd (Reg.LE_SAMPLE_CNT (n / 8))))
   ∧ (∀ (n : Nat) (s : State), (ax s n).due = none → Completes (.leSampleTrigger n) s fun t => t = s)
   ∧ (∀ (e k n : Nat) (s : State), leOn s e = true → k < 8 → n = 8 * e + k → (le s e).trig ≠ none → nextSlot s e = some k → (le s e).ready ≤ s.now →
       inputsFresh s n = true →
       Completes (.leSlotStart e k) s (fun t => (le t e).next = k + 1 ∧ (le t e).ready = s.now + slotCost s n ∧ (le t e).trig = (le s e).trig
         ∧ (ax t n).copy = paramsNow s n)
       ∧ ((∀ a, 0x50000000 + 0x100000 * e ≤ a → a < 0x50010000 + 0x100000 * e → GoodWord a s) →
         Completes (.leSlotStart e k) s fun t =>
         (s.flag (Reg.PWM_CFG n) 4 = true → (pwm t n).leOpen = false ∧ ∃ d, (pwm t n).sets = (pwm s n).sets ++ [d] ∧ d.at_ = s.now + slotCost s n
             ∧ d.u.toNat ≤ pwmTop s n ∧ d.v.toNat ≤ pwmTop s n ∧ d.w.toNat ≤ pwmTop s n)
         ∧ (s.flag (Reg.PWM_CFG n) 4 = false → pwm t n = pwm s n) ∧ (∀ i ∈ fedInputs s n, i ∉ (ax t n).fresh)
         ∧ t.flag (Reg.AX_LOOP_STAT n) 31 = axInhibited s n
         ∧ (axInhibited s n = true → (ax t n).intD = 0 ∧ (ax t n).intQ = 0 ∧ (ax t n).intV = 0 ∧ (ax t n).intP = 0)
         ∧ ((∃ j ∈ leSlots s e, k < j) → (le t e).work = (le s e).work)
         ∧ ((∀ j ∈ leSlots s e, j ≤ k) → (le s e).work = none → (le t e).work = some (leWork t e))
         ∧ (∀ m, m ≠ n → ax t m = ax s m ∧ pwm t m = pwm s m) ∧ SameMemoryBut (axBlock n) 64 s t))
   ∧ (∀ (e T : Nat) (s t : State), leOn s e = true → (le s e).trig = some T → (le s e).ready ≤ s.now → t = leAdvance e s →
       ((le s e).work = some [] → coxState s ≠ 4 → (le t e).trig = none ∧ (le t e).samples = (le s e).samples + 1
         ∧ t.rd (Reg.LE_SAMPLE_CNT e) = s.rd (Reg.LE_SAMPLE_CNT e) + 1 ∧ t.rd (Reg.LE_LAST_DUR e) = wordOf (min 0xFFFF ((le s e).ready - T))
         ∧ (s.rd (Reg.LE_SNAP_REQ e) ≠ 0 → t.rd (Reg.LE_SNAP_REQ e) = 0 ∧ t.flag (Reg.LE e + 0x18) 3 = true))
       ∧ (∀ w r, (le s e).work = some (w :: r) → w.stands s e = true →
         (le t e).work = some r ∧ (le t e).ready = (le s e).ready + w.cost ∧ (le t e).trig = some T)
       ∧ ((le s e).work = none → nextSlot s e ≠ none → t = s))
   ∧ (∀ (e k : Nat) (s : State), (leOn s e = false ∨ (le s e).trig = none ∨ nextSlot s e ≠ some k ∨ s.now < (le s e).ready) →
       Completes (.leSlotStart e k) s fun t => t = s)
   ∧ (∀ (e slot step : Nat) (s : State), leOn s e = true → (le s e).trig ≠ none → Completes (.lePairMismatch e slot step) s fun t =>
       ∃ u, t = lineCheck (3 + e) true u ∧ u.rd (Reg.LE_PAIR_STAT e) = wordOf (0x80000000 + slot % 32 * 0x100 + step % 256)
         ∧ (le u e).halted = true ∧ (le u e).trig = none ∧ leStatState u e = 3 ∧ u.flag (Reg.LE e + 0x18) 1 = true
         ∧ (∀ n, n / 8 = e → pwm u n = { pwm s n with sets := (pwm s n).sets.filter fun d => decide (d.at_ ≤ s.now), leOpen := false })
         ∧ (∀ n, n / 8 ≠ e → pwm u n = pwm s n)
         ∧ SameRegsBut [Reg.LE_PAIR_STAT e, Reg.LE e + 0x18] s u ∧ SameMemory s u)
   ∧ (∀ (m : Master) (n : Nat) (s : State), n < 16 → Reaches m (Reg.AX_PARAM_CTRL n) s → Accepted (defOf .ax 0x044) (Reg.AX_PARAM_CTRL n) m 0 s →
       s.flag (Reg.AX_PARAM_CTRL n) 0 = true → Completes (.paramCommit m n) s fun t => t.flag (Reg.AX_PARAM_CTRL n) 0 = false
         ∧ (∀ k, s.now < k → paramsNow { t with now := k } n = liveParams s n) ∧ paramsNow t n = (ax s n).inForce
         ∧ SameRegsBut [Reg.AX_PARAM_CTRL n] s t ∧ SameMemory s t)
   ∧ (∀ (m : Master) (n a : Nat) (s : State), n < 16 → a = Reg.AX n + 0x008 → Reaches m a s → s.flag a 1 = false → s.flag a 2 = false → s.flag a 3 = false →
       (s.fld (Reg.AX n + 0x00C) 0 3 = 4 →
         (s.flag (Reg.PWM_CFG n) 4 = true → Completes (.axEnable m n) s fun t => axisOn t n = true ∧ t.fld (Reg.AX n + 0x00C) 0 3 = 1
           ∧ (ax t n).intD = 0 ∧ (ax t n).intQ = 0 ∧ (ax t n).intV = 0 ∧ (ax t n).intP = 0 ∧ (ax t n).w = 0 ∧ (ax t n).h = 0 ∧ (ax t n).posOut = 0
           ∧ (ax t n).samples = 0 ∧ (prof t n).p = capPos s n ∧ (rep t n).psi = 0
           ∧ SameRegsBut [a, Reg.AX n + 0x00C, Reg.AX_LOOP_STAT n, Reg.AX_SP_VEL n, Reg.AX_SP_ACC n, Reg.AX_PROF_STAT n] s t
           ∧ SameMemoryBut (axBlock n) 64 s t)
         ∧ (s.flag (Reg.PWM_CFG n) 4 = false → Completes (.axEnable m n) s fun t =>
           ErrorRecorded (Reg.AX n) 0x03 0x03 (errDetail (masterCode m) 0x008) s t ∧ OnlyPageRegs [Reg.AX n + 0x20, Reg.AX n + 0x24] s t))
       ∧ (s.flag (Reg.AX n + 0x00C) 0 = true →
         Completes (.axDisable m n) s fun t => axisOn t n = false
           ∧ (loopMode s n = 2 → t.fld (Reg.AX n + 0x00C) 0 3 = 4 ∧ (ax t n).off = true)))
   ∧ (∀ (m : Master) (e : Nat) (v : Word) (s : State), e < 2 → Reaches m (Reg.LE_SNAP_REQ e) s →
       Accepted (defOf .le 0x060) (Reg.LE_SNAP_REQ e) m v s → featureAbsent s.variant .le 0x060 = false →
       Completes (.snapReq m e v) s fun t => t.rd (Reg.LE_SNAP_REQ e) = v ∧ OnlyPageRegs [Reg.LE_SNAP_REQ e] s t))
  ∧ ((∀ (m : Master) (n : Nat) (s : State), n < 16 → Reaches m (Reg.AX_REP_CTRL n) s → repPresent s.variant = true →
        Accepted (defOf .ax 0x200) (Reg.AX_REP_CTRL n) m (s.rd (Reg.AX_REP_CTRL n) ||| 4) s →
        (s.flag (Reg.AX_REP_CTRL n) 1 = false → Completes (.repClear m n) s fun t => (rep t n).clearing = true
          ∧ t.flag (Reg.AX_REP_CTRL n) 0 = s.flag (Reg.AX_REP_CTRL n) 0 ∧ t.flag (Reg.AX_REP_CTRL n) 1 = false
          ∧ SameRegsBut [Reg.AX_REP_CTRL n] s t ∧ SameMemory s t)
        ∧ (s.flag (Reg.AX_REP_CTRL n) 1 = true → Completes (.repClear m n) s fun t => t.reps = s.reps ∧ t.flag (Reg.AX_REP_CTRL n) 1 = true
          ∧ ErrorRecorded (Reg.AX n) 0x03 0x01 (errDetail (masterCode m) 0x200) s t
          ∧ OnlyPageRegs [Reg.AX_REP_CTRL n, Reg.AX n + 0x20, Reg.AX n + 0x24] s t))
    ∧ (∀ (n : Nat) (s : State), n < 16 → frozen s (0x80 + n) = false →
        ((rep s n).clearing = true → Completes (.repClearDone n) s fun t => (rep t n).clearing = false
          ∧ (∀ k, k < repBins s n → t.rawWord (binAddr n k) = 0) ∧ SameMemoryBut (binAddr n 0) (4 * repBins s n) s t ∧ SameRegsBut [] s t)
        ∧ ((rep s n).clearing = false → Completes (.repClearDone n) s fun t => t = s))
    ∧ (∀ (m : Master) (n : Nat) (play learn : Bool) (w : Word) (s : State), n < 16 → w = putBit (putBit 0 0 play) 1 learn →
        Reaches m (Reg.AX_REP_CTRL n) s →
        (repPresent s.variant = true → Accepted (defOf .ax 0x200) (Reg.AX_REP_CTRL n) m w s →
          ((badRep s n = false ∨ (play = true → s.flag (Reg.AX_REP_CTRL n) 0 = true) ∧ (learn = true → s.flag (Reg.AX_REP_CTRL n) 1 = true)) →
            Completes (.repCtrlEnable m n play learn) s fun t => t.rd (Reg.AX_REP_CTRL n) = w ∧ OnlyPageRegs [Reg.AX_REP_CTRL n] s t)
          ∧ (badRep s n = true → (play = true ∧ s.flag (Reg.AX_REP_CTRL n) 0 = false ∨ learn = true ∧ s.flag (Reg.AX_REP_CTRL n) 1 = false) →
            Completes (.repCtrlEnable m n play learn) s fun t => t.flag (Reg.AX_REP_CTRL n) 0 = (play && s.flag (Reg.AX_REP_CTRL n) 0)
              ∧ t.flag (Reg.AX_REP_CTRL n) 1 = (learn && s.flag (Reg.AX_REP_CTRL n) 1)
              ∧ ErrorRecorded (Reg.AX n) 0x03 0x04 (errDetail (masterCode m) 0x200) s t
              ∧ OnlyPageRegs [Reg.AX_REP_CTRL n, Reg.AX n + 0x20, Reg.AX n + 0x24] s t))
        ∧ (repPresent s.variant = false → (play = true ∨ learn = true) → Completes (.repCtrlEnable m n play learn) s fun t =>
          ErrorRecorded (Reg.AX n) 0x02 0x02 (errDetail (masterCode m) 0x200) s t ∧ OnlyPageRegs [Reg.AX n + 0x20, Reg.AX n + 0x24] s t))
    ∧ (∀ (n : Nat) (s : State), frozen s (0x80 + n) = false → repPresent s.variant = true → repFalling s n = true →
        (rep s n).crossed + 20000000 ≤ s.now → Completes (.repFadeTimeout n) s fun t => (rep t n).psi = 0 ∧ SameRegsBut [] s t ∧ SameMemory s t))

/-! ## Repetitive learning (spec/15_repetitive.md) -/

/-! ## Profile Units and position latches (spec/16_profiles.md) -/

/-- Parts of R335, R340 to R344: a stop from PROF_CMD decelerates at STOP_DECEL from the present velocity, or at the larger rate of a
deceleration in progress, and at rest stands in STOPPED, unless the axis is being turned off; GO leaves STOPPED; PROF_REFUSED is cleared only
while RESTRICT_START is not in force; VM_LOAD moves the staged values into force together unless NET is set; a selected transition of a latch
input forms a record, or is lost within 40 ns of the one before or with the FIFO full, and one that the filter does not pass changes nothing; a
record is pushed whole, kept, or dropped and counted; NEXT drops the oldest. -/
def Obligations.ProfilesAndLatches : Prop :=
  (∀ (m : Master) (n : Nat) (s : State), n < 16 → Reaches m (Reg.AX_PROF_CMD n) s →
      (axisLive s n = false → Completes (.profStop m n) s (OnlyPageRegs [] s) ∧ Completes (.profGo m n) s (OnlyPageRegs [] s))
      ∧ (axisLive s n = true →
        (profState s n ≠ 0 → (prof s n).v = 0 → (prof s n).dec = none → Completes (.profStop m n) s fun t =>
          profState t n = 8 ∧ t.flag (Reg.AX n + 0x18) 21 = true ∧ (prof t n).seg = .none ∧ (prof t n).v = 0 ∧ (prof t n).a = 0
          ∧ (-(2 ^ 63 : Int) ≤ (prof s n).p → (prof s n).p < 2 ^ 63 → (prof t n).p = (prof s n).p)
          ∧ SameRegsBut [Reg.AX_PROF_STAT n, Reg.AX_SP_VEL n, Reg.AX_SP_ACC n, Reg.AX n + 0x18] s t ∧ SameMemory s t)
        ∧ (profState s n ≠ 0 → (prof s n).v ≠ 0 → (prof s n).dec = none → (∀ p0 v0 a b c, (prof s n).seg ≠ .stopPhase p0 v0 a b c) →
          Completes (.profStop m n) s fun t => profState t n = 5 ∧ (prof t n).seg = .none
            ∧ (prof t n).dec = some { p0 := (prof s n).p, v0 := (prof s n).v, rate := max 1 (s.rd (Reg.AX_STOP_DECEL n)).toNat, k := 0, ends := .stopped }
            ∧ t.queues = s.queues ∧ SameRegsBut [Reg.AX_PROF_STAT n] s t ∧ SameMemory s t)
        ∧ (∀ d, profState s n ≠ 0 → (prof s n).v ≠ 0 → (prof s n).dec = some d → Completes (.profStop m n) s fun t => profState t n = 5
            ∧ (prof t n).dec = some { p0 := (prof s n).p, v0 := (prof s n).v, rate := max 1 (max (s.rd (Reg.AX_STOP_DECEL n)).toNat d.rate), k := 0,
                                      ends := if d.ends = .idle then .idle else .stopped })
        ∧ (profState s n = 8 → Completes (.profGo m n) s fun t => profState t n = 1 ∧ OnlyPageRegs [Reg.AX_PROF_STAT n] s t)
        ∧ (profState s n ≠ 8 → Completes (.profGo m n) s (OnlyPageRegs [] s))))
  ∧ (∀ (m : Master) (n : Nat) (s : State), n < 16 → Reaches m (Reg.AX_PROF_REFUSED n) s → Accepted (defOf .ax 0x10C) (Reg.AX_PROF_REFUSED n) m 1 s →
      (restrictStart s = false → Completes (.profRefusedClear m n) s fun t => t.rd (Reg.AX_PROF_REFUSED n) = 0 ∧ (prof t n).refusedOnce = false
        ∧ SameRegsBut [Reg.AX_PROF_REFUSED n] s t ∧ SameMemory s t)
      ∧ (restrictStart s = true → Completes (.profRefusedClear m n) s (OnlyPageRegs [] s)))
  ∧ (∀ (m : Master) (n : Nat) (s : State), n < 16 → Reaches m (Reg.AX_VM_LOAD n) s →
      (s.flag (Reg.AX_VM_CTRL n) 8 = false → Completes (.vmLoad m n) s fun t => (prof t n).vmP0 = signed 64 (s.rd64 (Reg.AX_VM_P0 n 0))
        ∧ (prof t n).vmRate = s.sfld (Reg.AX_VM_RATE n) 0 32 ∧ (prof t n).vmT0 = s.rd64 (Reg.AX_VM_T0 n 0) ∧ (prof t n).p = (prof s n).p
        ∧ (∀ it, vmAt (prof t n) it = (prof t n).vmP0 + (prof t n).vmRate * 256 * ((it : Int) - (prof t n).vmT0) / 1000000000)
        ∧ SameRegsBut [] s t ∧ SameMemory s t)
      ∧ (s.flag (Reg.AX_VM_CTRL n) 8 = true → Completes (.vmLoad m n) s fun t => t.profs = s.profs
        ∧ ErrorRecorded (Reg.AX n) 0x03 0x06 (errDetail (masterCode m) 0x184) s t ∧ OnlyPageRegs [Reg.AX n + 0x20, Reg.AX n + 0x24] s t))
  ∧ (∀ (k : Nat) (level : Bool) (back : Nat) (ball r : Int) (s : State), k < 16 → busUp s = true → frozen s 0xD0 = false →
      ldlOn s = false → (latIn s k).level ≠ level → ball = rootNow s - back → r = latchInstant s k ball →
      (latPasses s k ball = true → (s.flag (Reg.LAT + 0x008) 0 = false ∨ s.flag (Reg.LAT_CFG k) 31 = false ∨ latSelected s k level = false →
        Completes (.latchEdge k level back) s fun t => (latIn t k).level = level ∧ (latIn t k).last = some ball
          ∧ (latIn t k).fifo = (latIn s k).fifo ∧ SameRegsBut [] s t)
      ∧ (s.flag (Reg.LAT + 0x008) 0 = true → s.flag (Reg.LAT_CFG k) 31 = true → latSelected s k level = true →
        ((∀ p, (latIn s k).last = some p → 32 ≤ ball - p) → (latIn s k).fifo.length < 4 →
        Completes (.latchEdge k level back) s fun t => (latIn t k).level = level ∧ (latIn t k).last = some ball
          ∧ (∃ x, (latIn t k).fifo = (latIn s k).fifo ++ [x] ∧ x.words.length = 12
              ∧ (listGet x.words 0 0).toNat % 0x10000 = s.fld (Reg.LAT_SEQ k) 0 16 ∧ bit (listGet x.words 0 0) 31 = level
              ∧ bits (listGet x.words 0 0) 24 4 = k ∧ listGet x.words 1 0 = wordOf ((r / 4).toNat))
          ∧ t.fld (Reg.LAT_SEQ k) 0 16 = (s.fld (Reg.LAT_SEQ k) 0 16 + 1) % 0x10000 ∧ t.flag (Reg.LAT + 0x18) k = true
          ∧ SameRegsBut [Reg.LAT_SEQ k, Reg.LAT + 0x18] s t ∧ SameMemory s t)
        ∧ ((∃ p, (latIn s k).last = some p ∧ ball - p < 32) ∨ 4 ≤ (latIn s k).fifo.length →
        Completes (.latchEdge k level back) s fun t => (latIn t k).level = level ∧ (latIn t k).fifo = (latIn s k).fifo ∧ t.flag (Reg.LAT + 0x18) (16 + k) = true
          ∧ t.fld (Reg.LAT_LOST_CNT k) 0 16 = min 0xFFFF (s.fld (Reg.LAT_LOST_CNT k) 0 16 + 1)
          ∧ SameRegsBut [Reg.LAT_LOST_CNT k, Reg.LAT + 0x18] s t)))
      ∧ (latPasses s k ball = false → Completes (.latchEdge k level back) s fun t => t = s))
  ∧ (∀ (k q : Nat) (x : LatRecord) (r : List LatRecord) (s : State), k < 16 → frozen s 0xD0 = false → busUp s = true → (latIn s k).fifo = x :: r →
      boundProd s (0x10 + k) = some q → s.flag (Reg.LAT_CFG k) 24 = true →
      (qRoom s q (if s.flag (qAddr q 0x10) 1 then 13 else 12) = true → Completes (.latRecordPush k) s fun t => (latIn t k).fifo = r
        ∧ (s.flag (qAddr q 0x10) 1 = false → x.words.length = 12 → (queue s q).words = [] →
            kept (queue t q).words = x.words.map (fun w => { data := w }) ∧ t.rd (qAddr q 0x38) = s.rd (qAddr q 0x38) + 12))
      ∧ (qRoom s q (if s.flag (qAddr q 0x10) 1 then 13 else 12) = false → s.flag (qAddr q 0x10) 2 = true → Completes (.latRecordPush k) s fun t =>
        (latIn t k).fifo = r ∧ t.fld (Reg.LAT_LOST_CNT k) 0 16 = min 0xFFFF (s.fld (Reg.LAT_LOST_CNT k) 0 16 + 1) ∧ t.queues = s.queues)
      ∧ (qRoom s q (if s.flag (qAddr q 0x10) 1 then 13 else 12) = false → s.flag (qAddr q 0x10) 2 = false → Completes (.latRecordPush k) s fun t => t = s))
  ∧ (∀ (m : Master) (k : Nat) (s : State), k < 16 → Reaches m (Reg.LAT_NEXT k) s → Completes (.latNext m k) s fun t =>
      (latIn t k).fifo = (latIn s k).fifo.drop 1 ∧ SameRegsBut [] s t ∧ SameMemory s t)

/-! ## Actuator channels and boost rails (spec/17_actuators.md) -/

/-- Parts of R348 to R350, R357, R362, R366, R372: the answers to an OPEN in the order of the model; an accepted OPEN starts the peak of an ONOFF
channel, with boost when its rail is ready and by BOOST_POLICY when it is not, or enters ON in PROP and LAMP; a CLOSE in any state turns gate and
boost off and commands the channel closed, and in ONOFF, NOZZLE and CLUTCH one that is not off, tripped or closing enters CLOSING; CLEAR_TRIP;
the bind of an actuator slot; a written latency within its limits. Where several answers apply, the order is the model's (log entry 60). -/
def Obligations.ActuatorCommands : Prop :=
  (∀ (m : Master) (k st : Nat) (s : State), k < 48 → Reaches m (chReg Reg.ACTG_CMD k) s → st = chState s k →
    (∀ code, (st = 0 ∧ code = 2 ∨ st = 10 ∧ code = 8 ∨ st = 8 ∧ code = 6 ∨ st = 9 ∧ code = 5
          ∨ (st = 1 ∨ st = 7 ∨ st = 6 ∧ chFlag s k 1 = false) ∧ restrictOpen s = true ∧ code = 3
          ∨ (st = 1 ∨ st = 7 ∨ st = 6 ∧ chFlag s k 1 = false) ∧ restrictOpen s = false ∧ chSupplied s k = false ∧ code = 4) →
        Completes (.actCmdOpen m k) s fun t => t.fld (chReg Reg.ACTG_STAT k) 24 4 = code ∧ chState t k = st ∧ t.acts = s.acts
          ∧ t.flag (chReg Reg.ACTG_IRQ_STAT_CH k) 12 = true
          ∧ SameRegsBut [chReg Reg.ACTG_STAT k, chReg Reg.ACTG_IRQ_STAT_CH k, Reg.ACTG (k / 8) + 0x10, Reg.ACTG (k / 8) + 0x18] s t)
    ∧ ((st = 2 ∨ st = 3 ∨ st = 4 ∨ st = 5 ∨ st = 6 ∧ chFlag s k 1 = true) → Completes (.actCmdOpen m k) s fun t =>
        t.fld (chReg Reg.ACTG_STAT k) 24 4 = 1 ∧ chState t k = st ∧ t.acts = s.acts ∧ SameRegsBut [chReg Reg.ACTG_STAT k] s t)
    ∧ (st = 1 ∨ st = 7 → restrictOpen s = false → chSupplied s k = true →
        (chMode s k = 1 ∨ chMode s k = 3 → Completes (.actCmdOpen m k) s fun t => chState t k = 5 ∧ t.fld (chReg Reg.ACTG_STAT k) 24 4 = 0
          ∧ chFlag t k 0 = true ∧ SameRegsBut [chReg Reg.ACTG_STAT k] s t)
        ∧ (chMode s k = 0 ∨ chMode s k = 4 →
          (boostRail s k = none → Completes (.actCmdOpen m k) s fun t => chState t k = 3 ∧ t.fld (chReg Reg.ACTG_STAT k) 24 4 = 0
            ∧ chFlag t k 0 = true ∧ chFlag t k 4 = false ∧ (chan t k).gate = true ∧ (chan t k).boost = false ∧ (chan t k).start = s.now
            ∧ (chan t k).openIt = implementTime s ∧ (chan t k).seek = true ∧ (st = 7 → (chan t k).exOpen = true))
          ∧ (∀ x, boostRail s k = some x → railReady s x = true → Completes (.actCmdOpen m k) s fun t => chState t k = 3
              ∧ t.fld (chReg Reg.ACTG_STAT k) 24 4 = 0 ∧ (chan t k).gate = true ∧ (chan t k).boost = true ∧ chFlag t k 4 = false)
          ∧ (∀ x, boostRail s k = some x → railReady s x = false → Completes (.actCmdOpen m k) s fun t => chFlag t k 4 = true
              ∧ t.flag (chReg Reg.ACTG_IRQ_STAT_CH k) 5 = true
              ∧ (s.fld (chReg Reg.ACTG_CFG k) 8 2 = 0 → chState t k = 3 ∧ (chan t k).gate = true ∧ (chan t k).boost = false
                  ∧ (chan t k).exOpen = true ∧ t.fld (chReg Reg.ACTG_STAT k) 24 4 = 0)
              ∧ (s.fld (chReg Reg.ACTG_CFG k) 8 2 = 1 → chState t k = 2 ∧ (chan t k).gate = (chan s k).gate)
              ∧ (s.fld (chReg Reg.ACTG_CFG k) 8 2 = 2 → chState t k = 1 ∧ (chan t k).gate = false ∧ chFlag t k 0 = false
                  ∧ t.fld (chReg Reg.ACTG_STAT k) 24 4 = 7 ∧ t.flag (chReg Reg.ACTG_IRQ_STAT_CH k) 12 = true))))
    ∧ Completes (.actCmdClose m k) s (fun t => (chan t k).gate = false ∧ (chan t k).boost = false ∧ chFlag t k 0 = false ∧ chFlag t k 1 = false
        ∧ (st ∉ [0, 7, 8, 9, 10] → chMode s k ≠ 1 → chMode s k ≠ 3 →
            chState t k = 7 ∧ (chan t k).offIt = some (implementTime s) ∧ (chan t k).seek = false)
        ∧ (st = 8 ∨ st ∉ [0, 7, 8, 9, 10] ∧ (chMode s k = 1 ∨ chMode s k = 3) → chState t k = 1) ∧ (st = 0 ∨ st = 7 ∨ st = 9 ∨ st = 10 → chState t k = st) ∧ SameMemory s t)
    ∧ (st = 8 → Completes (.actClearTrip m k) s fun t => chState t k = 1 ∧ chFlag t k 0 = false ∧ (chan t k).retries = 0 ∧ SameMemory s t)
    ∧ (st ≠ 8 → Completes (.actClearTrip m k) s (OnlyPageRegs [] s)))
  ∧ (∀ (m : Master) (k : Nat) (v w : Word) (s : State), k < 48 → Reaches m (chReg Reg.ACTG_ACT_SLOT k) s →
      Accepted (defOf .actg 0x0B4) (chReg Reg.ACTG_ACT_SLOT k) m v s →
      w = storeValue (defOf .actg 0x0B4) (s.rd (chReg Reg.ACTG_ACT_SLOT k)) v →
      (∀ num, (s.flag (chReg Reg.ACTG_CFG k) 31 = true ∧ num = 0x01
            ∨ s.flag (chReg Reg.ACTG_CFG k) 31 = false ∧ bit w 31 = true ∧ (enginesOf s.variant ≤ bits w 24 1 ∨ 23 < bits w 0 5) ∧ num = 0x04
            ∨ s.flag (chReg Reg.ACTG_CFG k) 31 = false ∧ bit w 31 = true ∧ bits w 24 1 < enginesOf s.variant ∧ bits w 0 5 ≤ 23
              ∧ slotTaken s k (bits w 24 1) (bits w 0 5) = true ∧ num = 0x03) →
          Completes (.actSlotBind m k v) s fun t =>
            ErrorRecorded (Reg.ACTG (k / 8)) 0x03 num (errDetail (masterCode m) (chReg Reg.ACTG_ACT_SLOT k % 0x1000)) s t
            ∧ OnlyPageRegs [Reg.ACTG (k / 8) + 0x20, Reg.ACTG (k / 8) + 0x24] s t)
      ∧ (s.flag (chReg Reg.ACTG_CFG k) 31 = false → (bit w 31 = false ∨ bits w 24 1 < enginesOf s.variant ∧ bits w 0 5 ≤ 23
            ∧ slotTaken s k (bits w 24 1) (bits w 0 5) = false) →
          Completes (.actSlotBind m k v) s fun t => t.rd (chReg Reg.ACTG_ACT_SLOT k) = w ∧ OnlyPageRegs [chReg Reg.ACTG_ACT_SLOT k] s t))
  ∧ (∀ (m : Master) (k : Nat) (close : Bool) (v : Word) (a lim : Nat) (d : RegDef) (s : State), k < 48 → Reaches m (chReg Reg.ACTG_LAT_OPEN k) s →
      a = chReg (if close then Reg.ACTG_LAT_CLOSE else Reg.ACTG_LAT_OPEN) k →
      lim = chReg (if close then Reg.ACTG_LAT_CLOSE_LIM else Reg.ACTG_LAT_OPEN_LIM) k → d = defOf .actg (if close then 0x06C else 0x068) →
      Accepted d a m v s →
      (s.fld lim 0 16 * 1000 ≤ v.toNat → v.toNat ≤ s.fld lim 16 16 * 1000 →
        Completes (.latOpenWrite m k close v) s fun t => t.rd a = v ∧ (close = false → SameRegsBut [a] s t)
          ∧ SameRegsBut [a, Reg.ACTG_GRP_MAX_CLOSE (k / 8), Reg.ACTG (k / 8) + 0x18] s t ∧ SameMemory s t)
      ∧ (v.toNat < s.fld lim 0 16 * 1000 ∨ s.fld lim 16 16 * 1000 < v.toNat →
        Completes (.latOpenWrite m k close v) s fun t => t.rd a = s.rd a ∧ t.acts = s.acts
          ∧ ErrorRecorded (Reg.ACTG (k / 8)) 0x03 0x02 (errDetail (masterCode m) (a % 0x1000)) s t))

/-- Parts of R351 to R353, R355, R357, R359 to R365, R368, R371 to R373: what a sample decides in HOLD and on a finish; the timed ends of a chop,
of the boost, of the peak, of the finish window, of a wait for the rail, of an inrush and of a duty; the coil-on and coil-off of a NOZZLE train;
trips and retries; the temperature; diagnosis; and the boost controllers. -/
def Obligations.ActuatorEvents : Prop :=
  (∀ (k : Nat) (s : State), frozen s (0xA0 + k / 8) = false → k < 8 * groupsOf s.variant →
    (∀ (i : Int) (d : DrainSample), chSupplied s k = true → s.now % 200 = 0 → chState s k = 4 → (chan s k).gate = true → (chan s k).stretch = false →
        (chan s k).stretching = false →
        (q23 (heldReg s k 0x054) * (chan s k).lam * holdScale s k ≤ i * 0x400000000000 → Completes (.actSample k i d) s fun t =>
          (chan t k).gate = false ∧ (chan t k).chopEnd = some (s.now + bits (heldReg s k 0x05C) 0 16 * 200) ∧ chState t k = 4 ∧ (chan t k).cur = i
          ∧ (chan t k).drn = d.drain ∧ (groupSense t (k / 8)).cur = d.group ∧ SameRegsBut [] s t)
        ∧ (i * 0x400000000000 < q23 (heldReg s k 0x054) * (chan s k).lam * holdScale s k → Completes (.actSample k i d) s fun t =>
          (chan t k).gate = true ∧ (chan t k).cur = i ∧ (chan t k).drn = d.drain ∧ SameRegsBut [] s t))
    ∧ (∀ (i : Int) (d : DrainSample) (it : Nat), chSupplied s k = true → s.now % 200 = 0 → s.now ≤ (chan s k).offTick + bits (heldReg s k 0x074) 16 16 * 200 →
        chState s k = 7 → (chan s k).offIt = some it → (chan s k).plateau = true →
        d.drain < q15 (heldReg s k 0x064) 0 → Completes (.actSample k i d) s fun t => chState t k = (if chFlag s k 1 = true then 6 else 1)
          ∧ (chan t k).offIt = none ∧ t.rd (chReg Reg.ACTG_LAST_CLOSE k) = wordOf (implementTime s - it)
          ∧ t.flag (chReg Reg.ACTG_IRQ_STAT_CH k) 1 = true ∧ chFlag t k 7 = (chan s k).exClose
          ∧ ((chan s k).exClose = true → t.rd (chReg Reg.ACTG_LAT_CLOSE k) = s.rd (chReg Reg.ACTG_LAT_CLOSE k)))
    ∧ (∀ i d, chSupplied s k = false ∨ s.now % 200 ≠ 0 → Completes (.actSample k i d) s fun t => t = s)
    ∧ (∀ e, (chan s k).chopEnd = some e → e ≤ s.now → chState s k = 4 → Completes (.actChopToffEnd k) s fun t =>
        (chan t k).gate = true ∧ (chan t k).chopEnd = none ∧ chState t k = 4)
    ∧ (chState s k = 3 → (chan s k).boost = true → (chan s k).start + bits (heldReg s k 0x05C) 16 16 * 200 ≤ s.now →
        Completes (.actBoostTmax k) s fun t => (chan t k).boost = false ∧ (chan t k).gate = (chan s k).gate ∧ SameRegsBut [] s t)
    ∧ (chState s k = 3 → (chan s k).start + bits (heldReg s k 0x058) 16 16 * 200 ≤ s.now ∨ (∃ c, (chan s k).caught = some c
          ∧ c + bits (heldReg s k 0x058) 0 16 * 200 ≤ s.now) → Completes (.actPeakEnd k) s fun t => chState t k = 4 ∧ (chan t k).boost = false
          ∧ (chan t k).gate = (chan s k).gate
          ∧ ((chan s k).seek = true → chFlag t k 5 = true ∧ t.flag (chReg Reg.ACTG_IRQ_STAT_CH k) 2 = true ∧ (chan t k).seek = false))
    ∧ (chState s k = 7 → (chan s k).offTick + bits (heldReg s k 0x074) 16 16 * 200 ≤ s.now → Completes (.actFinishWindowEnd k) s fun t =>
        chState t k = (if chFlag s k 1 = true then 6 else 1) ∧ chFlag t k 6 = true ∧ t.flag (chReg Reg.ACTG_IRQ_STAT_CH k) 3 = true)
    ∧ (∀ g j, (chan s k).nextOn = some g → (chan s k).grid = some j → chState s k = 6 → chFlag s k 1 = true → g ≤ implementTime s →
        ((chan s k).skip = true → Completes (.nozzleCoilOn k) s fun t => chState t k = 6 ∧ (chan t k).gate = (chan s k).gate
          ∧ (chan t k).nextOn = some (coilOn s k (j + 1)) ∧ (chan t k).grid = some (j + 1))
        ∧ ((chan s k).skip = false → boostRail s k = none → Completes (.nozzleCoilOn k) s fun t => chState t k = 3 ∧ (chan t k).gate = true
          ∧ (chan t k).nextOff = some (coilOff s k j) ∧ (chan t k).openIt = g))
    ∧ (∀ g j, (chan s k).nextOff = some g → (chan s k).grid = some j → (chState s k = 3 ∨ chState s k = 4) → chFlag s k 1 = true →
        g ≤ implementTime s →
        (nozMin s k ≤ nozFlow s k → coilOn s k (j + 1) < g + latClose s k + nozMin s k → Completes (.nozzleCoilOff k) s fun t =>
          chState t k = chState s k ∧ (chan t k).gate = (chan s k).gate ∧ (chan t k).nextOff = some (coilOff s k (j + 1)))
        ∧ (g + latClose s k + nozMin s k ≤ coilOn s k (j + 1) → Completes (.nozzleCoilOff k) s fun t => chState t k = 7
          ∧ (chan t k).gate = false ∧ (chan t k).offIt = some g ∧ (chan t k).nextOn = some (coilOn s k (j + 1))))
    ∧ (chState s k = 2 → (chan s k).start + bits (heldReg s k 0x0D8) 0 16 * 200 ≤ s.now → Completes (.boostWaitTimeout k) s fun t =>
        chState t k = 3 ∧ (chan t k).gate = true ∧ (chan t k).boost = false ∧ (chan t k).exOpen = true)
    ∧ (∀ x, chState s k = 2 → boostRail s k = some x → railReady s x = true → Completes (.boostRailReady k) s fun t =>
        chState t k = 3 ∧ (chan t k).gate = true ∧ (chan t k).boost = true ∧ (chan t k).exOpen = true)
    ∧ (∀ e, (chan s k).retryAt = some e → e ≤ s.now → chState s k = 1 → chFlag s k 0 = true → (chMode s k = 1 ∨ chMode s k = 3) →
        Completes (.actTripRetry k) s fun t => chState t k = 5 ∧ (chan t k).retryAt = none)
    ∧ (∀ T : Rat, chActs s k = true → s.flag (chReg Reg.ACTG_CFG k) 18 = true → bits (heldReg s k 0x0E4) 16 16 ≠ 0 →
        (chan s k).thFrom + 200000 ≤ s.now → T = ambient s k + thermalStep s k → chState s k ≠ 9 → chState s k ≠ 10 → Completes (.actThermalUpdate k) s fun t =>
          t.rd (chReg Reg.ACTG_TH_TEMP k) = wordOf (lowBits 16 (T * 16).floor)
          ∧ ((bits (heldReg s k 0x0E8) 8 8 : Rat) ≤ T → chFlag t k 8 = true)
          ∧ (T ≤ (bits (heldReg s k 0x0E8) 8 8 : Rat) - 5 → chFlag t k 8 = false)
          ∧ ((bits (heldReg s k 0x0E8) 16 8 : Rat) ≤ T → chState t k = 9 ∧ (chan t k).gate = false ∧ (chan t k).boost = false
              ∧ t.flag (chReg Reg.ACTG_IRQ_STAT_CH k) 11 = true)
          ∧ (T < (bits (heldReg s k 0x0E8) 16 8 : Rat) → chState t k = chState s k ∧ (chan t k).gate = (chan s k).gate))
    ∧ (s.now < (chan s k).thFrom + 200000 → Completes (.actThermalUpdate k) s (· = s))
    ∧ ((chan s k).diagSince + 200000 ≤ s.now → diagOn s k = true → chState s k = 4 → (chan s k).gate = true → Completes (.actDiagPeriodic k) s fun t =>
        (chan t k).diagSince = s.now ∧ t.fld (chReg Reg.ACTG_DIAG_STAT k) 30 2 = 1 ∧ t.fld (chReg Reg.ACTG_DIAG_STAT k) 0 16 = 0
        ∧ (onCheckFails s k (chan s k).cur = false → chFlag t k 2 = false ∧ (chan t k).olFails = 0)
        ∧ (onCheckFails s k (chan s k).cur = true → (chan t k).olFails = (chan s k).olFails + 1)))
  ∧ (∀ (k : Nat) (w : Word) (s : State), k < 8 * groupsOf s.variant → w = heldReg s k 0x0D0 → bit w 31 = true →
      Completes (.actTrip k) s fun t => (chan t k).gate = false ∧ (chan t k).boost = false
        ∧ t.fld (chReg Reg.ACTG_TRIP_CNT k) 0 16 = min 0xFFFF (s.fld (chReg Reg.ACTG_TRIP_CNT k) 0 16 + 1)
        ∧ t.flag (chReg Reg.ACTG_IRQ_STAT_CH k) 8 = true
        ∧ ((chState s k = 2 ∨ chState s k = 3 ∨ chState s k = 4 ∨ chState s k = 5) →
          (bits w 24 4 ≤ (chan s k).retries → chState t k = 8)
          ∧ ((chan s k).retries < bits w 24 4 → (chan t k).retries = (chan s k).retries + 1
              ∧ (chMode s k = 2 → chState t k = 6)
              ∧ (chMode s k ≠ 2 → chState t k = 1 ∧ (chan t k).retryAt = some (s.now + bits w 16 8 * 200000)))))
  ∧ (∀ (k : Nat) (s : State), frozen s (0xA0 + k / 8) = false → k < 48 → chState s k = 5 →
      (chMode s k = 1 → periodOver s k = true → (chan s k).stretching = false → slotRuns s k = false → Completes (.propPeriodStart k) s fun t =>
        (chan t k).start = s.now ∧ (chan t k).applied = 0 ∧ (chan t k).onEnd = none ∧ (chan t k).held = liveRegs s k
        ∧ ((chan s k).onCount ≠ 0 → (chan t k).avg = truncDiv (chan s k).onSum (chan s k).onCount))
      ∧ (chMode s k = 3 → periodOver s k = true → s.fld (chReg Reg.ACTG_LAMP_DUTY k) 0 24 = 0x7FFFFF → chFlag s k 8 = false →
        Completes (.lampPeriodStart k) s fun t => (chan t k).start = s.now ∧ (chan t k).applied = 0x7FFFFF
          ∧ ((chan s k).chopEnd = none → (chan t k).gate = true))
      ∧ (periodOver s k = false → Completes (.propPeriodStart k) s (· = s) ∧ Completes (.lampPeriodStart k) s (· = s))
      ∧ (∀ e, (chan s k).inrushEnd = some e → e ≤ s.now → Completes (.inrushEnd k) s fun t => (chan t k).inrushEnd = none ∧ SameRegsBut [] s t)
      ∧ (∀ e, (chan s k).onEnd = some e → e ≤ s.now → chMode s k = 1 → (chan s k).stretch = false → (chan s k).stretching = false → Completes (.actDutyGateOff k) s fun t =>
        (chan t k).gate = false ∧ (chan t k).onEnd = none ∧ SameRegsBut [] s t))
  ∧ (∀ (g : Nat) (current r : Int) (s : State), g < groupsOf s.variant → r = groupResidual (groupSample g current s) g →
      (s.cox.actSen.contains g = true → s.now % 200 = 0 → shortCheckDue s g = true → Completes (.groupShortCheck g current) s fun t => ∃ u,
        t = lineCheck (72 + g) (decide ((s.fld (Reg.ACTG_GRP_CFG g) 16 16 : Int) < r)) u
        ∧ u.fld (Reg.ACTG_GRP_RESID g) 0 16 = lowBits 16 (clampI (-32768) 32767 r)
        ∧ u.flag (Reg.ACTG_GRP_STAT g) 16 = decide ((s.fld (Reg.ACTG_GRP_CFG g) 16 16 : Int) < r)
        ∧ ((s.fld (Reg.ACTG_GRP_CFG g) 16 16 : Int) < r → s.flag (Reg.ACTG_GRP_STAT g) 16 = false → u.flag (Reg.ACTG g + 0x18) 8 = true)
        ∧ SameRegsBut [Reg.ACTG_GRP_RESID g, Reg.ACTG_GRP_STAT g, Reg.ACTG g + 0x18] s u ∧ SameMemory s u)
      ∧ (s.cox.actSen.contains g = false ∨ s.now % 200 ≠ 0 ∨ shortCheckDue s g = false → Completes (.groupShortCheck g current) s fun t => t = s))
  ∧ (∀ (x : Nat) (s : State), frozen s 0xA8 = false → x < boostsOf s.variant → (bstState s x = 1 ∨ bstState s x = 2) →
      (∀ uv rail, rail = min 0xFFFF (uv * s.fld (Reg.BST_X_DIV x) 0 16 / 256 / 10000) → Completes (.bstRailSample x uv) s fun t =>
        t.rd (Reg.BST_X_VRAIL x) = wordOf rail
        ∧ (s.fld (Reg.BST_X_LIM x) 16 16 ≤ rail → bstState t x = 3 ∧ t.fld (Reg.BST_X_STAT x) 4 4 = 1 ∧ (bst t x).gate = false
            ∧ t.flag (Reg.BST + 0x18) (4 * x + 1) = true)
        ∧ (rail < s.fld (Reg.BST_X_LIM x) 16 16 → s.fld (Reg.BST_X_LIM x) 0 16 ≤ rail →
            (bstState t x = if s.fld (Reg.BST_X_READY x) 0 16 ≤ rail then 2 else bstState s x)
            ∧ (s.fld (Reg.BST_X_CFG x) 0 16 ≤ rail → (bst t x).gate = false))
        ∧ SameRegsBut [Reg.BST_X_VRAIL x, Reg.BST_X_STAT x, Reg.BST + 0x18] s t ∧ SameMemory s t)
      ∧ ((bst s x).gate = true → Completes (.bstIlim x) s fun t => (bst t x).gate = false
        ∧ (bst t x).toffEnd = some (s.now + s.fld (Reg.BST_X_SW x) 0 8 * 20) ∧ SameRegsBut [] s t)
      ∧ (∀ e, (bst s x).toffEnd = some e → e ≤ s.now → Completes (.bstToffEnd x) s fun t => (bst t x).toffEnd = none
        ∧ (bst t x).gate = (!(bst s x).satisfied && !(padsForced s)) ∧ SameRegsBut [] s t)
      ∧ (bstState s x = 1 → (bst s x).wasReady = false → (bst s x).since + s.fld (Reg.BST_X_SW x) 8 8 * 2000000 ≤ s.now →
        Completes (.bstChargeTimeout x) s fun t => bstState t x = 3 ∧ t.fld (Reg.BST_X_STAT x) 4 4 = 3 ∧ (bst t x).gate = false
          ∧ SameRegsBut [Reg.BST_X_STAT x, Reg.BST + 0x18] s t))

/-! ## The time unit (spec/18_time.md) -/

/-- Parts of R378 to R382: a rate taken into force as one, or refused whole; a correction, its slew and the state it leads to; a step in the
states that allow it; the holdover that a missing feed begins, and its two ends. Times are in units of 2^-32 ns / 10^6 (log entry 10).
Parts of R76, R377 to R379, R386: while no command waits, a step is one TICK in ROW and PADDLE and eight in EASY and HOLD (log entries 3, 4);
each enabled lane adds its rate and what its slew allows, a disabled one stands, a staged rate comes into force, and BRIDGE moves toward 0 by no
more than its slew. Memory stays where no sample of a Loop Engine is in progress. -/
def Obligations.LanesAndTime : Prop :=
  ((∀ (m : Master) (x : Nat) (v : Word) (i : Nat) (s : State), x < 2 → Reaches m (Reg.TSU_L_INCR_HI x) s →
       i = bits v 0 8 * 4294967296 + (s.rd (Reg.TSU_L_INCR_LO x)).toNat →
       (4995 * 4294967296 ≤ i * 1000 → i * 1000 ≤ 5005 * 4294967296 → Completes (.incrCommit m x v) s fun t =>
         laneOf t x = { laneOf s x with incrNext := some i } ∧ laneOf t (1 - x) = laneOf s (1 - x) ∧ t.rd (Reg.TSU_L_INCR_HI x) = v &&& 0xFF
         ∧ SameRegsBut [Reg.TSU_L_INCR_HI x] s t ∧ SameMemory s t)
       ∧ (i * 1000 < 4995 * 4294967296 ∨ 5005 * 4294967296 < i * 1000 → Completes (.incrCommit m x v) s fun t => t.tsu = s.tsu
         ∧ ErrorRecorded Reg.TSU 0x03 0x01 (errDetail (masterCode m) (0x21C + 0x80 * x)) s t ∧ OnlyPageRegs [Reg.TSU + 0x20, Reg.TSU + 0x24] s t))
   ∧ (∀ (m : Master) (x st n : Nat) (v : Word) (o : Int) (s : State), x < 2 → Reaches m (Reg.TSU_L_ADJ x) s → st = laneState s x → o = sbits v 0 32 →
       n = max 1 (s.fld (Reg.TSU_L_TRACK x) 0 8) →
       Completes (.laneAdj m x v) s fun t => (laneOf t x).left = -o * laneUnit ∧ (laneOf t x).fed = s.now
           ∧ (laneOf t x).time = (laneOf s x).time ∧ (laneOf t x).incr = (laneOf s x).incr ∧ laneOf t (1 - x) = laneOf s (1 - x)
           ∧ t.rd (Reg.TSU_L_CORR_CNT x) = s.rd (Reg.TSU_L_CORR_CNT x) + 1
           ∧ (st = 0 → laneState t x = 0) ∧ (st = 1 ∨ st = 5 → laneState t x = 2)
           ∧ (st = 4 → laneState t x = if s.fld (Reg.TSU_L_TRACK x) 16 16 < o.natAbs then 2 else 3)
           ∧ (st = 2 → o.natAbs ≤ s.fld (Reg.TSU_L_TRACK x) 16 16 → laneState t x = if n ≤ (laneOf s x).run + 1 then 3 else 2)
           ∧ (st = 2 → s.fld (Reg.TSU_L_TRACK x) 16 16 < o.natAbs → laneState t x = 2 ∧ (laneOf t x).run = 0)
           ∧ (st = 3 → o.natAbs ≤ s.fld (Reg.TSU_L_TRACK x) 16 16 → laneState t x = 3 ∧ (laneOf t x).run = 0)
           ∧ (st = 3 → s.fld (Reg.TSU_L_TRACK x) 16 16 < o.natAbs → (laneState t x = if n ≤ (laneOf s x).run + 1 then 2 else 3)
               ∧ t.fld (Reg.TSU_L_OUTLIERS x) 0 16 = min 0xFFFF (s.fld (Reg.TSU_L_OUTLIERS x) 0 16 + 1) ∧ t.flag (Reg.TSU + 0x18) (8 * x + 4) = true)
           ∧ (laneState t x ≠ st → t.flag (Reg.TSU + 0x18) (8 * x) = true)
           ∧ SameRegsBut [Reg.TSU_L_STAT x, Reg.TSU_L_CORR_CNT x, Reg.TSU_L_OUTLIERS x, Reg.TSU + 0x18] s t ∧ SameMemory s t)
   ∧ (∀ (m : Master) (x st : Nat) (v : Word) (d : Int) (s : State), x < 2 → Reaches m (Reg.TSU_L_STEP_CMD x) s → st = laneState s x →
       d = signed 64 (s.rd64 (Reg.TSU_L_STEP_LO x)) →
       (st = 1 ∨ st = 2 ∨ (st = 3 ∨ st = 4) ∧ bit v 1 = true ∧ holdsOpening s 0xE0 m = true → 0 ≤ ((laneOf s x).time : Int) + d * laneUnit →
         Completes (.laneStep m x v) s fun t => ((laneOf t x).time : Int) = (laneOf s x).time + d * laneUnit ∧ (laneOf t x).left = 0
           ∧ laneState t x = st ∧ t.tsu.bridge = s.tsu.bridge ∧ laneOf t (1 - x) = laneOf s (1 - x)
           ∧ t.flag (Reg.TSU + 0x18) (8 * x + 3) = true ∧ ((selLane s = x → ∀ c, c < 4 → (cap s c).win = none) → SameRegsBut [Reg.TSU + 0x18] s t)
           ∧ SameMemory s t)
       ∧ (st = 0 ∨ st = 5 ∨ (st = 3 ∨ st = 4) ∧ (bit v 1 = false ∨ holdsOpening s 0xE0 m = false) → Completes (.laneStep m x v) s fun t =>
         t.tsu = s.tsu ∧ ErrorRecorded Reg.TSU 0x03 0x02 (errDetail (masterCode m) (0x234 + 0x80 * x)) s t
         ∧ OnlyPageRegs [Reg.TSU + 0x20, Reg.TSU + 0x24] s t))
   ∧ (∀ (x st : Nat) (s : State), x < 2 → frozen s 0xE0 = false → st = laneState s x →
       (s.now < (laneOf s x).fed + s.fld (Reg.TSU_L_FEED x) 16 16 * 200000 ∨ st ≠ 2 ∧ st ≠ 3 → Completes (.feedTimeout x) s (· = s))
       ∧ ((laneOf s x).fed + s.fld (Reg.TSU_L_FEED x) 16 16 * 200000 ≤ s.now → st = 2 → Completes (.feedTimeout x) s fun t => laneState t x = 1
           ∧ t.flag (Reg.TSU + 0x18) (8 * x) = true ∧ t.tsu = { s.tsu with autoKept := t.tsu.autoKept }
           ∧ OnlyRegs [Reg.TSU_L_STAT x, Reg.TSU + 0x18] { s with tsu := t.tsu } t)
       ∧ ((laneOf s x).fed + s.fld (Reg.TSU_L_FEED x) 16 16 * 200000 ≤ s.now → st = 3 → Completes (.feedTimeout x) s fun t => laneState t x = 4
           ∧ (laneOf t x).hoSince = s.now ∧ (laneOf t x).left = (laneOf s x).left ∧ (laneOf t x).time = (laneOf s x).time
           ∧ (laneOf t x).incr = (laneOf s x).incr ∧ errEst t x = (laneOf s x).lastAbs
           ∧ (∀ c, c ≠ 0 → (laneOf s x).hist = List.replicate c (laneOf s x).incr → (laneOf t x).hoIncr = (laneOf s x).incr)
           ∧ t.rd64 (Reg.TSU_L_HO_INCR_LO x) = (laneOf t x).hoIncr % 2 ^ 64
           ∧ t.flag (Reg.TSU + 0x18) (8 * x) = true ∧ t.flag (Reg.TSU + 0x18) (8 * x + 1) = true
           ∧ SameRegsBut [Reg.TSU_L_STAT x, Reg.TSU_L_HO_INCR_LO x, Reg.TSU_L_HO_INCR_HI x, Reg.TSU + 0x18] s t ∧ SameMemory s t)
       ∧ (st = 4 → (laneOf s x).hoSince + s.fld (Reg.TSU_L_FEED x) 0 16 * 200000000 ≤ s.now → Completes (.holdoverLimit x) s fun t =>
           laneState t x = 5 ∧ t.flag (Reg.TSU + 0x18) (8 * x + 2) = true ∧ t.tsu = { s.tsu with autoKept := t.tsu.autoKept }
           ∧ OnlyRegs [Reg.TSU_L_STAT x, Reg.TSU + 0x18] { s with tsu := t.tsu } t)
       ∧ (st ≠ 4 ∨ s.now < (laneOf s x).hoSince + s.fld (Reg.TSU_L_FEED x) 0 16 * 200000000 → Completes (.holdoverLimit x) s (· = s))
       ∧ (st = 4 → s.fld (Reg.TSU_L_BUDGET x) 0 16 * 10 * 200000000 < (laneOf s x).lastAbs * 200000000
             + s.fld (Reg.TSU_L_BUDGET x) 16 16 * (s.now - (laneOf s x).hoSince) → Completes (.errBudgetExceeded x) s fun t =>
           laneState t x = 5 ∧ t.flag (Reg.TSU + 0x18) (8 * x + 2) = true ∧ t.tsu = { s.tsu with autoKept := t.tsu.autoKept }
           ∧ OnlyRegs [Reg.TSU_L_STAT x, Reg.TSU + 0x18] { s with tsu := t.tsu } t)
       ∧ (st ≠ 4 ∨ (laneOf s x).lastAbs * 200000000 + s.fld (Reg.TSU_L_BUDGET x) 16 16 * (s.now - (laneOf s x).hoSince)
             ≤ s.fld (Reg.TSU_L_BUDGET x) 0 16 * 10 * 200000000 → Completes (.errBudgetExceeded x) s (· = s))))
  ∧ (∀ (n : Nat) (s : State), s.pending = [] → s.power.phase = .steady → s.fld Reg.PWR_STATE 0 3 ≤ 3 →
      n = (if s.fld Reg.PWR_STATE 0 3 ≤ 1 then 1 else 8) →
      ∃ t, Machine.step s = .next t ∧ t.now = s.now + n ∧ t.pending = [] ∧ ((∀ e, e < 2 → (le s e).trig = none) → t.mem = s.mem)
        ∧ (frozen s 0xE0 = true → t.tsu = { s.tsu with courses := t.tsu.courses })
        ∧ (frozen s 0xE0 = false →
          (∀ x, x < 2 →
            (laneState s x = 0 → (laneOf t x).time = (laneOf s x).time ∧ (laneOf t x).left = (laneOf s x).left)
            ∧ (∀ i, (laneOf s x).incrNext = some i → (laneOf t x).incr = i ∧ (laneOf t x).incrNext = none)
            ∧ ((laneOf s x).incrNext = none → (laneOf t x).incr = (laneOf s x).incr)
            ∧ (laneState s x ≠ 0 → 5 * s.fld (Reg.TSU_L_SLEW_MAX x) 0 16 * 4294967296 * n ≤ (laneOf s x).time →
                ((laneOf t x).time : Int) + (laneOf t x).left = (laneOf s x).time + (laneOf s x).left
                  + ((if laneState s x = 4 then (laneOf s x).hoIncr else (laneOf t x).incr) * (1000000 * n) : Nat)
                ∧ (laneOf s x).left.natAbs - (laneOf t x).left.natAbs
                    = min (laneOf s x).left.natAbs (5 * s.fld (Reg.TSU_L_SLEW_MAX x) 0 16 * 4294967296 * n)))
          ∧ t.tsu.bridge.natAbs = s.tsu.bridge.natAbs - 5 * s.fld Reg.TSU_BRIDGE_SLEW 0 16 * 4294967296 * n
          ∧ (0 ≤ s.tsu.bridge → 0 ≤ t.tsu.bridge) ∧ (s.tsu.bridge ≤ 0 → t.tsu.bridge ≤ 0)))

/-- Parts of R386 to R389, R391 to R394: implement time is the same before and after a change of the selection, by hand or on its own, and the
one on its own goes back only once its lane is not valid; the end of a bridge; the comparison of the lanes and TIME_OK; the snapshot; PPS_OUT
once a second, the PPS_IN capture, the alarms and the time pins. -/
def Obligations.ImplementTime : Prop :=
  (∀ (m : Master) (v : Word) (s : State), Reaches m Reg.TSU_SEL_CFG s → Accepted (defOf .tsu 0x050) Reg.TSU_SEL_CFG m v s →
      Completes (.selWrite m v) s fun t => selLane t = bits v 0 1 ∧ t.flag Reg.TSU_SEL_CFG 8 = bit v 8 ∧ implementTime t = implementTime s
        ∧ (selLane s ≠ bits v 0 1 → t.flag (Reg.TSU + 0x18) 18 = true
            ∧ t.tsu.bridge = s.tsu.bridge + ((laneOf s (selLane s)).time : Int) - (laneOf s (bits v 0 1)).time)
        ∧ (selLane s = bits v 0 1 → t.tsu = { s.tsu with selWrote := some s.now }) ∧ t.tsu.a = s.tsu.a ∧ t.tsu.b = s.tsu.b
        ∧ SameRegsBut [Reg.TSU_SEL_CFG, Reg.TSU + 0x18] s t ∧ SameMemory s t)
  ∧ (∀ s : State, frozen s 0xE0 = false →
      (s.tsu.selWrote ≠ some s.now → s.flag Reg.TSU_SEL_CFG 8 = true →
          (laneState s (selLane s) = 4 ∧ laneState s (1 - selLane s) = 3 ∧ s.tsu.autoKept = false ∨ laneValid s (selLane s) = false ∧ laneValid s (1 - selLane s) = true) → Completes .autoSelect s fun t =>
          selLane t = 1 - selLane s ∧ implementTime t = implementTime s ∧ t.tsu.bridging = true ∧ t.tsu.autoKept = true ∧ t.flag (Reg.TSU + 0x18) 18 = true
          ∧ SameRegsBut [Reg.TSU_SEL_CFG, Reg.TSU + 0x18] s t ∧ SameMemory s t)
      ∧ (s.tsu.selWrote = some s.now ∨ s.flag Reg.TSU_SEL_CFG 8 = false ∨ laneState s 0 = 4 ∧ laneState s 1 = 4 ∨ laneState s (selLane s) = 3
          ∨ laneState s (selLane s) = 4 ∧ s.tsu.autoKept = true → Completes .autoSelect s (· = s))
      ∧ (s.tsu.bridging = true → s.tsu.bridge = 0 → Completes .bridgeDone s fun t => t.tsu = { s.tsu with bridging := false }
          ∧ t.flag (Reg.TSU + 0x18) 19 = true ∧ SameRegsBut [Reg.TSU + 0x18] s t ∧ SameMemory s t)
      ∧ (s.tsu.bridging = false ∨ s.tsu.bridge ≠ 0 → Completes .bridgeDone s (· = s))
      ∧ (∀ d : Int, d = ((laneOf s 0).ns : Int) - (laneOf s 1).ns → Completes .agreeCheck s fun t =>
          t.rd Reg.TSU_AB_DIFF = wordOfInt (clampI (-2147483647) 2147483647 d)
          ∧ ((s.flag (Reg.TSU + 0x008) 0 = false
                ∨ laneValid s 0 = true ∧ laneValid s 1 = true ∧ s.fld Reg.TSU_AGREE_WINDOW 0 24 < d.natAbs
                ∨ (laneValid s 0 = false ∧ laneValid s 1 = false)
                ∨ (laneValid s 0 ≠ laneValid s 1 ∧ (s.flag Reg.TSU_SINGLE_OK 0 = false ∨ laneValid s (selLane s) = false))) →
              timeOk t = false ∧ t.tsu.okSince = none ∧ (timeOk s = true → t.flag (Reg.TSU + 0x18) 16 = true))
          ∧ (s.flag (Reg.TSU + 0x008) 0 = true → (laneValid s 0 = true ∧ laneValid s 1 = true ∧ d.natAbs ≤ s.fld Reg.TSU_AGREE_WINDOW 0 24
                ∨ laneValid s 0 ≠ laneValid s 1 ∧ s.flag Reg.TSU_SINGLE_OK 0 = true ∧ laneValid s (selLane s) = true) →
              timeOk t = timeOk s ∧ t.tsu.okSince = some (s.tsu.okSince.getD s.now))
          ∧ SameRegsBut [Reg.TSU_AB_DIFF, Reg.TSU_SEL_STAT, Reg.TSU + 0x18] s t ∧ SameMemory s t)
      ∧ (∀ k, timeOk s = false → s.tsu.okSince = some k → timeConditions s = true → k + s.fld Reg.TSU_OK_HOLD 0 16 * 200000 ≤ s.now →
          Completes .timeOkRise s fun t => timeOk t = true ∧ t.flag (Reg.TSU + 0x18) 17 = true
            ∧ OnlyRegs [Reg.TSU_SEL_STAT, Reg.TSU + 0x18] s t)
      ∧ (s.tsu.okSince = none ∨ timeOk s = true ∨ timeConditions s = false → Completes .timeOkRise s (· = s))
      ∧ (s.flag Reg.TSU_PPS_OUT_CFG 31 = true → max s.tsu.ppsLast s.tsu.ppsFrom < implementTime s / 1000000000 → Completes .ppsOutPulse s fun t =>
          t.tsu.ppsLast = implementTime s / 1000000000 ∧ t.tsu.ppsEnd = some (s.now + s.fld Reg.TSU_PPS_OUT_CFG 0 20 * 200) ∧ SameRegsBut [] s t)
      ∧ (s.flag Reg.TSU_PPS_OUT_CFG 31 = false ∨ implementTime s / 1000000000 ≤ max s.tsu.ppsLast s.tsu.ppsFrom → Completes .ppsOutPulse s (· = s))
      ∧ (∀ e, s.tsu.ppsEnd = some e → e ≤ s.now → Completes .ppsOutEnd s fun t => t = { s with tsu := { s.tsu with ppsEnd := none } })
      ∧ (∀ (rising : Bool) (back : Nat) (passes : Prop), (passes ↔ s.tsu.ppsLevel ≠ rising ∧ ∀ p, s.tsu.ppsAt = some p →
            (s.fld Reg.TSU_PPS_IN_CFG 16 5 : Int) * perSample s ≤ rootNow s - back - p) →
          (¬passes → Completes (.ppsInEdge rising back) s (· = s))
          ∧ (passes → (s.flag Reg.TSU_PPS_IN_CFG 31 = false ∨ ¬(rising = true ↔ s.fld Reg.TSU_PPS_IN_CFG 28 2 = 0)) →
            Completes (.ppsInEdge rising back) s fun t => t.tsu = { s.tsu with ppsLevel := rising, ppsAt := some (rootNow s - back) }
              ∧ SameRegsBut [] s t)
          ∧ (passes → s.flag Reg.TSU_PPS_IN_CFG 31 = true → (rising = true ↔ s.fld Reg.TSU_PPS_IN_CFG 28 2 = 0) →
          Completes (.ppsInEdge rising back) s fun t => t.flag (Reg.TSU + 0x18) 20 = true ∧ t.tsu.pinUnread = true
            ∧ (back = 0 → s.sfld Reg.TSU_PPS_IN_CFG 0 8 = 0 → t.rd (Reg.TSU_PIN_REG 0) = wordOf s.now
                ∧ t.rd64 (Reg.TSU_PIN_REG 1) = implementTime s
                ∧ t.rd (Reg.TSU_PIN_REG 3) = wordOf ((laneOf s 0).ns % 1000000000) ∧ t.rd (Reg.TSU_PIN_REG 4) = wordOf ((laneOf s 1).ns % 1000000000))
            ∧ (s.tsu.pinUnread = true → t.fld Reg.TSU_PIN_OVR 0 16 = min 0xFFFF (s.fld Reg.TSU_PIN_OVR 0 16 + 1))
            ∧ SameRegsBut [Reg.TSU_PIN_REG 0, Reg.TSU_PIN_REG 1, Reg.TSU_PIN_REG 2, Reg.TSU_PIN_REG 3, Reg.TSU_PIN_REG 4, Reg.TSU_PIN_OVR,
                Reg.TSU + 0x18] s t ∧ SameMemory s t)))
  ∧ (∀ (m : Master) (s : State), Reaches m Reg.TSU_SNAP s → Completes (.snap m) s fun t =>
      t.rd64 (Reg.TSU_S_REG 0) = s.now % 2 ^ 64 ∧ t.rd64 (Reg.TSU_S_REG 2) = implementTime s
      ∧ t.rd64 (Reg.TSU_S_REG 4) = (laneOf s 0).sec ∧ t.rd (Reg.TSU_S_REG 6) = wordOf ((laneOf s 0).ns % 1000000000)
      ∧ t.rd64 (Reg.TSU_S_REG 7) = (laneOf s 1).sec ∧ t.rd (Reg.TSU_S_REG 9) = wordOf ((laneOf s 1).ns % 1000000000)
      ∧ t.flag Reg.TSU_SNAP_STAT 31 = true ∧ t.fld Reg.TSU_SNAP_STAT 0 4 = laneState s 0 ∧ t.fld Reg.TSU_SNAP_STAT 4 4 = laneState s 1
      ∧ t.tsu = s.tsu ∧ SameRegsBut (Reg.TSU_SNAP_STAT :: (List.range 10).map Reg.TSU_S_REG) s t ∧ SameMemory s t)
  ∧ (∀ (k : Nat) (s : State), k < 4 → frozen s 0xE0 = false →
      (s.flag (Reg.TSU_AL_CFG k) 31 = true → s.rd64 (Reg.TSU_AL_TIME_LO k) ≤ implementTime s → Completes (.tsuAlarm k) s fun t =>
        t.flag (Reg.TSU + 0x18) (24 + k) = true
        ∧ (s.rd (Reg.TSU_AL_PERIOD k) = 0 → t.flag (Reg.TSU_AL_CFG k) 31 = false ∧ t.rd64 (Reg.TSU_AL_TIME_LO k) = s.rd64 (Reg.TSU_AL_TIME_LO k))
        ∧ (s.rd (Reg.TSU_AL_PERIOD k) ≠ 0 → t.rd (Reg.TSU_AL_CFG k) = s.rd (Reg.TSU_AL_CFG k)
            ∧ t.rd64 (Reg.TSU_AL_TIME_LO k) = (s.rd64 (Reg.TSU_AL_TIME_LO k) + (s.rd (Reg.TSU_AL_PERIOD k)).toNat) % 2 ^ 64)
        ∧ (s.fld (Reg.TSU_AL_CFG k) 24 2 = 0 → t.tsu = s.tsu)
        ∧ (s.fld (Reg.TSU_AL_CFG k) 24 2 = 1 ∨ s.fld (Reg.TSU_AL_CFG k) 24 2 = 2 → tabGet t.tsu.tpin k false = true)
        ∧ (s.fld (Reg.TSU_AL_CFG k) 24 2 = 3 → tabGet t.tsu.tpin k false = false)
        ∧ SameRegsBut [Reg.TSU_AL_CFG k, Reg.TSU_AL_TIME_LO k, Reg.TSU_AL_TIME_HI k, Reg.TSU + 0x18] s t ∧ SameMemory s t)
      ∧ (s.flag (Reg.TSU_AL_CFG k) 31 = false ∨ implementTime s < s.rd64 (Reg.TSU_AL_TIME_LO k) → Completes (.tsuAlarm k) s (· = s))
      ∧ (∀ e, 0 < e → tabGet s.tsu.tpinEnd k 0 = e → e ≤ s.now + 1 → Completes (.tpinPulseEnd k) s fun t =>
        tabGet t.tsu.tpin k false = false ∧ tabGet t.tsu.tpinEnd k 0 = 0 ∧ SameRegsBut [] s t ∧ SameMemory s t))

/-! ## The section scheduler (spec/19_scheduler.md) -/

/-- Parts of R396 to R399, R404: an insertion is rejected by name, or its entry stands in the calendar with the fire time that the latency of its
channel gives; an entry keeps a place of its own; a closing action that finds the calendar full closes at once, with EARLY (in a disabled
scheduler too: log entry 61); four words leave the queue that inserts; a record waits for room of four words in the completion queue. A T below
the latency has fire time 0 (log entry 62). -/
def Obligations.SchedulerInsertions : Prop :=
  (∀ (w0 w1 w2 w3 : Word) (r : List (List Word)) (s : State), busUp s = true → frozen s 0xE1 = false → s.sch.knatis = [w0, w1, w2, w3] :: r →
    (∀ code, (badAction s w0 w1 = true ∧ code = 3
          ∨ badAction s w0 w1 = false ∧ (∃ e ∈ s.sch.cal, e.ident = bits w0 0 24) ∧ code = 4
          ∨ badAction s w0 w1 = false ∧ (∀ e ∈ s.sch.cal, e.ident ≠ bits w0 0 24) ∧ bits w0 28 4 = 1 ∧ 960 ≤ s.sch.cal.length ∧ code = 1) →
        Completes .schInsert s fun t => t.sch.cal = s.sch.cal ∧ t.sch.knatis = r ∧ t.rd (Reg.SCH_LAST_CMPL 0) = wordOf (0x1000000 * code + bits w0 0 24)
          ∧ t.rd (Reg.SCH_LAST_CMPL 1) = wordOf (0x10000000 + 0x10000 * bits w1 0 6 + bits w0 28 4)
          ∧ t.rd (Reg.SCH_LAST_CMPL 2) = wordOf (implementTime s) ∧ t.rd (Reg.SCH_LAST_CMPL 3) = hiWord (implementTime s)
          ∧ t.fld Reg.SCH_REJECT_CNT 0 16 = min 0xFFFF (s.fld Reg.SCH_REJECT_CNT 0 16 + 1) ∧ t.flag (Reg.SCH + 0x18) 4 = true
          ∧ (s.sch.fifo.length < 16 → t.sch.fifo.length = s.sch.fifo.length + 1)
          ∧ (16 ≤ s.sch.fifo.length → t.sch.fifo = s.sch.fifo ∧ t.fld Reg.SCH_CMPL_LOST 0 16 = min 0xFFFF (s.fld Reg.SCH_CMPL_LOST 0 16 + 1)
              ∧ t.flag (Reg.SCH + 0x18) 5 = true)
          ∧ SameRegsBut [Reg.SCH_LAST_CMPL 0, Reg.SCH_LAST_CMPL 1, Reg.SCH_LAST_CMPL 2, Reg.SCH_LAST_CMPL 3, Reg.SCH_REJECT_CNT, Reg.SCH_CMPL_LOST,
              Reg.SCH + 0x18] s t ∧ SameMemory s t)
    ∧ (badAction s w0 w1 = false → (∀ e ∈ s.sch.cal, e.ident ≠ bits w0 0 24) →
        s.sch.cal.length < (if bits w0 28 4 = 1 then 960 else 1024) → Completes .schInsert s fun t => ∃ e, t.sch.cal = s.sch.cal ++ [e]
          ∧ e.kind = bits w0 28 4 ∧ e.ident = bits w0 0 24 ∧ e.target = bits w1 0 6 ∧ e.knatis = true ∧ e.time = w2.toNat + 2 ^ 32 * w3.toNat
          ∧ (bit w1 31 = true ∨ bits w0 28 4 = 3 → e.fire = e.time)
          ∧ (bit w1 31 = false → bits w0 28 4 = 1 → e.fire = e.time - latOpen s (bits w1 0 6))
          ∧ (bit w1 31 = false → bits w0 28 4 = 2 → e.fire = e.time - latClose s (bits w1 0 6))
          ∧ e.late = decide (e.fire ≤ implementTime s) ∧ e.slot < 1024 ∧ (∀ x ∈ s.sch.cal, x.slot ≠ e.slot)
          ∧ t.sch.knatis = r ∧ t.sch.fifo = s.sch.fifo ∧ t.acts = s.acts ∧ SameRegsBut [] s t
          ∧ SameMemoryBut (0xFC000000 + 32 * e.slot) 32 s t)
    ∧ (badAction s w0 w1 = false → (∀ e ∈ s.sch.cal, e.ident ≠ bits w0 0 24) → 1024 ≤ s.sch.cal.length → bits w0 28 4 = 2 →
        Completes .schInsert s fun t => t.sch.cal = s.sch.cal ∧ (chan t (bits w1 0 6)).gate = false ∧ chFlag t (bits w1 0 6) 0 = false
          ∧ t.rd Reg.SCH_FIRED_CNT = s.rd Reg.SCH_FIRED_CNT + 1 ∧ t.flag (Reg.SCH_LAST_CMPL 1) 30 = true
          ∧ t.rd (Reg.SCH_LAST_CMPL 0) = wordOf (bits w0 0 24)))
  ∧ (∀ s : State, busUp s = true → frozen s 0xE1 = false → s.sch.knatis = [] →
      (insertQueue s = none → Completes .schInsert s (· = s))
      ∧ (∀ (q : Nat) (w0 w1 w2 w3 : Word) (hr : List QWord), insertQueue s = some q →
          (queue s q).head = [{ data := w0 }, { data := w1 }, { data := w2 }, { data := w3 }] ++ hr → badAction s w0 w1 = false →
          (∀ e ∈ s.sch.cal, e.ident ≠ bits w0 0 24) → s.sch.cal.length < 960 → Completes .schInsert s fun t => t.sch.rrFrom = q + 1
            ∧ (∃ e, t.sch.cal = s.sch.cal ++ [e] ∧ e.ident = bits w0 0 24 ∧ e.kind = bits w0 28 4 ∧ e.target = bits w1 0 6 ∧ e.knatis = false
                ∧ (bits w0 28 4 = 1 → bit w1 31 = false → e.fire = e.time - latOpen s (bits w1 0 6)))
            ∧ kept (queue t q).words = kept (hr ++ (queue s q).middle ++ (queue s q).tail) ∧ t.rd (qAddr q 0x3C) = s.rd (qAddr q 0x3C) + 4)
      ∧ (∀ (q : Nat) (w0 w1 w2 w3 : Word) (p0 p1 p2 p3 : Bool) (hr : List QWord), insertQueue s = some q →
          (queue s q).head = [{ data := w0, badParity := p0 }, { data := w1, badParity := p1 }, { data := w2, badParity := p2 },
            { data := w3, badParity := p3 }] ++ hr → (p0 || p1 || p2 || p3) = true → Completes .schInsert s fun t =>
          t.sch.cal = s.sch.cal ∧ t.rd (Reg.SCH_LAST_CMPL 0) = wordOf (0x2000000 + bits w0 0 24) ∧ t.flag (Reg.SCH + 0x18) 4 = true))
  ∧ (∀ (ws : List Word) (r : List (List Word)) (q : Nat) (s : State), busUp s = true → frozen s 0xE1 = false → s.sch.fifo = ws :: r →
      boundProd s 0x40 = some q →
      (qRoom s q 4 = true → Completes .schCompletionPush s fun t => t.sch.fifo = r ∧ t.sch.cal = s.sch.cal
        ∧ ((queue s q).words = [] → ws.length = 4 → kept (queue t q).words = ws.map (fun w => { data := w })))
      ∧ (qRoom s q 4 = false → Completes .schCompletionPush s (· = s)))

/-- Parts of R400 to R403, R406 to R408: the due entry of least F fires, a CLOSE before the OPEN of its channel; its action acts and it leaves
the calendar; an OPEN is dropped when too late, suppressed while time is not trusted, and suppressed under RESTRICT_OPEN, in that order; a
closing action is never suppressed. With the scheduler disabled nothing fires: a due OPEN is skipped, a due closing action waits and will be
late. CANCEL removes by ID, and is refused while one is busy; FLUSH empties the calendar of a disabled scheduler; an entry with an uncorrectable
word is removed. -/
def Obligations.SchedulerFiring : Prop :=
  (∀ (e : CalEntry) (s : State), nextDue s = some e → e ∈ s.sch.cal ∧ entryDue s e = true
      ∧ ∀ x ∈ s.sch.cal, entryDue s x = true → e.fire ≤ x.fire ∧ (x.fire = e.fire → x.kind = 2 → x.target = e.target → e.kind ≠ 1))
  ∧ (∀ s : State, nextDue s = none → ∀ x ∈ s.sch.cal, entryDue s x = false)
  ∧ (∀ (e : CalEntry) (s : State), (entryDue s e = true ↔ e.fire ≤ implementTime s ∧ (e.kind = 1 → tabGet s.sch.closed e.target 0 ≠ s.now + 1)))
  ∧ (∀ (up : Upset) (s : State), frozen s 0xE1 = false → schRuns s = true → nextDue s = none → Completes (.schFire up) s (· = s))
  ∧ (∀ (e : CalEntry) (late tooLate : Bool) (it : Nat) (s : State), frozen s 0xE1 = false → schRuns s = true → nextDue s = some e →
      s.sch.cal.filter (fun x => decide (x.fire = e.fire ∧ x.kind = e.kind ∧ x.target = e.target)) = [e] →
      (∀ k, k < 8 → GoodWord (0xFC000000 + 32 * e.slot + 4 * k) s) →
      late = (e.late || decide (e.fire + 20 < implementTime s)) → it = (if late then implementTime s else e.fire) →
      tooLate = (late && decide (s.fld Reg.SCH_LATE_LIMIT 0 32 + e.fire < implementTime s)) →
      (∀ code, e.kind = 1 → (tooLate = true ∧ code = 5
            ∨ tooLate = false ∧ openTimeOk s = false ∧ code = 6
            ∨ tooLate = false ∧ openTimeOk s = true ∧ restrictOpen s = true ∧ code = 7) →
          Completes (.schFire .none) s fun t => t.sch.cal = s.sch.cal.filter (fun x => x.slot ≠ e.slot) ∧ t.acts = s.acts ∧ t.profs = s.profs
            ∧ t.rd (Reg.SCH_LAST_CMPL 0) = wordOf (0x1000000 * code + e.ident) ∧ t.rd (Reg.SCH_LAST_CMPL 2) = wordOf e.fire
            ∧ t.rd Reg.SCH_FIRED_CNT = s.rd Reg.SCH_FIRED_CNT
            ∧ (code = 5 → t.fld Reg.SCH_DROP_CNT 0 16 = min 0xFFFF (s.fld Reg.SCH_DROP_CNT 0 16 + 1) ∧ t.flag (Reg.SCH + 0x18) 2 = true)
            ∧ (code ≠ 5 → t.fld Reg.SCH_SUPPR_CNT 0 16 = min 0xFFFF (s.fld Reg.SCH_SUPPR_CNT 0 16 + 1) ∧ t.flag (Reg.SCH + 0x18) 3 = true)
            ∧ SameMemory s t)
      ∧ (∀ u : State, e.kind = 1 → e.target < 48 → tooLate = false → openTimeOk s = true →
          restrictOpen s = false → u = { s with sch := { s.sch with cal := s.sch.cal.filter (fun x => x.slot ≠ e.slot) } } →
          Completes (.schFire .none) s fun t => t.sch.cal = s.sch.cal.filter (fun x => x.slot ≠ e.slot)
            ∧ t.rd Reg.SCH_FIRED_CNT = s.rd Reg.SCH_FIRED_CNT + 1
            ∧ t.acts = (actOpen e.target it false u).1.acts
            ∧ ((actOpen e.target it false u).2 ≠ 0 ∨ s.flag Reg.SCH_CFG 1 = true →
                t.rd (Reg.SCH_LAST_CMPL 0) = wordOf e.ident
                ∧ t.fld (Reg.SCH_LAST_CMPL 1) 24 4 = (actOpen e.target it false u).2 % 16))
      ∧ (e.kind = 2 → e.target < 48 → Completes (.schFire .none) s fun t => t.sch.cal = s.sch.cal.filter (fun x => x.slot ≠ e.slot)
            ∧ t.rd Reg.SCH_FIRED_CNT = s.rd Reg.SCH_FIRED_CNT + 1 ∧ (chan t e.target).gate = false ∧ (chan t e.target).boost = false
            ∧ chFlag t e.target 0 = false ∧ tabGet t.sch.closed e.target 0 = s.now + 1
            ∧ (s.flag Reg.SCH_CFG 1 = false → e.late = false → implementTime s ≤ e.fire + 20 → t.sch.fifo = s.sch.fifo)
            ∧ (e.late = true → t.flag (Reg.SCH_LAST_CMPL 1) 31 = true
                ∧ t.fld Reg.SCH_LATE_CNT 0 16 = min 0xFFFF (s.fld Reg.SCH_LATE_CNT 0 16 + 1) ∧ t.flag (Reg.SCH + 0x18) 1 = true))
      ∧ (e.kind = 3 → axisOn s e.target = true → e.target < 16 → (prof s e.target).v ≠ 0 → (prof s e.target).dec = none → profState s e.target ≠ 0 →
          (∀ p0 v0 a b c, (prof s e.target).seg ≠ .stopPhase p0 v0 a b c) → Completes (.schFire .none) s fun t =>
            t.sch.cal = s.sch.cal.filter (fun x => x.slot ≠ e.slot) ∧ profState t e.target = 5 ∧ t.acts = s.acts))
  ∧ (∀ s : State, frozen s 0xE1 = false → schRuns s = false → busUp s = true → Completes (.schFire .none) s fun t =>
      t.sch.cal = (s.sch.cal.filter (fun x => !(decide (x.fire ≤ implementTime s) && x.opens))).map
        (fun x => if x.fire ≤ implementTime s then { x with late := true } else x)
      ∧ t.acts = s.acts ∧ t.profs = s.profs ∧ t.rd Reg.SCH_FIRED_CNT = s.rd Reg.SCH_FIRED_CNT
      ∧ (∀ e, s.sch.cal = [e] → e.kind = 1 → e.fire ≤ implementTime s → t.rd (Reg.SCH_LAST_CMPL 0) = wordOf (0x8000000 + e.ident)))
  ∧ (∀ (m : Master) (ident : Nat) (s : State), Reaches m Reg.SCH_CANCEL s → s.now < s.sch.cancelEnd → Completes (.schCancel m ident) s fun t =>
      t.sch = s.sch ∧ ErrorRecorded Reg.SCH 0x03 0x02 (errDetail (masterCode m) 0x054) s t ∧ OnlyPageRegs [Reg.SCH + 0x20, Reg.SCH + 0x24] s t)
  ∧ (∀ (m : Master) (ident : Nat) (s : State), Reaches m Reg.SCH_CANCEL s → s.sch.cancelEnd ≤ s.now → ident < 2 ^ 24 →
      Completes (.schCancel m ident) s fun t =>
      t.sch.cal = s.sch.cal.filter (fun x => x.ident ≠ ident)
      ∧ t.rd Reg.SCH_CANCEL_STAT = wordOf (s.sch.cal.filter (fun x => x.ident = ident)).length
      ∧ (∀ e, s.sch.cal.filter (fun x => x.ident = ident) = [e] → t.rd (Reg.SCH_LAST_CMPL 0) = wordOf (0x9000000 + ident)
          ∧ t.rd (Reg.SCH_LAST_CMPL 2) = wordOf e.fire)
      ∧ t.acts = s.acts ∧ SameMemory s t)
  ∧ (∀ (m : Master) (s : State), Reaches m Reg.SCH_CMD s →
      (s.flag (Reg.SCH + 0x008) 0 = true → Completes (.schFlush m) s fun t => t.sch = s.sch
        ∧ ErrorRecorded Reg.SCH 0x03 0x01 (errDetail (masterCode m) 0x05C) s t ∧ OnlyPageRegs [Reg.SCH + 0x20, Reg.SCH + 0x24] s t)
      ∧ (s.flag (Reg.SCH + 0x008) 0 = false → Completes (.schFlush m) s fun t => t.sch.cal = [] ∧ t.sch.fifo = s.sch.fifo
        ∧ t.fld Reg.SCH_DISCARD 0 16 = min 0xFFFF (s.fld Reg.SCH_DISCARD 0 16 + s.sch.cal.length)
        ∧ SameRegsBut [Reg.SCH_DISCARD] s t ∧ SameMemory s t))

/-! ## CAN controllers and the schedule matrix (spec/20_can.md) -/

/-- Parts of R62, R414, R415, R418 to R421: integration, errors, protocol exception and recovery; the end of another node's frame stops a
controller whose EN is cleared; a received frame goes where the first matching filter says: to an RX buffer, kept or overwritten, to a queue, or
nowhere; a record leaves the FIFO for its queue, and is lost where that is bound no longer; the snapshot of an RX buffer, the one of its master,
and the clearing of NEW. The counting of TEC and REC is presumed from ISO 11898-1 (log entry 30). -/
def Obligations.CanReception : Prop :=
  (∀ (n : Nat) (s : State), n < 3 → frozen s (0xF0 + n) = false →
      (canOn s n = true → canHalted s n = false →
        ((can s n).st = 0 → Completes (.canIntegrated n) s fun t =>
            (can t n).st = (if 128 ≤ (can s n).tec ∨ 128 ≤ (can s n).recErr then 2 else 1) ∧ (can t n).tec = (can s n).tec ∧ SameRegsBut [] s t)
        ∧ ((can s n).st ≠ 0 → Completes (.canIntegrated n) s (· = s))
        ∧ ((can s n).st = 4 → Completes (.canRecoveryDone n) s fun t => (can t n).st = 1 ∧ (can t n).tec = 0 ∧ (can t n).recErr = 0
            ∧ SameRegsBut [] s t)
        ∧ ((can s n).st ≠ 4 → Completes (.canRecoveryDone n) s (· = s)))
      ∧ (canLive s n = true → canStopping s n = true →
        (∀ (lec : Nat) (eight : Bool), Completes (.canRxError n lec eight) s fun t => t.fld (Reg.CAN n + 0x00C) 0 3 = 4 ∧ (can t n).lec = lec % 8)
        ∧ (∀ (f : CanFrame) (back : Nat), canMode s n ≠ 3 → Completes (.canFrameReceived n f back) s fun t => t.fld (Reg.CAN n + 0x00C) 0 3 = 4))
      ∧ (canLive s n = true → canStopping s n = false →
        (∀ (lec : Nat) (eight : Bool), (can s n).tec ≤ 255 → Completes (.canRxError n lec eight) s fun t =>
            (can t n).recErr = min 255 ((can s n).recErr + (if eight then 8 else 1)) ∧ (can t n).tec = (can s n).tec ∧ (can t n).lec = lec % 8
            ∧ (can t n).st = (if 128 ≤ (can t n).tec ∨ 128 ≤ (can t n).recErr then 2 else 1)
            ∧ ((can s n).recErr < 96 → (can s n).tec < 96 → 96 ≤ (can t n).recErr → t.flag (Reg.CAN n + 0x18) 9 = true)
            ∧ SameRegsBut [Reg.CAN n + 0x18] s t ∧ SameMemory s t)
        ∧ (s.flag (Reg.CAN_CFG n) 16 = true → s.flag (Reg.CAN_CFG n) 20 = true → Completes (.canProtocolException n) s fun t => (can t n).st = 0
            ∧ t.fld (Reg.CAN_PXE_CNT n) 0 16 = min 0xFFFF (s.fld (Reg.CAN_PXE_CNT n) 0 16 + 1) ∧ t.flag (Reg.CAN n + 0x18) 8 = true
            ∧ SameRegsBut [Reg.CAN_PXE_CNT n, Reg.CAN n + 0x18] s t)
        ∧ (s.flag (Reg.CAN_CFG n) 16 = false ∨ s.flag (Reg.CAN_CFG n) 20 = false → Completes (.canProtocolException n) s fun t =>
            (can t n).lec = 2 ∧ (can t n).recErr = min 255 ((can s n).recErr + 1) ∧ SameRegsBut [Reg.CAN n + 0x18] s t)
        ∧ (∀ (f : CanFrame) (back : Nat), canMode s n ≠ 3 →
            (f.fdf = true → s.flag (Reg.CAN_CFG n) 16 = false → Completes (.canFrameReceived n f back) s fun t => (can t n).lec = 2
              ∧ (can t n).recErr = min 255 ((can s n).recErr + 1) ∧ SameRegsBut [Reg.CAN n + 0x18] s t ∧ SameMemory s t)
            ∧ (f.fdf = false ∨ s.flag (Reg.CAN_CFG n) 16 = true →
              ((∀ k, k < 32 → filterMatches s n k f = false) → s.flag (Reg.CAN_CFG n) 4 = false → Completes (.canFrameReceived n f back) s fun t =>
                t.rd (Reg.CAN_RX_CNT n) = s.rd (Reg.CAN_RX_CNT n) + 1 ∧ (can t n).lec = 0
                ∧ ((can s n).recErr ≤ 127 → (can t n).recErr = (can s n).recErr - 1)
                ∧ (127 < (can s n).recErr → 119 ≤ (can t n).recErr ∧ (can t n).recErr ≤ 127)
                ∧ SameRegsBut [Reg.CAN_RX_CNT n, Reg.CAN n + 0x18] s t ∧ SameMemory s t)
              ∧ (∀ k b, k < 32 → filterMatches s n k f = true → (∀ j, j < k → filterMatches s n j f = false) →
                (s.flag (Reg.CAN_FLT_CTL n k) 23 = true → Completes (.canFrameReceived n f back) s fun t =>
                  t.rd (Reg.CAN_RX_CNT n) = s.rd (Reg.CAN_RX_CNT n) + 1 ∧ SameRegsBut [Reg.CAN_RX_CNT n, Reg.CAN n + 0x18] s t)
                ∧ (s.flag (Reg.CAN_FLT_CTL n k) 23 = false → s.flag (Reg.CAN_FLT_CTL n k) 20 = false → b = s.fld (Reg.CAN_FLT_CTL n k) 0 4 →
                  (s.flag (rxbAddr n b 0) 31 = false ∨ s.flag (Reg.CAN_RXB_CFG n) b = false → Completes (.canFrameReceived n f back) s fun t =>
                    t.flag (rxbAddr n b 0) 31 = true ∧ t.flag (rxbAddr n b 0) 30 = s.flag (rxbAddr n b 0) 31
                    ∧ t.fld (rxbAddr n b 0) 8 8 = (s.fld (rxbAddr n b 0) 8 8 + 1) % 256 ∧ t.fld (rxbAddr n b 0) 0 5 = k
                    ∧ t.rd (rxbAddr n b 1) = frameId f ∧ t.rd (rxbAddr n b 2) = frameFormat f
                    ∧ (back ≤ s.now → t.rd (rxbAddr n b 3) = wordOf (s.now - back))
                    ∧ (∀ i, i < (frameData f).length → t.rd (rxbAddr n b (4 + i)) = listGet (frameData f) i 0)
                    ∧ t.flag (Reg.CAN_RXNEW n) b = true ∧ t.flag (Reg.CAN n + 0x18) 0 = true ∧ SameMemory s t)
                  ∧ (s.flag (rxbAddr n b 0) 31 = true → s.flag (Reg.CAN_RXB_CFG n) b = true → Completes (.canFrameReceived n f back) s fun t =>
                    t.fld (Reg.CAN_RX_LOST n) 0 16 = min 0xFFFF (s.fld (Reg.CAN_RX_LOST n) 0 16 + 1) ∧ t.flag (Reg.CAN n + 0x18) 7 = true
                    ∧ SameRegsBut [Reg.CAN_RX_CNT n, Reg.CAN_RX_LOST n, Reg.CAN n + 0x18] s t ∧ SameMemory s t))
                ∧ (s.flag (Reg.CAN_FLT_CTL n k) 23 = false → s.flag (Reg.CAN_FLT_CTL n k) 20 = true →
                  (rxQueue s n (s.fld (Reg.CAN_FLT_CTL n k) 16 2) = none → Completes (.canFrameReceived n f back) s fun t =>
                    t.fld (Reg.CAN_RX_LOST n) 0 16 = min 0xFFFF (s.fld (Reg.CAN_RX_LOST n) 0 16 + 1) ∧ (can t n).fifo = (can s n).fifo
                    ∧ t.queues = s.queues)
                  ∧ (∀ q, rxQueue s n (s.fld (Reg.CAN_FLT_CTL n k) 16 2) = some q → s.flag (qAddr q 0x10) 2 = false →
                    ((can s n).fifo.length < 4 → Completes (.canFrameReceived n f back) s fun t =>
                      (can t n).fifo = (can s n).fifo ++ [(q, [frameId f, frameFormat f, wordOfInt ((s.now : Int) - back)] ++ frameData f)]
                      ∧ t.queues = s.queues)
                    ∧ (4 ≤ (can s n).fifo.length → Completes (.canFrameReceived n f back) s fun t => (can t n).fifo = (can s n).fifo
                      ∧ t.fld (Reg.CAN_RX_LOST n) 0 16 = min 0xFFFF (s.fld (Reg.CAN_RX_LOST n) 0 16 + 1) ∧ t.queues = s.queues)))))))
      ∧ (∀ (q : Nat) (ws : List Word) (r : List (Nat × List Word)), (can s n).fifo = (q, ws) :: r → s.fld (qAddr q 0x10) 8 8 ≠ 0x30 + n →
        Completes (.canRxQueuePush n) s fun t => (can t n).fifo = r ∧ t.queues = s.queues
          ∧ t.fld (Reg.CAN_RX_LOST n) 0 16 = min 0xFFFF (s.fld (Reg.CAN_RX_LOST n) 0 16 + 1) ∧ t.flag (Reg.CAN n + 0x18) 7 = true)
      ∧ (∀ (q : Nat) (ws : List Word) (r : List (Nat × List Word)), busUp s = true → (can s n).fifo = (q, ws) :: r →
          s.fld (qAddr q 0x10) 8 8 = 0x30 + n →
        (qRoom s q (recordRoom s q ws) = false → Completes (.canRxQueuePush n) s (· = s))
        ∧ (qRoom s q (recordRoom s q ws) = true → Completes (.canRxQueuePush n) s fun t => (can t n).fifo = r
            ∧ (s.flag (qAddr q 0x10) 1 = false → (queue s q).words = [] → ws.length ≤ 12 → (queue s q).pktOpen = false →
                kept (queue t q).words = ws.map (fun w => { data := w })))))
  ∧ (∀ (m : Master) (n b : Nat) (v : Word) (s : State), n < 3 → b < 16 → Reaches m (rxbAddr n b 0) s →
      (Completes (.canRxbSnapshot m n b) s fun t => t.pages.answer = { data := s.rd (rxbAddr n b 0), error := false }
        ∧ (∀ w, w < 20 → 0 < w → (rxbRead n b w m t).1 = s.rd (rxbAddr n b w))
        ∧ (∀ k i w, k < 3 → i < 16 → k ≠ n → (rxbRead k i w m t).1 = t.rd (rxbAddr k i w)) ∧ SameRegsBut [] s t ∧ SameMemory s t)
      ∧ (bit v 31 = true → bits v 8 8 = s.fld (rxbAddr n b 0) 8 8 → Completes (.canRxbNewClear m n b v) s fun t =>
        t.rd (rxbAddr n b 0) = putBit (s.rd (rxbAddr n b 0)) 31 false ∧ t.flag (Reg.CAN_RXNEW n) b = false
        ∧ OnlyPageRegs [rxbAddr n b 0, Reg.CAN_RXNEW n] s t)
      ∧ (bit v 31 = false ∨ bits v 8 8 ≠ s.fld (rxbAddr n b 0) 8 8 → Completes (.canRxbNewClear m n b v) s (OnlyPageRegs [] s)))

/-- Parts of R410, R412, R415, R422 to R424: a commit, a request and a cancel of one buffer, each with its refusals, that of a commit that waited
for its attempt's end among them; the frame that an arbitration start offers; its success, its loss and its error, with the delay measured, the
retry of a free frame and the end of a SINGLE one; bus-off and CMD.RECOVER. -/
def Obligations.CanTransmission : Prop :=
  (∀ (m : Master) (n b : Nat) (s : State), n < 3 → b < 16 →
      (Reaches m (Reg.CAN_TXCOMMIT n) s →
        (badFrame s n b = true → Completes (.canTxcommit m n (wordOf (2 ^ b))) s fun t => t.cans = s.cans
          ∧ ErrorRecorded (Reg.CAN n) 0x03 0x03 (errDetail (masterCode m) 0x06C) s t)
        ∧ (badFrame s n b = false → attempting s n b = false → Completes (.canTxcommit m n (wordOf (2 ^ b))) s fun t =>
          canTx t n b = { canTx s n b with active := staging s n b } ∧ (∀ k, k ≠ b → canTx t n k = canTx s n k) ∧ SameRegsBut [] s t)
        ∧ (badFrame s n b = false → attempting s n b = true → Completes (.canTxcommit m n (wordOf (2 ^ b))) s fun t =>
          canTx t n b = { canTx s n b with commitDue := some m } ∧ SameRegsBut [] s t))
      ∧ (Reaches m (Reg.CAN_TXREQ n) s →
        (mtxOwns s n b = true → Completes (.canTxreq m n (wordOf (2 ^ b))) s fun t => t.cans = s.cans
          ∧ ErrorRecorded (Reg.CAN n) 0x03 0x04 (errDetail (masterCode m) 0x064) s t)
        ∧ (mtxOwns s n b = false → (canTx s n b).pending = false → (canTx s n b).cancelAt ≠ some s.now →
          Completes (.canTxreq m n (wordOf (2 ^ b))) s fun t =>
            canTx t n b = { canTx s n b with pending := true, result := 0, cancelLate := false, winOverrun := false } ∧ SameRegsBut [] s t)
        ∧ (mtxOwns s n b = false → (canTx s n b).pending = false → (canTx s n b).cancelAt = some s.now →
          Completes (.canTxreq m n (wordOf (2 ^ b))) s fun t => canTx t n b = { canTx s n b with result := 2 }))
      ∧ (Reaches m (Reg.CAN_TXCANCEL n) s →
        (attempting s n b = true → Completes (.canTxcancel m n (wordOf (2 ^ b))) s fun t => canTx t n b = { canTx s n b with cancelLate := true }
          ∧ t.flag (Reg.CAN n + 0x18) 4 = true ∧ SameRegsBut [Reg.CAN n + 0x18] s t)
        ∧ (attempting s n b = false → (canTx s n b).pending = true → Completes (.canTxcancel m n (wordOf (2 ^ b))) s fun t =>
          (canTx t n b).pending = false ∧ (canTx t n b).result = 2 ∧ (canTx t n b).active = (canTx s n b).active ∧ SameRegsBut [] s t))
      ∧ (Reaches m (Reg.CAN_CMD n) s →
        ((can s n).st = 3 → Completes (.canRecover m n) s fun t => can t n = { can s n with st := 4 } ∧ SameRegsBut [] s t)
        ∧ ((can s n).st ≠ 3 → Completes (.canRecover m n) s (OnlyPageRegs [] s))))
  ∧ (∀ (n b : Nat) (s : State), offered s n = some (b, none) → (∀ w ∈ (can s n).wins, w.done = true ∨ w.closed = true)
      ∧ b < 16 ∧ (canTx s n b).pending = true ∧ mtxOwns s n b = false
      ∧ ∀ k, k < 16 → (canTx s n k).pending = true → mtxOwns s n k = false →
        arbKey (canTx s n b).active < arbKey (canTx s n k).active ∨ arbKey (canTx s n b).active = arbKey (canTx s n k).active ∧ b ≤ k)
  ∧ (∀ (n b : Nat) (w : CanWin) (s : State), (∀ x ∈ (can s n).wins, x.entry < 64) → offered s n = some (b, some w) →
      w ∈ (can s n).wins ∧ w.buf = b ∧ w.done = false ∧ w.closed = false ∧ ∀ x ∈ (can s n).wins, x.done = false → x.closed = false →
        w.start < x.start ∨ w.start = x.start ∧ w.entry ≤ x.entry)
  ∧ (∀ (n : Nat) (s : State), frozen s (0xF0 + n) = false → n < 3 →
      (canSends s n = true → (can s n).onBus = none →
        (offered s n = none → Completes (.canArbitrationStart n) s (· = s))
        ∧ (∀ b w, offered s n = some (b, w) → Completes (.canArbitrationStart n) s fun t =>
            (can t n).onBus = some { buf := b, entry := w.map CanWin.entry, start := (w.map CanWin.start).getD 0, sof := s.now,
                                     words := (canTx s n b).active } ∧ attempting t n b = true
            ∧ SameRegsBut [] s t))
      ∧ (canSends s n = false ∨ (can s n).onBus ≠ none → Completes (.canArbitrationStart n) s (· = s))
      ∧ (∀ (a : CanAttempt) (staged : Prop), (can s n).onBus = some a → a.entry = none → a.buf < 16 → canStopping s n = false →
            (staged ↔ (canTx s n a.buf).commitDue ≠ none) → ∀ delay : Nat,
          (canMode s n ≠ 3 → Completes (.canTxDone n delay) s fun t => (can t n).onBus = none ∧ (canTx t n a.buf).pending = false
            ∧ (canTx t n a.buf).result = 1 ∧ (canTx t n a.buf).count = ((canTx s n a.buf).count + 1) % 256
            ∧ (canTx t n a.buf).stamp = wordOf a.sof ∧ (canTx t n a.buf).winOverrun = false ∧ (can t n).tec = (can s n).tec - 1
            ∧ (staged → badFrame s n a.buf = false → (canTx t n a.buf).active = staging s n a.buf)
            ∧ (¬staged ∨ badFrame s n a.buf = true → (canTx t n a.buf).active = (canTx s n a.buf).active)
            ∧ (∀ m, (canTx s n a.buf).commitDue = some m → badFrame s n a.buf = true →
                ErrorRecorded (Reg.CAN n) 0x03 0x03 (errDetail (masterCode m) 0x06C) s t)
            ∧ (canTx t n a.buf).commitDue = none
            ∧ t.flag (Reg.CAN_TXDONE n) a.buf = true ∧ t.flag (Reg.CAN n + 0x18) 1 = true
            ∧ t.rd (Reg.CAN_TX_CNT n) = s.rd (Reg.CAN_TX_CNT n) + 1
            ∧ (s.flag (Reg.CAN_TDC n) 31 = true → bit (listGet a.words 1 0) 31 = true → (can t n).delay = min 127 delay
                ∧ (127 < delay → (can t n).tdcOvf = true))
            ∧ (¬staged → SameRegsBut [Reg.CAN_TXDONE n, Reg.CAN_TX_CNT n, Reg.CAN n + 0x18] s t) ∧ SameMemory s t)
          ∧ (∀ (how : TxFail) (lec : Nat), how.lost = true → bit (listGet a.words 1 0) 28 = false → Completes (.canTxError n how lec) s fun t =>
            (can t n).onBus = none ∧ (canTx t n a.buf).pending = (canTx s n a.buf).pending ∧ (canTx t n a.buf).result = (canTx s n a.buf).result
            ∧ (can t n).tec = (can s n).tec ∧ (can t n).delay = (can s n).delay ∧ (¬staged → SameRegsBut [] s t))
          ∧ (∀ (how : TxFail) (lec : Nat), how.lost = true → bit (listGet a.words 1 0) 28 = true → Completes (.canTxError n how lec) s fun t =>
            (can t n).onBus = none ∧ (canTx t n a.buf).pending = false ∧ (canTx t n a.buf).result = 3 ∧ t.flag (Reg.CAN n + 0x18) 2 = true
            ∧ (¬staged → SameRegsBut [Reg.CAN n + 0x18] s t))
          ∧ (∀ (how : TxFail) (lec : Nat), how.lost = false → (can s n).st = 1 → bit (listGet a.words 1 0) 28 = false →
              Completes (.canTxError n how lec) s fun t =>
            (can t n).onBus = none ∧ (can t n).tec = min 256 ((can s n).tec + 8) ∧ (can t n).lec = lec % 8
            ∧ (how.delay = some delay → s.flag (Reg.CAN_TDC n) 31 = true → bit (listGet a.words 1 0) 31 = true →
                (can t n).delay = min 127 delay ∧ (127 < delay → (can t n).tdcOvf = true))
            ∧ (canTx t n a.buf).pending = (canTx s n a.buf).pending
            ∧ ((can t n).tec = 256 → (can t n).st = (if s.flag (Reg.CAN_CFG n) 12 then 4 else 3) ∧ t.flag (Reg.CAN n + 0x18) 6 = true)
            ∧ ((can t n).tec ≤ 255 → (can t n).st = if 128 ≤ (can t n).tec ∨ 128 ≤ (can s n).recErr then 2 else 1)
            ∧ (¬staged → SameRegsBut [Reg.CAN n + 0x18] s t))))

/-- Parts of R425, R426, R428: the instance of a window that an implement time selects; a cycle start brings the entries into force; a window
opens once, never again after a backward step nor before its entry took effect, and one passed whole is missed; at its close a frame without SOF
is missed, one on the bus goes on, and its success then carries WIN_OVERRUN while its failure is missed. -/
def Obligations.CanScheduleMatrix : Prop :=
  (∀ (n : Nat) (a b : Word) (s : State), bits b 0 6 < instPeriod s n b →
      winStart s n a (lastStarted s n a b) ≤ implementTime s
      ∧ (implementTime s : Int) < winStart s n a (lastStarted s n a b + instPeriod s n b)
      ∧ lastStarted s n a b % (instPeriod s n b : Int) = bits b 0 6)
  ∧ (∀ (n e : Nat) (a b : Word) (s : State), frozen s (0xF0 + n) = false → n < 3 →
      (mtxRuns s n = true → (can s n).cycle ≠ some (cycAt s n (implementTime s)) → Completes (.mtxCycleStart n) s fun t =>
        (can t n).cycle = some (cycAt s n (implementTime s)) ∧ (∀ k, k < 64 → mtxForce t n k = mtxReg s n k)
        ∧ (∀ k, k < 64 → bit (mtxReg s n k).1 31 = true → mtxReg s n k ≠ mtxForce s n k →
            firstInst t n k = some (max ((firstInst s n k).getD (cycAt s n (implementTime s) - 1)) (cycAt s n (implementTime s) - 1)))
        ∧ (can t n).wins = (can s n).wins ∧ SameRegsBut [] s t)
      ∧ ((can s n).cycle = some (cycAt s n (implementTime s)) → Completes (.mtxCycleStart n) s (· = s))
      ∧ (∀ f : Int, mtxRuns s n = true → e < 64 → mtxForce s n e = (a, b) → bit a 31 = true → bits b 0 6 < instPeriod s n b →
            f = (firstInst s n e).getD (lastStarted s n a b - 1) →
        (lastStarted s n a b ≤ f → Completes (.mtxWindowOpen n e) s (· = s))
        ∧ (f < lastStarted s n a b → lastStarted s n a b ≤ f + instPeriod s n b →
            (implementTime s : Int) < winStart s n a (lastStarted s n a b) + bits b 16 16 * 1000 → Completes (.mtxWindowOpen n e) s fun t =>
          (can t n).wins = (can s n).wins ++ [{ entry := e, buf := bits a 24 4, single := bit a 30, start := winStart s n a (lastStarted s n a b),
                                                 close := winStart s n a (lastStarted s n a b) + bits b 16 16 * 1000, done := false, closed := false }]
          ∧ firstInst t n e = some (lastStarted s n a b) ∧ (canTx t n (bits a 24 4)).result = 0
          ∧ (canTx t n (bits a 24 4)).active = (canTx s n (bits a 24 4)).active ∧ SameRegsBut [] s t)
        ∧ (f < lastStarted s n a b → lastStarted s n a b ≤ f + instPeriod s n b →
            winStart s n a (lastStarted s n a b) + bits b 16 16 * 1000 ≤ implementTime s → Completes (.mtxWindowOpen n e) s fun t =>
          (can t n).wins = (can s n).wins ∧ t.fld (Reg.CAN_SLOT_MISSED n) 0 16 = min 0xFFFF (s.fld (Reg.CAN_SLOT_MISSED n) 0 16 + 1)
          ∧ t.flag (Reg.CAN n + 0x18) 3 = true ∧ (canTx t n (bits a 24 4)).result = 4
          ∧ SameRegsBut [Reg.CAN_SLOT_MISSED n, Reg.CAN n + 0x18] s t))
      ∧ (∀ w : CanWin, winOf s n e = some w → w ∈ (can s n).wins ∧ w.entry = e ∧ w.closed = false)
      ∧ (∀ w : CanWin, winOf s n e = some w →
        ((implementTime s : Int) < w.close → Completes (.mtxWindowClose n e) s (· = s))
        ∧ (w.close ≤ implementTime s → w.done = false → (∀ x, (can s n).onBus = some x → usesWin x w = false) →
            Completes (.mtxWindowClose n e) s fun t =>
          (can t n).wins = (can s n).wins.filter (fun x => decide (x ≠ w)) ∧ (canTx t n w.buf).result = 4 ∧ t.flag (Reg.CAN n + 0x18) 3 = true
          ∧ t.fld (Reg.CAN_SLOT_MISSED n) 0 16 = min 0xFFFF (s.fld (Reg.CAN_SLOT_MISSED n) 0 16 + 1)
          ∧ SameRegsBut [Reg.CAN_SLOT_MISSED n, Reg.CAN n + 0x18] s t)
        ∧ (w.close ≤ implementTime s → w.done = true → Completes (.mtxWindowClose n e) s fun t =>
          (can t n).wins = (can s n).wins.filter (fun x => decide (x ≠ w)) ∧ SameRegsBut [] s t)
        ∧ (∀ x, w.close ≤ implementTime s → w.done = false → (can s n).onBus = some x → usesWin x w = true → Completes (.mtxWindowClose n e) s fun t =>
          (can t n).wins = (can s n).wins.filter (fun x => decide (x ≠ w)) ++ [{ w with closed := true }] ∧ (can t n).onBus = some x ∧ SameRegsBut [] s t))
      ∧ (∀ (x : CanAttempt) (w : CanWin), (can s n).onBus = some x → x.entry = some e → x.buf < 16 → w ∈ (can s n).wins → usesWin x w = true →
          w.closed = true → (∀ y ∈ (can s n).wins, usesWin x y = true → y = w) → canStopping s n = false →
        (∀ delay, canMode s n ≠ 3 → Completes (.canTxDone n delay) s fun t => (canTx t n x.buf).result = 1 ∧ (canTx t n x.buf).winOverrun = true
          ∧ attemptWin t n x = none ∧ (can t n).onBus = none ∧ t.fld (Reg.CAN_SLOT_MISSED n) 0 16 = s.fld (Reg.CAN_SLOT_MISSED n) 0 16)
        ∧ (∀ (how : TxFail) (lec : Nat), how.lost = true → Completes (.canTxError n how lec) s fun t =>
          (canTx t n x.buf).result = 4 ∧ attemptWin t n x = none ∧ (can t n).onBus = none
          ∧ t.fld (Reg.CAN_SLOT_MISSED n) 0 16 = min 0xFFFF (s.fld (Reg.CAN_SLOT_MISSED n) 0 16 + 1))))

/-! ## The Knatis switch and protocol (spec/21_knatis.md) -/

/-- Parts of R445 to R449, R451 to R453: the checks in order, each with its rejection; an accepted frame updates its sender's window whether or
not it is meant for this device; an ENUM request gives the position and is answered 2 000 ns later; a SECT hands its own entries to the scheduler
or is counted; a BEAT restarts the age of its source and loads the virtual masters; a CFG frame goes to the local ring only. Tags are of an
uninterpreted CMAC (log entry 22); the frames of these clauses but the KEY_EMPTY one carry none. -/
def Obligations.KnatisProtocol : Prop :=
  ∀ (p : Nat) (b pl : List Byte) (s : State), KnatisArrives p b pl s →
    (∀ r, (knatisWellFormed s p pl = false ∧ r = 0
          ∨ knatisWellFormed s p pl = true ∧ (crc32Bytes (pl.take (20 + beAt pl 6 2)) ≠ beAt pl (20 + beAt pl 6 2) 4 ∧ r = 1
            ∨ crc32Bytes (pl.take (20 + beAt pl 6 2)) = beAt pl (20 + beAt pl 6 2) 4 ∧
              (authNeeded s (beAt pl 0 1 % 16) = true ∧ beAt pl 1 1 < 128 ∧ r = 2
                ∨ 128 ≤ beAt pl 1 1 ∧ s.flag (Reg.SEC_SLOT_CFG (s.fld Reg.KSW_KNT_CFG 8 4)) 16 = false ∧ r = 3
                ∨ authNeeded s (beAt pl 0 1 % 16) = false ∧ beAt pl 1 1 < 128 ∧ beAt pl 3 1 = s.fld Reg.KSW_POS 0 7
                  ∧ (enumRequest pl = false ∨ s.flag Reg.KSW_POS 31 = true) ∧ r = 5
                ∨ authNeeded s (beAt pl 0 1 % 16) = false ∧ beAt pl 1 1 < 128
                  ∧ (beAt pl 3 1 ≠ s.fld Reg.KSW_POS 0 7 ∨ enumRequest pl = true ∧ s.flag Reg.KSW_POS 31 = false) ∧ seqInWindow s pl = false ∧ r = 6))) →
        Completes (.kswFrameRx p b true) s fun t => t.flag (Reg.KSW + 0x18) (16 + r) = true
          ∧ t.fld Reg.KSW_KNT_REJ 0 16 = min 0xFFFF (s.fld Reg.KSW_KNT_REJ 0 16 + 1) ∧ t.ksw.seqs = s.ksw.seqs ∧ t.sch = s.sch
          ∧ t.ksw.rejects = (if 2 ≤ r ∧ r ≤ 4 then s.now :: s.ksw.rejects else s.ksw.rejects)
          ∧ t.rd (Reg.MAC_RX_FRAMES p) = s.rd (Reg.MAC_RX_FRAMES p) + 1
          ∧ SameRegsBut [Reg.MAC_RX_FRAMES p, Reg.KSW_KNT_REJ, Reg.KSW + 0x18] s t ∧ SameMemory s t)
    ∧ (KnatisPasses p pl s →
      (beAt pl 0 1 % 16 ≠ 3 → Completes (.kswFrameRx p b true) s fun t => t.ksw.seqs.find? (fun x => x.1 == seqKey pl) = some (seqKey pl, beAt pl 4 2))
      ∧ (addressed s pl = false → Completes (.kswFrameRx p b true) s fun t => t.sch = s.sch ∧ t.profs = s.profs
          ∧ SameRegsBut [Reg.MAC_RX_FRAMES p] s t ∧ SameMemory s t)
      ∧ (enumRequest pl = true → 127 < beAt pl 20 1 → Completes (.kswFrameRx p b true) s fun t => t.rd Reg.KSW_POS = s.rd Reg.KSW_POS
          ∧ t.flag (Reg.KSW + 0x18) 24 = true)
      ∧ (enumRequest pl = true → beAt pl 20 1 ≤ 127 →
          (s.flag Reg.KSW_POS 31 = false ∨ beAt pl 21 1 % 2 = 1 → Completes (.kswFrameRx p b true) s fun t =>
            t.rd Reg.KSW_POS = wordOf (0x80000000 + beAt pl 20 1) ∧ t.flag (Reg.KSW + 0x18) 23 = true)
          ∧ (s.flag Reg.KSW_POS 31 = true → beAt pl 21 1 % 2 = 0 → Completes (.kswFrameRx p b true) s fun t =>
            t.rd Reg.KSW_POS = s.rd Reg.KSW_POS ∧ t.flag (Reg.KSW + 0x18) 23 = true)
          ∧ (∀ c, PlainSend c s → c < 8 → portUp s 0 = true → authNeeded s 1 = false → (s.flag Reg.KSW_POS 31 = false ∨ beAt pl 21 1 % 2 = 1) →
            Completes (.kswFrameRx p b true) s fun t => ∃ f, egress t 0 c = egress s 0 c ++ [f] ∧ f.notBefore = s.now + 400 ∧ f.len = 62
              ∧ f.data.take 14 = beBytes 6 0x034B4E5400FF ++ beBytes 6 (ownMac s) ++ beBytes 2 0x88B5
              ∧ beAt f.data 14 4 = 0x11100000 + 0x100 * beAt pl 3 1 + beAt pl 20 1 ∧ beAt f.data 18 2 = tabGet s.ksw.own 1 0 % 0x10000
              ∧ beAt f.data 20 2 = 24
              ∧ beAt f.data 34 2 = 0x100 * beAt pl 20 1 + (if 1 < portsOf s.variant ∧ linkUp s 1 = true then 0 else 2)
              ∧ beAt f.data 54 4 = (s.rd (Reg.SYS_CAP 0)).toNat ∧ beAt f.data 58 4 = crc32Bytes ((f.data.drop 14).take 44)))
      ∧ (beAt pl 0 1 % 16 = 2 → addressed s pl = true →
          (s.flag Reg.KSW_POS 31 = true → s.flag Reg.SCH_CFG 0 = true → Completes (.kswFrameRx p b true) s fun t => ∃ l,
            t.sch.knatis = s.sch.knatis ++ l
            ∧ l.length = ((List.range (beAt pl 20 1)).filter fun k => decide (beAt pl (26 + 16 * k) 4 / 256 % 128 = s.fld Reg.KSW_POS 0 7)).length
            ∧ ∀ ws ∈ l, ∃ k, k < beAt pl 20 1 ∧ beAt pl (26 + 16 * k) 4 / 256 % 128 = s.fld Reg.KSW_POS 0 7 ∧ ws.length = 4
                ∧ listGet ws 0 0 = wordOf (beAt pl (22 + 16 * k) 4) ∧ listGet ws 1 0 = wordOf (beAt pl (26 + 16 * k) 4) &&& 0xFFFF80FF
                ∧ (listGet ws 2 0).toNat + 2 ^ 32 * (listGet ws 3 0).toNat = beAt pl (30 + 16 * k) 8)
          ∧ (s.flag Reg.KSW_POS 31 = false ∨ s.flag Reg.SCH_CFG 0 = false → Completes (.kswFrameRx p b true) s fun t => t.sch = s.sch
            ∧ t.fld Reg.KSW_SECT_IGNORED 0 16 = min 0xFFFF (s.fld Reg.KSW_SECT_IGNORED 0 16 + 1)))
      ∧ (beAt pl 0 1 % 16 = 4 → addressed s pl = true → Completes (.kswFrameRx p b true) s fun t =>
          (∀ k, k < 4 → (s.flag (Reg.KSW_BEAT_SRC k) 31 = true → s.fld (Reg.KSW_BEAT_SRC k) 0 8 = beAt pl 3 1 → beatAge t k = 0)
            ∧ (s.flag (Reg.KSW_BEAT_SRC k) 31 = false ∨ s.fld (Reg.KSW_BEAT_SRC k) 0 8 ≠ beAt pl 3 1 → beatAge t k = beatAge s k))
          ∧ (beAt pl 21 1 = 1 → ∀ n, n < axesOf s.variant →
            (s.flag (Reg.AX_VM_CTRL n) 8 = true → s.fld (Reg.AX_VM_CTRL n) 0 4 = beAt pl 24 1 → (prof t n).vmP0 = signed 64 (beAt pl 28 8)
              ∧ (prof t n).vmRate = signed 32 (beAt pl 36 4) ∧ (prof t n).vmT0 = beAt pl 40 8)
            ∧ (s.flag (Reg.AX_VM_CTRL n) 8 = false ∨ s.fld (Reg.AX_VM_CTRL n) 0 4 ≠ beAt pl 24 1 → prof t n = prof s n)))
      ∧ (beAt pl 0 1 % 16 = 5 → addressed s pl = true → s.rd Reg.KSW_LRX_LEN = 0 → Completes (.kswFrameRx p b true) s fun t => t.sch = s.sch
          ∧ t.profs = s.profs ∧ t.rd Reg.KSW_POS = s.rd Reg.KSW_POS ∧ t.flag (Reg.KSW + 0x18) 3 = true
          ∧ t.fld Reg.KSW_LRX_LOST 0 16 = min 0xFFFF (s.fld Reg.KSW_LRX_LOST 0 16 + 1)))

/-- Parts of R430, R432, R434, R436, R437, R439, R446, R447, R451, R452, R454, R455: what a MAC counts; the frame a port takes up, also where its
reads starve, and its end; aging; the gate lists; the history of a stream; the own BEAT; the checks of lines 87 and 88; SEQ_RESET and POS; a
transmit descriptor taken; MDIO. -/
def Obligations.KnatisSwitch : Prop :=
  (∀ (p : Nat) (b : List Byte) (s : State), frozen s 0xF8 = false → frozen s (0xF9 + p) = false → p < portsOf s.variant →
      (portsRun s = false ∨ macOn s p = false ∧ macStopping s p = false →
        Completes (.kswFrameRx p b true) s (· = s) ∧ Completes (.kswFrameRx p b false) s (· = s))
      ∧ (portsRun s = true → macOn s p = true ∨ macStopping s p = true →
        (1518 < b.length → Completes (.kswFrameRx p b false) s fun t => t.flag (Reg.MAC p + 0x18) 3 = true
            ∧ t.fld (Reg.MAC_RX_FCS_ERR p) 0 16 = min 0xFFFF (s.fld (Reg.MAC_RX_FCS_ERR p) 0 16 + 1)
            ∧ t.fld (Reg.MAC_RX_OVERSIZE p) 0 16 = min 0xFFFF (s.fld (Reg.MAC_RX_OVERSIZE p) 0 16 + 1)
            ∧ OnlyRegs [Reg.MAC_RX_FCS_ERR p, Reg.MAC_RX_OVERSIZE p, Reg.MAC p + 0x18] s t)
        ∧ (b.length < 60 ∨ kswOn s = false ∧ b.length ≤ 1518 → Completes (.kswFrameRx p b false) s fun t => t.flag (Reg.MAC p + 0x18) 3 = true
            ∧ t.fld (Reg.MAC_RX_FCS_ERR p) 0 16 = min 0xFFFF (s.fld (Reg.MAC_RX_FCS_ERR p) 0 16 + 1)
            ∧ OnlyRegs [Reg.MAC_RX_FCS_ERR p, Reg.MAC p + 0x18] s t)
        ∧ (1518 < b.length → Completes (.kswFrameRx p b true) s fun t =>
            t.fld (Reg.MAC_RX_OVERSIZE p) 0 16 = min 0xFFFF (s.fld (Reg.MAC_RX_OVERSIZE p) 0 16 + 1) ∧ OnlyRegs [Reg.MAC_RX_OVERSIZE p] s t)
        ∧ (60 ≤ b.length → b.length ≤ 1518 → kswOn s = false ∨ (parseFrame b).sa = ownMac s → Completes (.kswFrameRx p b true) s fun t =>
            t.rd (Reg.MAC_RX_FRAMES p) = s.rd (Reg.MAC_RX_FRAMES p) + 1 ∧ OnlyRegs [Reg.MAC_RX_FRAMES p] s t)
        ∧ (60 ≤ b.length → b.length ≤ 1518 → kswOn s = true → (parseFrame b).sa ≠ ownMac s → ringEnd s p = true → streamOf s b = none →
            (s.ksw.dyn.filter fun x => x.1 != (parseFrame b).sa).length < 256 → Completes (.kswFrameRx p b true) s fun t =>
            t.ksw.dyn.find? (fun x => x.1 == (parseFrame b).sa) = some ((parseFrame b).sa, (p, s.now)) ∧ t.ksw.queues = s.ksw.queues
            ∧ t.ksw.wires = s.ksw.wires ∧ SameRegsBut [Reg.MAC_RX_FRAMES p] s t ∧ SameMemory s t)))
  ∧ (∀ (p : Nat) (f : OutFrame) (s : State), nextFrame s p = some f → ∃ c, c < 8 ∧ (egress s p c).head? = some f ∧ f.notBefore ≤ s.now
      ∧ gateOpenFor s p c (implementTime s) (((if f.strip then f.len - 4 else f.len) + 12) * 80) = true
      ∧ ∀ d g, c < d → d < 8 → (egress s p d).head? = some g →
          s.now < g.notBefore ∨ gateOpenFor s p d (implementTime s) (((if g.strip then g.len - 4 else g.len) + 12) * 80) = false)
  ∧ (∀ (p : Nat) (x : EgressRead) (s : State), frozen s 0xF8 = false → frozen s (0xF9 + p) = false →
      (portUp s p = false ∨ kswOn s = false ∨ wireOf s p ≠ none ∨ s.now < tabGet s.ksw.idleFrom p 0 ∨ nextFrame s p = none →
        Completes (.kswEgressStart p x) s (· = s))
      ∧ (∀ f, portUp s p = true → kswOn s = true → wireOf s p = none → tabGet s.ksw.idleFrom p 0 ≤ s.now → nextFrame s p = some f → x.starved = true →
          f.slot ≠ none → Completes (.kswEgressStart p x) s fun t => (∃ w, wireOf t p = some w ∧ w.bad = true)
            ∧ egress t p f.cls = (egress s p f.cls).drop 1 ∧ t.flag (Reg.MAC p + 0x18) 4 = true
            ∧ t.fld (Reg.MAC_TX_UNDERRUN p) 0 16 = min 0xFFFF (s.fld (Reg.MAC_TX_UNDERRUN p) 0 16 + 1))
      ∧ (∀ f, portUp s p = true → kswOn s = true → wireOf s p = none → tabGet s.ksw.idleFrom p 0 ≤ s.now → nextFrame s p = some f → f.slot = none →
          f.ingress = none → f.strip = false → Completes (.kswEgressStart p x) s fun t => wireOf t p = some { bytes := f.data, sfd := s.now + 128, bad := false, frame := { f with data := [] } }
          ∧ egress t p f.cls = (egress s p f.cls).drop 1 ∧ SameRegsBut [] s t ∧ SameMemory s t)
      ∧ (∀ w, busUp s = true → wireOf s p = some w → w.frame.ltx = none →
        (w.sfd + 16 * (w.bytes.length + 4) ≤ s.now → Completes (.kswEgressDone p) s fun t => wireOf t p = none
          ∧ t.rd (Reg.MAC_TX_FRAMES p) = s.rd (Reg.MAC_TX_FRAMES p) + 1 ∧ SameRegsBut [Reg.MAC_TX_FRAMES p] s t ∧ SameMemory s t)
        ∧ (s.now < w.sfd + 16 * (w.bytes.length + 4) → Completes (.kswEgressDone p) s (· = s)))
      ∧ (gclRuns s p = false → ∀ c it dur, gateOpenFor s p c it dur = true)
      ∧ (p < portsOf s.variant → busUp s = true →
        (∀ e, s.ksw.gate.find? (fun x => x.1 == p) = some (p, (gclCyc s p (implementTime s), e)) → Completes (.gclEntryChange p) s fun t =>
          operList t p = operList s p ∧ SameRegsBut [] s t)
        ∧ (∀ x, s.flag (Reg.KSW_GCL_CTRL p) 30 = true → s.ksw.gate.find? (fun y => y.1 == p) = some x → x.2.1 ≠ gclCyc s p (implementTime s) →
          Completes (.gclEntryChange p) s fun t => operList t p = adminList s p ∧ t.flag (Reg.KSW_GCL_CTRL p) 30 = false
            ∧ SameRegsBut [Reg.KSW_GCL_CTRL p] s t ∧ SameMemory s t))
      ∧ (busUp s = false → Completes (.gclEntryChange p) s (· = s)))
  ∧ (∀ s : State, frozen s 0xF8 = false → busUp s = true →
      (∀ sa, Completes (.kswAgeOut sa) s fun t => t.ksw.dyn = s.ksw.dyn.filter (fun x => !(decide (x.1 = sa ∧ x.2.2 + s.fld Reg.KSW_AGE_TIME 0 16 * 200000000 ≤ s.now)))
        ∧ SameRegsBut [] s t)
      ∧ (∀ k h, histOf s k = some h → h.last + s.fld (Reg.KSW_STR_CFG k) 0 12 * 200000 ≤ s.now → Completes (.streamHistoryReset k) s fun t =>
        histOf t k = none ∧ SameRegsBut [] s t)
      ∧ (∀ k h, histOf s k = some h → s.now < h.last + s.fld (Reg.KSW_STR_CFG k) 0 12 * 200000 → Completes (.streamHistoryReset k) s (· = s))
      ∧ (Completes .beatAgeCheck s fun t => ∃ u, t = lineCheck 87 (beatLate s) u ∧ SameRegsBut [Reg.KSW + 0x18] s u
          ∧ (∀ k, k < 4 → s.flag (Reg.KSW_BEAT_SRC k) 31 = true → s.fld Reg.KSW_BEAT_TIMEOUT 0 16 ≤ beatAge s k → k ∉ s.ksw.beatOver →
              u.flag (Reg.KSW + 0x18) 25 = true))
      ∧ (Completes .kntAuthUpdate s fun t => ∃ u,
          t = lineCheck 88 (decide (s.fld Reg.KSW_KNT_CFG 0 8 ≤ (s.ksw.rejects.filter fun x => decide (s.now < x + 200000000)).length)) u
          ∧ u.ksw.rejects = s.ksw.rejects.filter (fun x => decide (s.now < x + 200000000)) ∧ SameRegsBut [] s u)
      ∧ (kswOn s = true → portsRun s = true → s.flag Reg.KSW_BEAT_CFG 31 = true →
        (s.now < s.ksw.beatFrom + s.fld Reg.KSW_BEAT_CFG 0 16 * 200 → Completes .beatTx s (· = s))
        ∧ (s.ksw.beatFrom + s.fld Reg.KSW_BEAT_CFG 0 16 * 200 ≤ s.now → ∀ c, c < 8 → PlainSend c s → authNeeded s 4 = false → coxState s < 8 →
          Completes .beatTx s fun t => t.ksw.beatFrom = s.now ∧ tabGet t.ksw.own 4 0 = (tabGet s.ksw.own 4 0 + 1) % 0x10000
            ∧ (∀ p, p < 2 → portUp s p = true → ∃ f, egress t p c = egress s p c ++ [f] ∧ beAt f.data 14 4 = 0x14200000 + s.fld Reg.KSW_POS 0 7
                ∧ beAt f.data 20 2 = 4 ∧ beAt f.data 34 4 = 0x1000000 * (coxState s * 32 + (if timeOk s then 16 else 0) + (if laneValid s 0 then 8 else 0)
                    + (if laneValid s 1 then 4 else 0)))
            ∧ SameRegsBut [] s t)))
  ∧ (∀ (m : Master) (s : State), Reaches m Reg.KSW_KNT_CMD s → Completes (.seqReset m) s fun t => t.ksw = { s.ksw with seqs := [] } ∧ SameRegsBut [] s t)
  ∧ (∀ (m : Master) (v : Word) (s : State), Reaches m Reg.KSW_POS s → cfgLocked s 0xF8 = false →
      (holdsOpening s 0xF8 m = true → Completes (.posWrite m v) s fun t => t.rd Reg.KSW_POS = storeValue (defOf .ksw 0x600) (s.rd Reg.KSW_POS) v
        ∧ OnlyPageRegs [Reg.KSW_POS] s t)
      ∧ (holdsOpening s 0xF8 m = false → Completes (.posWrite m v) s fun t => t.rd Reg.KSW_POS = s.rd Reg.KSW_POS
        ∧ ErrorRecorded Reg.KSW 0x01 0x04 (errDetail (masterCode m) 0x600) s t))
  ∧ (∀ (m : Master) (s : State), Reaches m Reg.KSW_LTX_KICK s →
      (kswOn s = false ∨ s.rd Reg.KSW_LTX_LEN = 0 ∨ frozen s 0xF8 = true → Completes (.ltxKick m) s (OnlyPageRegs [] s))
      ∧ (∀ (buf ctl : Word), frozen s 0xF8 = false → kswOn s = true → portsRun s = true → s.rd Reg.KSW_LTX_LEN = 1 → s.ksw.ltx = 0 → ltxHeld s 0 = false →
          isSram s.variant (descAddr s 1 0 + 15) = true → GoodWord (descAddr s 1 0) s → GoodWord (descAddr s 1 0 + 4) s →
          s.busWord (descAddr s 1 0) = buf → s.busWord (descAddr s 1 0 + 4) = ctl →
        (bit ctl 31 = false → Completes (.ltxKick m) s fun t => t.ksw = s.ksw ∧ SameRegsBut [] s t ∧ SameMemory s t)
        ∧ (bit ctl 31 = true → bits ctl 0 11 < 14 ∨ 1518 < bits ctl 0 11 → Completes (.ltxKick m) s fun t => t.flag (Reg.KSW + 0x18) 4 = true
          ∧ t.ksw.queues = s.ksw.queues)
        ∧ (∀ c k, bit ctl 31 = true → bit ctl 22 = false → 60 ≤ bits ctl 0 11 → bits ctl 0 11 ≤ 1518 →
            (∀ j, j < (bits ctl 0 11 + 3) / 4 → isSram s.variant (buf.toNat / 4 * 4 + 4 * j) = true ∧ GoodWord (buf.toNat / 4 * 4 + 4 * j) s) →
            bits ctl 24 2 = 1 → portUp s 0 = true → (∀ j, j < 32 → s.flag (Reg.KSW_STR_CFG j) 31 = false) → s.flag Reg.KSW_CFG 4 = false →
            s.flag Reg.KSW_CFG 16 = false → freeBuf s = some k → c < 8 →
            staticClass s (beAt ((List.range 2).flatMap fun j => wordBytes (s.busWord (buf.toNat / 4 * 4 + 4 * j))) 0 6) = some c →
          Completes (.ltxKick m) s fun t => ∃ f, egress t 0 c = egress s 0 c ++ [f] ∧ f.len = bits ctl 0 11 ∧ f.slot = some k ∧ f.ltx = some 0
            ∧ f.ingress = none ∧ t.ksw.ltx = 0)))
  ∧ (∀ (p : Nat) (s : State), frozen s (0xF9 + p) = false → p < portsOf s.variant → portsRun s = true →
      (∀ up, (macOn s p = true → s.flag (Reg.MAC_CFG p) 8 = true → s.flag (Reg.MAC_LINK_STAT p) 0 ≠ up → Completes (.mdioPoll p up) s fun t =>
          t.flag (Reg.MAC_LINK_STAT p) 0 = up ∧ t.flag (Reg.MAC p + 0x18) (if up then 0 else 1) = true ∧ t.ksw.phy.contains p = up
          ∧ SameRegsBut [Reg.MAC_LINK_STAT p, Reg.MAC p + 0x18] s t)
        ∧ (macOn s p = false ∨ s.flag (Reg.MAC_CFG p) 8 = false ∨ s.flag (Reg.MAC_LINK_STAT p) 0 = up → Completes (.mdioPoll p up) s fun t =>
          t.ksw.phy.contains p = up ∧ SameRegsBut [] s t))
      ∧ (∀ (v : Word) (data : Nat), s.ksw.mdio.find? (fun x => x.1 == p) = some (p, v) → Completes (.mdioDone p data) s fun t =>
          t.flag (Reg.MAC_MDIO_CMD p) 31 = false ∧ t.flag (Reg.MAC p + 0x18) 2 = true ∧ t.ksw.mdio.find? (fun x => x.1 == p) = none
          ∧ (t.rd (Reg.MAC_MDIO_DATA p) = if bit v 26 then s.rd (Reg.MAC_MDIO_DATA p) else wordOf (data % 0x10000))
          ∧ SameRegsBut [Reg.MAC_MDIO_CMD p, Reg.MAC_MDIO_DATA p, Reg.MAC p + 0x18] s t)
      ∧ (∀ data, s.ksw.mdio.find? (fun x => x.1 == p) = none → Completes (.mdioDone p data) s (· = s)))
  ∧ (∀ (m : Master) (p : Nat) (v : Word) (s : State), p < 2 → Reaches m (Reg.MAC_MDIO_CMD p) s →
      (s.flag (Reg.MAC_MDIO_CMD p) 31 = true → Completes (.mdioCmd m p v) s fun t => t.ksw = s.ksw
        ∧ ErrorRecorded (Reg.MAC p) 0x03 0x01 (errDetail (masterCode m) 0x050) s t ∧ OnlyPageRegs [Reg.MAC p + 0x20, Reg.MAC p + 0x24] s t)
      ∧ (s.flag (Reg.MAC_MDIO_CMD p) 31 = false → Completes (.mdioCmd m p v) s fun t => t.rd (Reg.MAC_MDIO_CMD p) = v &&& 0x87FFFFFF
        ∧ (bit v 31 = true → t.ksw.mdio.find? (fun x => x.1 == p) = some (p, v)) ∧ SameRegsBut [Reg.MAC_MDIO_CMD p] s t))

/-! ## The Ladle (spec/22_ladle.md) -/

/-- Parts of R450, R459, R460, R462 to R465, R469, R470: arming, its completion at a window boundary or at the first sample instant of another
source, disarm and disable; local and network fires, and those ignored and counted; an event edge that acts once; samples gathered into windows
and reduced; a waiting word written to the ring. The sample instants are the sender's (log entry 64). -/
def Obligations.LadleCaptures : Prop :=
  (∀ (m : Master) (c : Nat) (s : State), c < 4 → Reaches m (Reg.LDL_CMD c) s →
      (ldlOn (s.attach m) = true → (cap s c).st = 1 → Completes (.ldlArm m c) s fun t => (cap t c).st = 2 ∧ (cap t c).armFrom = implementTime s
          ∧ (cap t c).armRoot = rootNow s ∧ (cap t c).netArm = (cap s c).netArm ∧ SameRegsBut [] s t)
      ∧ (ldlOn (s.attach m) = false ∨ (cap s c).st ≠ 1 → Completes (.ldlArm m c) s (OnlyPageRegs [] s))
      ∧ (ldlOn (s.attach m) = true → (cap s c).st ≠ 0 → Completes (.ldlDisarm m c) s fun t => (cap t c).st = 1 ∧ (cap t c).record = none ∧ (cap t c).pending = none
          ∧ (cap t c).netFire = none ∧ (cap t c).netArm = (cap s c).netArm ∧ ((cap s c).st ≠ 4 → SameRegsBut [] s t ∧ SameMemory s t ∧ t.queues = s.queues))
      ∧ (ldlOn (s.attach m) = true → (cap s c).st = 3 → trigSource s c = 0 → streams s c = false → s.flag (Reg.LDL_CFG c) 25 = false →
          Completes (.ldlFire m c) s fun t => (cap t c).st = 4 ∧ t.flag (Reg.LDL + 0x18) (8 * c + 1) = true
            ∧ (∃ r, (cap t c).record = some r ∧ r.trigRoot = rootNow s - s.sfld (Reg.LDL_TRIG_SKEW c) 0 16 ∧ r.net = false ∧ r.timeOk = timeOk s
                ∧ r.opened = false ∧ (s.sfld (Reg.LDL_TRIG_SKEW c) 0 16 = 0 → r.trigIt = implementTime s
                    ∧ r.preArm = decide (implementTime s < s.rd64 (Reg.LDL_ARM_IT_LO c))))
            ∧ SameRegsBut [Reg.LDL + 0x18] s t ∧ SameMemory s t)
      ∧ (ldlOn (s.attach m) = true → trigSource s c = 0 → (cap s c).st ≠ 3 → (∀ r, (cap s c).record = some r → r.firedAt ≠ s.now) →
          Completes (.ldlFire m c) s fun t => t.fld Reg.LDL_FIRE_IGNORED 0 16 = min 0xFFFF (s.fld Reg.LDL_FIRE_IGNORED 0 16 + 1)
            ∧ (cap t c).st = (cap s c).st ∧ SameRegsBut [Reg.LDL_FIRE_IGNORED] s t)
      ∧ (trigSource s c ≠ 0 ∨ ldlOn (s.attach m) = false → Completes (.ldlFire m c) s (OnlyPageRegs [] s)))
  ∧ (∀ (m : Master) (c : Nat) (s : State), c < 4 → Reaches m (Reg.LDL_CFG c) s → cfgLocked s 0xD8 = false → s.flag (Reg.LDL_CFG c) 31 = true →
      (cap s c).st ≠ 4 → Completes (.ldlCaptureDisable m c) s fun t => (cap t c).st = 0 ∧ (cap t c).record = none ∧ (cap t c).pending = none
        ∧ (cap t c).netArm = [] ∧ t.rd (Reg.LDL_CFG c) = putBit (s.rd (Reg.LDL_CFG c)) 31 false ∧ SameRegsBut [Reg.LDL_CFG c] s t ∧ SameMemory s t)
  ∧ (∀ (c : Nat) (s : State), c < 4 → ldlOn s = true →
      ((cap s c).st ≠ 2 → Completes (.ldlArmComplete c 0) s (· = s))
      ∧ (∀ n b, n = windowNs s c → 0 < n → b = ((cap s c).armFrom + n - 1) / n * n → (cap s c).st = 2 → byPeriod s c = true →
          s.flag (Reg.TSU + 0x008) 0 = true →
        (implementTime s < b → Completes (.ldlArmComplete c 0) s (· = s))
        ∧ (b ≤ implementTime s → b < 2 ^ 64 → (cap s c).pending = none → Completes (.ldlArmComplete c 0) s fun t =>
            t.rd64 (Reg.LDL_ARM_IT_LO c) = b ∧ t.flag (Reg.LDL + 0x18) (8 * c) = true ∧ (cap t c).wins = [] ∧ (cap t c).nextNum = 0
            ∧ (streams s c = false → (cap t c).st = 3 ∧ (cap t c).record = none)
            ∧ (streams s c = true → (cap t c).st = 4 ∧ ∃ r, (cap t c).record = some r ∧ r.trigIt = b)
            ∧ SameRegsBut [Reg.LDL_ARM_IT_LO c, Reg.LDL_ARM_IT_HI c, Reg.LDL + 0x18] s t ∧ SameMemory s t)
        ∧ (∀ it, b ≤ implementTime s → b < 2 ^ 64 → (cap s c).pending = some it → it ≤ implementTime s → streams s c = false →
            Completes (.ldlArmComplete c 0) s fun t => (cap t c).st = 4 ∧ ∃ r, (cap t c).record = some r ∧ r.trigIt = it ∧ r.net = true
              ∧ r.preArm = decide (it < b)))
      ∧ ((cap s c).st = 2 → byPeriod s c = false →
        ((cap s c).due.find? (fun d => decide ((cap s c).armRoot ≤ d)) ≠ some (rootNow s) → Completes (.ldlArmComplete c 0) s (· = s))
        ∧ ((cap s c).due.find? (fun d => decide ((cap s c).armRoot ≤ d)) = some (rootNow s) → (cap s c).pending = none → streams s c = false →
            Completes (.ldlArmComplete c 0) s fun t => t.rd64 (Reg.LDL_ARM_IT_LO c) = implementTime s % 2 ^ 64 ∧ (cap t c).st = 3 ∧ (cap t c).nextNum = 0
              ∧ t.flag (Reg.LDL + 0x18) (8 * c) = true)))
  ∧ (∀ (c k : Nat) (v : Int) (s : State), c < 4 → ldlOn s = true → (cap s c).st = 3 → byPeriod s c = false → trigSource s c ≠ 1 →
      (∀ l, (cap s c).last = some l → l < rootNow s) → capProbes s c = [k] → v = signalValue s (s.fld (Reg.LDL_PRB k) 0 9) 0 →
      (cap s c).win = none → (cap s c).samples = 0 → (cap s c).acc = [] → (cap s c).record = none → 1 < capW s c →
      (rootNow s ∉ (cap s c).due → Completes (.ldlSample c 0) s (· = s))
      ∧ (rootNow s ∈ (cap s c).due → Completes (.ldlSample c 0) s fun t =>
          (cap t c).win = some { num := (cap s c).nextNum, start := implementTime s, root := rootNow s } ∧ (cap t c).nextNum = (cap s c).nextNum + 1
          ∧ (cap t c).samples = 1 ∧ (cap t c).acc = [(k, { first := v, least := v, most := v, sum := v, squares := (v * v).toNat })]
          ∧ (cap t c).last = some (rootNow s) ∧ rootNow s ∉ (cap t c).due ∧ SameRegsBut [] s t ∧ SameMemory s t))
  ∧ (∀ (c k id : Nat) (a : LdlAcc) (w : LdlWin) (v : Int) (s : State), c < 4 → ldlOn s = true → ((cap s c).st = 3 ∨ (cap s c).st = 4) →
      byPeriod s c = false → (∀ l, (cap s c).last = some l → l < rootNow s) → rootNow s ∈ (cap s c).due → trigSource s c ≠ 1 → capProbes s c = [k] → id = s.fld (Reg.LDL_PRB k) 0 9 → v = signalValue s id 0 →
      (cap s c).win = some w → (cap s c).acc = [(k, a)] →
      ((cap s c).samples + 1 < capW s c → Completes (.ldlSample c 0) s fun t => (cap t c).last = some (rootNow s) ∧ (cap t c).samples = (cap s c).samples + 1
          ∧ (cap t c).acc = [(k, { a with least := min a.least v, most := max a.most v, sum := a.sum + v, squares := a.squares + (v * v).toNat })]
          ∧ (cap t c).fifo = (cap s c).fifo ∧ SameRegsBut [] s t ∧ SameMemory s t)
      ∧ ((cap s c).samples + 1 = capW s c → (cap s c).coming = [] → (cap s c).fifo.length + 4 ≤ 64 → Completes (.ldlSample c 0) s fun t =>
          (cap t c).win = none ∧ (cap t c).samples = 0
          ∧ (s.fld (Reg.LDL_PRB k) 16 4 = 0 → (cap t c).fifo = (cap s c).fifo ++ [wordOfInt a.first])
          ∧ (s.fld (Reg.LDL_PRB k) 16 4 = 3 → (cap t c).fifo = (cap s c).fifo ++ [wordOfInt (min a.least v), wordOfInt (max a.most v)])
          ∧ (s.fld (Reg.LDL_PRB k) 16 4 = 4 → (cap t c).fifo = (cap s c).fifo
              ++ [wordOfInt (convergent (((a.sum + v : Int) : Rat) / (((cap s c).samples + 1 : Nat) : Rat)))])
          ∧ (s.fld (Reg.LDL_PRB k) 16 4 = 8 → (cap t c).fifo = (cap s c).fifo
              ++ [wordOf ((a.squares + (v * v).toNat) / (((cap s c).samples + 1) * 32768))])
          ∧ (cap t c).wins = (cap s c).wins ++ [{ w with place := (cap s c).written + (cap s c).fifo.length,
                                                         len := (cap t c).fifo.length - (cap s c).fifo.length, stepped := false }]
          ∧ SameRegsBut [] s t ∧ SameMemory s t))
  ∧ (∀ (c : Nat) (s : State), c < 4 → ldlOn s = true →
      (∀ e at_, e = s.fld (Reg.LDL_TRIG c) 8 6 → trigSource s c = 2 → (cap s c).st = 3 → streams s c = false → s.flag (Reg.LDL_CFG c) 25 = false →
          (sourceOn s e = true ∧ e ∉ s.pages.ldlSeen ∧ at_ = s.now
            ∨ (sourceOn s e = false ∨ e ∈ s.pages.ldlSeen) ∧ (cap s c).evAt = some at_) →
        Completes (.ldlEventTrigger c) s fun t => (cap t c).st = 4 ∧ t.flag (Reg.LDL + 0x18) (8 * c + 1) = true
          ∧ (∃ r, (cap t c).record = some r ∧ r.trigRoot = at_ * 4 - s.sfld (Reg.LDL_TRIG_SKEW c) 0 16) ∧ (cap t c).evAt = none
          ∧ SameRegsBut [Reg.LDL + 0x18] s t)
      ∧ (trigSource s c ≠ 2 ∨ (sourceOn s (s.fld (Reg.LDL_TRIG c) 8 6) = false ∨ s.fld (Reg.LDL_TRIG c) 8 6 ∈ s.pages.ldlSeen) ∧ (cap s c).evAt = none →
          Completes (.ldlEventTrigger c) s (· = s))
      ∧ (trigSource s c = 4 → s.rd64 (Reg.LDL_FIRE_AT_LO c) = implementTime s → (cap s c).timeSeen ≠ some (implementTime s) → (cap s c).st = 3 →
          streams s c = false → s.flag (Reg.LDL_CFG c) 25 = false → s.sfld (Reg.LDL_TRIG_SKEW c) 0 16 = 0 → Completes (.ldlTimeTrigger c) s fun t =>
        (cap t c).st = 4 ∧ (∃ r, (cap t c).record = some r ∧ r.trigIt = implementTime s ∧ r.trigRoot = rootNow s)
        ∧ (cap t c).timeSeen = some (implementTime s) ∧ SameRegsBut [Reg.LDL + 0x18] s t)
      ∧ (trigSource s c ≠ 4 ∨ implementTime s < s.rd64 (Reg.LDL_FIRE_AT_LO c) → Completes (.ldlTimeTrigger c) s (· = s))
      ∧ (∀ it, (cap s c).netFire = some it → (cap s c).st = 3 →
        (it ≤ implementTime s → Completes (.ldlNetFireTime c) s fun t => (cap t c).st = 4 ∧ (∃ r, (cap t c).record = some r ∧ r.trigIt = it ∧ r.net = true)
          ∧ (cap t c).netFire = none ∧ SameRegsBut [Reg.LDL + 0x18] s t)
        ∧ (implementTime s < it → Completes (.ldlNetFireTime c) s (· = s)))
      ∧ (∀ it r, (cap s c).netArm.filter (fun t => decide (t ≤ implementTime s)) = it :: r → (cap s c).st = 1 → Completes (.ldlNetArmTime c) s fun t =>
          (cap t c).st = 2 ∧ (cap t c).armFrom = it ∧ (cap t c).netArm = (cap s c).netArm.filter (fun t => decide (implementTime s < t)) ∧ SameRegsBut [] s t)
      ∧ ((∀ it ∈ (cap s c).netArm, implementTime s < it) → Completes (.ldlNetArmTime c) s (· = s))
      ∧ (∀ w r n a, (cap s c).fifo = w :: r → n = ringWords s c → 0 < n → a = (s.rd (Reg.LDL_HIST_BASE c)).toNat + 4 * ((cap s c).written % n) →
          isSram s.variant a = true → a % 4 = 0 → s.flag Reg.MEM_INJECT 31 = false → (∀ y ∈ (cap s c).wins, (cap s c).written < y.place + n) →
        Completes (.ldlRingWrite c 1) s fun t => (cap t c).fifo = r ++ (cap s c).coming.take 1 ∧ (cap t c).coming = (cap s c).coming.drop 1
          ∧ (cap t c).written = (cap s c).written + 1 ∧ (cap t c).wins = (cap s c).wins
          ∧ t.rawWord a = w ∧ SameMemoryBut a 4 s t ∧ SameRegsBut [] s t))
  ∧ (∀ (p c it : Nat) (b pl : List Byte) (s : State), KnatisArrives p b pl s → KnatisPasses p pl s → addressed s pl = true → beAt pl 0 1 % 16 = 3 →
      c = beAt pl 21 1 → it = beAt pl 24 8 → s.flag Reg.KSW_KNT_CFG 26 = false → s.hasPage 0xD8 = true →
      (4 ≤ c → Completes (.kswFrameRx p b true) s fun t => t.ldl = s.ldl
          ∧ t.fld Reg.LDL_FIRE_IGNORED 0 16 = min 0xFFFF (s.fld Reg.LDL_FIRE_IGNORED 0 16 + 1))
      ∧ (c < 4 → ldlOn s = false ∨ s.flag (Reg.LDL_CFG c) 24 = false → Completes (.kswFrameRx p b true) s fun t => t.ldl = s.ldl)
      ∧ (c < 4 → ldlOn s = true → s.flag (Reg.LDL_CFG c) 24 = true →
        (beAt pl 20 1 = 1 → (cap s c).st = 1 → it ≤ implementTime s → Completes (.kswFrameRx p b true) s fun t => (cap t c).st = 2)
        ∧ (beAt pl 20 1 = 1 → (cap s c).st ≠ 0 → implementTime s < it → Completes (.kswFrameRx p b true) s fun t => (cap t c).st = (cap s c).st
            ∧ (cap t c).netArm = (cap s c).netArm ++ [it])
        ∧ (beAt pl 20 1 = 2 → (cap s c).st = 1 ∨ (cap s c).st = 2 → Completes (.kswFrameRx p b true) s fun t => (cap t c).pending = some it
            ∧ (cap t c).st = (cap s c).st)
        ∧ (beAt pl 20 1 = 2 → (cap s c).st = 3 → streams s c = false → it ≤ implementTime s → Completes (.kswFrameRx p b true) s fun t =>
            (cap t c).st = 4 ∧ ∃ r, (cap t c).record = some r ∧ r.trigIt = it ∧ r.net = true)
        ∧ (beAt pl 20 1 = 2 → (cap s c).st = 3 → streams s c = false → implementTime s < it → Completes (.kswFrameRx p b true) s fun t =>
            (cap t c).st = 3 ∧ ((cap s c).netFire = none → (cap t c).netFire = some it)
            ∧ (∀ u, (cap s c).netFire = some u → (cap t c).netFire = some (min it u)
                ∧ t.fld Reg.LDL_FIRE_IGNORED 0 16 = min 0xFFFF (s.fld Reg.LDL_FIRE_IGNORED 0 16 + 1)))))

/-- Parts of R467 to R469: a record waits or is lost while its queue refuses it; its header goes first, and its trailer last, after which a
SINGLE capture is DONE and a REPEAT one ARMED. -/
def Obligations.LadleRecords : Prop :=
  ∀ (c q : Nat) (r : LdlRec) (s : State), c < 4 → ldlOn s = true → q = capQueue s c → (cap s c).record = some r → r.firedAt ≠ s.now →
    s.fld (Reg.LDL_CFG c) 28 2 ≤ 1 → s.flag (qAddr q 0x10) 1 = true → queuePresent s q = true →
    (r.opened = false → qRoom s q 1 = false → s.flag (qAddr q 0x10) 2 = false → Completes (.ldlRecordPush c) s fun t =>
        cap t c = { cap s c with record := some { r with held := true } } ∧ SameMemory s t ∧ (queue t q).words = (queue s q).words
        ∧ (r.held = true → t.queues = s.queues ∧ SameRegsBut [] s t)
        ∧ (r.held = false → (queue t q).lastRefused = true
            ∧ t.fld (qAddr q 0x44) 0 16 = min 0xFFFF (s.fld (qAddr q 0x44) 0 16 + 1)))
    ∧ (r.opened = false → qRoom s q 1 = false → s.flag (qAddr q 0x10) 2 = true → Completes (.ldlRecordPush c) s fun t =>
        t.fld (Reg.LDL_LOST_CNT c) 0 16 = min 0xFFFF (s.fld (Reg.LDL_LOST_CNT c) 0 16 + 1) ∧ t.flag (Reg.LDL + 0x18) (8 * c + 5) = true
        ∧ (cap t c).record = none ∧ (s.fld (Reg.LDL_CFG c) 28 2 = 0 → (cap t c).st = 5 ∧ t.flag (Reg.LDL + 0x18) (8 * c + 2) = true)
        ∧ (s.fld (Reg.LDL_CFG c) 28 2 = 1 → (cap t c).st = 3) ∧ t.rd (Reg.LDL_SEQ c) = s.rd (Reg.LDL_SEQ c) + 1)
    ∧ (∀ z w, r.opened = false → r.header = false → r.trailer = false → r.out = [] → r.zero = some z → (cap s c).wins = [] → (cap s c).win = some w →
        r.next ≤ w.num → w.num < z + capPost s c → qRoom s q 7 = true → (queue s q).words = [] → (queue s q).pktOpen = false →
        Completes (.ldlRecordPush c) s fun t => t.rd (Reg.LDL_SEQ c) = s.rd (Reg.LDL_SEQ c) + 1 ∧ (queue t q).pktOpen = true ∧ (queue t q).pktLen = 6
          ∧ kept (queue t q).words = { data := 0, reserved := true } :: ([wordOf (0x80000000 * s.fld Reg.KSW_POS 31 1 + 0x1000000 * s.fld Reg.KSW_POS 0 7
                + 0x100000 * c + 1), s.rd (Reg.LDL_SEQ c), wordOf r.trigIt, hiWord r.trigIt, wordOfInt (r.trigRoot / 4),
              wordOfInt (clampI (-2147483647) 2147483647 (w.root - r.trigRoot))].map fun x => { data := x })
          ∧ (∃ r', (cap t c).record = some r' ∧ r'.opened = true ∧ r'.header = true ∧ r'.out = []))
    ∧ (∀ z f, r.opened = true → r.header = true → r.trailer = false → r.out = [] → r.zero = some z → (cap s c).wins = [] → (cap s c).win = none →
        z + capPost s c ≤ (cap s c).nextNum → qRoom s q 2 = true → (queue s q).pktOpen = true →
        (queue s q).words = [{ data := 0, reserved := true }] →
        f = (if r.preArm then 2 else 0) + (if r.preShort then 4 else 0) + (if recOverflow s c r then 8 else 0) + (if r.step then 16 else 0)
          + (if r.net then 32 else 0) + (if r.timeOk then 64 else 0) + (if r.poison then 128 else 0) →
        Completes (.ldlRecordPush c) s fun t => (cap t c).record = none ∧ (queue t q).pktOpen = false
          ∧ ((kept (queue t q).words).map fun x => x.data).drop 1 = [wordOf f, wordOf (0x10000 * (r.before % 0x10000) + r.after % 0x10000)]
          ∧ (s.fld (Reg.LDL_CFG c) 28 2 = 0 → (cap t c).st = 5 ∧ t.flag (Reg.LDL + 0x18) (8 * c + 2) = true)
          ∧ (s.fld (Reg.LDL_CFG c) 28 2 = 1 → (cap t c).st = 3 ∧ t.flag (Reg.LDL + 0x18) (8 * c) = true) ∧ SameMemory s t)

/-! ## The always-on domain, pads and GPIO (spec/23_always_on.md, spec/26_package_pins.md) -/

/-- Parts of R472, R473, R475 to R477, R479, R480, R482 to R484: the switch of the supply and the way back; the domain's own reset, which holds
it until VIN is back (log entry 78); calibration by a whole measurement and the loss of the crystal; a keyed set; an alarm; the WAKE pin; a
ladder measurement and a re-seat of the gauge, with the state that both give. -/
def Obligations.AlwaysOnDomain : Prop :=
  (∀ s : State, s.power.aonLost = true → Completes .aonSwitchToVbat s (· = s) ∧ Completes .aonReturnToVin s (· = s) ∧ Completes .xtal32Fail s (· = s)
      ∧ (∀ k, Completes (.rtcAlarm k) s (· = s)) ∧ (∀ rising, Completes (.wakePinEdge rising) s (· = s))
      ∧ ∀ mv drawn, Completes (.vbatMeasure mv drawn) s (· = s))
  ∧ (∀ s : State,
      (s.power.under.contains .vin = true → Completes .aonPor s fun t => (∀ a, isRegAddr a = true → pageOf a = 0x24 → t.rd a = resetWord s.variant a)
          ∧ (∀ a, isRegAddr a = false ∨ pageOf a ≠ 0x24 → t.rd a = s.rd a) ∧ rtcSeconds t = 0 ∧ t.flag Reg.AON_AON_STAT 30 = true
          ∧ (∀ k, k < 64 → t.rd (Reg.AON_BKP k) = 0) ∧ t.power.aonLost = true ∧ t.power.wakeHeld = 0 ∧ SameMemory s t)
      ∧ (s.power.under.contains .vin = false → Completes .aonPor s (· = s))
      ∧ (∀ n : Nat, busUp s = true → s.aon.meas = 262144 → Completes (.rtcCalDone n) s fun t => t.rd Reg.AON_RC_MEAS = wordOf n
          ∧ t.flag (Reg.AON + 0x18) 3 = true ∧ t.aon = { s.aon with meas := 0 }
          ∧ (t.rd Reg.AON_RTC_TRIM = if s.flag Reg.AON_RTC_CFG 31 then wordOfInt (5 * ((n : Int) - 200000000)) else s.rd Reg.AON_RTC_TRIM)
          ∧ SameRegsBut [Reg.AON_RC_MEAS, Reg.AON_RTC_TRIM, Reg.AON + 0x18] s t ∧ SameMemory s t)
      ∧ (busUp s = false ∨ s.aon.meas ≠ 262144 → ∀ n, Completes (.rtcCalDone n) s (· = s)))
  ∧ (∀ s : State, s.power.aonLost = false →
      (s.power.under.contains .vin = true → Completes .aonSwitchToVbat s fun t => t.flag Reg.AON_AON_STAT 31 = true ∧ t.fld (Reg.AON + 0x00C) 4 4 = 1
          ∧ OnlyRegs [Reg.AON_AON_STAT, Reg.AON + 0x00C] s t)
      ∧ (s.power.under.contains .vin = false → Completes .aonSwitchToVbat s (· = s))
      ∧ (s.power.under.contains .vin = false → Completes .aonReturnToVin s fun t => t.flag Reg.AON_AON_STAT 31 = false
          ∧ t.fld (Reg.AON + 0x00C) 4 4 = 0 ∧ OnlyRegs [Reg.AON_AON_STAT, Reg.AON + 0x00C] s t)
      ∧ (s.power.under.contains .vin = true → Completes .aonReturnToVin s (· = s))
      ∧ (s.aon.onXtal = true → Completes .xtal32Fail s fun t => t.aon = { s.aon with onXtal := false, meas := 0 } ∧ t.flag Reg.AON_AON_STAT 28 = false
          ∧ t.flag (Reg.AON + 0x18) 2 = true ∧ SameRegsBut [Reg.AON_AON_STAT, Reg.AON + 0x18] s t)
      ∧ (s.aon.onXtal = false → Completes .xtal32Fail s (· = s))
      ∧ (∀ k, k < 2 →
        (s.flag (Reg.AON_ALM_CFG k) 31 = false ∨ rtcSeconds s < alarmAt s k → Completes (.rtcAlarm k) s (· = s))
        ∧ (s.flag (Reg.AON_ALM_CFG k) 31 = true → alarmAt s k ≤ rtcSeconds s → s.fld Reg.PWR_STATE 0 3 ≠ 4 → Completes (.rtcAlarm k) s fun t =>
            t.flag (Reg.AON + 0x18) k = true
            ∧ (s.fld (Reg.AON_ALM_CFG k) 0 24 = 0 → t.flag (Reg.AON_ALM_CFG k) 31 = false ∧ alarmAt t k = alarmAt s k)
            ∧ (s.fld (Reg.AON_ALM_CFG k) 0 24 ≠ 0 → t.flag (Reg.AON_ALM_CFG k) 31 = true
                ∧ alarmAt t k = (alarmAt s k + s.fld (Reg.AON_ALM_CFG k) 0 24) % 2 ^ 40)
            ∧ (s.power.phase = .steady → bit s.power.wakeHeld 0 = true →
                (s.fld Reg.PWR_STATE 0 3 = 3 → t.power.phase = .waking 3 1 1 false 0)
                ∧ (s.fld Reg.PWR_STATE 0 3 = 5 → t.power = { s.power with pendRtc := true }))
            ∧ (s.fld Reg.PWR_STATE 0 3 < 3 → t.power = s.power)
            ∧ SameRegsBut [Reg.AON_ALM_CFG k, Reg.AON_ALM_LO k, Reg.AON_ALM_HI k, Reg.AON + 0x18, Reg.PWR_WAKE_STAT] s t ∧ SameMemory s t)
        ∧ (s.flag (Reg.AON_ALM_CFG k) 31 = true → alarmAt s k ≤ rtcSeconds s → s.fld Reg.PWR_STATE 0 3 = 4 → s.power.phase = .steady →
            bit s.power.wakeHeld 0 = true → Completes (.rtcAlarm k) s fun t => t.power.phase = (if suppliesUp s then .waking 6 1 1 false 0 else .held)
            ∧ t.power.wokeFrom = 4 ∧ t.fld Reg.PWR_WAKE_STAT 8 4 = 3 ∧ t.flag Reg.SYS_RST_CAUSE 6 = true))
      ∧ (∀ rising : Bool,
        (enteringWith s 3 4 1 = false ∨ s.flag Reg.PWR_WAKE_CFG 2 ≠ rising →
          s.power.phase ≠ .steady ∨ s.fld Reg.PWR_STATE 0 3 < 3 ∨ bit s.power.wakeHeld 1 = false ∨ bit s.power.wakeHeld 2 ≠ rising →
            Completes (.wakePinEdge rising) s (· = s))
        ∧ (∀ target, s.power.phase = .entering target → 3 ≤ target → target ≤ 4 → s.flag Reg.PWR_WAKE_CFG 1 = true → s.flag Reg.PWR_WAKE_CFG 2 = rising →
            Completes (.wakePinEdge rising) s fun t => t.power.phase = .steady ∧ t.fld Reg.PWR_STATE 0 3 = s.fld Reg.PWR_STATE 0 3)
        ∧ (s.power.phase = .steady → bit s.power.wakeHeld 1 = true → bit s.power.wakeHeld 2 = rising →
            (s.fld Reg.PWR_STATE 0 3 = 4 → Completes (.wakePinEdge rising) s fun t =>
              t.power.phase = (if suppliesUp s then .waking 6 1 1 false 0 else .held) ∧ t.power.wokeFrom = 4 ∧ t.fld Reg.PWR_WAKE_STAT 8 4 = 4
              ∧ t.flag Reg.SYS_RST_CAUSE 6 = true) ∧
            (s.fld Reg.PWR_STATE 0 3 = 3 → Completes (.wakePinEdge rising) s fun t => t.power.phase = .waking 3 1 1 false 0 ∧ t.aon.namePin = true)
            ∧ (s.fld Reg.PWR_STATE 0 3 = 5 → Completes (.wakePinEdge rising) s fun t => t.power = { s.power with pendPin := true } ∧ SameRegsBut [] s t)))
      ∧ (∀ mv drawn used cap left : Nat, used = (if s.flag Reg.AON_AON_STAT 31 then min 0xFFFFFFFF ((s.rd Reg.AON_GAUGE_USED).toNat + drawn)
            else (s.rd Reg.AON_GAUGE_USED).toNat) → cap = (s.rd Reg.AON_GAUGE_CAP).toNat → left = cap - used → Completes (.vbatMeasure mv drawn) s fun t =>
          t.rd Reg.AON_GAUGE_USED = wordOf used ∧ t.fld Reg.AON_AON_STAT 8 6 = min 36 ((mv - 1800) / 50)
          ∧ (mv < 1800 → t.fld Reg.AON_AON_STAT 0 2 = 2)
          ∧ (1800 ≤ mv → min 36 ((mv - 1800) / 50) < s.fld Reg.AON_VBAT_CFG 0 6 → t.fld Reg.AON_AON_STAT 0 2 = 1)
          ∧ (1800 ≤ mv → s.fld Reg.AON_VBAT_CFG 0 6 + 2 ≤ min 36 ((mv - 1800) / 50) → t.fld Reg.AON_AON_STAT 0 2 = 0)
          ∧ (s.fld Reg.AON_AON_STAT 0 2 = 0 → t.fld Reg.AON_AON_STAT 0 2 ≠ 0 → t.flag (Reg.AON + 0x18) 10 = true ∧ t.flag Reg.AON_AON_STAT 29 = false)
          ∧ (s.fld Reg.AON_AON_STAT 0 2 ≠ 0 ∨ t.fld Reg.AON_AON_STAT 0 2 = 0 → t.flag Reg.AON_AON_STAT 29 = s.flag Reg.AON_AON_STAT 29)
          ∧ (cap = 0 → t.fld Reg.AON_AON_STAT 16 3 = 0)
          ∧ (0 < cap → t.fld Reg.AON_AON_STAT 0 2 = 0 → 0 < left → t.fld Reg.AON_AON_STAT 16 3 = 1
              ∧ (left * 100 < s.fld Reg.AON_GAUGE_CFG 0 8 * cap → s.aon.warned = false → t.flag (Reg.AON + 0x18) 11 = true ∧ t.aon.warned = true))
          ∧ (0 < cap → t.fld Reg.AON_AON_STAT 0 2 = 0 → left = 0 → t.fld Reg.AON_AON_STAT 16 3 = 3
              ∧ (s.fld Reg.AON_AON_STAT 16 3 ≠ 3 → t.flag (Reg.AON + 0x18) 8 = true))
          ∧ (0 < cap → t.fld Reg.AON_AON_STAT 0 2 ≠ 0 → left * 100 ≤ s.fld Reg.AON_GAUGE_CFG 8 8 * cap → t.fld Reg.AON_AON_STAT 16 3 = 2)
          ∧ (0 < cap → t.fld Reg.AON_AON_STAT 0 2 ≠ 0 → s.fld Reg.AON_GAUGE_CFG 8 8 * cap < left * 100 → t.fld Reg.AON_AON_STAT 16 3 = 4
              ∧ (s.fld Reg.AON_AON_STAT 16 3 ≠ 4 → t.flag (Reg.AON + 0x18) 9 = true))
          ∧ SameRegsBut [Reg.AON_GAUGE_USED, Reg.AON_AON_STAT, Reg.AON + 0x18] s t ∧ SameMemory s t))
  ∧ (∀ (m : Master) (v : Word) (s : State), Reaches m Reg.AON_GAUGE_CAP s → cfgLocked s 0x24 = false →
      (holdsOpening s 0x24 m = true → Completes (.gaugeCapWrite m v) s fun t => t.rd Reg.AON_GAUGE_CAP = v ∧ t.rd Reg.AON_GAUGE_USED = 0
        ∧ (v ≠ 0 → s.fld Reg.AON_AON_STAT 0 2 = 0 → t.fld Reg.AON_AON_STAT 16 3 = 1) ∧ (v = 0 → t.fld Reg.AON_AON_STAT 16 3 = 0)
        ∧ SameRegsBut [Reg.AON_GAUGE_CAP, Reg.AON_GAUGE_USED, Reg.AON_AON_STAT, Reg.AON + 0x18] s t ∧ SameMemory s t)
      ∧ (holdsOpening s 0x24 m = false → Completes (.gaugeCapWrite m v) s fun t => ErrorRecorded Reg.AON 0x01 0x04 (errDetail (masterCode m) 0x090) s t
        ∧ OnlyPageRegs [Reg.AON + 0x20, Reg.AON + 0x24] s t))
  ∧ (∀ (m : Master) (v : Word) (s : State), Reaches m Reg.AON_SET_HI s →
      (holdsOpening s 0x24 m = true → s.flag (Reg.AON_ALM_CFG 0) 31 = false → s.flag (Reg.AON_ALM_CFG 1) 31 = false → Completes (.rtcSet m v) s fun t =>
        rtcSeconds t = bits v 0 8 * 2 ^ 32 + (s.rd Reg.AON_SET_LO).toNat ∧ rtcSubsec t = 0 ∧ t.flag Reg.AON_AON_STAT 29 = true
        ∧ t.flag Reg.AON_AON_STAT 30 = false ∧ SameRegsBut [Reg.AON_SET_HI, Reg.AON_AON_STAT] s t ∧ SameMemory s t)
      ∧ (holdsOpening s 0x24 m = true → s.flag (Reg.AON_ALM_CFG 0) 31 = true → s.fld Reg.PWR_STATE 0 3 = 0 →
          alarmAt s 0 ≤ bits v 0 8 * 2 ^ 32 + (s.rd Reg.AON_SET_LO).toNat → Completes (.rtcSet m v) s fun t => t.flag (Reg.AON + 0x18) 0 = true)
      ∧ (holdsOpening s 0x24 m = false → Completes (.rtcSet m v) s fun t => rtcSeconds t = rtcSeconds s
        ∧ ErrorRecorded Reg.AON 0x01 0x04 (errDetail (masterCode m) 0x060) s t ∧ OnlyPageRegs [Reg.AON + 0x20, Reg.AON + 0x24] s t))

/-- Parts of R510, R513, R514: a write of a pad's settings changes the fields that the ball has, is refused as a whole while the owning unit is
not idle and for a value out of range, and changes nothing on a supply ball; a level that reaches a ball is its level, shows in IN where the ball
reports one, and latches the detectors that select the edge; on a driven ball a level other than the driven one is the board's hold (log entry
102), and the readback of line 6 counts and records it. -/
def Obligations.PadsAndPins : Prop :=
  (∀ (m : Master) (p : Nat) (v : Word) (s : State), p < 625 → Reaches m (Reg.PAD_PADp p) s → cfgLocked s (pageOf (Reg.PAD_PADp p)) = false →
      (padType p = .pwr → Completes (.padWrite m p v) s (OnlyPageRegs [] s))
      ∧ (padType p ≠ .pwr → bits v 16 2 = 3 ∨ 16 < bits v 8 5 → Completes (.padWrite m p v) s fun t =>
          ErrorRecorded (pageAddr (pageOf (Reg.PAD_PADp p))) 0x03 0x04 (errDetail (masterCode m) (Reg.PAD_PADp p % 0x1000)) s t
          ∧ t.rd (Reg.PAD_PADp p) = s.rd (Reg.PAD_PADp p) ∧ SameMemory s t)
      ∧ (padType p ≠ .pwr → bits v 16 2 ≠ 3 → bits v 8 5 ≤ 16 →
          (padHasGpio p = true → padAbsent s.variant p = false → bit v 24 ≠ s.flag (Reg.PAD_PADp p) 24 → padUnitActive s p = true →
            Completes (.padWrite m p v) s fun t =>
              ErrorRecorded (pageAddr (pageOf (Reg.PAD_PADp p))) 0x03 0x02 (errDetail (masterCode m) (Reg.PAD_PADp p % 0x1000)) s t
              ∧ t.rd (Reg.PAD_PADp p) = s.rd (Reg.PAD_PADp p) ∧ SameMemory s t)
          ∧ (padHasGpio p = true → padAbsent s.variant p = false → bit v 24 = s.flag (Reg.PAD_PADp p) 24 ∨ padUnitActive s p = false →
            Completes (.padWrite m p v) s fun t => t.flag (Reg.PAD_PADp p) 24 = bit v 24
              ∧ (t.fld (Reg.PAD_PADp p) 16 2 = if padHasPull s.variant p then bits v 16 2 else s.fld (Reg.PAD_PADp p) 16 2)
              ∧ (t.fld (Reg.PAD_PADp p) 0 2 = if padHasSlew p then bits v 0 2 else s.fld (Reg.PAD_PADp p) 0 2)
              ∧ (t.fld (Reg.PAD_PADp p) 8 5 = if padFiltBall p || (decide (padType p = .dio) && bit v 24) then bits v 8 5
                  else s.fld (Reg.PAD_PADp p) 8 5)
              ∧ (padHasPull s.variant p = true → padHasSlew p = true → (padFiltBall p || (decide (padType p = .dio) && bit v 24)) = true →
                  OnlyPageRegs [Reg.PAD_PADp p] s t)
              ∧ SameMemory s t)))
  ∧ (∀ (p : Nat) (level : Bool) (s : State), p < 625 →
      (Completes (.gpioEdge p level) s fun t =>
          (padDrive s p ≠ .moving → pinLevel t p = level) ∧ (∀ r, r ≠ p → pinLevel t r = pinLevel s r)
          ∧ (padDrive s p = .off → ∀ h, (p, h) ∉ t.power.stuck)
          ∧ (∀ b, padDrive s p = .level b → ∀ h, ((p, h) ∈ t.power.stuck ↔ h = level ∧ b ≠ level))
          ∧ t.power = { s.power with stuck := t.power.stuck, levels := t.power.levels } ∧ SameRegsBut [Reg.GPIO + 0x18] s t ∧ SameMemory s t)
      ∧ (padReports s.variant p = true → busUp s = true → s.hasPage 0x04 = true → frozen s 0x04 = false → s.flag (Reg.GPIO + 0x008) 0 = true →
          pinLevel s p ≠ level → Completes (.gpioEdge p level) s fun t =>
            ∀ k, k < 16 → s.flag (Reg.GPIO_EDGE k) 31 = true → s.fld (Reg.GPIO_EDGE k) 0 10 = p →
              (s.fld (Reg.GPIO_EDGE k) 28 2 = 0 ∧ level = true ∨ s.fld (Reg.GPIO_EDGE k) 28 2 = 1 ∧ level = false
                ∨ 2 ≤ s.fld (Reg.GPIO_EDGE k) 28 2) → t.flag (Reg.GPIO + 0x18) k = true)
      ∧ (padReports s.variant p = false ∨ busUp s = false ∨ s.hasPage 0x04 = false ∨ frozen s 0x04 = true ∨ s.flag (Reg.GPIO + 0x008) 0 = false
          ∨ pinLevel s p = level → Completes (.gpioEdge p level) s fun t => SameRegsBut [] s t))
  ∧ (∀ (p : Nat) (s : State), p < 625 → bit (gpioIn s (p / 32)) (p % 32) = (padReports s.variant p && padLevel s p))
  ∧ (∀ (p : Nat) (e b : Bool) (s : State), coxAlive s = true → padMismatches s = [(p, e)] → Completes (.faultLineCheck 6 b) s fun t =>
      ∃ u, t = lineCheck 6 true u ∧ u.fld Reg.PAD_RB_CNT 0 16 = min 0xFFFF (s.fld Reg.PAD_RB_CNT 0 16 + 1) ∧ u.flag (Reg.PAD + 0x18) 8 = true
        ∧ (u.rd Reg.PAD_RB_FIRST = if s.flag Reg.PAD_RB_FIRST 31 then s.rd Reg.PAD_RB_FIRST
            else wordOf (0x80000000 + (if e then 0x40000000 else 0) + p))
        ∧ OnlyRegs [Reg.PAD_RB_FIRST, Reg.PAD_RB_CNT, Reg.PAD + 0x18] s u)

/-! ## The block as a whole -/

/-- A step takes the command at the front of the queue and is that command's effect on the state with the rest of the queue. -/
def Obligations.StepRunsTheFrontCommand : Prop :=
  ∀ (c : Instr) (r : List Instr) (s : State), s.pending = c :: r → Machine.step s = Machine.exec c { s with pending := r }

/-- Every command completes in every state: none of the spec's commands stops the block, and none is refused by the model. -/
def Obligations.EveryCommandCompletes : Prop :=
  (∀ (c : Instr) (s : State), Completes c s fun _ => True) ∧ ∀ s : State, (∃ t, Machine.step s = .next t) ∧ NoFault s

/-- No command reaches into the queue of waiting commands, none changes which device of the family this is, and none writes TICK (R376): TICK
stays, or a reset sets it to 0. -/
def Obligations.CommandsKeepQueueVariantAndTick : Prop :=
  ∀ (c : Instr) (s : State), Completes c s fun t => t.pending = s.pending ∧ t.variant = s.variant ∧ (t.now = s.now ∨ t.now = 0)

/-- The state after a reset (R84, R376, R398, R158 and the reset columns of the register tables): TICK is 0, no queue, calendar, key state or
memory word is listed, every register reads its table's reset value but the three that LOGIC_RDY sets, and memory stands in its canonical form.
The device is an AQ-1680 and the registers whose reset the spec leaves open are the model's choice (log entries 2, 5). -/
def Obligations.ResetState : Prop :=
  State.reset.now = 0 ∧ State.reset.pending = [] ∧ State.reset.mem = [] ∧ MemoryCanonical State.reset ∧ State.reset.queues = []
    ∧ State.reset.sch.cal = [] ∧ State.reset.pages.keys = [] ∧ State.reset.power.phase = .steady ∧ State.reset.cox.safeOffN = false
    ∧ (∀ a, a ∉ [0x40000058, 0x40002018, 0x40024018] → State.reset.rd a = resetWord .aq1680 a)
    ∧ State.reset.rd Reg.SYS_RST_CAUSE = 3 ∧ State.reset.fld Reg.PWR_STATE 0 3 = 0 ∧ State.reset.flag (Reg.PWR + 0x18) 1 = true
    ∧ timeOk State.reset = false ∧ coxState State.reset = 0

/-- Every step keeps memory in its one canonical form (log entry 7): addresses rise strictly and no entry equals what an unlisted address reads
as, whatever the command and from every state in which it holds. -/
def Obligations.MemoryStaysCanonical : Prop :=
  ∀ s t : State, MemoryCanonical s → Machine.step s = .next t → MemoryCanonical t
end

