-- ==== Sys2Proof/Laws/Bits.lean ====
section
/-! SUPPORT. Bit fields of words: which bits a field write sets, and what a field reads after a write of the same or another field. -/

namespace Sys2Proof.Machine

theorem testBit_bits (w : Word) (lo len j : Nat) : (bits w lo len).testBit j = (decide (j < len) && w.getLsbD (lo + j)) := by
  simp only [bits, Nat.testBit_mod_two_pow, Nat.testBit_div_two_pow, BitVec.getLsbD, Nat.add_comm]

/-- Bit `i` of a word with a field replaced: the field's own bit inside the field, the old bit outside. -/
theorem getLsbD_putBits (w : Word) (lo len v i : Nat) (hi : i < 32) :
    (putBits w lo len v).getLsbD i = if lo ≤ i ∧ i < lo + len then v.testBit (i - lo) else w.getLsbD i := by
  simp only [putBits, fieldMask, BitVec.getLsbD_or, BitVec.getLsbD_and, BitVec.getLsbD_not, BitVec.getLsbD_ofNat, hi, decide_true,
    Bool.true_and, Nat.testBit_mul_two_pow, Nat.testBit_two_pow_sub_one, Nat.testBit_mod_two_pow]
  by_cases h1 : lo ≤ i
  · by_cases h2 : i - lo < len
    · have : i < lo + len := by omega
      simp [h1, h2, this]
    · have : ¬ i < lo + len := by omega
      simp [h1, h2, this]
  · simp [h1]

/-- A field reads what was written to it, cut to its width. -/
theorem bits_putBits_same (w : Word) (lo len v : Nat) (h : lo + len ≤ 32) : bits (putBits w lo len v) lo len = v % 2 ^ len := by
  apply Nat.eq_of_testBit_eq
  intro j
  rw [testBit_bits, Nat.testBit_mod_two_pow]
  by_cases hj : j < len
  · rw [getLsbD_putBits _ _ _ _ _ (by omega)]
    have h1 : lo ≤ lo + j ∧ lo + j < lo + len := by omega
    simp [hj]
  · simp [hj]

/-- A field reads as before where another field is written. -/
theorem bits_putBits_other (w : Word) (lo len v lo2 len2 : Nat) (h : lo2 + len2 ≤ lo ∨ lo + len ≤ lo2) (hw : lo2 + len2 ≤ 32) :
    bits (putBits w lo len v) lo2 len2 = bits w lo2 len2 := by
  apply Nat.eq_of_testBit_eq
  intro j
  simp only [testBit_bits]
  by_cases hj : j < len2
  · rw [getLsbD_putBits _ _ _ _ _ (by omega)]
    have : ¬ (lo ≤ lo2 + j ∧ lo2 + j < lo + len) := by omega
    simp [this]
  · simp [hj]

theorem bit_putBit_same (w : Word) (k : Nat) (b : Bool) (h : k < 32) : bit (putBit w k b) k = b := by
  unfold bit putBit
  rw [getLsbD_putBits _ _ _ _ _ h]
  cases b <;> simp

theorem bit_putBit_other (w : Word) (k j : Nat) (b : Bool) (h : j ≠ k) (hj : j < 32) : bit (putBit w k b) j = bit w j := by
  unfold bit putBit
  rw [getLsbD_putBits _ _ _ _ _ hj]
  exact if_neg (by omega)

theorem bits_putBit_other (w : Word) (k lo len : Nat) (b : Bool) (h : lo + len ≤ k ∨ k + 1 ≤ lo) (hw : lo + len ≤ 32) :
    bits (putBit w k b) lo len = bits w lo len := bits_putBits_other _ _ _ _ _ _ h hw

theorem bit_putBits_other (w : Word) (lo len v k : Nat) (h : k < lo ∨ lo + len ≤ k) (hk : k < 32) :
    bit (putBits w lo len v) k = bit w k := by
  unfold bit
  rw [getLsbD_putBits _ _ _ _ _ hk]
  exact if_neg (by omega)

end Sys2Proof.Machine
end

