-- ==== Sys2Proof/Laws/State.lean ====
section
/-! SUPPORT. One lemma per field of State for each of its basic updates: what the update leaves alone. -/

namespace Sys2Proof.Machine

variable (s : State)

/-! ### A change of `regs` -/

@[simp] theorem State.regs_variant (x : List (Nat × Word)) : ({ s with regs := x } : State).variant = s.variant := rfl
@[simp] theorem State.regs_now (x : List (Nat × Word)) : ({ s with regs := x } : State).now = s.now := rfl
@[simp] theorem State.regs_pages (x : List (Nat × Word)) : ({ s with regs := x } : State).pages = s.pages := rfl
@[simp] theorem State.regs_power (x : List (Nat × Word)) : ({ s with regs := x } : State).power = s.power := rfl
@[simp] theorem State.regs_cox (x : List (Nat × Word)) : ({ s with regs := x } : State).cox = s.cox := rfl
@[simp] theorem State.regs_mem (x : List (Nat × Word)) : ({ s with regs := x } : State).mem = s.mem := rfl
@[simp] theorem State.regs_ecc (x : List (Nat × Word)) : ({ s with regs := x } : State).ecc = s.ecc := rfl
@[simp] theorem State.regs_skim (x : List (Nat × Word)) : ({ s with regs := x } : State).skim = s.skim := rfl
@[simp] theorem State.regs_memctl (x : List (Nat × Word)) : ({ s with regs := x } : State).memctl = s.memctl := rfl
@[simp] theorem State.regs_sec (x : List (Nat × Word)) : ({ s with regs := x } : State).sec = s.sec := rfl
@[simp] theorem State.regs_otp (x : List (Nat × Word)) : ({ s with regs := x } : State).otp = s.otp := rfl
@[simp] theorem State.regs_queues (x : List (Nat × Word)) : ({ s with regs := x } : State).queues = s.queues := rfl
@[simp] theorem State.regs_host (x : List (Nat × Word)) : ({ s with regs := x } : State).host = s.host := rfl
@[simp] theorem State.regs_dma (x : List (Nat × Word)) : ({ s with regs := x } : State).dma = s.dma := rfl
@[simp] theorem State.regs_dmaLast (x : List (Nat × Word)) : ({ s with regs := x } : State).dmaLast = s.dmaLast := rfl
@[simp] theorem State.regs_boot (x : List (Nat × Word)) : ({ s with regs := x } : State).boot = s.boot := rfl
@[simp] theorem State.regs_spes (x : List (Nat × Word)) : ({ s with regs := x } : State).spes = s.spes := rfl
@[simp] theorem State.regs_aon (x : List (Nat × Word)) : ({ s with regs := x } : State).aon = s.aon := rfl
@[simp] theorem State.regs_profs (x : List (Nat × Word)) : ({ s with regs := x } : State).profs = s.profs := rfl
@[simp] theorem State.regs_lats (x : List (Nat × Word)) : ({ s with regs := x } : State).lats = s.lats := rfl
@[simp] theorem State.regs_acts (x : List (Nat × Word)) : ({ s with regs := x } : State).acts = s.acts := rfl
@[simp] theorem State.regs_bsts (x : List (Nat × Word)) : ({ s with regs := x } : State).bsts = s.bsts := rfl
@[simp] theorem State.regs_tsu (x : List (Nat × Word)) : ({ s with regs := x } : State).tsu = s.tsu := rfl
@[simp] theorem State.regs_sch (x : List (Nat × Word)) : ({ s with regs := x } : State).sch = s.sch := rfl
@[simp] theorem State.regs_adcs (x : List (Nat × Word)) : ({ s with regs := x } : State).adcs = s.adcs := rfl
@[simp] theorem State.regs_sdms (x : List (Nat × Word)) : ({ s with regs := x } : State).sdms = s.sdms := rfl
@[simp] theorem State.regs_sense (x : List (Nat × Word)) : ({ s with regs := x } : State).sense = s.sense := rfl
@[simp] theorem State.regs_encs (x : List (Nat × Word)) : ({ s with regs := x } : State).encs = s.encs := rfl
@[simp] theorem State.regs_pwms (x : List (Nat × Word)) : ({ s with regs := x } : State).pwms = s.pwms := rfl
@[simp] theorem State.regs_axes (x : List (Nat × Word)) : ({ s with regs := x } : State).axes = s.axes := rfl
@[simp] theorem State.regs_loops (x : List (Nat × Word)) : ({ s with regs := x } : State).loops = s.loops := rfl
@[simp] theorem State.regs_reps (x : List (Nat × Word)) : ({ s with regs := x } : State).reps = s.reps := rfl
@[simp] theorem State.regs_cans (x : List (Nat × Word)) : ({ s with regs := x } : State).cans = s.cans := rfl
@[simp] theorem State.regs_ksw (x : List (Nat × Word)) : ({ s with regs := x } : State).ksw = s.ksw := rfl
@[simp] theorem State.regs_ldl (x : List (Nat × Word)) : ({ s with regs := x } : State).ldl = s.ldl := rfl
@[simp] theorem State.regs_freeCtr (x : List (Nat × Word)) : ({ s with regs := x } : State).freeCtr = s.freeCtr := rfl
@[simp] theorem State.regs_pending (x : List (Nat × Word)) : ({ s with regs := x } : State).pending = s.pending := rfl

/-! ### A change of `freeCtr` -/

@[simp] theorem State.freeCtr_variant (x : Nat) : ({ s with freeCtr := x } : State).variant = s.variant := rfl
@[simp] theorem State.freeCtr_now (x : Nat) : ({ s with freeCtr := x } : State).now = s.now := rfl
@[simp] theorem State.freeCtr_regs (x : Nat) : ({ s with freeCtr := x } : State).regs = s.regs := rfl
@[simp] theorem State.freeCtr_pages (x : Nat) : ({ s with freeCtr := x } : State).pages = s.pages := rfl
@[simp] theorem State.freeCtr_power (x : Nat) : ({ s with freeCtr := x } : State).power = s.power := rfl
@[simp] theorem State.freeCtr_cox (x : Nat) : ({ s with freeCtr := x } : State).cox = s.cox := rfl
@[simp] theorem State.freeCtr_mem (x : Nat) : ({ s with freeCtr := x } : State).mem = s.mem := rfl
@[simp] theorem State.freeCtr_ecc (x : Nat) : ({ s with freeCtr := x } : State).ecc = s.ecc := rfl
@[simp] theorem State.freeCtr_skim (x : Nat) : ({ s with freeCtr := x } : State).skim = s.skim := rfl
@[simp] theorem State.freeCtr_memctl (x : Nat) : ({ s with freeCtr := x } : State).memctl = s.memctl := rfl
@[simp] theorem State.freeCtr_sec (x : Nat) : ({ s with freeCtr := x } : State).sec = s.sec := rfl
@[simp] theorem State.freeCtr_otp (x : Nat) : ({ s with freeCtr := x } : State).otp = s.otp := rfl
@[simp] theorem State.freeCtr_queues (x : Nat) : ({ s with freeCtr := x } : State).queues = s.queues := rfl
@[simp] theorem State.freeCtr_host (x : Nat) : ({ s with freeCtr := x } : State).host = s.host := rfl
@[simp] theorem State.freeCtr_dma (x : Nat) : ({ s with freeCtr := x } : State).dma = s.dma := rfl
@[simp] theorem State.freeCtr_dmaLast (x : Nat) : ({ s with freeCtr := x } : State).dmaLast = s.dmaLast := rfl
@[simp] theorem State.freeCtr_boot (x : Nat) : ({ s with freeCtr := x } : State).boot = s.boot := rfl
@[simp] theorem State.freeCtr_spes (x : Nat) : ({ s with freeCtr := x } : State).spes = s.spes := rfl
@[simp] theorem State.freeCtr_aon (x : Nat) : ({ s with freeCtr := x } : State).aon = s.aon := rfl
@[simp] theorem State.freeCtr_profs (x : Nat) : ({ s with freeCtr := x } : State).profs = s.profs := rfl
@[simp] theorem State.freeCtr_lats (x : Nat) : ({ s with freeCtr := x } : State).lats = s.lats := rfl
@[simp] theorem State.freeCtr_acts (x : Nat) : ({ s with freeCtr := x } : State).acts = s.acts := rfl
@[simp] theorem State.freeCtr_bsts (x : Nat) : ({ s with freeCtr := x } : State).bsts = s.bsts := rfl
@[simp] theorem State.freeCtr_tsu (x : Nat) : ({ s with freeCtr := x } : State).tsu = s.tsu := rfl
@[simp] theorem State.freeCtr_sch (x : Nat) : ({ s with freeCtr := x } : State).sch = s.sch := rfl
@[simp] theorem State.freeCtr_adcs (x : Nat) : ({ s with freeCtr := x } : State).adcs = s.adcs := rfl
@[simp] theorem State.freeCtr_sdms (x : Nat) : ({ s with freeCtr := x } : State).sdms = s.sdms := rfl
@[simp] theorem State.freeCtr_sense (x : Nat) : ({ s with freeCtr := x } : State).sense = s.sense := rfl
@[simp] theorem State.freeCtr_encs (x : Nat) : ({ s with freeCtr := x } : State).encs = s.encs := rfl
@[simp] theorem State.freeCtr_pwms (x : Nat) : ({ s with freeCtr := x } : State).pwms = s.pwms := rfl
@[simp] theorem State.freeCtr_axes (x : Nat) : ({ s with freeCtr := x } : State).axes = s.axes := rfl
@[simp] theorem State.freeCtr_loops (x : Nat) : ({ s with freeCtr := x } : State).loops = s.loops := rfl
@[simp] theorem State.freeCtr_reps (x : Nat) : ({ s with freeCtr := x } : State).reps = s.reps := rfl
@[simp] theorem State.freeCtr_cans (x : Nat) : ({ s with freeCtr := x } : State).cans = s.cans := rfl
@[simp] theorem State.freeCtr_ksw (x : Nat) : ({ s with freeCtr := x } : State).ksw = s.ksw := rfl
@[simp] theorem State.freeCtr_ldl (x : Nat) : ({ s with freeCtr := x } : State).ldl = s.ldl := rfl
@[simp] theorem State.freeCtr_pending (x : Nat) : ({ s with freeCtr := x } : State).pending = s.pending := rfl

/-! ### A change of `spes` -/

@[simp] theorem State.spes_variant (x : List (Nat × Spe)) : ({ s with spes := x } : State).variant = s.variant := rfl
@[simp] theorem State.spes_now (x : List (Nat × Spe)) : ({ s with spes := x } : State).now = s.now := rfl
@[simp] theorem State.spes_regs (x : List (Nat × Spe)) : ({ s with spes := x } : State).regs = s.regs := rfl
@[simp] theorem State.spes_pages (x : List (Nat × Spe)) : ({ s with spes := x } : State).pages = s.pages := rfl
@[simp] theorem State.spes_power (x : List (Nat × Spe)) : ({ s with spes := x } : State).power = s.power := rfl
@[simp] theorem State.spes_cox (x : List (Nat × Spe)) : ({ s with spes := x } : State).cox = s.cox := rfl
@[simp] theorem State.spes_mem (x : List (Nat × Spe)) : ({ s with spes := x } : State).mem = s.mem := rfl
@[simp] theorem State.spes_ecc (x : List (Nat × Spe)) : ({ s with spes := x } : State).ecc = s.ecc := rfl
@[simp] theorem State.spes_skim (x : List (Nat × Spe)) : ({ s with spes := x } : State).skim = s.skim := rfl
@[simp] theorem State.spes_memctl (x : List (Nat × Spe)) : ({ s with spes := x } : State).memctl = s.memctl := rfl
@[simp] theorem State.spes_sec (x : List (Nat × Spe)) : ({ s with spes := x } : State).sec = s.sec := rfl
@[simp] theorem State.spes_otp (x : List (Nat × Spe)) : ({ s with spes := x } : State).otp = s.otp := rfl
@[simp] theorem State.spes_queues (x : List (Nat × Spe)) : ({ s with spes := x } : State).queues = s.queues := rfl
@[simp] theorem State.spes_host (x : List (Nat × Spe)) : ({ s with spes := x } : State).host = s.host := rfl
@[simp] theorem State.spes_dma (x : List (Nat × Spe)) : ({ s with spes := x } : State).dma = s.dma := rfl
@[simp] theorem State.spes_dmaLast (x : List (Nat × Spe)) : ({ s with spes := x } : State).dmaLast = s.dmaLast := rfl
@[simp] theorem State.spes_boot (x : List (Nat × Spe)) : ({ s with spes := x } : State).boot = s.boot := rfl
@[simp] theorem State.spes_aon (x : List (Nat × Spe)) : ({ s with spes := x } : State).aon = s.aon := rfl
@[simp] theorem State.spes_profs (x : List (Nat × Spe)) : ({ s with spes := x } : State).profs = s.profs := rfl
@[simp] theorem State.spes_lats (x : List (Nat × Spe)) : ({ s with spes := x } : State).lats = s.lats := rfl
@[simp] theorem State.spes_acts (x : List (Nat × Spe)) : ({ s with spes := x } : State).acts = s.acts := rfl
@[simp] theorem State.spes_bsts (x : List (Nat × Spe)) : ({ s with spes := x } : State).bsts = s.bsts := rfl
@[simp] theorem State.spes_tsu (x : List (Nat × Spe)) : ({ s with spes := x } : State).tsu = s.tsu := rfl
@[simp] theorem State.spes_sch (x : List (Nat × Spe)) : ({ s with spes := x } : State).sch = s.sch := rfl
@[simp] theorem State.spes_adcs (x : List (Nat × Spe)) : ({ s with spes := x } : State).adcs = s.adcs := rfl
@[simp] theorem State.spes_sdms (x : List (Nat × Spe)) : ({ s with spes := x } : State).sdms = s.sdms := rfl
@[simp] theorem State.spes_sense (x : List (Nat × Spe)) : ({ s with spes := x } : State).sense = s.sense := rfl
@[simp] theorem State.spes_encs (x : List (Nat × Spe)) : ({ s with spes := x } : State).encs = s.encs := rfl
@[simp] theorem State.spes_pwms (x : List (Nat × Spe)) : ({ s with spes := x } : State).pwms = s.pwms := rfl
@[simp] theorem State.spes_axes (x : List (Nat × Spe)) : ({ s with spes := x } : State).axes = s.axes := rfl
@[simp] theorem State.spes_loops (x : List (Nat × Spe)) : ({ s with spes := x } : State).loops = s.loops := rfl
@[simp] theorem State.spes_reps (x : List (Nat × Spe)) : ({ s with spes := x } : State).reps = s.reps := rfl
@[simp] theorem State.spes_cans (x : List (Nat × Spe)) : ({ s with spes := x } : State).cans = s.cans := rfl
@[simp] theorem State.spes_ksw (x : List (Nat × Spe)) : ({ s with spes := x } : State).ksw = s.ksw := rfl
@[simp] theorem State.spes_ldl (x : List (Nat × Spe)) : ({ s with spes := x } : State).ldl = s.ldl := rfl
@[simp] theorem State.spes_freeCtr (x : List (Nat × Spe)) : ({ s with spes := x } : State).freeCtr = s.freeCtr := rfl
@[simp] theorem State.spes_pending (x : List (Nat × Spe)) : ({ s with spes := x } : State).pending = s.pending := rfl

/-! ### A change of `queues` -/

@[simp] theorem State.queues_variant (x : List (Nat × Queue)) : ({ s with queues := x } : State).variant = s.variant := rfl
@[simp] theorem State.queues_now (x : List (Nat × Queue)) : ({ s with queues := x } : State).now = s.now := rfl
@[simp] theorem State.queues_regs (x : List (Nat × Queue)) : ({ s with queues := x } : State).regs = s.regs := rfl
@[simp] theorem State.queues_pages (x : List (Nat × Queue)) : ({ s with queues := x } : State).pages = s.pages := rfl
@[simp] theorem State.queues_power (x : List (Nat × Queue)) : ({ s with queues := x } : State).power = s.power := rfl
@[simp] theorem State.queues_cox (x : List (Nat × Queue)) : ({ s with queues := x } : State).cox = s.cox := rfl
@[simp] theorem State.queues_mem (x : List (Nat × Queue)) : ({ s with queues := x } : State).mem = s.mem := rfl
@[simp] theorem State.queues_ecc (x : List (Nat × Queue)) : ({ s with queues := x } : State).ecc = s.ecc := rfl
@[simp] theorem State.queues_skim (x : List (Nat × Queue)) : ({ s with queues := x } : State).skim = s.skim := rfl
@[simp] theorem State.queues_memctl (x : List (Nat × Queue)) : ({ s with queues := x } : State).memctl = s.memctl := rfl
@[simp] theorem State.queues_sec (x : List (Nat × Queue)) : ({ s with queues := x } : State).sec = s.sec := rfl
@[simp] theorem State.queues_otp (x : List (Nat × Queue)) : ({ s with queues := x } : State).otp = s.otp := rfl
@[simp] theorem State.queues_host (x : List (Nat × Queue)) : ({ s with queues := x } : State).host = s.host := rfl
@[simp] theorem State.queues_dma (x : List (Nat × Queue)) : ({ s with queues := x } : State).dma = s.dma := rfl
@[simp] theorem State.queues_dmaLast (x : List (Nat × Queue)) : ({ s with queues := x } : State).dmaLast = s.dmaLast := rfl
@[simp] theorem State.queues_boot (x : List (Nat × Queue)) : ({ s with queues := x } : State).boot = s.boot := rfl
@[simp] theorem State.queues_spes (x : List (Nat × Queue)) : ({ s with queues := x } : State).spes = s.spes := rfl
@[simp] theorem State.queues_aon (x : List (Nat × Queue)) : ({ s with queues := x } : State).aon = s.aon := rfl
@[simp] theorem State.queues_profs (x : List (Nat × Queue)) : ({ s with queues := x } : State).profs = s.profs := rfl
@[simp] theorem State.queues_lats (x : List (Nat × Queue)) : ({ s with queues := x } : State).lats = s.lats := rfl
@[simp] theorem State.queues_acts (x : List (Nat × Queue)) : ({ s with queues := x } : State).acts = s.acts := rfl
@[simp] theorem State.queues_bsts (x : List (Nat × Queue)) : ({ s with queues := x } : State).bsts = s.bsts := rfl
@[simp] theorem State.queues_tsu (x : List (Nat × Queue)) : ({ s with queues := x } : State).tsu = s.tsu := rfl
@[simp] theorem State.queues_sch (x : List (Nat × Queue)) : ({ s with queues := x } : State).sch = s.sch := rfl
@[simp] theorem State.queues_adcs (x : List (Nat × Queue)) : ({ s with queues := x } : State).adcs = s.adcs := rfl
@[simp] theorem State.queues_sdms (x : List (Nat × Queue)) : ({ s with queues := x } : State).sdms = s.sdms := rfl
@[simp] theorem State.queues_sense (x : List (Nat × Queue)) : ({ s with queues := x } : State).sense = s.sense := rfl
@[simp] theorem State.queues_encs (x : List (Nat × Queue)) : ({ s with queues := x } : State).encs = s.encs := rfl
@[simp] theorem State.queues_pwms (x : List (Nat × Queue)) : ({ s with queues := x } : State).pwms = s.pwms := rfl
@[simp] theorem State.queues_axes (x : List (Nat × Queue)) : ({ s with queues := x } : State).axes = s.axes := rfl
@[simp] theorem State.queues_loops (x : List (Nat × Queue)) : ({ s with queues := x } : State).loops = s.loops := rfl
@[simp] theorem State.queues_reps (x : List (Nat × Queue)) : ({ s with queues := x } : State).reps = s.reps := rfl
@[simp] theorem State.queues_cans (x : List (Nat × Queue)) : ({ s with queues := x } : State).cans = s.cans := rfl
@[simp] theorem State.queues_ksw (x : List (Nat × Queue)) : ({ s with queues := x } : State).ksw = s.ksw := rfl
@[simp] theorem State.queues_ldl (x : List (Nat × Queue)) : ({ s with queues := x } : State).ldl = s.ldl := rfl
@[simp] theorem State.queues_freeCtr (x : List (Nat × Queue)) : ({ s with queues := x } : State).freeCtr = s.freeCtr := rfl
@[simp] theorem State.queues_pending (x : List (Nat × Queue)) : ({ s with queues := x } : State).pending = s.pending := rfl

/-! ### A change of `dma` -/

@[simp] theorem State.dma_variant (x : List (Nat × DmaChan)) : ({ s with dma := x } : State).variant = s.variant := rfl
@[simp] theorem State.dma_now (x : List (Nat × DmaChan)) : ({ s with dma := x } : State).now = s.now := rfl
@[simp] theorem State.dma_regs (x : List (Nat × DmaChan)) : ({ s with dma := x } : State).regs = s.regs := rfl
@[simp] theorem State.dma_pages (x : List (Nat × DmaChan)) : ({ s with dma := x } : State).pages = s.pages := rfl
@[simp] theorem State.dma_power (x : List (Nat × DmaChan)) : ({ s with dma := x } : State).power = s.power := rfl
@[simp] theorem State.dma_cox (x : List (Nat × DmaChan)) : ({ s with dma := x } : State).cox = s.cox := rfl
@[simp] theorem State.dma_mem (x : List (Nat × DmaChan)) : ({ s with dma := x } : State).mem = s.mem := rfl
@[simp] theorem State.dma_ecc (x : List (Nat × DmaChan)) : ({ s with dma := x } : State).ecc = s.ecc := rfl
@[simp] theorem State.dma_skim (x : List (Nat × DmaChan)) : ({ s with dma := x } : State).skim = s.skim := rfl
@[simp] theorem State.dma_memctl (x : List (Nat × DmaChan)) : ({ s with dma := x } : State).memctl = s.memctl := rfl
@[simp] theorem State.dma_sec (x : List (Nat × DmaChan)) : ({ s with dma := x } : State).sec = s.sec := rfl
@[simp] theorem State.dma_otp (x : List (Nat × DmaChan)) : ({ s with dma := x } : State).otp = s.otp := rfl
@[simp] theorem State.dma_queues (x : List (Nat × DmaChan)) : ({ s with dma := x } : State).queues = s.queues := rfl
@[simp] theorem State.dma_host (x : List (Nat × DmaChan)) : ({ s with dma := x } : State).host = s.host := rfl
@[simp] theorem State.dma_dmaLast (x : List (Nat × DmaChan)) : ({ s with dma := x } : State).dmaLast = s.dmaLast := rfl
@[simp] theorem State.dma_boot (x : List (Nat × DmaChan)) : ({ s with dma := x } : State).boot = s.boot := rfl
@[simp] theorem State.dma_spes (x : List (Nat × DmaChan)) : ({ s with dma := x } : State).spes = s.spes := rfl
@[simp] theorem State.dma_aon (x : List (Nat × DmaChan)) : ({ s with dma := x } : State).aon = s.aon := rfl
@[simp] theorem State.dma_profs (x : List (Nat × DmaChan)) : ({ s with dma := x } : State).profs = s.profs := rfl
@[simp] theorem State.dma_lats (x : List (Nat × DmaChan)) : ({ s with dma := x } : State).lats = s.lats := rfl
@[simp] theorem State.dma_acts (x : List (Nat × DmaChan)) : ({ s with dma := x } : State).acts = s.acts := rfl
@[simp] theorem State.dma_bsts (x : List (Nat × DmaChan)) : ({ s with dma := x } : State).bsts = s.bsts := rfl
@[simp] theorem State.dma_tsu (x : List (Nat × DmaChan)) : ({ s with dma := x } : State).tsu = s.tsu := rfl
@[simp] theorem State.dma_sch (x : List (Nat × DmaChan)) : ({ s with dma := x } : State).sch = s.sch := rfl
@[simp] theorem State.dma_adcs (x : List (Nat × DmaChan)) : ({ s with dma := x } : State).adcs = s.adcs := rfl
@[simp] theorem State.dma_sdms (x : List (Nat × DmaChan)) : ({ s with dma := x } : State).sdms = s.sdms := rfl
@[simp] theorem State.dma_sense (x : List (Nat × DmaChan)) : ({ s with dma := x } : State).sense = s.sense := rfl
@[simp] theorem State.dma_encs (x : List (Nat × DmaChan)) : ({ s with dma := x } : State).encs = s.encs := rfl
@[simp] theorem State.dma_pwms (x : List (Nat × DmaChan)) : ({ s with dma := x } : State).pwms = s.pwms := rfl
@[simp] theorem State.dma_axes (x : List (Nat × DmaChan)) : ({ s with dma := x } : State).axes = s.axes := rfl
@[simp] theorem State.dma_loops (x : List (Nat × DmaChan)) : ({ s with dma := x } : State).loops = s.loops := rfl
@[simp] theorem State.dma_reps (x : List (Nat × DmaChan)) : ({ s with dma := x } : State).reps = s.reps := rfl
@[simp] theorem State.dma_cans (x : List (Nat × DmaChan)) : ({ s with dma := x } : State).cans = s.cans := rfl
@[simp] theorem State.dma_ksw (x : List (Nat × DmaChan)) : ({ s with dma := x } : State).ksw = s.ksw := rfl
@[simp] theorem State.dma_ldl (x : List (Nat × DmaChan)) : ({ s with dma := x } : State).ldl = s.ldl := rfl
@[simp] theorem State.dma_freeCtr (x : List (Nat × DmaChan)) : ({ s with dma := x } : State).freeCtr = s.freeCtr := rfl
@[simp] theorem State.dma_pending (x : List (Nat × DmaChan)) : ({ s with dma := x } : State).pending = s.pending := rfl

/-! ### A change of `mem` -/

@[simp] theorem State.mem_variant (x : List Host.Cell) : ({ s with mem := x } : State).variant = s.variant := rfl
@[simp] theorem State.mem_now (x : List Host.Cell) : ({ s with mem := x } : State).now = s.now := rfl
@[simp] theorem State.mem_regs (x : List Host.Cell) : ({ s with mem := x } : State).regs = s.regs := rfl
@[simp] theorem State.mem_pages (x : List Host.Cell) : ({ s with mem := x } : State).pages = s.pages := rfl
@[simp] theorem State.mem_power (x : List Host.Cell) : ({ s with mem := x } : State).power = s.power := rfl
@[simp] theorem State.mem_cox (x : List Host.Cell) : ({ s with mem := x } : State).cox = s.cox := rfl
@[simp] theorem State.mem_ecc (x : List Host.Cell) : ({ s with mem := x } : State).ecc = s.ecc := rfl
@[simp] theorem State.mem_skim (x : List Host.Cell) : ({ s with mem := x } : State).skim = s.skim := rfl
@[simp] theorem State.mem_memctl (x : List Host.Cell) : ({ s with mem := x } : State).memctl = s.memctl := rfl
@[simp] theorem State.mem_sec (x : List Host.Cell) : ({ s with mem := x } : State).sec = s.sec := rfl
@[simp] theorem State.mem_otp (x : List Host.Cell) : ({ s with mem := x } : State).otp = s.otp := rfl
@[simp] theorem State.mem_queues (x : List Host.Cell) : ({ s with mem := x } : State).queues = s.queues := rfl
@[simp] theorem State.mem_host (x : List Host.Cell) : ({ s with mem := x } : State).host = s.host := rfl
@[simp] theorem State.mem_dma (x : List Host.Cell) : ({ s with mem := x } : State).dma = s.dma := rfl
@[simp] theorem State.mem_dmaLast (x : List Host.Cell) : ({ s with mem := x } : State).dmaLast = s.dmaLast := rfl
@[simp] theorem State.mem_boot (x : List Host.Cell) : ({ s with mem := x } : State).boot = s.boot := rfl
@[simp] theorem State.mem_spes (x : List Host.Cell) : ({ s with mem := x } : State).spes = s.spes := rfl
@[simp] theorem State.mem_aon (x : List Host.Cell) : ({ s with mem := x } : State).aon = s.aon := rfl
@[simp] theorem State.mem_profs (x : List Host.Cell) : ({ s with mem := x } : State).profs = s.profs := rfl
@[simp] theorem State.mem_lats (x : List Host.Cell) : ({ s with mem := x } : State).lats = s.lats := rfl
@[simp] theorem State.mem_acts (x : List Host.Cell) : ({ s with mem := x } : State).acts = s.acts := rfl
@[simp] theorem State.mem_bsts (x : List Host.Cell) : ({ s with mem := x } : State).bsts = s.bsts := rfl
@[simp] theorem State.mem_tsu (x : List Host.Cell) : ({ s with mem := x } : State).tsu = s.tsu := rfl
@[simp] theorem State.mem_sch (x : List Host.Cell) : ({ s with mem := x } : State).sch = s.sch := rfl
@[simp] theorem State.mem_adcs (x : List Host.Cell) : ({ s with mem := x } : State).adcs = s.adcs := rfl
@[simp] theorem State.mem_sdms (x : List Host.Cell) : ({ s with mem := x } : State).sdms = s.sdms := rfl
@[simp] theorem State.mem_sense (x : List Host.Cell) : ({ s with mem := x } : State).sense = s.sense := rfl
@[simp] theorem State.mem_encs (x : List Host.Cell) : ({ s with mem := x } : State).encs = s.encs := rfl
@[simp] theorem State.mem_pwms (x : List Host.Cell) : ({ s with mem := x } : State).pwms = s.pwms := rfl
@[simp] theorem State.mem_axes (x : List Host.Cell) : ({ s with mem := x } : State).axes = s.axes := rfl
@[simp] theorem State.mem_loops (x : List Host.Cell) : ({ s with mem := x } : State).loops = s.loops := rfl
@[simp] theorem State.mem_reps (x : List Host.Cell) : ({ s with mem := x } : State).reps = s.reps := rfl
@[simp] theorem State.mem_cans (x : List Host.Cell) : ({ s with mem := x } : State).cans = s.cans := rfl
@[simp] theorem State.mem_ksw (x : List Host.Cell) : ({ s with mem := x } : State).ksw = s.ksw := rfl
@[simp] theorem State.mem_ldl (x : List Host.Cell) : ({ s with mem := x } : State).ldl = s.ldl := rfl
@[simp] theorem State.mem_freeCtr (x : List Host.Cell) : ({ s with mem := x } : State).freeCtr = s.freeCtr := rfl
@[simp] theorem State.mem_pending (x : List Host.Cell) : ({ s with mem := x } : State).pending = s.pending := rfl

/-! ### A change of `ecc` -/

@[simp] theorem State.ecc_variant (x : List (Nat × EccState)) : ({ s with ecc := x } : State).variant = s.variant := rfl
@[simp] theorem State.ecc_now (x : List (Nat × EccState)) : ({ s with ecc := x } : State).now = s.now := rfl
@[simp] theorem State.ecc_regs (x : List (Nat × EccState)) : ({ s with ecc := x } : State).regs = s.regs := rfl
@[simp] theorem State.ecc_pages (x : List (Nat × EccState)) : ({ s with ecc := x } : State).pages = s.pages := rfl
@[simp] theorem State.ecc_power (x : List (Nat × EccState)) : ({ s with ecc := x } : State).power = s.power := rfl
@[simp] theorem State.ecc_cox (x : List (Nat × EccState)) : ({ s with ecc := x } : State).cox = s.cox := rfl
@[simp] theorem State.ecc_mem (x : List (Nat × EccState)) : ({ s with ecc := x } : State).mem = s.mem := rfl
@[simp] theorem State.ecc_skim (x : List (Nat × EccState)) : ({ s with ecc := x } : State).skim = s.skim := rfl
@[simp] theorem State.ecc_memctl (x : List (Nat × EccState)) : ({ s with ecc := x } : State).memctl = s.memctl := rfl
@[simp] theorem State.ecc_sec (x : List (Nat × EccState)) : ({ s with ecc := x } : State).sec = s.sec := rfl
@[simp] theorem State.ecc_otp (x : List (Nat × EccState)) : ({ s with ecc := x } : State).otp = s.otp := rfl
@[simp] theorem State.ecc_queues (x : List (Nat × EccState)) : ({ s with ecc := x } : State).queues = s.queues := rfl
@[simp] theorem State.ecc_host (x : List (Nat × EccState)) : ({ s with ecc := x } : State).host = s.host := rfl
@[simp] theorem State.ecc_dma (x : List (Nat × EccState)) : ({ s with ecc := x } : State).dma = s.dma := rfl
@[simp] theorem State.ecc_dmaLast (x : List (Nat × EccState)) : ({ s with ecc := x } : State).dmaLast = s.dmaLast := rfl
@[simp] theorem State.ecc_boot (x : List (Nat × EccState)) : ({ s with ecc := x } : State).boot = s.boot := rfl
@[simp] theorem State.ecc_spes (x : List (Nat × EccState)) : ({ s with ecc := x } : State).spes = s.spes := rfl
@[simp] theorem State.ecc_aon (x : List (Nat × EccState)) : ({ s with ecc := x } : State).aon = s.aon := rfl
@[simp] theorem State.ecc_profs (x : List (Nat × EccState)) : ({ s with ecc := x } : State).profs = s.profs := rfl
@[simp] theorem State.ecc_lats (x : List (Nat × EccState)) : ({ s with ecc := x } : State).lats = s.lats := rfl
@[simp] theorem State.ecc_acts (x : List (Nat × EccState)) : ({ s with ecc := x } : State).acts = s.acts := rfl
@[simp] theorem State.ecc_bsts (x : List (Nat × EccState)) : ({ s with ecc := x } : State).bsts = s.bsts := rfl
@[simp] theorem State.ecc_tsu (x : List (Nat × EccState)) : ({ s with ecc := x } : State).tsu = s.tsu := rfl
@[simp] theorem State.ecc_sch (x : List (Nat × EccState)) : ({ s with ecc := x } : State).sch = s.sch := rfl
@[simp] theorem State.ecc_adcs (x : List (Nat × EccState)) : ({ s with ecc := x } : State).adcs = s.adcs := rfl
@[simp] theorem State.ecc_sdms (x : List (Nat × EccState)) : ({ s with ecc := x } : State).sdms = s.sdms := rfl
@[simp] theorem State.ecc_sense (x : List (Nat × EccState)) : ({ s with ecc := x } : State).sense = s.sense := rfl
@[simp] theorem State.ecc_encs (x : List (Nat × EccState)) : ({ s with ecc := x } : State).encs = s.encs := rfl
@[simp] theorem State.ecc_pwms (x : List (Nat × EccState)) : ({ s with ecc := x } : State).pwms = s.pwms := rfl
@[simp] theorem State.ecc_axes (x : List (Nat × EccState)) : ({ s with ecc := x } : State).axes = s.axes := rfl
@[simp] theorem State.ecc_loops (x : List (Nat × EccState)) : ({ s with ecc := x } : State).loops = s.loops := rfl
@[simp] theorem State.ecc_reps (x : List (Nat × EccState)) : ({ s with ecc := x } : State).reps = s.reps := rfl
@[simp] theorem State.ecc_cans (x : List (Nat × EccState)) : ({ s with ecc := x } : State).cans = s.cans := rfl
@[simp] theorem State.ecc_ksw (x : List (Nat × EccState)) : ({ s with ecc := x } : State).ksw = s.ksw := rfl
@[simp] theorem State.ecc_ldl (x : List (Nat × EccState)) : ({ s with ecc := x } : State).ldl = s.ldl := rfl
@[simp] theorem State.ecc_freeCtr (x : List (Nat × EccState)) : ({ s with ecc := x } : State).freeCtr = s.freeCtr := rfl
@[simp] theorem State.ecc_pending (x : List (Nat × EccState)) : ({ s with ecc := x } : State).pending = s.pending := rfl

/-! ### A change of `pages` -/

@[simp] theorem State.pages_variant (x : Pages) : ({ s with pages := x } : State).variant = s.variant := rfl
@[simp] theorem State.pages_now (x : Pages) : ({ s with pages := x } : State).now = s.now := rfl
@[simp] theorem State.pages_regs (x : Pages) : ({ s with pages := x } : State).regs = s.regs := rfl
@[simp] theorem State.pages_power (x : Pages) : ({ s with pages := x } : State).power = s.power := rfl
@[simp] theorem State.pages_cox (x : Pages) : ({ s with pages := x } : State).cox = s.cox := rfl
@[simp] theorem State.pages_mem (x : Pages) : ({ s with pages := x } : State).mem = s.mem := rfl
@[simp] theorem State.pages_ecc (x : Pages) : ({ s with pages := x } : State).ecc = s.ecc := rfl
@[simp] theorem State.pages_skim (x : Pages) : ({ s with pages := x } : State).skim = s.skim := rfl
@[simp] theorem State.pages_memctl (x : Pages) : ({ s with pages := x } : State).memctl = s.memctl := rfl
@[simp] theorem State.pages_sec (x : Pages) : ({ s with pages := x } : State).sec = s.sec := rfl
@[simp] theorem State.pages_otp (x : Pages) : ({ s with pages := x } : State).otp = s.otp := rfl
@[simp] theorem State.pages_queues (x : Pages) : ({ s with pages := x } : State).queues = s.queues := rfl
@[simp] theorem State.pages_host (x : Pages) : ({ s with pages := x } : State).host = s.host := rfl
@[simp] theorem State.pages_dma (x : Pages) : ({ s with pages := x } : State).dma = s.dma := rfl
@[simp] theorem State.pages_dmaLast (x : Pages) : ({ s with pages := x } : State).dmaLast = s.dmaLast := rfl
@[simp] theorem State.pages_boot (x : Pages) : ({ s with pages := x } : State).boot = s.boot := rfl
@[simp] theorem State.pages_spes (x : Pages) : ({ s with pages := x } : State).spes = s.spes := rfl
@[simp] theorem State.pages_aon (x : Pages) : ({ s with pages := x } : State).aon = s.aon := rfl
@[simp] theorem State.pages_profs (x : Pages) : ({ s with pages := x } : State).profs = s.profs := rfl
@[simp] theorem State.pages_lats (x : Pages) : ({ s with pages := x } : State).lats = s.lats := rfl
@[simp] theorem State.pages_acts (x : Pages) : ({ s with pages := x } : State).acts = s.acts := rfl
@[simp] theorem State.pages_bsts (x : Pages) : ({ s with pages := x } : State).bsts = s.bsts := rfl
@[simp] theorem State.pages_tsu (x : Pages) : ({ s with pages := x } : State).tsu = s.tsu := rfl
@[simp] theorem State.pages_sch (x : Pages) : ({ s with pages := x } : State).sch = s.sch := rfl
@[simp] theorem State.pages_adcs (x : Pages) : ({ s with pages := x } : State).adcs = s.adcs := rfl
@[simp] theorem State.pages_sdms (x : Pages) : ({ s with pages := x } : State).sdms = s.sdms := rfl
@[simp] theorem State.pages_sense (x : Pages) : ({ s with pages := x } : State).sense = s.sense := rfl
@[simp] theorem State.pages_encs (x : Pages) : ({ s with pages := x } : State).encs = s.encs := rfl
@[simp] theorem State.pages_pwms (x : Pages) : ({ s with pages := x } : State).pwms = s.pwms := rfl
@[simp] theorem State.pages_axes (x : Pages) : ({ s with pages := x } : State).axes = s.axes := rfl
@[simp] theorem State.pages_loops (x : Pages) : ({ s with pages := x } : State).loops = s.loops := rfl
@[simp] theorem State.pages_reps (x : Pages) : ({ s with pages := x } : State).reps = s.reps := rfl
@[simp] theorem State.pages_cans (x : Pages) : ({ s with pages := x } : State).cans = s.cans := rfl
@[simp] theorem State.pages_ksw (x : Pages) : ({ s with pages := x } : State).ksw = s.ksw := rfl
@[simp] theorem State.pages_ldl (x : Pages) : ({ s with pages := x } : State).ldl = s.ldl := rfl
@[simp] theorem State.pages_freeCtr (x : Pages) : ({ s with pages := x } : State).freeCtr = s.freeCtr := rfl
@[simp] theorem State.pages_pending (x : Pages) : ({ s with pages := x } : State).pending = s.pending := rfl

/-! ### wr changes `regs` only -/

@[simp] theorem State.wr_variant (a : Nat) (v : Word) : (s.wr a v).variant = s.variant := State.regs_variant s _
@[simp] theorem State.wr_now (a : Nat) (v : Word) : (s.wr a v).now = s.now := State.regs_now s _
@[simp] theorem State.wr_pages (a : Nat) (v : Word) : (s.wr a v).pages = s.pages := State.regs_pages s _
@[simp] theorem State.wr_power (a : Nat) (v : Word) : (s.wr a v).power = s.power := State.regs_power s _
@[simp] theorem State.wr_cox (a : Nat) (v : Word) : (s.wr a v).cox = s.cox := State.regs_cox s _
@[simp] theorem State.wr_mem (a : Nat) (v : Word) : (s.wr a v).mem = s.mem := State.regs_mem s _
@[simp] theorem State.wr_ecc (a : Nat) (v : Word) : (s.wr a v).ecc = s.ecc := State.regs_ecc s _
@[simp] theorem State.wr_skim (a : Nat) (v : Word) : (s.wr a v).skim = s.skim := State.regs_skim s _
@[simp] theorem State.wr_memctl (a : Nat) (v : Word) : (s.wr a v).memctl = s.memctl := State.regs_memctl s _
@[simp] theorem State.wr_sec (a : Nat) (v : Word) : (s.wr a v).sec = s.sec := State.regs_sec s _
@[simp] theorem State.wr_otp (a : Nat) (v : Word) : (s.wr a v).otp = s.otp := State.regs_otp s _
@[simp] theorem State.wr_queues (a : Nat) (v : Word) : (s.wr a v).queues = s.queues := State.regs_queues s _
@[simp] theorem State.wr_host (a : Nat) (v : Word) : (s.wr a v).host = s.host := State.regs_host s _
@[simp] theorem State.wr_dma (a : Nat) (v : Word) : (s.wr a v).dma = s.dma := State.regs_dma s _
@[simp] theorem State.wr_dmaLast (a : Nat) (v : Word) : (s.wr a v).dmaLast = s.dmaLast := State.regs_dmaLast s _
@[simp] theorem State.wr_boot (a : Nat) (v : Word) : (s.wr a v).boot = s.boot := State.regs_boot s _
@[simp] theorem State.wr_spes (a : Nat) (v : Word) : (s.wr a v).spes = s.spes := State.regs_spes s _
@[simp] theorem State.wr_aon (a : Nat) (v : Word) : (s.wr a v).aon = s.aon := State.regs_aon s _
@[simp] theorem State.wr_profs (a : Nat) (v : Word) : (s.wr a v).profs = s.profs := State.regs_profs s _
@[simp] theorem State.wr_lats (a : Nat) (v : Word) : (s.wr a v).lats = s.lats := State.regs_lats s _
@[simp] theorem State.wr_acts (a : Nat) (v : Word) : (s.wr a v).acts = s.acts := State.regs_acts s _
@[simp] theorem State.wr_bsts (a : Nat) (v : Word) : (s.wr a v).bsts = s.bsts := State.regs_bsts s _
@[simp] theorem State.wr_tsu (a : Nat) (v : Word) : (s.wr a v).tsu = s.tsu := State.regs_tsu s _
@[simp] theorem State.wr_sch (a : Nat) (v : Word) : (s.wr a v).sch = s.sch := State.regs_sch s _
@[simp] theorem State.wr_adcs (a : Nat) (v : Word) : (s.wr a v).adcs = s.adcs := State.regs_adcs s _
@[simp] theorem State.wr_sdms (a : Nat) (v : Word) : (s.wr a v).sdms = s.sdms := State.regs_sdms s _
@[simp] theorem State.wr_sense (a : Nat) (v : Word) : (s.wr a v).sense = s.sense := State.regs_sense s _
@[simp] theorem State.wr_encs (a : Nat) (v : Word) : (s.wr a v).encs = s.encs := State.regs_encs s _
@[simp] theorem State.wr_pwms (a : Nat) (v : Word) : (s.wr a v).pwms = s.pwms := State.regs_pwms s _
@[simp] theorem State.wr_axes (a : Nat) (v : Word) : (s.wr a v).axes = s.axes := State.regs_axes s _
@[simp] theorem State.wr_loops (a : Nat) (v : Word) : (s.wr a v).loops = s.loops := State.regs_loops s _
@[simp] theorem State.wr_reps (a : Nat) (v : Word) : (s.wr a v).reps = s.reps := State.regs_reps s _
@[simp] theorem State.wr_cans (a : Nat) (v : Word) : (s.wr a v).cans = s.cans := State.regs_cans s _
@[simp] theorem State.wr_ksw (a : Nat) (v : Word) : (s.wr a v).ksw = s.ksw := State.regs_ksw s _
@[simp] theorem State.wr_ldl (a : Nat) (v : Word) : (s.wr a v).ldl = s.ldl := State.regs_ldl s _
@[simp] theorem State.wr_freeCtr (a : Nat) (v : Word) : (s.wr a v).freeCtr = s.freeCtr := State.regs_freeCtr s _
@[simp] theorem State.wr_pending (a : Nat) (v : Word) : (s.wr a v).pending = s.pending := State.regs_pending s _

/-! ### setFld changes `regs` only -/

@[simp] theorem State.setFld_variant (a lo len v : Nat) : (s.setFld a lo len v).variant = s.variant := State.regs_variant s _
@[simp] theorem State.setFld_now (a lo len v : Nat) : (s.setFld a lo len v).now = s.now := State.regs_now s _
@[simp] theorem State.setFld_pages (a lo len v : Nat) : (s.setFld a lo len v).pages = s.pages := State.regs_pages s _
@[simp] theorem State.setFld_power (a lo len v : Nat) : (s.setFld a lo len v).power = s.power := State.regs_power s _
@[simp] theorem State.setFld_cox (a lo len v : Nat) : (s.setFld a lo len v).cox = s.cox := State.regs_cox s _
@[simp] theorem State.setFld_mem (a lo len v : Nat) : (s.setFld a lo len v).mem = s.mem := State.regs_mem s _
@[simp] theorem State.setFld_ecc (a lo len v : Nat) : (s.setFld a lo len v).ecc = s.ecc := State.regs_ecc s _
@[simp] theorem State.setFld_skim (a lo len v : Nat) : (s.setFld a lo len v).skim = s.skim := State.regs_skim s _
@[simp] theorem State.setFld_memctl (a lo len v : Nat) : (s.setFld a lo len v).memctl = s.memctl := State.regs_memctl s _
@[simp] theorem State.setFld_sec (a lo len v : Nat) : (s.setFld a lo len v).sec = s.sec := State.regs_sec s _
@[simp] theorem State.setFld_otp (a lo len v : Nat) : (s.setFld a lo len v).otp = s.otp := State.regs_otp s _
@[simp] theorem State.setFld_queues (a lo len v : Nat) : (s.setFld a lo len v).queues = s.queues := State.regs_queues s _
@[simp] theorem State.setFld_host (a lo len v : Nat) : (s.setFld a lo len v).host = s.host := State.regs_host s _
@[simp] theorem State.setFld_dma (a lo len v : Nat) : (s.setFld a lo len v).dma = s.dma := State.regs_dma s _
@[simp] theorem State.setFld_dmaLast (a lo len v : Nat) : (s.setFld a lo len v).dmaLast = s.dmaLast := State.regs_dmaLast s _
@[simp] theorem State.setFld_boot (a lo len v : Nat) : (s.setFld a lo len v).boot = s.boot := State.regs_boot s _
@[simp] theorem State.setFld_spes (a lo len v : Nat) : (s.setFld a lo len v).spes = s.spes := State.regs_spes s _
@[simp] theorem State.setFld_aon (a lo len v : Nat) : (s.setFld a lo len v).aon = s.aon := State.regs_aon s _
@[simp] theorem State.setFld_profs (a lo len v : Nat) : (s.setFld a lo len v).profs = s.profs := State.regs_profs s _
@[simp] theorem State.setFld_lats (a lo len v : Nat) : (s.setFld a lo len v).lats = s.lats := State.regs_lats s _
@[simp] theorem State.setFld_acts (a lo len v : Nat) : (s.setFld a lo len v).acts = s.acts := State.regs_acts s _
@[simp] theorem State.setFld_bsts (a lo len v : Nat) : (s.setFld a lo len v).bsts = s.bsts := State.regs_bsts s _
@[simp] theorem State.setFld_tsu (a lo len v : Nat) : (s.setFld a lo len v).tsu = s.tsu := State.regs_tsu s _
@[simp] theorem State.setFld_sch (a lo len v : Nat) : (s.setFld a lo len v).sch = s.sch := State.regs_sch s _
@[simp] theorem State.setFld_adcs (a lo len v : Nat) : (s.setFld a lo len v).adcs = s.adcs := State.regs_adcs s _
@[simp] theorem State.setFld_sdms (a lo len v : Nat) : (s.setFld a lo len v).sdms = s.sdms := State.regs_sdms s _
@[simp] theorem State.setFld_sense (a lo len v : Nat) : (s.setFld a lo len v).sense = s.sense := State.regs_sense s _
@[simp] theorem State.setFld_encs (a lo len v : Nat) : (s.setFld a lo len v).encs = s.encs := State.regs_encs s _
@[simp] theorem State.setFld_pwms (a lo len v : Nat) : (s.setFld a lo len v).pwms = s.pwms := State.regs_pwms s _
@[simp] theorem State.setFld_axes (a lo len v : Nat) : (s.setFld a lo len v).axes = s.axes := State.regs_axes s _
@[simp] theorem State.setFld_loops (a lo len v : Nat) : (s.setFld a lo len v).loops = s.loops := State.regs_loops s _
@[simp] theorem State.setFld_reps (a lo len v : Nat) : (s.setFld a lo len v).reps = s.reps := State.regs_reps s _
@[simp] theorem State.setFld_cans (a lo len v : Nat) : (s.setFld a lo len v).cans = s.cans := State.regs_cans s _
@[simp] theorem State.setFld_ksw (a lo len v : Nat) : (s.setFld a lo len v).ksw = s.ksw := State.regs_ksw s _
@[simp] theorem State.setFld_ldl (a lo len v : Nat) : (s.setFld a lo len v).ldl = s.ldl := State.regs_ldl s _
@[simp] theorem State.setFld_freeCtr (a lo len v : Nat) : (s.setFld a lo len v).freeCtr = s.freeCtr := State.regs_freeCtr s _
@[simp] theorem State.setFld_pending (a lo len v : Nat) : (s.setFld a lo len v).pending = s.pending := State.regs_pending s _

/-! ### setFlag changes `regs` only -/

@[simp] theorem State.setFlag_variant (a k : Nat) (b : Bool) : (s.setFlag a k b).variant = s.variant := State.regs_variant s _
@[simp] theorem State.setFlag_now (a k : Nat) (b : Bool) : (s.setFlag a k b).now = s.now := State.regs_now s _
@[simp] theorem State.setFlag_pages (a k : Nat) (b : Bool) : (s.setFlag a k b).pages = s.pages := State.regs_pages s _
@[simp] theorem State.setFlag_power (a k : Nat) (b : Bool) : (s.setFlag a k b).power = s.power := State.regs_power s _
@[simp] theorem State.setFlag_cox (a k : Nat) (b : Bool) : (s.setFlag a k b).cox = s.cox := State.regs_cox s _
@[simp] theorem State.setFlag_mem (a k : Nat) (b : Bool) : (s.setFlag a k b).mem = s.mem := State.regs_mem s _
@[simp] theorem State.setFlag_ecc (a k : Nat) (b : Bool) : (s.setFlag a k b).ecc = s.ecc := State.regs_ecc s _
@[simp] theorem State.setFlag_skim (a k : Nat) (b : Bool) : (s.setFlag a k b).skim = s.skim := State.regs_skim s _
@[simp] theorem State.setFlag_memctl (a k : Nat) (b : Bool) : (s.setFlag a k b).memctl = s.memctl := State.regs_memctl s _
@[simp] theorem State.setFlag_sec (a k : Nat) (b : Bool) : (s.setFlag a k b).sec = s.sec := State.regs_sec s _
@[simp] theorem State.setFlag_otp (a k : Nat) (b : Bool) : (s.setFlag a k b).otp = s.otp := State.regs_otp s _
@[simp] theorem State.setFlag_queues (a k : Nat) (b : Bool) : (s.setFlag a k b).queues = s.queues := State.regs_queues s _
@[simp] theorem State.setFlag_host (a k : Nat) (b : Bool) : (s.setFlag a k b).host = s.host := State.regs_host s _
@[simp] theorem State.setFlag_dma (a k : Nat) (b : Bool) : (s.setFlag a k b).dma = s.dma := State.regs_dma s _
@[simp] theorem State.setFlag_dmaLast (a k : Nat) (b : Bool) : (s.setFlag a k b).dmaLast = s.dmaLast := State.regs_dmaLast s _
@[simp] theorem State.setFlag_boot (a k : Nat) (b : Bool) : (s.setFlag a k b).boot = s.boot := State.regs_boot s _
@[simp] theorem State.setFlag_spes (a k : Nat) (b : Bool) : (s.setFlag a k b).spes = s.spes := State.regs_spes s _
@[simp] theorem State.setFlag_aon (a k : Nat) (b : Bool) : (s.setFlag a k b).aon = s.aon := State.regs_aon s _
@[simp] theorem State.setFlag_profs (a k : Nat) (b : Bool) : (s.setFlag a k b).profs = s.profs := State.regs_profs s _
@[simp] theorem State.setFlag_lats (a k : Nat) (b : Bool) : (s.setFlag a k b).lats = s.lats := State.regs_lats s _
@[simp] theorem State.setFlag_acts (a k : Nat) (b : Bool) : (s.setFlag a k b).acts = s.acts := State.regs_acts s _
@[simp] theorem State.setFlag_bsts (a k : Nat) (b : Bool) : (s.setFlag a k b).bsts = s.bsts := State.regs_bsts s _
@[simp] theorem State.setFlag_tsu (a k : Nat) (b : Bool) : (s.setFlag a k b).tsu = s.tsu := State.regs_tsu s _
@[simp] theorem State.setFlag_sch (a k : Nat) (b : Bool) : (s.setFlag a k b).sch = s.sch := State.regs_sch s _
@[simp] theorem State.setFlag_adcs (a k : Nat) (b : Bool) : (s.setFlag a k b).adcs = s.adcs := State.regs_adcs s _
@[simp] theorem State.setFlag_sdms (a k : Nat) (b : Bool) : (s.setFlag a k b).sdms = s.sdms := State.regs_sdms s _
@[simp] theorem State.setFlag_sense (a k : Nat) (b : Bool) : (s.setFlag a k b).sense = s.sense := State.regs_sense s _
@[simp] theorem State.setFlag_encs (a k : Nat) (b : Bool) : (s.setFlag a k b).encs = s.encs := State.regs_encs s _
@[simp] theorem State.setFlag_pwms (a k : Nat) (b : Bool) : (s.setFlag a k b).pwms = s.pwms := State.regs_pwms s _
@[simp] theorem State.setFlag_axes (a k : Nat) (b : Bool) : (s.setFlag a k b).axes = s.axes := State.regs_axes s _
@[simp] theorem State.setFlag_loops (a k : Nat) (b : Bool) : (s.setFlag a k b).loops = s.loops := State.regs_loops s _
@[simp] theorem State.setFlag_reps (a k : Nat) (b : Bool) : (s.setFlag a k b).reps = s.reps := State.regs_reps s _
@[simp] theorem State.setFlag_cans (a k : Nat) (b : Bool) : (s.setFlag a k b).cans = s.cans := State.regs_cans s _
@[simp] theorem State.setFlag_ksw (a k : Nat) (b : Bool) : (s.setFlag a k b).ksw = s.ksw := State.regs_ksw s _
@[simp] theorem State.setFlag_ldl (a k : Nat) (b : Bool) : (s.setFlag a k b).ldl = s.ldl := State.regs_ldl s _
@[simp] theorem State.setFlag_freeCtr (a k : Nat) (b : Bool) : (s.setFlag a k b).freeCtr = s.freeCtr := State.regs_freeCtr s _
@[simp] theorem State.setFlag_pending (a k : Nat) (b : Bool) : (s.setFlag a k b).pending = s.pending := State.regs_pending s _

/-! ### wr64 changes `regs` only -/

@[simp] theorem State.wr64_variant (a v : Nat) : (s.wr64 a v).variant = s.variant := State.regs_variant s _
@[simp] theorem State.wr64_now (a v : Nat) : (s.wr64 a v).now = s.now := State.regs_now s _
@[simp] theorem State.wr64_pages (a v : Nat) : (s.wr64 a v).pages = s.pages := State.regs_pages s _
@[simp] theorem State.wr64_power (a v : Nat) : (s.wr64 a v).power = s.power := State.regs_power s _
@[simp] theorem State.wr64_cox (a v : Nat) : (s.wr64 a v).cox = s.cox := State.regs_cox s _
@[simp] theorem State.wr64_mem (a v : Nat) : (s.wr64 a v).mem = s.mem := State.regs_mem s _
@[simp] theorem State.wr64_ecc (a v : Nat) : (s.wr64 a v).ecc = s.ecc := State.regs_ecc s _
@[simp] theorem State.wr64_skim (a v : Nat) : (s.wr64 a v).skim = s.skim := State.regs_skim s _
@[simp] theorem State.wr64_memctl (a v : Nat) : (s.wr64 a v).memctl = s.memctl := State.regs_memctl s _
@[simp] theorem State.wr64_sec (a v : Nat) : (s.wr64 a v).sec = s.sec := State.regs_sec s _
@[simp] theorem State.wr64_otp (a v : Nat) : (s.wr64 a v).otp = s.otp := State.regs_otp s _
@[simp] theorem State.wr64_queues (a v : Nat) : (s.wr64 a v).queues = s.queues := State.regs_queues s _
@[simp] theorem State.wr64_host (a v : Nat) : (s.wr64 a v).host = s.host := State.regs_host s _
@[simp] theorem State.wr64_dma (a v : Nat) : (s.wr64 a v).dma = s.dma := State.regs_dma s _
@[simp] theorem State.wr64_dmaLast (a v : Nat) : (s.wr64 a v).dmaLast = s.dmaLast := State.regs_dmaLast s _
@[simp] theorem State.wr64_boot (a v : Nat) : (s.wr64 a v).boot = s.boot := State.regs_boot s _
@[simp] theorem State.wr64_spes (a v : Nat) : (s.wr64 a v).spes = s.spes := State.regs_spes s _
@[simp] theorem State.wr64_aon (a v : Nat) : (s.wr64 a v).aon = s.aon := State.regs_aon s _
@[simp] theorem State.wr64_profs (a v : Nat) : (s.wr64 a v).profs = s.profs := State.regs_profs s _
@[simp] theorem State.wr64_lats (a v : Nat) : (s.wr64 a v).lats = s.lats := State.regs_lats s _
@[simp] theorem State.wr64_acts (a v : Nat) : (s.wr64 a v).acts = s.acts := State.regs_acts s _
@[simp] theorem State.wr64_bsts (a v : Nat) : (s.wr64 a v).bsts = s.bsts := State.regs_bsts s _
@[simp] theorem State.wr64_tsu (a v : Nat) : (s.wr64 a v).tsu = s.tsu := State.regs_tsu s _
@[simp] theorem State.wr64_sch (a v : Nat) : (s.wr64 a v).sch = s.sch := State.regs_sch s _
@[simp] theorem State.wr64_adcs (a v : Nat) : (s.wr64 a v).adcs = s.adcs := State.regs_adcs s _
@[simp] theorem State.wr64_sdms (a v : Nat) : (s.wr64 a v).sdms = s.sdms := State.regs_sdms s _
@[simp] theorem State.wr64_sense (a v : Nat) : (s.wr64 a v).sense = s.sense := State.regs_sense s _
@[simp] theorem State.wr64_encs (a v : Nat) : (s.wr64 a v).encs = s.encs := State.regs_encs s _
@[simp] theorem State.wr64_pwms (a v : Nat) : (s.wr64 a v).pwms = s.pwms := State.regs_pwms s _
@[simp] theorem State.wr64_axes (a v : Nat) : (s.wr64 a v).axes = s.axes := State.regs_axes s _
@[simp] theorem State.wr64_loops (a v : Nat) : (s.wr64 a v).loops = s.loops := State.regs_loops s _
@[simp] theorem State.wr64_reps (a v : Nat) : (s.wr64 a v).reps = s.reps := State.regs_reps s _
@[simp] theorem State.wr64_cans (a v : Nat) : (s.wr64 a v).cans = s.cans := State.regs_cans s _
@[simp] theorem State.wr64_ksw (a v : Nat) : (s.wr64 a v).ksw = s.ksw := State.regs_ksw s _
@[simp] theorem State.wr64_ldl (a v : Nat) : (s.wr64 a v).ldl = s.ldl := State.regs_ldl s _
@[simp] theorem State.wr64_freeCtr (a v : Nat) : (s.wr64 a v).freeCtr = s.freeCtr := State.regs_freeCtr s _
@[simp] theorem State.wr64_pending (a v : Nat) : (s.wr64 a v).pending = s.pending := State.regs_pending s _

/-! ### cause changes `regs` only -/

@[simp] theorem State.cause_variant (base k : Nat) : (s.cause base k).variant = s.variant := State.regs_variant s _
@[simp] theorem State.cause_now (base k : Nat) : (s.cause base k).now = s.now := State.regs_now s _
@[simp] theorem State.cause_pages (base k : Nat) : (s.cause base k).pages = s.pages := State.regs_pages s _
@[simp] theorem State.cause_power (base k : Nat) : (s.cause base k).power = s.power := State.regs_power s _
@[simp] theorem State.cause_cox (base k : Nat) : (s.cause base k).cox = s.cox := State.regs_cox s _
@[simp] theorem State.cause_mem (base k : Nat) : (s.cause base k).mem = s.mem := State.regs_mem s _
@[simp] theorem State.cause_ecc (base k : Nat) : (s.cause base k).ecc = s.ecc := State.regs_ecc s _
@[simp] theorem State.cause_skim (base k : Nat) : (s.cause base k).skim = s.skim := State.regs_skim s _
@[simp] theorem State.cause_memctl (base k : Nat) : (s.cause base k).memctl = s.memctl := State.regs_memctl s _
@[simp] theorem State.cause_sec (base k : Nat) : (s.cause base k).sec = s.sec := State.regs_sec s _
@[simp] theorem State.cause_otp (base k : Nat) : (s.cause base k).otp = s.otp := State.regs_otp s _
@[simp] theorem State.cause_queues (base k : Nat) : (s.cause base k).queues = s.queues := State.regs_queues s _
@[simp] theorem State.cause_host (base k : Nat) : (s.cause base k).host = s.host := State.regs_host s _
@[simp] theorem State.cause_dma (base k : Nat) : (s.cause base k).dma = s.dma := State.regs_dma s _
@[simp] theorem State.cause_dmaLast (base k : Nat) : (s.cause base k).dmaLast = s.dmaLast := State.regs_dmaLast s _
@[simp] theorem State.cause_boot (base k : Nat) : (s.cause base k).boot = s.boot := State.regs_boot s _
@[simp] theorem State.cause_spes (base k : Nat) : (s.cause base k).spes = s.spes := State.regs_spes s _
@[simp] theorem State.cause_aon (base k : Nat) : (s.cause base k).aon = s.aon := State.regs_aon s _
@[simp] theorem State.cause_profs (base k : Nat) : (s.cause base k).profs = s.profs := State.regs_profs s _
@[simp] theorem State.cause_lats (base k : Nat) : (s.cause base k).lats = s.lats := State.regs_lats s _
@[simp] theorem State.cause_acts (base k : Nat) : (s.cause base k).acts = s.acts := State.regs_acts s _
@[simp] theorem State.cause_bsts (base k : Nat) : (s.cause base k).bsts = s.bsts := State.regs_bsts s _
@[simp] theorem State.cause_tsu (base k : Nat) : (s.cause base k).tsu = s.tsu := State.regs_tsu s _
@[simp] theorem State.cause_sch (base k : Nat) : (s.cause base k).sch = s.sch := State.regs_sch s _
@[simp] theorem State.cause_adcs (base k : Nat) : (s.cause base k).adcs = s.adcs := State.regs_adcs s _
@[simp] theorem State.cause_sdms (base k : Nat) : (s.cause base k).sdms = s.sdms := State.regs_sdms s _
@[simp] theorem State.cause_sense (base k : Nat) : (s.cause base k).sense = s.sense := State.regs_sense s _
@[simp] theorem State.cause_encs (base k : Nat) : (s.cause base k).encs = s.encs := State.regs_encs s _
@[simp] theorem State.cause_pwms (base k : Nat) : (s.cause base k).pwms = s.pwms := State.regs_pwms s _
@[simp] theorem State.cause_axes (base k : Nat) : (s.cause base k).axes = s.axes := State.regs_axes s _
@[simp] theorem State.cause_loops (base k : Nat) : (s.cause base k).loops = s.loops := State.regs_loops s _
@[simp] theorem State.cause_reps (base k : Nat) : (s.cause base k).reps = s.reps := State.regs_reps s _
@[simp] theorem State.cause_cans (base k : Nat) : (s.cause base k).cans = s.cans := State.regs_cans s _
@[simp] theorem State.cause_ksw (base k : Nat) : (s.cause base k).ksw = s.ksw := State.regs_ksw s _
@[simp] theorem State.cause_ldl (base k : Nat) : (s.cause base k).ldl = s.ldl := State.regs_ldl s _
@[simp] theorem State.cause_freeCtr (base k : Nat) : (s.cause base k).freeCtr = s.freeCtr := State.regs_freeCtr s _
@[simp] theorem State.cause_pending (base k : Nat) : (s.cause base k).pending = s.pending := State.regs_pending s _

/-! ### queueCause changes `regs` only -/

@[simp] theorem State.queueCause_variant (q k : Nat) : (s.queueCause q k).variant = s.variant := State.regs_variant s _
@[simp] theorem State.queueCause_now (q k : Nat) : (s.queueCause q k).now = s.now := State.regs_now s _
@[simp] theorem State.queueCause_pages (q k : Nat) : (s.queueCause q k).pages = s.pages := State.regs_pages s _
@[simp] theorem State.queueCause_power (q k : Nat) : (s.queueCause q k).power = s.power := State.regs_power s _
@[simp] theorem State.queueCause_cox (q k : Nat) : (s.queueCause q k).cox = s.cox := State.regs_cox s _
@[simp] theorem State.queueCause_mem (q k : Nat) : (s.queueCause q k).mem = s.mem := State.regs_mem s _
@[simp] theorem State.queueCause_ecc (q k : Nat) : (s.queueCause q k).ecc = s.ecc := State.regs_ecc s _
@[simp] theorem State.queueCause_skim (q k : Nat) : (s.queueCause q k).skim = s.skim := State.regs_skim s _
@[simp] theorem State.queueCause_memctl (q k : Nat) : (s.queueCause q k).memctl = s.memctl := State.regs_memctl s _
@[simp] theorem State.queueCause_sec (q k : Nat) : (s.queueCause q k).sec = s.sec := State.regs_sec s _
@[simp] theorem State.queueCause_otp (q k : Nat) : (s.queueCause q k).otp = s.otp := State.regs_otp s _
@[simp] theorem State.queueCause_queues (q k : Nat) : (s.queueCause q k).queues = s.queues := State.regs_queues s _
@[simp] theorem State.queueCause_host (q k : Nat) : (s.queueCause q k).host = s.host := State.regs_host s _
@[simp] theorem State.queueCause_dma (q k : Nat) : (s.queueCause q k).dma = s.dma := State.regs_dma s _
@[simp] theorem State.queueCause_dmaLast (q k : Nat) : (s.queueCause q k).dmaLast = s.dmaLast := State.regs_dmaLast s _
@[simp] theorem State.queueCause_boot (q k : Nat) : (s.queueCause q k).boot = s.boot := State.regs_boot s _
@[simp] theorem State.queueCause_spes (q k : Nat) : (s.queueCause q k).spes = s.spes := State.regs_spes s _
@[simp] theorem State.queueCause_aon (q k : Nat) : (s.queueCause q k).aon = s.aon := State.regs_aon s _
@[simp] theorem State.queueCause_profs (q k : Nat) : (s.queueCause q k).profs = s.profs := State.regs_profs s _
@[simp] theorem State.queueCause_lats (q k : Nat) : (s.queueCause q k).lats = s.lats := State.regs_lats s _
@[simp] theorem State.queueCause_acts (q k : Nat) : (s.queueCause q k).acts = s.acts := State.regs_acts s _
@[simp] theorem State.queueCause_bsts (q k : Nat) : (s.queueCause q k).bsts = s.bsts := State.regs_bsts s _
@[simp] theorem State.queueCause_tsu (q k : Nat) : (s.queueCause q k).tsu = s.tsu := State.regs_tsu s _
@[simp] theorem State.queueCause_sch (q k : Nat) : (s.queueCause q k).sch = s.sch := State.regs_sch s _
@[simp] theorem State.queueCause_adcs (q k : Nat) : (s.queueCause q k).adcs = s.adcs := State.regs_adcs s _
@[simp] theorem State.queueCause_sdms (q k : Nat) : (s.queueCause q k).sdms = s.sdms := State.regs_sdms s _
@[simp] theorem State.queueCause_sense (q k : Nat) : (s.queueCause q k).sense = s.sense := State.regs_sense s _
@[simp] theorem State.queueCause_encs (q k : Nat) : (s.queueCause q k).encs = s.encs := State.regs_encs s _
@[simp] theorem State.queueCause_pwms (q k : Nat) : (s.queueCause q k).pwms = s.pwms := State.regs_pwms s _
@[simp] theorem State.queueCause_axes (q k : Nat) : (s.queueCause q k).axes = s.axes := State.regs_axes s _
@[simp] theorem State.queueCause_loops (q k : Nat) : (s.queueCause q k).loops = s.loops := State.regs_loops s _
@[simp] theorem State.queueCause_reps (q k : Nat) : (s.queueCause q k).reps = s.reps := State.regs_reps s _
@[simp] theorem State.queueCause_cans (q k : Nat) : (s.queueCause q k).cans = s.cans := State.regs_cans s _
@[simp] theorem State.queueCause_ksw (q k : Nat) : (s.queueCause q k).ksw = s.ksw := State.regs_ksw s _
@[simp] theorem State.queueCause_ldl (q k : Nat) : (s.queueCause q k).ldl = s.ldl := State.regs_ldl s _
@[simp] theorem State.queueCause_freeCtr (q k : Nat) : (s.queueCause q k).freeCtr = s.freeCtr := State.regs_freeCtr s _
@[simp] theorem State.queueCause_pending (q k : Nat) : (s.queueCause q k).pending = s.pending := State.regs_pending s _

/-! ### wrapInc changes `regs` only -/

@[simp] theorem State.wrapInc_variant (a : Nat) : (s.wrapInc a).variant = s.variant := State.regs_variant s _
@[simp] theorem State.wrapInc_now (a : Nat) : (s.wrapInc a).now = s.now := State.regs_now s _
@[simp] theorem State.wrapInc_pages (a : Nat) : (s.wrapInc a).pages = s.pages := State.regs_pages s _
@[simp] theorem State.wrapInc_power (a : Nat) : (s.wrapInc a).power = s.power := State.regs_power s _
@[simp] theorem State.wrapInc_cox (a : Nat) : (s.wrapInc a).cox = s.cox := State.regs_cox s _
@[simp] theorem State.wrapInc_mem (a : Nat) : (s.wrapInc a).mem = s.mem := State.regs_mem s _
@[simp] theorem State.wrapInc_ecc (a : Nat) : (s.wrapInc a).ecc = s.ecc := State.regs_ecc s _
@[simp] theorem State.wrapInc_skim (a : Nat) : (s.wrapInc a).skim = s.skim := State.regs_skim s _
@[simp] theorem State.wrapInc_memctl (a : Nat) : (s.wrapInc a).memctl = s.memctl := State.regs_memctl s _
@[simp] theorem State.wrapInc_sec (a : Nat) : (s.wrapInc a).sec = s.sec := State.regs_sec s _
@[simp] theorem State.wrapInc_otp (a : Nat) : (s.wrapInc a).otp = s.otp := State.regs_otp s _
@[simp] theorem State.wrapInc_queues (a : Nat) : (s.wrapInc a).queues = s.queues := State.regs_queues s _
@[simp] theorem State.wrapInc_host (a : Nat) : (s.wrapInc a).host = s.host := State.regs_host s _
@[simp] theorem State.wrapInc_dma (a : Nat) : (s.wrapInc a).dma = s.dma := State.regs_dma s _
@[simp] theorem State.wrapInc_dmaLast (a : Nat) : (s.wrapInc a).dmaLast = s.dmaLast := State.regs_dmaLast s _
@[simp] theorem State.wrapInc_boot (a : Nat) : (s.wrapInc a).boot = s.boot := State.regs_boot s _
@[simp] theorem State.wrapInc_spes (a : Nat) : (s.wrapInc a).spes = s.spes := State.regs_spes s _
@[simp] theorem State.wrapInc_aon (a : Nat) : (s.wrapInc a).aon = s.aon := State.regs_aon s _
@[simp] theorem State.wrapInc_profs (a : Nat) : (s.wrapInc a).profs = s.profs := State.regs_profs s _
@[simp] theorem State.wrapInc_lats (a : Nat) : (s.wrapInc a).lats = s.lats := State.regs_lats s _
@[simp] theorem State.wrapInc_acts (a : Nat) : (s.wrapInc a).acts = s.acts := State.regs_acts s _
@[simp] theorem State.wrapInc_bsts (a : Nat) : (s.wrapInc a).bsts = s.bsts := State.regs_bsts s _
@[simp] theorem State.wrapInc_tsu (a : Nat) : (s.wrapInc a).tsu = s.tsu := State.regs_tsu s _
@[simp] theorem State.wrapInc_sch (a : Nat) : (s.wrapInc a).sch = s.sch := State.regs_sch s _
@[simp] theorem State.wrapInc_adcs (a : Nat) : (s.wrapInc a).adcs = s.adcs := State.regs_adcs s _
@[simp] theorem State.wrapInc_sdms (a : Nat) : (s.wrapInc a).sdms = s.sdms := State.regs_sdms s _
@[simp] theorem State.wrapInc_sense (a : Nat) : (s.wrapInc a).sense = s.sense := State.regs_sense s _
@[simp] theorem State.wrapInc_encs (a : Nat) : (s.wrapInc a).encs = s.encs := State.regs_encs s _
@[simp] theorem State.wrapInc_pwms (a : Nat) : (s.wrapInc a).pwms = s.pwms := State.regs_pwms s _
@[simp] theorem State.wrapInc_axes (a : Nat) : (s.wrapInc a).axes = s.axes := State.regs_axes s _
@[simp] theorem State.wrapInc_loops (a : Nat) : (s.wrapInc a).loops = s.loops := State.regs_loops s _
@[simp] theorem State.wrapInc_reps (a : Nat) : (s.wrapInc a).reps = s.reps := State.regs_reps s _
@[simp] theorem State.wrapInc_cans (a : Nat) : (s.wrapInc a).cans = s.cans := State.regs_cans s _
@[simp] theorem State.wrapInc_ksw (a : Nat) : (s.wrapInc a).ksw = s.ksw := State.regs_ksw s _
@[simp] theorem State.wrapInc_ldl (a : Nat) : (s.wrapInc a).ldl = s.ldl := State.regs_ldl s _
@[simp] theorem State.wrapInc_freeCtr (a : Nat) : (s.wrapInc a).freeCtr = s.freeCtr := State.regs_freeCtr s _
@[simp] theorem State.wrapInc_pending (a : Nat) : (s.wrapInc a).pending = s.pending := State.regs_pending s _

/-! ### drawn changes `freeCtr` only -/

@[simp] theorem State.drawn_variant  : (s.drawn).variant = s.variant := State.freeCtr_variant s _
@[simp] theorem State.drawn_now  : (s.drawn).now = s.now := State.freeCtr_now s _
@[simp] theorem State.drawn_regs  : (s.drawn).regs = s.regs := State.freeCtr_regs s _
@[simp] theorem State.drawn_pages  : (s.drawn).pages = s.pages := State.freeCtr_pages s _
@[simp] theorem State.drawn_power  : (s.drawn).power = s.power := State.freeCtr_power s _
@[simp] theorem State.drawn_cox  : (s.drawn).cox = s.cox := State.freeCtr_cox s _
@[simp] theorem State.drawn_mem  : (s.drawn).mem = s.mem := State.freeCtr_mem s _
@[simp] theorem State.drawn_ecc  : (s.drawn).ecc = s.ecc := State.freeCtr_ecc s _
@[simp] theorem State.drawn_skim  : (s.drawn).skim = s.skim := State.freeCtr_skim s _
@[simp] theorem State.drawn_memctl  : (s.drawn).memctl = s.memctl := State.freeCtr_memctl s _
@[simp] theorem State.drawn_sec  : (s.drawn).sec = s.sec := State.freeCtr_sec s _
@[simp] theorem State.drawn_otp  : (s.drawn).otp = s.otp := State.freeCtr_otp s _
@[simp] theorem State.drawn_queues  : (s.drawn).queues = s.queues := State.freeCtr_queues s _
@[simp] theorem State.drawn_host  : (s.drawn).host = s.host := State.freeCtr_host s _
@[simp] theorem State.drawn_dma  : (s.drawn).dma = s.dma := State.freeCtr_dma s _
@[simp] theorem State.drawn_dmaLast  : (s.drawn).dmaLast = s.dmaLast := State.freeCtr_dmaLast s _
@[simp] theorem State.drawn_boot  : (s.drawn).boot = s.boot := State.freeCtr_boot s _
@[simp] theorem State.drawn_spes  : (s.drawn).spes = s.spes := State.freeCtr_spes s _
@[simp] theorem State.drawn_aon  : (s.drawn).aon = s.aon := State.freeCtr_aon s _
@[simp] theorem State.drawn_profs  : (s.drawn).profs = s.profs := State.freeCtr_profs s _
@[simp] theorem State.drawn_lats  : (s.drawn).lats = s.lats := State.freeCtr_lats s _
@[simp] theorem State.drawn_acts  : (s.drawn).acts = s.acts := State.freeCtr_acts s _
@[simp] theorem State.drawn_bsts  : (s.drawn).bsts = s.bsts := State.freeCtr_bsts s _
@[simp] theorem State.drawn_tsu  : (s.drawn).tsu = s.tsu := State.freeCtr_tsu s _
@[simp] theorem State.drawn_sch  : (s.drawn).sch = s.sch := State.freeCtr_sch s _
@[simp] theorem State.drawn_adcs  : (s.drawn).adcs = s.adcs := State.freeCtr_adcs s _
@[simp] theorem State.drawn_sdms  : (s.drawn).sdms = s.sdms := State.freeCtr_sdms s _
@[simp] theorem State.drawn_sense  : (s.drawn).sense = s.sense := State.freeCtr_sense s _
@[simp] theorem State.drawn_encs  : (s.drawn).encs = s.encs := State.freeCtr_encs s _
@[simp] theorem State.drawn_pwms  : (s.drawn).pwms = s.pwms := State.freeCtr_pwms s _
@[simp] theorem State.drawn_axes  : (s.drawn).axes = s.axes := State.freeCtr_axes s _
@[simp] theorem State.drawn_loops  : (s.drawn).loops = s.loops := State.freeCtr_loops s _
@[simp] theorem State.drawn_reps  : (s.drawn).reps = s.reps := State.freeCtr_reps s _
@[simp] theorem State.drawn_cans  : (s.drawn).cans = s.cans := State.freeCtr_cans s _
@[simp] theorem State.drawn_ksw  : (s.drawn).ksw = s.ksw := State.freeCtr_ksw s _
@[simp] theorem State.drawn_ldl  : (s.drawn).ldl = s.ldl := State.freeCtr_ldl s _
@[simp] theorem State.drawn_pending  : (s.drawn).pending = s.pending := State.freeCtr_pending s _

/-! ### setSpe changes `spes` only -/

@[simp] theorem State.setSpe_variant (n : Nat) (x : Spe) : (s.setSpe n x).variant = s.variant := State.spes_variant s _
@[simp] theorem State.setSpe_now (n : Nat) (x : Spe) : (s.setSpe n x).now = s.now := State.spes_now s _
@[simp] theorem State.setSpe_regs (n : Nat) (x : Spe) : (s.setSpe n x).regs = s.regs := State.spes_regs s _
@[simp] theorem State.setSpe_pages (n : Nat) (x : Spe) : (s.setSpe n x).pages = s.pages := State.spes_pages s _
@[simp] theorem State.setSpe_power (n : Nat) (x : Spe) : (s.setSpe n x).power = s.power := State.spes_power s _
@[simp] theorem State.setSpe_cox (n : Nat) (x : Spe) : (s.setSpe n x).cox = s.cox := State.spes_cox s _
@[simp] theorem State.setSpe_mem (n : Nat) (x : Spe) : (s.setSpe n x).mem = s.mem := State.spes_mem s _
@[simp] theorem State.setSpe_ecc (n : Nat) (x : Spe) : (s.setSpe n x).ecc = s.ecc := State.spes_ecc s _
@[simp] theorem State.setSpe_skim (n : Nat) (x : Spe) : (s.setSpe n x).skim = s.skim := State.spes_skim s _
@[simp] theorem State.setSpe_memctl (n : Nat) (x : Spe) : (s.setSpe n x).memctl = s.memctl := State.spes_memctl s _
@[simp] theorem State.setSpe_sec (n : Nat) (x : Spe) : (s.setSpe n x).sec = s.sec := State.spes_sec s _
@[simp] theorem State.setSpe_otp (n : Nat) (x : Spe) : (s.setSpe n x).otp = s.otp := State.spes_otp s _
@[simp] theorem State.setSpe_queues (n : Nat) (x : Spe) : (s.setSpe n x).queues = s.queues := State.spes_queues s _
@[simp] theorem State.setSpe_host (n : Nat) (x : Spe) : (s.setSpe n x).host = s.host := State.spes_host s _
@[simp] theorem State.setSpe_dma (n : Nat) (x : Spe) : (s.setSpe n x).dma = s.dma := State.spes_dma s _
@[simp] theorem State.setSpe_dmaLast (n : Nat) (x : Spe) : (s.setSpe n x).dmaLast = s.dmaLast := State.spes_dmaLast s _
@[simp] theorem State.setSpe_boot (n : Nat) (x : Spe) : (s.setSpe n x).boot = s.boot := State.spes_boot s _
@[simp] theorem State.setSpe_aon (n : Nat) (x : Spe) : (s.setSpe n x).aon = s.aon := State.spes_aon s _
@[simp] theorem State.setSpe_profs (n : Nat) (x : Spe) : (s.setSpe n x).profs = s.profs := State.spes_profs s _
@[simp] theorem State.setSpe_lats (n : Nat) (x : Spe) : (s.setSpe n x).lats = s.lats := State.spes_lats s _
@[simp] theorem State.setSpe_acts (n : Nat) (x : Spe) : (s.setSpe n x).acts = s.acts := State.spes_acts s _
@[simp] theorem State.setSpe_bsts (n : Nat) (x : Spe) : (s.setSpe n x).bsts = s.bsts := State.spes_bsts s _
@[simp] theorem State.setSpe_tsu (n : Nat) (x : Spe) : (s.setSpe n x).tsu = s.tsu := State.spes_tsu s _
@[simp] theorem State.setSpe_sch (n : Nat) (x : Spe) : (s.setSpe n x).sch = s.sch := State.spes_sch s _
@[simp] theorem State.setSpe_adcs (n : Nat) (x : Spe) : (s.setSpe n x).adcs = s.adcs := State.spes_adcs s _
@[simp] theorem State.setSpe_sdms (n : Nat) (x : Spe) : (s.setSpe n x).sdms = s.sdms := State.spes_sdms s _
@[simp] theorem State.setSpe_sense (n : Nat) (x : Spe) : (s.setSpe n x).sense = s.sense := State.spes_sense s _
@[simp] theorem State.setSpe_encs (n : Nat) (x : Spe) : (s.setSpe n x).encs = s.encs := State.spes_encs s _
@[simp] theorem State.setSpe_pwms (n : Nat) (x : Spe) : (s.setSpe n x).pwms = s.pwms := State.spes_pwms s _
@[simp] theorem State.setSpe_axes (n : Nat) (x : Spe) : (s.setSpe n x).axes = s.axes := State.spes_axes s _
@[simp] theorem State.setSpe_loops (n : Nat) (x : Spe) : (s.setSpe n x).loops = s.loops := State.spes_loops s _
@[simp] theorem State.setSpe_reps (n : Nat) (x : Spe) : (s.setSpe n x).reps = s.reps := State.spes_reps s _
@[simp] theorem State.setSpe_cans (n : Nat) (x : Spe) : (s.setSpe n x).cans = s.cans := State.spes_cans s _
@[simp] theorem State.setSpe_ksw (n : Nat) (x : Spe) : (s.setSpe n x).ksw = s.ksw := State.spes_ksw s _
@[simp] theorem State.setSpe_ldl (n : Nat) (x : Spe) : (s.setSpe n x).ldl = s.ldl := State.spes_ldl s _
@[simp] theorem State.setSpe_freeCtr (n : Nat) (x : Spe) : (s.setSpe n x).freeCtr = s.freeCtr := State.spes_freeCtr s _
@[simp] theorem State.setSpe_pending (n : Nat) (x : Spe) : (s.setSpe n x).pending = s.pending := State.spes_pending s _

/-! ### onSpe changes `spes` only -/

@[simp] theorem State.onSpe_variant (n : Nat) (f : Spe → Spe) : (s.onSpe n f).variant = s.variant := State.spes_variant s _
@[simp] theorem State.onSpe_now (n : Nat) (f : Spe → Spe) : (s.onSpe n f).now = s.now := State.spes_now s _
@[simp] theorem State.onSpe_regs (n : Nat) (f : Spe → Spe) : (s.onSpe n f).regs = s.regs := State.spes_regs s _
@[simp] theorem State.onSpe_pages (n : Nat) (f : Spe → Spe) : (s.onSpe n f).pages = s.pages := State.spes_pages s _
@[simp] theorem State.onSpe_power (n : Nat) (f : Spe → Spe) : (s.onSpe n f).power = s.power := State.spes_power s _
@[simp] theorem State.onSpe_cox (n : Nat) (f : Spe → Spe) : (s.onSpe n f).cox = s.cox := State.spes_cox s _
@[simp] theorem State.onSpe_mem (n : Nat) (f : Spe → Spe) : (s.onSpe n f).mem = s.mem := State.spes_mem s _
@[simp] theorem State.onSpe_ecc (n : Nat) (f : Spe → Spe) : (s.onSpe n f).ecc = s.ecc := State.spes_ecc s _
@[simp] theorem State.onSpe_skim (n : Nat) (f : Spe → Spe) : (s.onSpe n f).skim = s.skim := State.spes_skim s _
@[simp] theorem State.onSpe_memctl (n : Nat) (f : Spe → Spe) : (s.onSpe n f).memctl = s.memctl := State.spes_memctl s _
@[simp] theorem State.onSpe_sec (n : Nat) (f : Spe → Spe) : (s.onSpe n f).sec = s.sec := State.spes_sec s _
@[simp] theorem State.onSpe_otp (n : Nat) (f : Spe → Spe) : (s.onSpe n f).otp = s.otp := State.spes_otp s _
@[simp] theorem State.onSpe_queues (n : Nat) (f : Spe → Spe) : (s.onSpe n f).queues = s.queues := State.spes_queues s _
@[simp] theorem State.onSpe_host (n : Nat) (f : Spe → Spe) : (s.onSpe n f).host = s.host := State.spes_host s _
@[simp] theorem State.onSpe_dma (n : Nat) (f : Spe → Spe) : (s.onSpe n f).dma = s.dma := State.spes_dma s _
@[simp] theorem State.onSpe_dmaLast (n : Nat) (f : Spe → Spe) : (s.onSpe n f).dmaLast = s.dmaLast := State.spes_dmaLast s _
@[simp] theorem State.onSpe_boot (n : Nat) (f : Spe → Spe) : (s.onSpe n f).boot = s.boot := State.spes_boot s _
@[simp] theorem State.onSpe_aon (n : Nat) (f : Spe → Spe) : (s.onSpe n f).aon = s.aon := State.spes_aon s _
@[simp] theorem State.onSpe_profs (n : Nat) (f : Spe → Spe) : (s.onSpe n f).profs = s.profs := State.spes_profs s _
@[simp] theorem State.onSpe_lats (n : Nat) (f : Spe → Spe) : (s.onSpe n f).lats = s.lats := State.spes_lats s _
@[simp] theorem State.onSpe_acts (n : Nat) (f : Spe → Spe) : (s.onSpe n f).acts = s.acts := State.spes_acts s _
@[simp] theorem State.onSpe_bsts (n : Nat) (f : Spe → Spe) : (s.onSpe n f).bsts = s.bsts := State.spes_bsts s _
@[simp] theorem State.onSpe_tsu (n : Nat) (f : Spe → Spe) : (s.onSpe n f).tsu = s.tsu := State.spes_tsu s _
@[simp] theorem State.onSpe_sch (n : Nat) (f : Spe → Spe) : (s.onSpe n f).sch = s.sch := State.spes_sch s _
@[simp] theorem State.onSpe_adcs (n : Nat) (f : Spe → Spe) : (s.onSpe n f).adcs = s.adcs := State.spes_adcs s _
@[simp] theorem State.onSpe_sdms (n : Nat) (f : Spe → Spe) : (s.onSpe n f).sdms = s.sdms := State.spes_sdms s _
@[simp] theorem State.onSpe_sense (n : Nat) (f : Spe → Spe) : (s.onSpe n f).sense = s.sense := State.spes_sense s _
@[simp] theorem State.onSpe_encs (n : Nat) (f : Spe → Spe) : (s.onSpe n f).encs = s.encs := State.spes_encs s _
@[simp] theorem State.onSpe_pwms (n : Nat) (f : Spe → Spe) : (s.onSpe n f).pwms = s.pwms := State.spes_pwms s _
@[simp] theorem State.onSpe_axes (n : Nat) (f : Spe → Spe) : (s.onSpe n f).axes = s.axes := State.spes_axes s _
@[simp] theorem State.onSpe_loops (n : Nat) (f : Spe → Spe) : (s.onSpe n f).loops = s.loops := State.spes_loops s _
@[simp] theorem State.onSpe_reps (n : Nat) (f : Spe → Spe) : (s.onSpe n f).reps = s.reps := State.spes_reps s _
@[simp] theorem State.onSpe_cans (n : Nat) (f : Spe → Spe) : (s.onSpe n f).cans = s.cans := State.spes_cans s _
@[simp] theorem State.onSpe_ksw (n : Nat) (f : Spe → Spe) : (s.onSpe n f).ksw = s.ksw := State.spes_ksw s _
@[simp] theorem State.onSpe_ldl (n : Nat) (f : Spe → Spe) : (s.onSpe n f).ldl = s.ldl := State.spes_ldl s _
@[simp] theorem State.onSpe_freeCtr (n : Nat) (f : Spe → Spe) : (s.onSpe n f).freeCtr = s.freeCtr := State.spes_freeCtr s _
@[simp] theorem State.onSpe_pending (n : Nat) (f : Spe → Spe) : (s.onSpe n f).pending = s.pending := State.spes_pending s _

/-! ### setQueue changes `queues` only -/

@[simp] theorem State.setQueue_variant (q : Nat) (x : Queue) : (s.setQueue q x).variant = s.variant := State.queues_variant s _
@[simp] theorem State.setQueue_now (q : Nat) (x : Queue) : (s.setQueue q x).now = s.now := State.queues_now s _
@[simp] theorem State.setQueue_regs (q : Nat) (x : Queue) : (s.setQueue q x).regs = s.regs := State.queues_regs s _
@[simp] theorem State.setQueue_pages (q : Nat) (x : Queue) : (s.setQueue q x).pages = s.pages := State.queues_pages s _
@[simp] theorem State.setQueue_power (q : Nat) (x : Queue) : (s.setQueue q x).power = s.power := State.queues_power s _
@[simp] theorem State.setQueue_cox (q : Nat) (x : Queue) : (s.setQueue q x).cox = s.cox := State.queues_cox s _
@[simp] theorem State.setQueue_mem (q : Nat) (x : Queue) : (s.setQueue q x).mem = s.mem := State.queues_mem s _
@[simp] theorem State.setQueue_ecc (q : Nat) (x : Queue) : (s.setQueue q x).ecc = s.ecc := State.queues_ecc s _
@[simp] theorem State.setQueue_skim (q : Nat) (x : Queue) : (s.setQueue q x).skim = s.skim := State.queues_skim s _
@[simp] theorem State.setQueue_memctl (q : Nat) (x : Queue) : (s.setQueue q x).memctl = s.memctl := State.queues_memctl s _
@[simp] theorem State.setQueue_sec (q : Nat) (x : Queue) : (s.setQueue q x).sec = s.sec := State.queues_sec s _
@[simp] theorem State.setQueue_otp (q : Nat) (x : Queue) : (s.setQueue q x).otp = s.otp := State.queues_otp s _
@[simp] theorem State.setQueue_host (q : Nat) (x : Queue) : (s.setQueue q x).host = s.host := State.queues_host s _
@[simp] theorem State.setQueue_dma (q : Nat) (x : Queue) : (s.setQueue q x).dma = s.dma := State.queues_dma s _
@[simp] theorem State.setQueue_dmaLast (q : Nat) (x : Queue) : (s.setQueue q x).dmaLast = s.dmaLast := State.queues_dmaLast s _
@[simp] theorem State.setQueue_boot (q : Nat) (x : Queue) : (s.setQueue q x).boot = s.boot := State.queues_boot s _
@[simp] theorem State.setQueue_spes (q : Nat) (x : Queue) : (s.setQueue q x).spes = s.spes := State.queues_spes s _
@[simp] theorem State.setQueue_aon (q : Nat) (x : Queue) : (s.setQueue q x).aon = s.aon := State.queues_aon s _
@[simp] theorem State.setQueue_profs (q : Nat) (x : Queue) : (s.setQueue q x).profs = s.profs := State.queues_profs s _
@[simp] theorem State.setQueue_lats (q : Nat) (x : Queue) : (s.setQueue q x).lats = s.lats := State.queues_lats s _
@[simp] theorem State.setQueue_acts (q : Nat) (x : Queue) : (s.setQueue q x).acts = s.acts := State.queues_acts s _
@[simp] theorem State.setQueue_bsts (q : Nat) (x : Queue) : (s.setQueue q x).bsts = s.bsts := State.queues_bsts s _
@[simp] theorem State.setQueue_tsu (q : Nat) (x : Queue) : (s.setQueue q x).tsu = s.tsu := State.queues_tsu s _
@[simp] theorem State.setQueue_sch (q : Nat) (x : Queue) : (s.setQueue q x).sch = s.sch := State.queues_sch s _
@[simp] theorem State.setQueue_adcs (q : Nat) (x : Queue) : (s.setQueue q x).adcs = s.adcs := State.queues_adcs s _
@[simp] theorem State.setQueue_sdms (q : Nat) (x : Queue) : (s.setQueue q x).sdms = s.sdms := State.queues_sdms s _
@[simp] theorem State.setQueue_sense (q : Nat) (x : Queue) : (s.setQueue q x).sense = s.sense := State.queues_sense s _
@[simp] theorem State.setQueue_encs (q : Nat) (x : Queue) : (s.setQueue q x).encs = s.encs := State.queues_encs s _
@[simp] theorem State.setQueue_pwms (q : Nat) (x : Queue) : (s.setQueue q x).pwms = s.pwms := State.queues_pwms s _
@[simp] theorem State.setQueue_axes (q : Nat) (x : Queue) : (s.setQueue q x).axes = s.axes := State.queues_axes s _
@[simp] theorem State.setQueue_loops (q : Nat) (x : Queue) : (s.setQueue q x).loops = s.loops := State.queues_loops s _
@[simp] theorem State.setQueue_reps (q : Nat) (x : Queue) : (s.setQueue q x).reps = s.reps := State.queues_reps s _
@[simp] theorem State.setQueue_cans (q : Nat) (x : Queue) : (s.setQueue q x).cans = s.cans := State.queues_cans s _
@[simp] theorem State.setQueue_ksw (q : Nat) (x : Queue) : (s.setQueue q x).ksw = s.ksw := State.queues_ksw s _
@[simp] theorem State.setQueue_ldl (q : Nat) (x : Queue) : (s.setQueue q x).ldl = s.ldl := State.queues_ldl s _
@[simp] theorem State.setQueue_freeCtr (q : Nat) (x : Queue) : (s.setQueue q x).freeCtr = s.freeCtr := State.queues_freeCtr s _
@[simp] theorem State.setQueue_pending (q : Nat) (x : Queue) : (s.setQueue q x).pending = s.pending := State.queues_pending s _

/-! ### setDma changes `dma` only -/

@[simp] theorem State.setDma_variant (n : Nat) (x : DmaChan) : (s.setDma n x).variant = s.variant := State.dma_variant s _
@[simp] theorem State.setDma_now (n : Nat) (x : DmaChan) : (s.setDma n x).now = s.now := State.dma_now s _
@[simp] theorem State.setDma_regs (n : Nat) (x : DmaChan) : (s.setDma n x).regs = s.regs := State.dma_regs s _
@[simp] theorem State.setDma_pages (n : Nat) (x : DmaChan) : (s.setDma n x).pages = s.pages := State.dma_pages s _
@[simp] theorem State.setDma_power (n : Nat) (x : DmaChan) : (s.setDma n x).power = s.power := State.dma_power s _
@[simp] theorem State.setDma_cox (n : Nat) (x : DmaChan) : (s.setDma n x).cox = s.cox := State.dma_cox s _
@[simp] theorem State.setDma_mem (n : Nat) (x : DmaChan) : (s.setDma n x).mem = s.mem := State.dma_mem s _
@[simp] theorem State.setDma_ecc (n : Nat) (x : DmaChan) : (s.setDma n x).ecc = s.ecc := State.dma_ecc s _
@[simp] theorem State.setDma_skim (n : Nat) (x : DmaChan) : (s.setDma n x).skim = s.skim := State.dma_skim s _
@[simp] theorem State.setDma_memctl (n : Nat) (x : DmaChan) : (s.setDma n x).memctl = s.memctl := State.dma_memctl s _
@[simp] theorem State.setDma_sec (n : Nat) (x : DmaChan) : (s.setDma n x).sec = s.sec := State.dma_sec s _
@[simp] theorem State.setDma_otp (n : Nat) (x : DmaChan) : (s.setDma n x).otp = s.otp := State.dma_otp s _
@[simp] theorem State.setDma_queues (n : Nat) (x : DmaChan) : (s.setDma n x).queues = s.queues := State.dma_queues s _
@[simp] theorem State.setDma_host (n : Nat) (x : DmaChan) : (s.setDma n x).host = s.host := State.dma_host s _
@[simp] theorem State.setDma_dmaLast (n : Nat) (x : DmaChan) : (s.setDma n x).dmaLast = s.dmaLast := State.dma_dmaLast s _
@[simp] theorem State.setDma_boot (n : Nat) (x : DmaChan) : (s.setDma n x).boot = s.boot := State.dma_boot s _
@[simp] theorem State.setDma_spes (n : Nat) (x : DmaChan) : (s.setDma n x).spes = s.spes := State.dma_spes s _
@[simp] theorem State.setDma_aon (n : Nat) (x : DmaChan) : (s.setDma n x).aon = s.aon := State.dma_aon s _
@[simp] theorem State.setDma_profs (n : Nat) (x : DmaChan) : (s.setDma n x).profs = s.profs := State.dma_profs s _
@[simp] theorem State.setDma_lats (n : Nat) (x : DmaChan) : (s.setDma n x).lats = s.lats := State.dma_lats s _
@[simp] theorem State.setDma_acts (n : Nat) (x : DmaChan) : (s.setDma n x).acts = s.acts := State.dma_acts s _
@[simp] theorem State.setDma_bsts (n : Nat) (x : DmaChan) : (s.setDma n x).bsts = s.bsts := State.dma_bsts s _
@[simp] theorem State.setDma_tsu (n : Nat) (x : DmaChan) : (s.setDma n x).tsu = s.tsu := State.dma_tsu s _
@[simp] theorem State.setDma_sch (n : Nat) (x : DmaChan) : (s.setDma n x).sch = s.sch := State.dma_sch s _
@[simp] theorem State.setDma_adcs (n : Nat) (x : DmaChan) : (s.setDma n x).adcs = s.adcs := State.dma_adcs s _
@[simp] theorem State.setDma_sdms (n : Nat) (x : DmaChan) : (s.setDma n x).sdms = s.sdms := State.dma_sdms s _
@[simp] theorem State.setDma_sense (n : Nat) (x : DmaChan) : (s.setDma n x).sense = s.sense := State.dma_sense s _
@[simp] theorem State.setDma_encs (n : Nat) (x : DmaChan) : (s.setDma n x).encs = s.encs := State.dma_encs s _
@[simp] theorem State.setDma_pwms (n : Nat) (x : DmaChan) : (s.setDma n x).pwms = s.pwms := State.dma_pwms s _
@[simp] theorem State.setDma_axes (n : Nat) (x : DmaChan) : (s.setDma n x).axes = s.axes := State.dma_axes s _
@[simp] theorem State.setDma_loops (n : Nat) (x : DmaChan) : (s.setDma n x).loops = s.loops := State.dma_loops s _
@[simp] theorem State.setDma_reps (n : Nat) (x : DmaChan) : (s.setDma n x).reps = s.reps := State.dma_reps s _
@[simp] theorem State.setDma_cans (n : Nat) (x : DmaChan) : (s.setDma n x).cans = s.cans := State.dma_cans s _
@[simp] theorem State.setDma_ksw (n : Nat) (x : DmaChan) : (s.setDma n x).ksw = s.ksw := State.dma_ksw s _
@[simp] theorem State.setDma_ldl (n : Nat) (x : DmaChan) : (s.setDma n x).ldl = s.ldl := State.dma_ldl s _
@[simp] theorem State.setDma_freeCtr (n : Nat) (x : DmaChan) : (s.setDma n x).freeCtr = s.freeCtr := State.dma_freeCtr s _
@[simp] theorem State.setDma_pending (n : Nat) (x : DmaChan) : (s.setDma n x).pending = s.pending := State.dma_pending s _

/-! ### putByte changes `mem` only -/

@[simp] theorem State.putByte_variant (a : Nat) (b : Byte) : (s.putByte a b).variant = s.variant := State.mem_variant s _
@[simp] theorem State.putByte_now (a : Nat) (b : Byte) : (s.putByte a b).now = s.now := State.mem_now s _
@[simp] theorem State.putByte_regs (a : Nat) (b : Byte) : (s.putByte a b).regs = s.regs := State.mem_regs s _
@[simp] theorem State.putByte_pages (a : Nat) (b : Byte) : (s.putByte a b).pages = s.pages := State.mem_pages s _
@[simp] theorem State.putByte_power (a : Nat) (b : Byte) : (s.putByte a b).power = s.power := State.mem_power s _
@[simp] theorem State.putByte_cox (a : Nat) (b : Byte) : (s.putByte a b).cox = s.cox := State.mem_cox s _
@[simp] theorem State.putByte_ecc (a : Nat) (b : Byte) : (s.putByte a b).ecc = s.ecc := State.mem_ecc s _
@[simp] theorem State.putByte_skim (a : Nat) (b : Byte) : (s.putByte a b).skim = s.skim := State.mem_skim s _
@[simp] theorem State.putByte_memctl (a : Nat) (b : Byte) : (s.putByte a b).memctl = s.memctl := State.mem_memctl s _
@[simp] theorem State.putByte_sec (a : Nat) (b : Byte) : (s.putByte a b).sec = s.sec := State.mem_sec s _
@[simp] theorem State.putByte_otp (a : Nat) (b : Byte) : (s.putByte a b).otp = s.otp := State.mem_otp s _
@[simp] theorem State.putByte_queues (a : Nat) (b : Byte) : (s.putByte a b).queues = s.queues := State.mem_queues s _
@[simp] theorem State.putByte_host (a : Nat) (b : Byte) : (s.putByte a b).host = s.host := State.mem_host s _
@[simp] theorem State.putByte_dma (a : Nat) (b : Byte) : (s.putByte a b).dma = s.dma := State.mem_dma s _
@[simp] theorem State.putByte_dmaLast (a : Nat) (b : Byte) : (s.putByte a b).dmaLast = s.dmaLast := State.mem_dmaLast s _
@[simp] theorem State.putByte_boot (a : Nat) (b : Byte) : (s.putByte a b).boot = s.boot := State.mem_boot s _
@[simp] theorem State.putByte_spes (a : Nat) (b : Byte) : (s.putByte a b).spes = s.spes := State.mem_spes s _
@[simp] theorem State.putByte_aon (a : Nat) (b : Byte) : (s.putByte a b).aon = s.aon := State.mem_aon s _
@[simp] theorem State.putByte_profs (a : Nat) (b : Byte) : (s.putByte a b).profs = s.profs := State.mem_profs s _
@[simp] theorem State.putByte_lats (a : Nat) (b : Byte) : (s.putByte a b).lats = s.lats := State.mem_lats s _
@[simp] theorem State.putByte_acts (a : Nat) (b : Byte) : (s.putByte a b).acts = s.acts := State.mem_acts s _
@[simp] theorem State.putByte_bsts (a : Nat) (b : Byte) : (s.putByte a b).bsts = s.bsts := State.mem_bsts s _
@[simp] theorem State.putByte_tsu (a : Nat) (b : Byte) : (s.putByte a b).tsu = s.tsu := State.mem_tsu s _
@[simp] theorem State.putByte_sch (a : Nat) (b : Byte) : (s.putByte a b).sch = s.sch := State.mem_sch s _
@[simp] theorem State.putByte_adcs (a : Nat) (b : Byte) : (s.putByte a b).adcs = s.adcs := State.mem_adcs s _
@[simp] theorem State.putByte_sdms (a : Nat) (b : Byte) : (s.putByte a b).sdms = s.sdms := State.mem_sdms s _
@[simp] theorem State.putByte_sense (a : Nat) (b : Byte) : (s.putByte a b).sense = s.sense := State.mem_sense s _
@[simp] theorem State.putByte_encs (a : Nat) (b : Byte) : (s.putByte a b).encs = s.encs := State.mem_encs s _
@[simp] theorem State.putByte_pwms (a : Nat) (b : Byte) : (s.putByte a b).pwms = s.pwms := State.mem_pwms s _
@[simp] theorem State.putByte_axes (a : Nat) (b : Byte) : (s.putByte a b).axes = s.axes := State.mem_axes s _
@[simp] theorem State.putByte_loops (a : Nat) (b : Byte) : (s.putByte a b).loops = s.loops := State.mem_loops s _
@[simp] theorem State.putByte_reps (a : Nat) (b : Byte) : (s.putByte a b).reps = s.reps := State.mem_reps s _
@[simp] theorem State.putByte_cans (a : Nat) (b : Byte) : (s.putByte a b).cans = s.cans := State.mem_cans s _
@[simp] theorem State.putByte_ksw (a : Nat) (b : Byte) : (s.putByte a b).ksw = s.ksw := State.mem_ksw s _
@[simp] theorem State.putByte_ldl (a : Nat) (b : Byte) : (s.putByte a b).ldl = s.ldl := State.mem_ldl s _
@[simp] theorem State.putByte_freeCtr (a : Nat) (b : Byte) : (s.putByte a b).freeCtr = s.freeCtr := State.mem_freeCtr s _
@[simp] theorem State.putByte_pending (a : Nat) (b : Byte) : (s.putByte a b).pending = s.pending := State.mem_pending s _

/-! ### putRaw changes `mem` only -/

@[simp] theorem State.putRaw_variant (a : Nat) (v : Word) : (s.putRaw a v).variant = s.variant := by simp only [State.putRaw, State.putByte_variant]
@[simp] theorem State.putRaw_now (a : Nat) (v : Word) : (s.putRaw a v).now = s.now := by simp only [State.putRaw, State.putByte_now]
@[simp] theorem State.putRaw_regs (a : Nat) (v : Word) : (s.putRaw a v).regs = s.regs := by simp only [State.putRaw, State.putByte_regs]
@[simp] theorem State.putRaw_pages (a : Nat) (v : Word) : (s.putRaw a v).pages = s.pages := by simp only [State.putRaw, State.putByte_pages]
@[simp] theorem State.putRaw_power (a : Nat) (v : Word) : (s.putRaw a v).power = s.power := by simp only [State.putRaw, State.putByte_power]
@[simp] theorem State.putRaw_cox (a : Nat) (v : Word) : (s.putRaw a v).cox = s.cox := by simp only [State.putRaw, State.putByte_cox]
@[simp] theorem State.putRaw_ecc (a : Nat) (v : Word) : (s.putRaw a v).ecc = s.ecc := by simp only [State.putRaw, State.putByte_ecc]
@[simp] theorem State.putRaw_skim (a : Nat) (v : Word) : (s.putRaw a v).skim = s.skim := by simp only [State.putRaw, State.putByte_skim]
@[simp] theorem State.putRaw_memctl (a : Nat) (v : Word) : (s.putRaw a v).memctl = s.memctl := by simp only [State.putRaw, State.putByte_memctl]
@[simp] theorem State.putRaw_sec (a : Nat) (v : Word) : (s.putRaw a v).sec = s.sec := by simp only [State.putRaw, State.putByte_sec]
@[simp] theorem State.putRaw_otp (a : Nat) (v : Word) : (s.putRaw a v).otp = s.otp := by simp only [State.putRaw, State.putByte_otp]
@[simp] theorem State.putRaw_queues (a : Nat) (v : Word) : (s.putRaw a v).queues = s.queues := by simp only [State.putRaw, State.putByte_queues]
@[simp] theorem State.putRaw_host (a : Nat) (v : Word) : (s.putRaw a v).host = s.host := by simp only [State.putRaw, State.putByte_host]
@[simp] theorem State.putRaw_dma (a : Nat) (v : Word) : (s.putRaw a v).dma = s.dma := by simp only [State.putRaw, State.putByte_dma]
@[simp] theorem State.putRaw_dmaLast (a : Nat) (v : Word) : (s.putRaw a v).dmaLast = s.dmaLast := by simp only [State.putRaw, State.putByte_dmaLast]
@[simp] theorem State.putRaw_boot (a : Nat) (v : Word) : (s.putRaw a v).boot = s.boot := by simp only [State.putRaw, State.putByte_boot]
@[simp] theorem State.putRaw_spes (a : Nat) (v : Word) : (s.putRaw a v).spes = s.spes := by simp only [State.putRaw, State.putByte_spes]
@[simp] theorem State.putRaw_aon (a : Nat) (v : Word) : (s.putRaw a v).aon = s.aon := by simp only [State.putRaw, State.putByte_aon]
@[simp] theorem State.putRaw_profs (a : Nat) (v : Word) : (s.putRaw a v).profs = s.profs := by simp only [State.putRaw, State.putByte_profs]
@[simp] theorem State.putRaw_lats (a : Nat) (v : Word) : (s.putRaw a v).lats = s.lats := by simp only [State.putRaw, State.putByte_lats]
@[simp] theorem State.putRaw_acts (a : Nat) (v : Word) : (s.putRaw a v).acts = s.acts := by simp only [State.putRaw, State.putByte_acts]
@[simp] theorem State.putRaw_bsts (a : Nat) (v : Word) : (s.putRaw a v).bsts = s.bsts := by simp only [State.putRaw, State.putByte_bsts]
@[simp] theorem State.putRaw_tsu (a : Nat) (v : Word) : (s.putRaw a v).tsu = s.tsu := by simp only [State.putRaw, State.putByte_tsu]
@[simp] theorem State.putRaw_sch (a : Nat) (v : Word) : (s.putRaw a v).sch = s.sch := by simp only [State.putRaw, State.putByte_sch]
@[simp] theorem State.putRaw_adcs (a : Nat) (v : Word) : (s.putRaw a v).adcs = s.adcs := by simp only [State.putRaw, State.putByte_adcs]
@[simp] theorem State.putRaw_sdms (a : Nat) (v : Word) : (s.putRaw a v).sdms = s.sdms := by simp only [State.putRaw, State.putByte_sdms]
@[simp] theorem State.putRaw_sense (a : Nat) (v : Word) : (s.putRaw a v).sense = s.sense := by simp only [State.putRaw, State.putByte_sense]
@[simp] theorem State.putRaw_encs (a : Nat) (v : Word) : (s.putRaw a v).encs = s.encs := by simp only [State.putRaw, State.putByte_encs]
@[simp] theorem State.putRaw_pwms (a : Nat) (v : Word) : (s.putRaw a v).pwms = s.pwms := by simp only [State.putRaw, State.putByte_pwms]
@[simp] theorem State.putRaw_axes (a : Nat) (v : Word) : (s.putRaw a v).axes = s.axes := by simp only [State.putRaw, State.putByte_axes]
@[simp] theorem State.putRaw_loops (a : Nat) (v : Word) : (s.putRaw a v).loops = s.loops := by simp only [State.putRaw, State.putByte_loops]
@[simp] theorem State.putRaw_reps (a : Nat) (v : Word) : (s.putRaw a v).reps = s.reps := by simp only [State.putRaw, State.putByte_reps]
@[simp] theorem State.putRaw_cans (a : Nat) (v : Word) : (s.putRaw a v).cans = s.cans := by simp only [State.putRaw, State.putByte_cans]
@[simp] theorem State.putRaw_ksw (a : Nat) (v : Word) : (s.putRaw a v).ksw = s.ksw := by simp only [State.putRaw, State.putByte_ksw]
@[simp] theorem State.putRaw_ldl (a : Nat) (v : Word) : (s.putRaw a v).ldl = s.ldl := by simp only [State.putRaw, State.putByte_ldl]
@[simp] theorem State.putRaw_freeCtr (a : Nat) (v : Word) : (s.putRaw a v).freeCtr = s.freeCtr := by simp only [State.putRaw, State.putByte_freeCtr]
@[simp] theorem State.putRaw_pending (a : Nat) (v : Word) : (s.putRaw a v).pending = s.pending := by simp only [State.putRaw, State.putByte_pending]

/-! ### setEcc changes `ecc` only -/

@[simp] theorem State.setEcc_variant (a : Nat) (e : Option EccState) : (s.setEcc a e).variant = s.variant := State.ecc_variant s _
@[simp] theorem State.setEcc_now (a : Nat) (e : Option EccState) : (s.setEcc a e).now = s.now := State.ecc_now s _
@[simp] theorem State.setEcc_regs (a : Nat) (e : Option EccState) : (s.setEcc a e).regs = s.regs := State.ecc_regs s _
@[simp] theorem State.setEcc_pages (a : Nat) (e : Option EccState) : (s.setEcc a e).pages = s.pages := State.ecc_pages s _
@[simp] theorem State.setEcc_power (a : Nat) (e : Option EccState) : (s.setEcc a e).power = s.power := State.ecc_power s _
@[simp] theorem State.setEcc_cox (a : Nat) (e : Option EccState) : (s.setEcc a e).cox = s.cox := State.ecc_cox s _
@[simp] theorem State.setEcc_mem (a : Nat) (e : Option EccState) : (s.setEcc a e).mem = s.mem := State.ecc_mem s _
@[simp] theorem State.setEcc_skim (a : Nat) (e : Option EccState) : (s.setEcc a e).skim = s.skim := State.ecc_skim s _
@[simp] theorem State.setEcc_memctl (a : Nat) (e : Option EccState) : (s.setEcc a e).memctl = s.memctl := State.ecc_memctl s _
@[simp] theorem State.setEcc_sec (a : Nat) (e : Option EccState) : (s.setEcc a e).sec = s.sec := State.ecc_sec s _
@[simp] theorem State.setEcc_otp (a : Nat) (e : Option EccState) : (s.setEcc a e).otp = s.otp := State.ecc_otp s _
@[simp] theorem State.setEcc_queues (a : Nat) (e : Option EccState) : (s.setEcc a e).queues = s.queues := State.ecc_queues s _
@[simp] theorem State.setEcc_host (a : Nat) (e : Option EccState) : (s.setEcc a e).host = s.host := State.ecc_host s _
@[simp] theorem State.setEcc_dma (a : Nat) (e : Option EccState) : (s.setEcc a e).dma = s.dma := State.ecc_dma s _
@[simp] theorem State.setEcc_dmaLast (a : Nat) (e : Option EccState) : (s.setEcc a e).dmaLast = s.dmaLast := State.ecc_dmaLast s _
@[simp] theorem State.setEcc_boot (a : Nat) (e : Option EccState) : (s.setEcc a e).boot = s.boot := State.ecc_boot s _
@[simp] theorem State.setEcc_spes (a : Nat) (e : Option EccState) : (s.setEcc a e).spes = s.spes := State.ecc_spes s _
@[simp] theorem State.setEcc_aon (a : Nat) (e : Option EccState) : (s.setEcc a e).aon = s.aon := State.ecc_aon s _
@[simp] theorem State.setEcc_profs (a : Nat) (e : Option EccState) : (s.setEcc a e).profs = s.profs := State.ecc_profs s _
@[simp] theorem State.setEcc_lats (a : Nat) (e : Option EccState) : (s.setEcc a e).lats = s.lats := State.ecc_lats s _
@[simp] theorem State.setEcc_acts (a : Nat) (e : Option EccState) : (s.setEcc a e).acts = s.acts := State.ecc_acts s _
@[simp] theorem State.setEcc_bsts (a : Nat) (e : Option EccState) : (s.setEcc a e).bsts = s.bsts := State.ecc_bsts s _
@[simp] theorem State.setEcc_tsu (a : Nat) (e : Option EccState) : (s.setEcc a e).tsu = s.tsu := State.ecc_tsu s _
@[simp] theorem State.setEcc_sch (a : Nat) (e : Option EccState) : (s.setEcc a e).sch = s.sch := State.ecc_sch s _
@[simp] theorem State.setEcc_adcs (a : Nat) (e : Option EccState) : (s.setEcc a e).adcs = s.adcs := State.ecc_adcs s _
@[simp] theorem State.setEcc_sdms (a : Nat) (e : Option EccState) : (s.setEcc a e).sdms = s.sdms := State.ecc_sdms s _
@[simp] theorem State.setEcc_sense (a : Nat) (e : Option EccState) : (s.setEcc a e).sense = s.sense := State.ecc_sense s _
@[simp] theorem State.setEcc_encs (a : Nat) (e : Option EccState) : (s.setEcc a e).encs = s.encs := State.ecc_encs s _
@[simp] theorem State.setEcc_pwms (a : Nat) (e : Option EccState) : (s.setEcc a e).pwms = s.pwms := State.ecc_pwms s _
@[simp] theorem State.setEcc_axes (a : Nat) (e : Option EccState) : (s.setEcc a e).axes = s.axes := State.ecc_axes s _
@[simp] theorem State.setEcc_loops (a : Nat) (e : Option EccState) : (s.setEcc a e).loops = s.loops := State.ecc_loops s _
@[simp] theorem State.setEcc_reps (a : Nat) (e : Option EccState) : (s.setEcc a e).reps = s.reps := State.ecc_reps s _
@[simp] theorem State.setEcc_cans (a : Nat) (e : Option EccState) : (s.setEcc a e).cans = s.cans := State.ecc_cans s _
@[simp] theorem State.setEcc_ksw (a : Nat) (e : Option EccState) : (s.setEcc a e).ksw = s.ksw := State.ecc_ksw s _
@[simp] theorem State.setEcc_ldl (a : Nat) (e : Option EccState) : (s.setEcc a e).ldl = s.ldl := State.ecc_ldl s _
@[simp] theorem State.setEcc_freeCtr (a : Nat) (e : Option EccState) : (s.setEcc a e).freeCtr = s.freeCtr := State.ecc_freeCtr s _
@[simp] theorem State.setEcc_pending (a : Nat) (e : Option EccState) : (s.setEcc a e).pending = s.pending := State.ecc_pending s _

/-! ### setKey changes `pages` only -/

@[simp] theorem State.setKey_variant (page : Nat) (k : KeyState) : (s.setKey page k).variant = s.variant := State.pages_variant s _
@[simp] theorem State.setKey_now (page : Nat) (k : KeyState) : (s.setKey page k).now = s.now := State.pages_now s _
@[simp] theorem State.setKey_regs (page : Nat) (k : KeyState) : (s.setKey page k).regs = s.regs := State.pages_regs s _
@[simp] theorem State.setKey_power (page : Nat) (k : KeyState) : (s.setKey page k).power = s.power := State.pages_power s _
@[simp] theorem State.setKey_cox (page : Nat) (k : KeyState) : (s.setKey page k).cox = s.cox := State.pages_cox s _
@[simp] theorem State.setKey_mem (page : Nat) (k : KeyState) : (s.setKey page k).mem = s.mem := State.pages_mem s _
@[simp] theorem State.setKey_ecc (page : Nat) (k : KeyState) : (s.setKey page k).ecc = s.ecc := State.pages_ecc s _
@[simp] theorem State.setKey_skim (page : Nat) (k : KeyState) : (s.setKey page k).skim = s.skim := State.pages_skim s _
@[simp] theorem State.setKey_memctl (page : Nat) (k : KeyState) : (s.setKey page k).memctl = s.memctl := State.pages_memctl s _
@[simp] theorem State.setKey_sec (page : Nat) (k : KeyState) : (s.setKey page k).sec = s.sec := State.pages_sec s _
@[simp] theorem State.setKey_otp (page : Nat) (k : KeyState) : (s.setKey page k).otp = s.otp := State.pages_otp s _
@[simp] theorem State.setKey_queues (page : Nat) (k : KeyState) : (s.setKey page k).queues = s.queues := State.pages_queues s _
@[simp] theorem State.setKey_host (page : Nat) (k : KeyState) : (s.setKey page k).host = s.host := State.pages_host s _
@[simp] theorem State.setKey_dma (page : Nat) (k : KeyState) : (s.setKey page k).dma = s.dma := State.pages_dma s _
@[simp] theorem State.setKey_dmaLast (page : Nat) (k : KeyState) : (s.setKey page k).dmaLast = s.dmaLast := State.pages_dmaLast s _
@[simp] theorem State.setKey_boot (page : Nat) (k : KeyState) : (s.setKey page k).boot = s.boot := State.pages_boot s _
@[simp] theorem State.setKey_spes (page : Nat) (k : KeyState) : (s.setKey page k).spes = s.spes := State.pages_spes s _
@[simp] theorem State.setKey_aon (page : Nat) (k : KeyState) : (s.setKey page k).aon = s.aon := State.pages_aon s _
@[simp] theorem State.setKey_profs (page : Nat) (k : KeyState) : (s.setKey page k).profs = s.profs := State.pages_profs s _
@[simp] theorem State.setKey_lats (page : Nat) (k : KeyState) : (s.setKey page k).lats = s.lats := State.pages_lats s _
@[simp] theorem State.setKey_acts (page : Nat) (k : KeyState) : (s.setKey page k).acts = s.acts := State.pages_acts s _
@[simp] theorem State.setKey_bsts (page : Nat) (k : KeyState) : (s.setKey page k).bsts = s.bsts := State.pages_bsts s _
@[simp] theorem State.setKey_tsu (page : Nat) (k : KeyState) : (s.setKey page k).tsu = s.tsu := State.pages_tsu s _
@[simp] theorem State.setKey_sch (page : Nat) (k : KeyState) : (s.setKey page k).sch = s.sch := State.pages_sch s _
@[simp] theorem State.setKey_adcs (page : Nat) (k : KeyState) : (s.setKey page k).adcs = s.adcs := State.pages_adcs s _
@[simp] theorem State.setKey_sdms (page : Nat) (k : KeyState) : (s.setKey page k).sdms = s.sdms := State.pages_sdms s _
@[simp] theorem State.setKey_sense (page : Nat) (k : KeyState) : (s.setKey page k).sense = s.sense := State.pages_sense s _
@[simp] theorem State.setKey_encs (page : Nat) (k : KeyState) : (s.setKey page k).encs = s.encs := State.pages_encs s _
@[simp] theorem State.setKey_pwms (page : Nat) (k : KeyState) : (s.setKey page k).pwms = s.pwms := State.pages_pwms s _
@[simp] theorem State.setKey_axes (page : Nat) (k : KeyState) : (s.setKey page k).axes = s.axes := State.pages_axes s _
@[simp] theorem State.setKey_loops (page : Nat) (k : KeyState) : (s.setKey page k).loops = s.loops := State.pages_loops s _
@[simp] theorem State.setKey_reps (page : Nat) (k : KeyState) : (s.setKey page k).reps = s.reps := State.pages_reps s _
@[simp] theorem State.setKey_cans (page : Nat) (k : KeyState) : (s.setKey page k).cans = s.cans := State.pages_cans s _
@[simp] theorem State.setKey_ksw (page : Nat) (k : KeyState) : (s.setKey page k).ksw = s.ksw := State.pages_ksw s _
@[simp] theorem State.setKey_ldl (page : Nat) (k : KeyState) : (s.setKey page k).ldl = s.ldl := State.pages_ldl s _
@[simp] theorem State.setKey_freeCtr (page : Nat) (k : KeyState) : (s.setKey page k).freeCtr = s.freeCtr := State.pages_freeCtr s _
@[simp] theorem State.setKey_pending (page : Nat) (k : KeyState) : (s.setKey page k).pending = s.pending := State.pages_pending s _

/-! ### answer changes `pages` only -/

@[simp] theorem State.answer_variant (d : Word) (e : Bool) : (s.answer d e).variant = s.variant := State.pages_variant s _
@[simp] theorem State.answer_now (d : Word) (e : Bool) : (s.answer d e).now = s.now := State.pages_now s _
@[simp] theorem State.answer_regs (d : Word) (e : Bool) : (s.answer d e).regs = s.regs := State.pages_regs s _
@[simp] theorem State.answer_power (d : Word) (e : Bool) : (s.answer d e).power = s.power := State.pages_power s _
@[simp] theorem State.answer_cox (d : Word) (e : Bool) : (s.answer d e).cox = s.cox := State.pages_cox s _
@[simp] theorem State.answer_mem (d : Word) (e : Bool) : (s.answer d e).mem = s.mem := State.pages_mem s _
@[simp] theorem State.answer_ecc (d : Word) (e : Bool) : (s.answer d e).ecc = s.ecc := State.pages_ecc s _
@[simp] theorem State.answer_skim (d : Word) (e : Bool) : (s.answer d e).skim = s.skim := State.pages_skim s _
@[simp] theorem State.answer_memctl (d : Word) (e : Bool) : (s.answer d e).memctl = s.memctl := State.pages_memctl s _
@[simp] theorem State.answer_sec (d : Word) (e : Bool) : (s.answer d e).sec = s.sec := State.pages_sec s _
@[simp] theorem State.answer_otp (d : Word) (e : Bool) : (s.answer d e).otp = s.otp := State.pages_otp s _
@[simp] theorem State.answer_queues (d : Word) (e : Bool) : (s.answer d e).queues = s.queues := State.pages_queues s _
@[simp] theorem State.answer_host (d : Word) (e : Bool) : (s.answer d e).host = s.host := State.pages_host s _
@[simp] theorem State.answer_dma (d : Word) (e : Bool) : (s.answer d e).dma = s.dma := State.pages_dma s _
@[simp] theorem State.answer_dmaLast (d : Word) (e : Bool) : (s.answer d e).dmaLast = s.dmaLast := State.pages_dmaLast s _
@[simp] theorem State.answer_boot (d : Word) (e : Bool) : (s.answer d e).boot = s.boot := State.pages_boot s _
@[simp] theorem State.answer_spes (d : Word) (e : Bool) : (s.answer d e).spes = s.spes := State.pages_spes s _
@[simp] theorem State.answer_aon (d : Word) (e : Bool) : (s.answer d e).aon = s.aon := State.pages_aon s _
@[simp] theorem State.answer_profs (d : Word) (e : Bool) : (s.answer d e).profs = s.profs := State.pages_profs s _
@[simp] theorem State.answer_lats (d : Word) (e : Bool) : (s.answer d e).lats = s.lats := State.pages_lats s _
@[simp] theorem State.answer_acts (d : Word) (e : Bool) : (s.answer d e).acts = s.acts := State.pages_acts s _
@[simp] theorem State.answer_bsts (d : Word) (e : Bool) : (s.answer d e).bsts = s.bsts := State.pages_bsts s _
@[simp] theorem State.answer_tsu (d : Word) (e : Bool) : (s.answer d e).tsu = s.tsu := State.pages_tsu s _
@[simp] theorem State.answer_sch (d : Word) (e : Bool) : (s.answer d e).sch = s.sch := State.pages_sch s _
@[simp] theorem State.answer_adcs (d : Word) (e : Bool) : (s.answer d e).adcs = s.adcs := State.pages_adcs s _
@[simp] theorem State.answer_sdms (d : Word) (e : Bool) : (s.answer d e).sdms = s.sdms := State.pages_sdms s _
@[simp] theorem State.answer_sense (d : Word) (e : Bool) : (s.answer d e).sense = s.sense := State.pages_sense s _
@[simp] theorem State.answer_encs (d : Word) (e : Bool) : (s.answer d e).encs = s.encs := State.pages_encs s _
@[simp] theorem State.answer_pwms (d : Word) (e : Bool) : (s.answer d e).pwms = s.pwms := State.pages_pwms s _
@[simp] theorem State.answer_axes (d : Word) (e : Bool) : (s.answer d e).axes = s.axes := State.pages_axes s _
@[simp] theorem State.answer_loops (d : Word) (e : Bool) : (s.answer d e).loops = s.loops := State.pages_loops s _
@[simp] theorem State.answer_reps (d : Word) (e : Bool) : (s.answer d e).reps = s.reps := State.pages_reps s _
@[simp] theorem State.answer_cans (d : Word) (e : Bool) : (s.answer d e).cans = s.cans := State.pages_cans s _
@[simp] theorem State.answer_ksw (d : Word) (e : Bool) : (s.answer d e).ksw = s.ksw := State.pages_ksw s _
@[simp] theorem State.answer_ldl (d : Word) (e : Bool) : (s.answer d e).ldl = s.ldl := State.pages_ldl s _
@[simp] theorem State.answer_freeCtr (d : Word) (e : Bool) : (s.answer d e).freeCtr = s.freeCtr := State.pages_freeCtr s _
@[simp] theorem State.answer_pending (d : Word) (e : Bool) : (s.answer d e).pending = s.pending := State.pages_pending s _

end Sys2Proof.Machine
end

