-- ==== Sys2Proof/Laws/Tables.lean ====
section
/-! SUPPORT. Tables, registers and memory: what a read gives after a write, and that writes keep the canonical forms. -/

namespace Sys2Proof.Machine

/-! ## Sparse tables -/

variable {α : Type}

theorem tabGet_insert_same (p : Nat × α) (l : List (Nat × α)) (d : α) (h : ∀ q ∈ l, q.1 ≠ p.1) :
    tabGet (tabInsert p l) p.1 d = p.2 := by
  induction l with
  | nil => simp [tabInsert, tabGet]
  | cons q r ih =>
    have hq : q.1 ≠ p.1 := h q (by simp)
    have hr : ∀ x ∈ r, x.1 ≠ p.1 := fun x hx => h x (by simp [hx])
    unfold tabInsert
    split
    · simp [tabGet]
    · simp only [tabGet, hq, if_false]; exact ih hr

theorem tabGet_insert_other (p : Nat × α) (l : List (Nat × α)) (k : Nat) (d : α) (h : k ≠ p.1) :
    tabGet (tabInsert p l) k d = tabGet l k d := by
  induction l with
  | nil => simp [tabInsert, tabGet, Ne.symm h]
  | cons q r ih =>
    unfold tabInsert
    split
    · simp [tabGet, Ne.symm h]
    · simp only [tabGet]; split <;> simp_all

theorem tabGet_filter_other (l : List (Nat × α)) (k j : Nat) (d : α) (h : j ≠ k) :
    tabGet (l.filter fun q => q.1 != k) j d = tabGet l j d := by
  induction l with
  | nil => rfl
  | cons q r ih =>
    by_cases hq : q.1 = k
    · simp only [List.filter, hq, bne_self_eq_false, tabGet]
      rw [if_neg (by omega)]; exact ih
    · have : (q.1 != k) = true := by simp [hq]
      simp only [List.filter, this, tabGet]
      split <;> simp_all

theorem tabGet_filter_same (l : List (Nat × α)) (k : Nat) (d : α) : tabGet (l.filter fun q => q.1 != k) k d = d := by
  induction l with
  | nil => rfl
  | cons q r ih =>
    by_cases hq : q.1 = k
    · simp [List.filter, hq, ih]
    · have : (q.1 != k) = true := by simp [hq]
      simp only [List.filter, this, tabGet, hq, if_false]; exact ih

/-- A read of the key just written gives the value written. -/
theorem tabGet_put_same [DecidableEq α] (l : List (Nat × α)) (k : Nat) (v d : α) : tabGet (tabPut l k v d) k d = v := by
  unfold tabPut
  split
  · rename_i h; rw [tabGet_filter_same, h]
  · exact tabGet_insert_same (k, v) _ d (by simp)

/-- A read of another key is unaffected. -/
theorem tabGet_put_other [DecidableEq α] (l : List (Nat × α)) (k j : Nat) (v d e : α) (h : j ≠ k) :
    tabGet (tabPut l k v d) j e = tabGet l j e := by
  unfold tabPut
  split
  · exact tabGet_filter_other l k j e h
  · rw [tabGet_insert_other _ _ _ _ (by simpa using h), tabGet_filter_other l k j e h]

/-! ## Registers -/

@[simp] theorem rd_wr_same (s : State) (a : Nat) (v : Word) : (s.wr a v).rd a = v := by
  simp only [State.rd, State.wr]; exact tabGet_put_same ..

theorem rd_wr_other (s : State) (a b : Nat) (v : Word) (h : b ≠ a) : (s.wr a v).rd b = s.rd b := by
  simp only [State.rd, State.wr]; exact tabGet_put_other _ _ _ _ _ _ h

/-! ## The engines -/

@[simp] theorem spe_setSpe_same (s : State) (n : Nat) (x : Spe) : spe (s.setSpe n x) n = x := by
  simp only [spe, State.setSpe]; exact tabGet_put_same ..

theorem spe_setSpe_other (s : State) (n m : Nat) (x : Spe) (h : m ≠ n) : spe (s.setSpe n x) m = spe s m := by
  simp only [spe, State.setSpe]; exact tabGet_put_other _ _ _ _ _ _ h

@[simp] theorem queue_setQueue_same (s : State) (q : Nat) (x : Queue) : queue (s.setQueue q x) q = x := by
  simp only [queue, State.setQueue]; exact tabGet_put_same ..

/-! ## Memory -/

theorem memGet_insert_same (p : Host.Cell) (l : List Host.Cell) (h : ∀ c ∈ l, c.1 ≠ p.1) : memGet (cellInsert p l) p.1 = p.2 := by
  induction l with
  | nil => simp [cellInsert, memGet]
  | cons q r ih =>
    have hq : q.1 ≠ p.1 := h q (by simp)
    have hr : ∀ x ∈ r, x.1 ≠ p.1 := fun x hx => h x (by simp [hx])
    unfold cellInsert
    split
    · simp [memGet]
    · simp only [memGet, hq, if_false]; exact ih hr

theorem memGet_insert_other (p : Host.Cell) (l : List Host.Cell) (a : Nat) (h : a ≠ p.1) :
    memGet (cellInsert p l) a = memGet l a := by
  induction l with
  | nil => simp [cellInsert, memGet, Ne.symm h]
  | cons q r ih =>
    unfold cellInsert
    split
    · simp [memGet, Ne.symm h]
    · simp only [memGet]; split <;> simp_all

theorem memGet_filter_other (l : List Host.Cell) (a b : Nat) (h : b ≠ a) :
    memGet (l.filter fun c => c.1 != a) b = memGet l b := by
  induction l with
  | nil => rfl
  | cons q r ih =>
    by_cases hq : q.1 = a
    · simp only [List.filter, hq, bne_self_eq_false, memGet]
      rw [if_neg (by omega)]; exact ih
    · have : (q.1 != a) = true := by simp [hq]
      simp only [List.filter, this, memGet]
      split <;> simp_all

theorem memGet_filter_same (l : List Host.Cell) (a : Nat) : memGet (l.filter fun c => c.1 != a) a = 0 := by
  induction l with
  | nil => rfl
  | cons q r ih =>
    by_cases hq : q.1 = a
    · simp [List.filter, hq, ih]
    · have : (q.1 != a) = true := by simp [hq]
      simp only [List.filter, this, memGet, hq, if_false]; exact ih

/-- A read of the byte just written gives it. -/
theorem memGet_put_same (l : List Host.Cell) (a : Nat) (b : Byte) : memGet (memPut l a b) a = b := by
  unfold memPut
  split
  · rename_i h; rw [memGet_filter_same, h]
  · exact memGet_insert_same (a, b) _ (by simp)

/-- A read of another byte is unaffected. -/
theorem memGet_put_other (l : List Host.Cell) (a b : Nat) (v : Byte) (h : b ≠ a) : memGet (memPut l a v) b = memGet l b := by
  unfold memPut
  split
  · exact memGet_filter_other l a b h
  · rw [memGet_insert_other _ _ _ (by simpa using h), memGet_filter_other l a b h]

@[simp] theorem byteAt_putByte_same (s : State) (a : Nat) (b : Byte) : (s.putByte a b).byteAt a = b := memGet_put_same ..

theorem byteAt_putByte_other (s : State) (a b : Nat) (v : Byte) (h : b ≠ a) : (s.putByte a v).byteAt b = s.byteAt b :=
  memGet_put_other _ _ _ _ h

theorem Memory.wf_filter (l : List Host.Cell) (p : Host.Cell → Bool) (h : Memory.wf l = true) : Memory.wf (l.filter p) = true := by
  induction l with
  | nil => rfl
  | cons c r ih =>
    simp only [Memory.wf, Bool.and_eq_true, List.all_eq_true] at h
    by_cases hp : p c = true
    · simp only [List.filter, hp, Memory.wf, Bool.and_eq_true, List.all_eq_true]
      exact ⟨⟨h.1.1, fun x hx => h.1.2 x (List.mem_filter.mp hx).1⟩, ih h.2⟩
    · have hp' : p c = false := by simpa using hp
      simp only [List.filter, hp']; exact ih h.2

theorem mem_cellInsert (p x : Host.Cell) (l : List Host.Cell) : x ∈ cellInsert p l ↔ x = p ∨ x ∈ l := by
  induction l with
  | nil => simp [cellInsert]
  | cons q r ih =>
    unfold cellInsert
    split
    · simp
    · simp only [List.mem_cons, ih]; exact or_left_comm

theorem Memory.wf_insert (p : Host.Cell) (l : List Host.Cell) (hp : p.2 ≠ 0) (hne : ∀ c ∈ l, c.1 ≠ p.1)
    (h : Memory.wf l = true) : Memory.wf (cellInsert p l) = true := by
  induction l with
  | nil => simpa [cellInsert, Memory.wf] using hp
  | cons q r ih =>
    have h0 := h
    simp only [Memory.wf, Bool.and_eq_true, List.all_eq_true, decide_eq_true_eq] at h
    have hq : q.1 ≠ p.1 := hne q (by simp)
    unfold cellInsert
    split
    · rename_i hlt
      simp only [Memory.wf, Bool.and_eq_true, List.all_eq_true, decide_eq_true_eq]
      refine ⟨⟨hp, ?_⟩, h⟩
      intro x hx
      rcases List.mem_cons.mp hx with rfl | hx
      · exact hlt
      · exact Nat.lt_trans hlt (h.1.2 x hx)
    · rename_i hlt
      simp only [Memory.wf, Bool.and_eq_true, List.all_eq_true, decide_eq_true_eq]
      refine ⟨⟨h.1.1, ?_⟩, ih (fun c hc => hne c (by simp [hc])) h.2⟩
      intro x hx
      rcases (mem_cellInsert p x r).mp hx with rfl | hx
      · omega
      · exact h.1.2 x hx

/-- A byte write keeps the canonical form of memory. -/
theorem Memory.wf_put (l : List Host.Cell) (a : Nat) (b : Byte) (h : Memory.wf l = true) : Memory.wf (memPut l a b) = true := by
  unfold memPut
  split
  · exact Memory.wf_filter _ _ h
  · rename_i hb
    exact Memory.wf_insert (a, b) _ hb (by simp) (Memory.wf_filter _ _ h)

theorem putByte_wf (s : State) (a : Nat) (b : Byte) (h : Memory.wf s.mem = true) : Memory.wf (s.putByte a b).mem = true :=
  Memory.wf_put _ _ _ h

theorem putRaw_wf (s : State) (a : Nat) (v : Word) (h : Memory.wf s.mem = true) : Memory.wf (s.putRaw a v).mem = true := by
  unfold State.putRaw
  exact putByte_wf _ _ _ (putByte_wf _ _ _ (putByte_wf _ _ _ (putByte_wf _ _ _ h)))

theorem reset_memory_wf : Memory.wf State.reset.mem = true := rfl

end Sys2Proof.Machine
end

