-- ==== Sys2Proof/Laws/Access.lean ====
section
/-! SUPPORT. What the shared operations of register access do: one lemma per operation and question, so that a proof about a command
cites them and unfolds none of them. -/

namespace Sys2Proof.Machine

variable (s : State)

/-! ## Registers of composed updates -/

theorem rd_of_regs {s t : State} (hr : t.regs = s.regs) (hv : t.variant = s.variant) (a : Nat) : t.rd a = s.rd a := by
  simp only [State.rd, hr, hv]

@[simp] theorem rd_setFld_same (a lo len v : Nat) : (s.setFld a lo len v).rd a = putBits (s.rd a) lo len v := by simp [State.setFld]
theorem rd_setFld_other (a b lo len v : Nat) (h : b ≠ a) : (s.setFld a lo len v).rd b = s.rd b := by
  simp [State.setFld, rd_wr_other _ _ _ _ h]
@[simp] theorem rd_setFlag_same (a k : Nat) (b : Bool) : (s.setFlag a k b).rd a = putBit (s.rd a) k b := by simp [State.setFlag]
theorem rd_setFlag_other (a b k : Nat) (x : Bool) (h : b ≠ a) : (s.setFlag a k x).rd b = s.rd b := by
  simp [State.setFlag, rd_wr_other _ _ _ _ h]
@[simp] theorem rd_cause_same (base k : Nat) : (s.cause base k).rd (base + 0x18) = putBit (s.rd (base + 0x18)) k true := by simp [State.cause]
theorem rd_cause_other (base k a : Nat) (h : a ≠ base + 0x18) : (s.cause base k).rd a = s.rd a := by
  simp [State.cause, rd_setFlag_other _ _ _ _ _ h]

/-! ## Counters and errors -/

theorem fld_lt (a lo len : Nat) : s.fld a lo len < 2 ^ len := Nat.mod_lt _ (Nat.two_pow_pos len)

/-- A saturating counter counts one event. -/
theorem fld_satInc_same (a lo : Nat) (h : lo + 16 ≤ 32) : (s.satInc a lo).fld a lo 16 = min 0xFFFF (s.fld a lo 16 + 1) := by
  unfold State.satInc
  split
  · simp only [State.fld, rd_setFld_same, bits_putBits_same _ _ _ _ h] at *; omega
  · have := fld_lt s a lo 16; omega

theorem rd_satInc_other (a lo b : Nat) (h : b ≠ a) : (s.satInc a lo).rd b = s.rd b := by
  unfold State.satInc; split
  · exact rd_setFld_other _ _ _ _ _ _ h
  · rfl

theorem recorded_code (base : Nat) (w : Word) :
    ((if s.rd (base + 0x20) = 0 then s.wr (base + 0x20) w else s).satInc (base + 0x24) 0).rd (base + 0x20)
      = if s.rd (base + 0x20) = 0 then w else s.rd (base + 0x20) := by
  rw [rd_satInc_other _ _ _ _ (by omega)]
  split
  · exact rd_wr_same ..
  · rfl

theorem recorded_count (base : Nat) (w : Word) :
    ((if s.rd (base + 0x20) = 0 then s.wr (base + 0x20) w else s).satInc (base + 0x24) 0).fld (base + 0x24) 0 16
      = min 0xFFFF (s.fld (base + 0x24) 0 16 + 1) := by
  rw [fld_satInc_same _ _ _ (by omega)]
  have : (if s.rd (base + 0x20) = 0 then s.wr (base + 0x20) w else s).rd (base + 0x24) = s.rd (base + 0x24) := by
    split
    · exact rd_wr_other _ _ _ _ (by omega)
    · rfl
  simp only [State.fld, this]

theorem recorded_other (base a : Nat) (w : Word) (h1 : a ≠ base + 0x20) (h2 : a ≠ base + 0x24) :
    ((if s.rd (base + 0x20) = 0 then s.wr (base + 0x20) w else s).satInc (base + 0x24) 0).rd a = s.rd a := by
  rw [rd_satInc_other _ _ _ _ h2]; split
  · exact rd_wr_other _ _ _ _ h1
  · rfl

/-- An error is recorded as R57 says. -/
theorem error_recorded (base cls num detail : Nat) : ErrorRecorded base cls num detail s (s.error base cls num detail) :=
  ⟨recorded_code s base (BitVec.ofNat 32 (0x1000000 * cls + 0x10000 * num + detail % 0x10000)),
    recorded_count s base (BitVec.ofNat 32 (0x1000000 * cls + 0x10000 * num + detail % 0x10000))⟩

theorem rd_error_other (base cls num detail a : Nat) (h1 : a ≠ base + 0x20) (h2 : a ≠ base + 0x24) :
    (s.error base cls num detail).rd a = s.rd a := recorded_other s base a _ h1 h2

theorem wr_eq (a : Nat) (v : Word) : s.wr a v = { s with regs := (s.wr a v).regs } := rfl
theorem setFld_eq (a lo len v : Nat) : s.setFld a lo len v = { s with regs := (s.setFld a lo len v).regs } := rfl
theorem satInc_eq (a lo : Nat) : s.satInc a lo = { s with regs := (s.satInc a lo).regs } := by unfold State.satInc; split <;> rfl
theorem ite_wr_eq (c : Prop) [Decidable c] (a : Nat) (w : Word) :
    (if c then s.wr a w else s) = { s with regs := (if c then s.wr a w else s).regs } := by
  split
  · exact wr_eq s a w
  · rfl
theorem regsOnly_trans {s t u : State} (h1 : t = { s with regs := t.regs }) (h2 : u = { t with regs := u.regs }) :
    u = { s with regs := u.regs } := by rw [h1] at h2; exact h2
theorem recorded_eq (base : Nat) (w : Word) :
    ((if s.rd (base + 0x20) = 0 then s.wr (base + 0x20) w else s).satInc (base + 0x24) 0)
      = { s with regs := ((if s.rd (base + 0x20) = 0 then s.wr (base + 0x20) w else s).satInc (base + 0x24) 0).regs } :=
  regsOnly_trans (ite_wr_eq s _ _ w) (satInc_eq _ _ _)
theorem error_eq (base cls num detail : Nat) : s.error base cls num detail = { s with regs := (s.error base cls num detail).regs } :=
  recorded_eq s base (BitVec.ofNat 32 (0x1000000 * cls + 0x10000 * num + detail % 0x10000))

/-! ## Updates that leave every register word -/

@[simp] theorem rd_setKey (page : Nat) (k : KeyState) (a : Nat) : (s.setKey page k).rd a = s.rd a := rfl
@[simp] theorem rd_answer (d : Word) (e : Bool) (a : Nat) : (s.answer d e).rd a = s.rd a := rfl
@[simp] theorem rd_crcTouch (page a : Nat) : (s.crcTouch page).rd a = s.rd a := rfl
@[simp] theorem rd_srcRefresh (a : Nat) : s.srcRefresh.rd a = s.rd a := rfl
@[simp] theorem rd_drawn (a : Nat) : s.drawn.rd a = s.rd a := rfl
@[simp] theorem rd_attach (m : Master) (a : Nat) : (s.attach m).rd a = s.rd a := by unfold State.attach; split <;> rfl
@[simp] theorem rd_consumeKey (page : Nat) (m : Master) (a : Nat) : (s.consumeKey page m).rd a = s.rd a := by
  unfold State.consumeKey; split <;> rfl
@[simp] theorem rd_with_pages (x : Pages) (a : Nat) : ({ s with pages := x } : State).rd a = s.rd a := rfl
@[simp] theorem rd_with_cox (x : Cox) (a : Nat) : ({ s with cox := x } : State).rd a = s.rd a := rfl
@[simp] theorem rd_with_power (x : Power) (a : Nat) : ({ s with power := x } : State).rd a = s.rd a := rfl
@[simp] theorem rd_with_sec (x : Security) (a : Nat) : ({ s with sec := x } : State).rd a = s.rd a := rfl
@[simp] theorem rd_with_mem (x : List Host.Cell) (a : Nat) : ({ s with mem := x } : State).rd a = s.rd a := rfl
@[simp] theorem rd_with_now (x : Nat) (a : Nat) : ({ s with now := x } : State).rd a = s.rd a := rfl

/-! ## Attaching and consuming leave everything but the register pages -/

theorem attach_eq (m : Master) : s.attach m = { s with pages := (s.attach m).pages } := by unfold State.attach; split <;> rfl
theorem consumeKey_eq (page : Nat) (m : Master) : s.consumeKey page m = { s with pages := (s.consumeKey page m).pages } := by
  unfold State.consumeKey; split <;> rfl

/-! ## The front of a command that accesses a register -/

theorem regRow_reaches {m : Master} {a : Nat} {s : State} (f : State → State) (h : Reaches m a s) : regRow m a f s = f (s.attach m) := by
  obtain ⟨h1, h2, h3⟩ := h
  have h4 : (s.attach m).hasPage (pageOf a) = true := by rw [attach_eq]; exact h3
  simp only [regRow, mastered, h1, h2, Bool.and_self, if_true, h4]

theorem headerRow_reaches {m : Master} {page off : Nat} {s : State} (f : State → State) (hp : HeaderPage page)
    (h : Reaches m (pageAddr page + off) s) : headerRow m page off f s = f (s.attach m) := by
  simp only [headerRow, hp.1, hp.2, and_self, if_true]; exact regRow_reaches f h

theorem ctrlRow_reaches {m : Master} {page : Nat} {s : State} (v : Word) (hp : HeaderPage page)
    (h : Reaches m (ctrlAddr page) s) : ctrlRow m page v s = ctrlWrite m page v (s.attach m) := by
  simp only [ctrlRow, hp.1, hp.2, and_self, if_true]; exact regRow_reaches _ h

theorem live_running {page : Nat} {s : State} (f : State → State) (h : frozen s page = false) : live page f s = f s := by
  simp [live, h]

theorem live_frozen {page : Nat} {s : State} (f : State → State) (h : frozen s page = true) : live page f s = s := by
  simp [live, h]

/-- An accepted write performs its effect on the state with the opening consumed; PAGE_CRC is due where a configuration word changed. -/
theorem regWrite_accepted {d : RegDef} {a : Nat} {m : Master} {v : Word} {s : State} (eff : Word → State → State)
    (h : Accepted d a m v s) :
    regWrite d a m v eff s = (if isConfig d ∧ (eff v (s.consumeKey (pageOf a) m)).rd a ≠ s.rd a
      then (eff v (s.consumeKey (pageOf a) m)).crcTouch (pageOf a) else eff v (s.consumeKey (pageOf a) m)) := by
  obtain ⟨h1, h2, h3⟩ := h
  unfold regWrite
  have e1 : (isConfig d && cfgLocked s (pageOf a)) = false := by
    cases hc : isConfig d <;> simp_all
  have e2 : (safeLocked s (pageOf a) && !safeMoves d (s.rd a) (storeValue d (s.rd a) v)) = false := by
    cases hc : safeLocked s (pageOf a) <;> simp_all
  have e3 : ¬(d.kind = .rwk ∧ holdsOpening s (pageOf a) m = false) := by
    rintro ⟨hk, hf⟩; simp_all
  simp only [e1, e2, e3, if_false, Bool.false_eq_true]

/-! ## What changes at most: composing frames -/

theorem only_refl (l : List Nat) : OnlyPageRegs l s s := ⟨rfl, fun _ _ => rfl⟩

theorem only_trans {l : List Nat} {s t u : State} (h1 : OnlyPageRegs l s t) (h2 : OnlyPageRegs l t u) : OnlyPageRegs l s u := by
  refine ⟨?_, fun a ha => ?_⟩
  · have := h2.1; rw [h1.1] at this; exact this
  · rw [h2.2 a ha, h1.2 a ha]

theorem only_attach (m : Master) (l : List Nat) : OnlyPageRegs l s (s.attach m) := ⟨by rw [attach_eq], fun a _ => rd_attach s m a⟩
theorem only_setKey (p : Nat) (k : KeyState) (l : List Nat) : OnlyPageRegs l s (s.setKey p k) := ⟨rfl, fun _ _ => rfl⟩
theorem only_consumeKey (p : Nat) (m : Master) (l : List Nat) : OnlyPageRegs l s (s.consumeKey p m) :=
  ⟨by rw [consumeKey_eq], fun a _ => rd_consumeKey s p m a⟩
theorem only_answer (d : Word) (e : Bool) (l : List Nat) : OnlyPageRegs l s (s.answer d e) := ⟨rfl, fun _ _ => rfl⟩
theorem only_crcTouch (p : Nat) (l : List Nat) : OnlyPageRegs l s (s.crcTouch p) := ⟨rfl, fun _ _ => rfl⟩
theorem only_srcRefresh (l : List Nat) : OnlyPageRegs l s s.srcRefresh := ⟨rfl, fun _ _ => rfl⟩
theorem only_wr (a : Nat) (v : Word) (l : List Nat) (h : a ∈ l) : OnlyPageRegs l s (s.wr a v) :=
  ⟨rfl, fun b hb => rd_wr_other s a b v (fun e => hb (e ▸ h))⟩
theorem only_setFld (a lo len v : Nat) (l : List Nat) (h : a ∈ l) : OnlyPageRegs l s (s.setFld a lo len v) :=
  ⟨rfl, fun b hb => rd_setFld_other s a b lo len v (fun e => hb (e ▸ h))⟩
theorem only_setFlag (a k : Nat) (b : Bool) (l : List Nat) (h : a ∈ l) : OnlyPageRegs l s (s.setFlag a k b) :=
  ⟨rfl, fun c hc => rd_setFlag_other s a c k b (fun e => hc (e ▸ h))⟩
theorem only_error (base cls num detail : Nat) (l : List Nat) (h1 : base + 0x20 ∈ l) (h2 : base + 0x24 ∈ l) :
    OnlyPageRegs l s (s.error base cls num detail) :=
  ⟨by rw [error_eq], fun b hb => rd_error_other s base cls num detail b (fun e => hb (e ▸ h1)) (fun e => hb (e ▸ h2))⟩

/-! ## Key state -/

theorem keyNow_attach (m : Master) (p : Nat) : keyNow (s.attach m) p = keyNow s p := by unfold State.attach; split <;> rfl
theorem now_attach (m : Master) : (s.attach m).now = s.now := by unfold State.attach; split <;> rfl
theorem keyNow_setKey_idle (p : Nat) : keyNow (s.setKey p .idle) p = .idle := by simp [keyNow, State.setKey, tabGet_put_same]
theorem keyNow_setKey_first (p o : Nat) : keyNow (s.setKey p (.first o (sysCycles s))) p = .first o (sysCycles s) := by
  simp only [keyNow, State.setKey, tabGet_put_same, keyWindow]; exact if_neg (by simp only [sysCycles]; omega)
theorem keyNow_setKey_opened (p o : Nat) : keyNow (s.setKey p (.opened o (sysCycles s))) p = .opened o (sysCycles s) := by
  simp only [keyNow, State.setKey, tabGet_put_same, openingWindow]; exact if_neg (by simp only [sysCycles]; omega)
theorem keyNow_of_pages {s t : State} (hp : t.pages.keys = s.pages.keys) (hn : sysCycles t = sysCycles s) (p : Nat) :
    keyNow t p = keyNow s p := by
  simp only [keyNow, hp, hn]
theorem holdsOpening_attach (m x : Master) (p : Nat) : holdsOpening (s.attach m) p x = holdsOpening s p x := by
  simp only [holdsOpening, keyNow_attach]
/-- The opening of the owning master is gone after its write (R50). -/
theorem keyNow_consumeKey {s : State} {p : Nat} {m : Master} (h : holdsOpening s p m = true) : keyNow (s.consumeKey p m) p = .idle := by
  simp only [State.consumeKey, h, if_true]; exact keyNow_setKey_idle s p

/-! ## Pages and addresses -/

theorem pageOf_page (p off : Nat) (hp : p < 0x400) (ho : off < 0x1000) : pageOf (pageAddr p + off) = p := by
  unfold pageOf pageAddr pageZero; omega
theorem mod_page (p off : Nat) (ho : off < 0x1000) : (pageAddr p + off) % 0x1000 = off := by
  unfold pageAddr pageZero; omega

/-- An error recorded on a state with the same registers is recorded on the one before. -/
theorem error_recorded_of {s u : State} (base cls num det : Nat) (h : ∀ a, u.rd a = s.rd a) :
    ErrorRecorded base cls num det s (u.error base cls num det) := by
  have := error_recorded u base cls num det
  simp only [ErrorRecorded, State.fld, h] at this ⊢
  exact this

/-- A write that CFG_LOCK refuses and that clears no enable does nothing but record ACCESS/LOCKED (R53). -/
theorem regWrite_cfgLocked {d : RegDef} {a : Nat} {m : Master} {v : Word} {s : State} (eff : Word → State → State)
    (h0 : 0x040 ≤ a % 0x1000) (h1 : isConfig d = true) (h2 : cfgLocked s (pageOf a) = true) (h3 : clearedEnables d (s.rd a) v = 0) :
    regWrite d a m v eff s = (s.consumeKey (pageOf a) m).accessError a 0x02 m := by
  have e : s.rd a &&& ~~~(0 : Word) = s.rd a := by rw [show ~~~(0 : Word) = BitVec.allOnes 32 from rfl, BitVec.and_allOnes]
  have r : ((s.consumeKey (pageOf a) m).accessError a 0x02 m).rd a = s.rd a := by
    unfold State.accessError
    rw [rd_error_other _ _ _ _ _ _ (by unfold pageAddr pageZero; omega) (by unfold pageAddr pageZero; omega), rd_consumeKey]
  simp only [regWrite, h1, h2, h3, e, Bool.and_self, if_true, true_or, r, ne_eq, not_true, and_false, if_false]

/-- A write to a key-protected register without an opening does nothing but record ACCESS/KEY_REQUIRED (R51). -/
theorem regWrite_unopened {d : RegDef} {a : Nat} {m : Master} {v : Word} {s : State} (eff : Word → State → State)
    (h0 : 0x040 ≤ a % 0x1000) (hk : d.kind = .rwk) (h1 : isConfig d = true → cfgLocked s (pageOf a) = false)
    (h2 : safeLocked s (pageOf a) = false) (h3 : holdsOpening s (pageOf a) m = false) :
    regWrite d a m v eff s = (s.consumeKey (pageOf a) m).accessError a 0x04 m := by
  have e1 : (isConfig d && cfgLocked s (pageOf a)) = false := by cases hc : isConfig d <;> simp_all
  have r : ((s.consumeKey (pageOf a) m).accessError a 0x04 m).rd a = s.rd a := by
    unfold State.accessError
    rw [rd_error_other _ _ _ _ _ _ (by unfold pageAddr pageZero; omega) (by unfold pageAddr pageZero; omega), rd_consumeKey]
  simp only [regWrite, e1, h2, hk, h3, Bool.false_and, Bool.false_eq_true, if_false, and_self, if_true, r, ne_eq, not_true, and_false]

/-- An error about a register is recorded on its page. -/
theorem accessError_recorded (a num : Nat) (m : Master) (s u : State) (h : ∀ x, u.rd x = s.rd x) :
    ErrorRecorded (pageAddr (pageOf a)) 0x01 num (errDetail (masterCode m) (a % 0x1000)) s (u.accessError a num m) :=
  error_recorded_of _ _ _ _ h
theorem controlError_recorded (a num : Nat) (m : Master) (s u : State) (h : ∀ x, u.rd x = s.rd x) :
    ErrorRecorded (pageAddr (pageOf a)) 0x02 num (errDetail (masterCode m) (a % 0x1000)) s (u.controlError a num m) :=
  error_recorded_of _ _ _ _ h
theorem blockError_recorded (a num : Nat) (m : Master) (s u : State) (h : ∀ x, u.rd x = s.rd x) :
    ErrorRecorded (pageAddr (pageOf a)) 0x03 num (errDetail (masterCode m) (a % 0x1000)) s (u.blockError a num m) :=
  error_recorded_of _ _ _ _ h
theorem recorded_answer {base cls num det : Nat} {s t : State} (w : Word) (e : Bool) (h : ErrorRecorded base cls num det s t) :
    ErrorRecorded base cls num det s (t.answer w e) := h
theorem only_accessError (a num : Nat) (m : Master) : OnlyPageRegs [pageAddr (pageOf a) + 0x20, pageAddr (pageOf a) + 0x24] s (s.accessError a num m) :=
  only_error _ _ _ _ _ _ (by simp) (by simp)
theorem only_controlError (a num : Nat) (m : Master) : OnlyPageRegs [pageAddr (pageOf a) + 0x20, pageAddr (pageOf a) + 0x24] s (s.controlError a num m) :=
  only_error _ _ _ _ _ _ (by simp) (by simp)
theorem only_blockError (a num : Nat) (m : Master) : OnlyPageRegs [pageAddr (pageOf a) + 0x20, pageAddr (pageOf a) + 0x24] s (s.blockError a num m) :=
  only_error _ _ _ _ _ _ (by simp) (by simp)

theorem attach_variant (m : Master) : (s.attach m).variant = s.variant := by unfold State.attach; split <;> rfl
theorem attach_sec (m : Master) : (s.attach m).sec = s.sec := by unfold State.attach; split <;> rfl
theorem hasPage_attach (m : Master) (p : Nat) : (s.attach m).hasPage p = s.hasPage p := by
  simp only [State.hasPage, attach_variant, attach_sec]
theorem cfgLocked_attach (m : Master) (p : Nat) : cfgLocked (s.attach m) p = cfgLocked s p := by simp [cfgLocked, State.flag]
theorem safeLocked_attach (m : Master) (p : Nat) : safeLocked (s.attach m) p = safeLocked s p := by simp [safeLocked, State.flag]
theorem accepted_attach {d : RegDef} {a : Nat} {m x : Master} {v : Word} {s : State} (h : Accepted d a m v s) : Accepted d a m v (s.attach x) := by
  simpa only [Accepted, cfgLocked_attach, safeLocked_attach, holdsOpening_attach, rd_attach] using h

end Sys2Proof.Machine
end

