-- ==== Sys2Proof/Laws/PerInstr.lean ====
section
/-! SUPPORT. Family Unspelled: the command table gives a command no bits, so no word spells it; one lemma per constructor. -/

namespace Sys2Proof.Laws

/-- No word of any width spells the command. -/
def Unspelled.Statement (i : Instr) : Prop := ∀ nbits w, decodeTableWord nbits w ≠ some i

theorem Unspelled.registerWrite (m : Master) (addr : Nat) (v : Word) : Unspelled.Statement (.registerWrite m addr v) := nofun
theorem Unspelled.absentPageAccess (m : Master) (addr : Nat) (write : Bool) : Unspelled.Statement (.absentPageAccess m addr write) := nofun
theorem Unspelled.unbackedAccess (m : Master) (addr : Nat) (write : Bool) : Unspelled.Statement (.unbackedAccess m addr write) := nofun
theorem Unspelled.narrowRegisterAccess (m : Master) (addr bytes : Nat) (write : Bool) : Unspelled.Statement (.narrowRegisterAccess m addr bytes write) := nofun
theorem Unspelled.keyWrite (m : Master) (page : Nat) (v : Word) : Unspelled.Statement (.keyWrite m page v) := nofun
theorem Unspelled.keySequenceLapse (page : Nat) : Unspelled.Statement (.keySequenceLapse page) := nofun
theorem Unspelled.keyOpeningLapse (page : Nat) : Unspelled.Statement (.keyOpeningLapse page) := nofun
theorem Unspelled.lockWrite (m : Master) (page : Nat) (v : Word) : Unspelled.Statement (.lockWrite m page v) := nofun
theorem Unspelled.errCntClear (m : Master) (page : Nat) (v : Word) : Unspelled.Statement (.errCntClear m page v) := nofun
theorem Unspelled.absentStatClear (m : Master) (v : Word) : Unspelled.Statement (.absentStatClear m v) := nofun
theorem Unspelled.counterClear (m : Master) (addr : Nat) (v : Word) : Unspelled.Statement (.counterClear m addr v) := nofun
theorem Unspelled.pageCrcUpdate (page : Nat) : Unspelled.Statement (.pageCrcUpdate page) := nofun
theorem Unspelled.ctrlEnSet (m : Master) (page : Nat) (v : Word) : Unspelled.Statement (.ctrlEnSet m page v) := nofun
theorem Unspelled.ctrlEnClear (m : Master) (page : Nat) (v : Word) : Unspelled.Statement (.ctrlEnClear m page v) := nofun
theorem Unspelled.stopComplete (page : Nat) : Unspelled.Statement (.stopComplete page) := nofun
theorem Unspelled.ctrlAbort (m : Master) (page : Nat) (v : Word) : Unspelled.Statement (.ctrlAbort m page v) := nofun
theorem Unspelled.ctrlSoftReset (m : Master) (page : Nat) (v : Word) : Unspelled.Statement (.ctrlSoftReset m page v) := nofun
theorem Unspelled.ctrlFreeze (m : Master) (page : Nat) (v : Word) : Unspelled.Statement (.ctrlFreeze m page v) := nofun
theorem Unspelled.irqStatClear (m : Master) (page : Nat) (v : Word) : Unspelled.Statement (.irqStatClear m page v) := nofun
theorem Unspelled.irqSet (m : Master) (page : Nat) (v : Word) : Unspelled.Statement (.irqSet m page v) := nofun
theorem Unspelled.softSet (m : Master) (v : Word) : Unspelled.Statement (.softSet m v) := nofun
theorem Unspelled.softClear (m : Master) (v : Word) : Unspelled.Statement (.softClear m v) := nofun
theorem Unspelled.spreadCfgWrite (m : Master) (v : Word) : Unspelled.Statement (.spreadCfgWrite m v) := nofun
theorem Unspelled.spreadApplied : Unspelled.Statement .spreadApplied := nofun
theorem Unspelled.powerUp : Unspelled.Statement .powerUp := nofun
theorem Unspelled.porstNLow (ns : Nat) : Unspelled.Statement (.porstNLow ns) := nofun
theorem Unspelled.resetPinLow (ns : Nat) : Unspelled.Statement (.resetPinLow ns) := nofun
theorem Unspelled.rstKey (m : Master) (v : Word) : Unspelled.Statement (.rstKey m v) := nofun
theorem Unspelled.supplyUndervoltage (sup : Supply) (present : Bool) : Unspelled.Statement (.supplyUndervoltage sup present) := nofun
theorem Unspelled.supplyOvervoltage (sup : Supply) (present : Bool) : Unspelled.Statement (.supplyOvervoltage sup present) := nofun
theorem Unspelled.vinWarn : Unspelled.Statement .vinWarn := nofun
theorem Unspelled.clockLoss (k : ClockFault) (present : Bool) : Unspelled.Statement (.clockLoss k present) := nofun
theorem Unspelled.pwrReq (m : Master) (v : Word) : Unspelled.Statement (.pwrReq m v) := nofun
theorem Unspelled.powerStateGating : Unspelled.Statement .powerStateGating := nofun
theorem Unspelled.vinLoss : Unspelled.Statement .vinLoss := nofun
theorem Unspelled.vinReturn : Unspelled.Statement .vinReturn := nofun
theorem Unspelled.holdCanActivity (k : Nat) : Unspelled.Statement (.holdCanActivity k) := nofun
theorem Unspelled.hpCsFall : Unspelled.Statement .hpCsFall := nofun
theorem Unspelled.wakeStepDone : Unspelled.Statement .wakeStepDone := nofun
theorem Unspelled.wakeStepTimeout : Unspelled.Statement .wakeStepTimeout := nofun
theorem Unspelled.wakeStepRetry : Unspelled.Statement .wakeStepRetry := nofun
theorem Unspelled.faultLineCheck (line : Nat) (present : Bool) : Unspelled.Statement (.faultLineCheck line present) := nofun
theorem Unspelled.eventLineIdleCheck (line : Nat) : Unspelled.Statement (.eventLineIdleCheck line) := nofun
theorem Unspelled.coxStopTimeout : Unspelled.Statement .coxStopTimeout := nofun
theorem Unspelled.latchClear (m : Master) (k : Nat) (v : Word) : Unspelled.Statement (.latchClear m k v) := nofun
theorem Unspelled.fmapEntryWrite (m : Master) (line : Nat) (v : Word) : Unspelled.Statement (.fmapEntryWrite m line v) := nofun
theorem Unspelled.releaseRun (m : Master) : Unspelled.Statement (.releaseRun m) := nofun
theorem Unspelled.releaseCheck (m : Master) : Unspelled.Statement (.releaseCheck m) := nofun
theorem Unspelled.senEnWrite (m : Master) (v : Word) : Unspelled.Statement (.senEnWrite m v) := nofun
theorem Unspelled.coxAutoReset : Unspelled.Statement .coxAutoReset := nofun
theorem Unspelled.checkStart : Unspelled.Statement .checkStart := nofun
theorem Unspelled.checkTestDone (e : TestEnd) : Unspelled.Statement (.checkTestDone e) := nofun
theorem Unspelled.wdWinWrite (m : Master) (v : Word) : Unspelled.Statement (.wdWinWrite m v) := nofun
theorem Unspelled.wdaWrite (m : Master) (v : Word) : Unspelled.Statement (.wdaWrite m v) := nofun
theorem Unspelled.wdWindowExpire : Unspelled.Statement .wdWindowExpire := nofun
theorem Unspelled.spewdWrite (m : Master) (n : Nat) (v : Word) : Unspelled.Statement (.spewdWrite m n v) := nofun
theorem Unspelled.speWdExpire (n : Nat) : Unspelled.Statement (.speWdExpire n) := nofun
theorem Unspelled.leLivenessCheck (n : Nat) : Unspelled.Statement (.leLivenessCheck n) := nofun
theorem Unspelled.firstClear (m : Master) (v : Word) : Unspelled.Statement (.firstClear m v) := nofun
theorem Unspelled.swStop (m : Master) : Unspelled.Statement (.swStop m) := nofun
theorem Unspelled.swOff (m : Master) : Unspelled.Statement (.swOff m) := nofun
theorem Unspelled.memoryRead (m : Master) (addr bytes : Nat) (upset : Upset) : Unspelled.Statement (.memoryRead m addr bytes upset) := nofun
theorem Unspelled.memoryWrite (m : Master) (addr bytes : Nat) (v : Word) : Unspelled.Statement (.memoryWrite m addr bytes v) := nofun
theorem Unspelled.atomicAddRead (m : Master) (addr : Nat) (upset : Upset) : Unspelled.Statement (.atomicAddRead m addr upset) := nofun
theorem Unspelled.atomicAddWrite (m : Master) (addr : Nat) (v : Word) (upset : Upset) : Unspelled.Statement (.atomicAddWrite m addr v upset) := nofun
theorem Unspelled.atomicSwapRead (m : Master) (addr : Nat) (upset : Upset) : Unspelled.Statement (.atomicSwapRead m addr upset) := nofun
theorem Unspelled.atomicSwapWrite (m : Master) (addr : Nat) (v : Word) : Unspelled.Statement (.atomicSwapWrite m addr v) := nofun
theorem Unspelled.ceWriteback (addr : Nat) : Unspelled.Statement (.ceWriteback addr) := nofun
theorem Unspelled.starve (master bank : Nat) : Unspelled.Statement (.starve master bank) := nofun
theorem Unspelled.injectWrite (m : Master) (v : Word) : Unspelled.Statement (.injectWrite m v) := nofun
theorem Unspelled.rmapWrite (m : Master) (k : Nat) (limit : Bool) (v : Word) : Unspelled.Statement (.rmapWrite m k limit v) := nofun
theorem Unspelled.skimBlockStart (upsets : List (Nat × Upset)) : Unspelled.Statement (.skimBlockStart upsets) := nofun
theorem Unspelled.skimBlockWriteback (marchFail : Option Nat) : Unspelled.Statement (.skimBlockWriteback marchFail) := nofun
theorem Unspelled.skimPassLimitCheck : Unspelled.Statement .skimPassLimitCheck := nofun
theorem Unspelled.secmemAccess (m : Master) (addr : Nat) (write : Bool) (v : Word) : Unspelled.Statement (.secmemAccess m addr write v) := nofun
theorem Unspelled.lcReq (m : Master) (v : Word) : Unspelled.Statement (.lcReq m v) := nofun
theorem Unspelled.lcWordProgrammed : Unspelled.Statement .lcWordProgrammed := nofun
theorem Unspelled.wipe (m : Master) (v : Word) : Unspelled.Statement (.wipe m v) := nofun
theorem Unspelled.wipeDone (verified : Bool) : Unspelled.Statement (.wipeDone verified) := nofun
theorem Unspelled.tamperDetect (b : Nat) (present : Bool) : Unspelled.Statement (.tamperDetect b present) := nofun
theorem Unspelled.tamperStatClear (m : Master) (v : Word) : Unspelled.Statement (.tamperStatClear m v) := nofun
theorem Unspelled.verifyStart (m : Master) (v : Word) : Unspelled.Statement (.verifyStart m v) := nofun
theorem Unspelled.verifyDone : Unspelled.Statement .verifyDone := nofun
theorem Unspelled.dbgMailboxRead : Unspelled.Statement .dbgMailboxRead := nofun
theorem Unspelled.dbgUnlock (key sig : List Byte) : Unspelled.Statement (.dbgUnlock key sig) := nofun
theorem Unspelled.progCmd (m : Master) (v : Word) : Unspelled.Statement (.progCmd m v) := nofun
theorem Unspelled.progDone (verified : Bool) : Unspelled.Statement (.progDone verified) := nofun
theorem Unspelled.queuePush (m : Master) (q : Nat) (v : Word) : Unspelled.Statement (.queuePush m q v) := nofun
theorem Unspelled.queuePop (m : Master) (q : Nat) : Unspelled.Statement (.queuePop m q) := nofun
theorem Unspelled.headTransfer (q : HeadMove) : Unspelled.Statement (.headTransfer q) := nofun
theorem Unspelled.spillBurst (q : Nat) : Unspelled.Statement (.spillBurst q) := nofun
theorem Unspelled.fillBurst (q : Nat) (upsets : List (Nat × Upset)) : Unspelled.Statement (.fillBurst q upsets) := nofun
theorem Unspelled.flush (m : Master) (q : Nat) : Unspelled.Statement (.flush m q) := nofun
theorem Unspelled.flushDone (q : Nat) : Unspelled.Statement (.flushDone q) := nofun
theorem Unspelled.pktOpen (m : Master) (q : Nat) : Unspelled.Statement (.pktOpen m q) := nofun
theorem Unspelled.pktClose (m : Master) (q : Nat) : Unspelled.Statement (.pktClose m q) := nofun
theorem Unspelled.pktAbort (m : Master) (q : Nat) : Unspelled.Statement (.pktAbort m q) := nofun
theorem Unspelled.regionWrite (m : Master) (q : Nat) (v : Word) : Unspelled.Statement (.regionWrite m q v) := nofun
theorem Unspelled.queueCfgWrite (m : Master) (q : Nat) (v : Word) : Unspelled.Statement (.queueCfgWrite m q v) := nofun
theorem Unspelled.hpNop (op len addr seq flags : Nat) (crc : NopEnd) :
    Unspelled.Statement (.hpNop op len addr seq flags crc) := nofun
theorem Unspelled.hpRead (len addr seq flags : Nat) (crc : BitVec 16) (bursts sent : Nat) : Unspelled.Statement (.hpRead len addr seq flags crc bursts sent) := nofun
theorem Unspelled.hpReadFixed (len addr seq flags : Nat) (crc : BitVec 16) (bursts sent : Nat) : Unspelled.Statement (.hpReadFixed len addr seq flags crc bursts sent) := nofun
theorem Unspelled.hpWrite (len addr seq flags : Nat) (crc : BitVec 16) (data : List HpBurst) : Unspelled.Statement (.hpWrite len addr seq flags crc data) := nofun
theorem Unspelled.hpWriteFixed (len addr seq flags : Nat) (crc : BitVec 16) (data : List HpBurst) : Unspelled.Statement (.hpWriteFixed len addr seq flags crc data) := nofun
theorem Unspelled.hpCsRise : Unspelled.Statement .hpCsRise := nofun
theorem Unspelled.modeReset : Unspelled.Statement .modeReset := nofun
theorem Unspelled.dmaDescWrite (m : Master) (n : Nat) (v : Word) : Unspelled.Statement (.dmaDescWrite m n v) := nofun
theorem Unspelled.dmaDescFetch (n : Nat) : Unspelled.Statement (.dmaDescFetch n) := nofun
theorem Unspelled.dmaTrig (m : Master) (n : Nat) : Unspelled.Statement (.dmaTrig m n) := nofun
theorem Unspelled.dmaRoutedTrigger (src : Nat) : Unspelled.Statement (.dmaRoutedTrigger src) := nofun
theorem Unspelled.dmaBurst (n : Nat) : Unspelled.Statement (.dmaBurst n) := nofun
theorem Unspelled.bootStart (image : List Word) : Unspelled.Statement (.bootStart image) := nofun
theorem Unspelled.bootVerifyDone : Unspelled.Statement .bootVerifyDone := nofun
theorem Unspelled.flLenWrite (m : Master) (v : Word) : Unspelled.Statement (.flLenWrite m v) := nofun
theorem Unspelled.flDone (data : List Word) : Unspelled.Statement (.flDone data) := nofun
theorem Unspelled.speEnable (m : Master) (n : Nat) : Unspelled.Statement (.speEnable m n) := nofun
theorem Unspelled.speInterrupt (n : Nat) : Unspelled.Statement (.speInterrupt n) := nofun
theorem Unspelled.speStallEnd (n : Nat) : Unspelled.Statement (.speStallEnd n) := nofun
theorem Unspelled.speWaitResume (n : Nat) : Unspelled.Statement (.speWaitResume n) := nofun
theorem Unspelled.lockstepMismatch (n : Nat) : Unspelled.Statement (.lockstepMismatch n) := nofun
theorem Unspelled.debugHalt (n : DebugReq) : Unspelled.Statement (.debugHalt n) := nofun
theorem Unspelled.debugResume (n : Nat) : Unspelled.Statement (.debugResume n) := nofun
theorem Unspelled.debugStep (n : Nat) : Unspelled.Statement (.debugStep n) := nofun
theorem Unspelled.pMove (n : Nat) (w : Word) : Unspelled.Statement (.pMove n w) := nofun
theorem Unspelled.mul (n : Nat) (w : Word) : Unspelled.Statement (.mul n w) := nofun
theorem Unspelled.muln (n : Nat) (w : Word) : Unspelled.Statement (.muln n w) := nofun
theorem Unspelled.fma (n : Nat) (w : Word) : Unspelled.Statement (.fma n w) := nofun
theorem Unspelled.fms (n : Nat) (w : Word) : Unspelled.Statement (.fms n w) := nofun
theorem Unspelled.mulr (n : Nat) (w : Word) : Unspelled.Statement (.mulr n w) := nofun
theorem Unspelled.fmar (n : Nat) (w : Word) : Unspelled.Statement (.fmar n w) := nofun
theorem Unspelled.add (n : Nat) (w : Word) : Unspelled.Statement (.add n w) := nofun
theorem Unspelled.sub (n : Nat) (w : Word) : Unspelled.Statement (.sub n w) := nofun
theorem Unspelled.adda (n : Nat) (w : Word) : Unspelled.Statement (.adda n w) := nofun
theorem Unspelled.suba (n : Nat) (w : Word) : Unspelled.Statement (.suba n w) := nofun
theorem Unspelled.cmp (n : Nat) (w : Word) : Unspelled.Statement (.cmp n w) := nofun
theorem Unspelled.cmpa (n : Nat) (w : Word) : Unspelled.Statement (.cmpa n w) := nofun
theorem Unspelled.copy (n : Nat) (w : Word) : Unspelled.Statement (.copy n w) := nofun
theorem Unspelled.copya (n : Nat) (w : Word) : Unspelled.Statement (.copya n w) := nofun
theorem Unspelled.absA (n : Nat) (w : Word) : Unspelled.Statement (.absA n w) := nofun
theorem Unspelled.neg (n : Nat) (w : Word) : Unspelled.Statement (.neg n w) := nofun
theorem Unspelled.clr (n : Nat) (w : Word) : Unspelled.Statement (.clr n w) := nofun
theorem Unspelled.round (n : Nat) (w : Word) : Unspelled.Statement (.round n w) := nofun
theorem Unspelled.shl1 (n : Nat) (w : Word) : Unspelled.Statement (.shl1 n w) := nofun
theorem Unspelled.shr1 (n : Nat) (w : Word) : Unspelled.Statement (.shr1 n w) := nofun
theorem Unspelled.sat (n : Nat) (w : Word) : Unspelled.Statement (.sat n w) := nofun
theorem Unspelled.andA (n : Nat) (w : Word) : Unspelled.Statement (.andA n w) := nofun
theorem Unspelled.orA (n : Nat) (w : Word) : Unspelled.Statement (.orA n w) := nofun
theorem Unspelled.xor (n : Nat) (w : Word) : Unspelled.Statement (.xor n w) := nofun
theorem Unspelled.notA (n : Nat) (w : Word) : Unspelled.Statement (.notA n w) := nofun
theorem Unspelled.addi (n : Nat) (w : Word) : Unspelled.Statement (.addi n w) := nofun
theorem Unspelled.subi (n : Nat) (w : Word) : Unspelled.Statement (.subi n w) := nofun
theorem Unspelled.cmpi (n : Nat) (w : Word) : Unspelled.Statement (.cmpi n w) := nofun
theorem Unspelled.andi (n : Nat) (w : Word) : Unspelled.Statement (.andi n w) := nofun
theorem Unspelled.ori (n : Nat) (w : Word) : Unspelled.Statement (.ori n w) := nofun
theorem Unspelled.xori (n : Nat) (w : Word) : Unspelled.Statement (.xori n w) := nofun
theorem Unspelled.copyi (n : Nat) (w : Word) : Unspelled.Statement (.copyi n w) := nofun
theorem Unspelled.ldi (n : Nat) (w : Word) : Unspelled.Statement (.ldi n w) := nofun
theorem Unspelled.move (n : Nat) (w : Word) : Unspelled.Statement (.move n w) := nofun
theorem Unspelled.ldx (n : Nat) (w : Word) : Unspelled.Statement (.ldx n w) := nofun
theorem Unspelled.ldy (n : Nat) (w : Word) : Unspelled.Statement (.ldy n w) := nofun
theorem Unspelled.stx (n : Nat) (w : Word) : Unspelled.Statement (.stx n w) := nofun
theorem Unspelled.sty (n : Nat) (w : Word) : Unspelled.Statement (.sty n w) := nofun
theorem Unspelled.ldxa (n : Nat) (w : Word) : Unspelled.Statement (.ldxa n w) := nofun
theorem Unspelled.ldya (n : Nat) (w : Word) : Unspelled.Statement (.ldya n w) := nofun
theorem Unspelled.stxa (n : Nat) (w : Word) : Unspelled.Statement (.stxa n w) := nofun
theorem Unspelled.stya (n : Nat) (w : Word) : Unspelled.Statement (.stya n w) := nofun
theorem Unspelled.lui (n : Nat) (w : Word) : Unspelled.Statement (.lui n w) := nofun
theorem Unspelled.modp (n : Nat) (w : Word) : Unspelled.Statement (.modp n w) := nofun
theorem Unspelled.lde (n : Nat) (w : Word) : Unspelled.Statement (.lde n w) := nofun
theorem Unspelled.ste (n : Nat) (w : Word) : Unspelled.Statement (.ste n w) := nofun
theorem Unspelled.spePush (n : Nat) (w : Word) : Unspelled.Statement (.spePush n w) := nofun
theorem Unspelled.spePop (n : Nat) (w : Word) : Unspelled.Statement (.spePop n w) := nofun
theorem Unspelled.qcmd (n : Nat) (w : Word) : Unspelled.Statement (.qcmd n w) := nofun
theorem Unspelled.maxi (n : Nat) (w : Word) : Unspelled.Statement (.maxi n w) := nofun
theorem Unspelled.mini (n : Nat) (w : Word) : Unspelled.Statement (.mini n w) := nofun
theorem Unspelled.vmax (n : Nat) (w : Word) : Unspelled.Statement (.vmax n w) := nofun
theorem Unspelled.vmin (n : Nat) (w : Word) : Unspelled.Statement (.vmin n w) := nofun
theorem Unspelled.div (n : Nat) (w : Word) : Unspelled.Statement (.div n w) := nofun
theorem Unspelled.nrm (n : Nat) (w : Word) : Unspelled.Statement (.nrm n w) := nofun
theorem Unspelled.scnt (n : Nat) (w : Word) : Unspelled.Statement (.scnt n w) := nofun
theorem Unspelled.ash (n : Nat) (w : Word) : Unspelled.Statement (.ash n w) := nofun
theorem Unspelled.ashi (n : Nat) (w : Word) : Unspelled.Statement (.ashi n w) := nofun
theorem Unspelled.srset (n : Nat) (w : Word) : Unspelled.Statement (.srset n w) := nofun
theorem Unspelled.srclr (n : Nat) (w : Word) : Unspelled.Statement (.srclr n w) := nofun
theorem Unspelled.sig (n : Nat) (w : Word) : Unspelled.Statement (.sig n w) := nofun
theorem Unspelled.nop (n : Nat) (w : Word) : Unspelled.Statement (.nop n w) := nofun
theorem Unspelled.bra (n : Nat) (w : Word) : Unspelled.Statement (.bra n w) := nofun
theorem Unspelled.call (n : Nat) (w : Word) : Unspelled.Statement (.call n w) := nofun
theorem Unspelled.jmpr (n : Nat) (w : Word) : Unspelled.Statement (.jmpr n w) := nofun
theorem Unspelled.callr (n : Nat) (w : Word) : Unspelled.Statement (.callr n w) := nofun
theorem Unspelled.rts (n : Nat) (w : Word) : Unspelled.Statement (.rts n w) := nofun
theorem Unspelled.rti (n : Nat) (w : Word) : Unspelled.Statement (.rti n w) := nofun
theorem Unspelled.rep (n : Nat) (w : Word) : Unspelled.Statement (.rep n w) := nofun
theorem Unspelled.repr (n : Nat) (w : Word) : Unspelled.Statement (.repr n w) := nofun
theorem Unspelled.doLoop (n : Nat) (w : Word) : Unspelled.Statement (.doLoop n w) := nofun
theorem Unspelled.dor (n : Nat) (w : Word) : Unspelled.Statement (.dor n w) := nofun
theorem Unspelled.lpop (n : Nat) (w : Word) : Unspelled.Statement (.lpop n w) := nofun
theorem Unspelled.wait (n : Nat) (w : Word) : Unspelled.Statement (.wait n w) := nofun
theorem Unspelled.trap (n : Nat) (w : Word) : Unspelled.Statement (.trap n w) := nofun
theorem Unspelled.adcConversionDone (k : Nat) (code : Int) : Unspelled.Statement (.adcConversionDone k code) := nofun
theorem Unspelled.seqRoundStart : Unspelled.Statement .seqRoundStart := nofun
theorem Unspelled.refBlind : Unspelled.Statement .refBlind := nofun
theorem Unspelled.refDiffUpdate : Unspelled.Statement .refDiffUpdate := nofun
theorem Unspelled.refSelWrite (m : Master) (v : Word) : Unspelled.Statement (.refSelWrite m v) := nofun
theorem Unspelled.sdmOutput (k ones fastOnes : Nat) : Unspelled.Statement (.sdmOutput k ones fastOnes) := nofun
theorem Unspelled.sdmStuck (k : Nat) : Unspelled.Statement (.sdmStuck k) := nofun
theorem Unspelled.tempUpdate (t0 t1 t2 t3 : Int) : Unspelled.Statement (.tempUpdate t0 t1 t2 t3) := nofun
theorem Unspelled.encEdge (n : Nat) (a b z : Bool) (back : Nat) : Unspelled.Statement (.encEdge n a b z back) := nofun
theorem Unspelled.encVelTimeout (n : Nat) : Unspelled.Statement (.encVelTimeout n) := nofun
theorem Unspelled.posSetHi (m : Master) (n : Nat) (v : Word) : Unspelled.Statement (.posSetHi m n v) := nofun
theorem Unspelled.pwmCarrierZero (n : Nat) : Unspelled.Statement (.pwmCarrierZero n) := nofun
theorem Unspelled.pwmCarrierPeriod (n : Nat) : Unspelled.Statement (.pwmCarrierPeriod n) := nofun
theorem Unspelled.pwmCommit (m : Master) (n : Nat) : Unspelled.Statement (.pwmCommit m n) := nofun
theorem Unspelled.pwmXcmpFire (n k : Nat) : Unspelled.Statement (.pwmXcmpFire n k) := nofun
theorem Unspelled.pwmEdgeRequest (n x : Nat) : Unspelled.Statement (.pwmEdgeRequest n x) := nofun
theorem Unspelled.pwmDeadTimeEnd (n x : Nat) : Unspelled.Statement (.pwmDeadTimeEnd n x) := nofun
theorem Unspelled.pwmTrip (n level : Nat) : Unspelled.Statement (.pwmTrip n level) := nofun
theorem Unspelled.tripClear (m : Master) (n : Nat) : Unspelled.Statement (.tripClear m n) := nofun
theorem Unspelled.hrCal (n taps : Nat) : Unspelled.Statement (.hrCal n taps) := nofun
theorem Unspelled.pwmSyncStart (n : Nat) : Unspelled.Statement (.pwmSyncStart n) := nofun
theorem Unspelled.leSampleTrigger (n : Nat) : Unspelled.Statement (.leSampleTrigger n) := nofun
theorem Unspelled.leSlotStart (le slot : Nat) : Unspelled.Statement (.leSlotStart le slot) := nofun
theorem Unspelled.lePairMismatch (le slot step : Nat) : Unspelled.Statement (.lePairMismatch le slot step) := nofun
theorem Unspelled.paramCommit (m : Master) (n : Nat) : Unspelled.Statement (.paramCommit m n) := nofun
theorem Unspelled.axEnable (m : Master) (n : Nat) : Unspelled.Statement (.axEnable m n) := nofun
theorem Unspelled.axDisable (m : Master) (n : Nat) : Unspelled.Statement (.axDisable m n) := nofun
theorem Unspelled.snapReq (m : Master) (le : Nat) (v : Word) : Unspelled.Statement (.snapReq m le v) := nofun
theorem Unspelled.repClear (m : Master) (n : Nat) : Unspelled.Statement (.repClear m n) := nofun
theorem Unspelled.repClearDone (n : Nat) : Unspelled.Statement (.repClearDone n) := nofun
theorem Unspelled.repCtrlEnable (m : Master) (n : Nat) (play learn : Bool) : Unspelled.Statement (.repCtrlEnable m n play learn) := nofun
theorem Unspelled.repFadeTimeout (n : Nat) : Unspelled.Statement (.repFadeTimeout n) := nofun
theorem Unspelled.profStop (m : Master) (n : Nat) : Unspelled.Statement (.profStop m n) := nofun
theorem Unspelled.profGo (m : Master) (n : Nat) : Unspelled.Statement (.profGo m n) := nofun
theorem Unspelled.profRefusedClear (m : Master) (n : Nat) : Unspelled.Statement (.profRefusedClear m n) := nofun
theorem Unspelled.vmLoad (m : Master) (n : Nat) : Unspelled.Statement (.vmLoad m n) := nofun
theorem Unspelled.latchEdge (k : Nat) (level : Bool) (back : Nat) : Unspelled.Statement (.latchEdge k level back) := nofun
theorem Unspelled.latRecordPush (k : Nat) : Unspelled.Statement (.latRecordPush k) := nofun
theorem Unspelled.latNext (m : Master) (k : Nat) : Unspelled.Statement (.latNext m k) := nofun
theorem Unspelled.actCmdOpen (m : Master) (k : Nat) : Unspelled.Statement (.actCmdOpen m k) := nofun
theorem Unspelled.actCmdClose (m : Master) (k : Nat) : Unspelled.Statement (.actCmdClose m k) := nofun
theorem Unspelled.actClearTrip (m : Master) (k : Nat) : Unspelled.Statement (.actClearTrip m k) := nofun
theorem Unspelled.actSample (k : Nat) (current : Int) (drain : DrainSample) : Unspelled.Statement (.actSample k current drain) := nofun
theorem Unspelled.actChopToffEnd (k : Nat) : Unspelled.Statement (.actChopToffEnd k) := nofun
theorem Unspelled.actBoostTmax (k : Nat) : Unspelled.Statement (.actBoostTmax k) := nofun
theorem Unspelled.actPeakEnd (k : Nat) : Unspelled.Statement (.actPeakEnd k) := nofun
theorem Unspelled.actFinishWindowEnd (k : Nat) : Unspelled.Statement (.actFinishWindowEnd k) := nofun
theorem Unspelled.nozzleCoilOn (k : Nat) : Unspelled.Statement (.nozzleCoilOn k) := nofun
theorem Unspelled.nozzleCoilOff (k : Nat) : Unspelled.Statement (.nozzleCoilOff k) := nofun
theorem Unspelled.boostWaitTimeout (k : Nat) : Unspelled.Statement (.boostWaitTimeout k) := nofun
theorem Unspelled.boostRailReady (k : Nat) : Unspelled.Statement (.boostRailReady k) := nofun
theorem Unspelled.actTrip (k : Nat) : Unspelled.Statement (.actTrip k) := nofun
theorem Unspelled.actTripRetry (k : Nat) : Unspelled.Statement (.actTripRetry k) := nofun
theorem Unspelled.actThermalUpdate (k : Nat) : Unspelled.Statement (.actThermalUpdate k) := nofun
theorem Unspelled.groupShortCheck (g : Nat) (current : Int) : Unspelled.Statement (.groupShortCheck g current) := nofun
theorem Unspelled.actDiagPeriodic (k : Nat) : Unspelled.Statement (.actDiagPeriodic k) := nofun
theorem Unspelled.propPeriodStart (k : Nat) : Unspelled.Statement (.propPeriodStart k) := nofun
theorem Unspelled.lampPeriodStart (k : Nat) : Unspelled.Statement (.lampPeriodStart k) := nofun
theorem Unspelled.inrushEnd (k : Nat) : Unspelled.Statement (.inrushEnd k) := nofun
theorem Unspelled.actSlotBind (m : Master) (k : Nat) (v : Word) : Unspelled.Statement (.actSlotBind m k v) := nofun
theorem Unspelled.latOpenWrite (m : Master) (k : Nat) (close : Bool) (v : Word) : Unspelled.Statement (.latOpenWrite m k close v) := nofun
theorem Unspelled.bstRailSample (x microvolts : Nat) : Unspelled.Statement (.bstRailSample x microvolts) := nofun
theorem Unspelled.bstIlim (x : Nat) : Unspelled.Statement (.bstIlim x) := nofun
theorem Unspelled.bstToffEnd (x : Nat) : Unspelled.Statement (.bstToffEnd x) := nofun
theorem Unspelled.bstChargeTimeout (x : Nat) : Unspelled.Statement (.bstChargeTimeout x) := nofun
theorem Unspelled.incrCommit (m : Master) (x : Nat) (v : Word) : Unspelled.Statement (.incrCommit m x v) := nofun
theorem Unspelled.laneAdj (m : Master) (x : Nat) (v : Word) : Unspelled.Statement (.laneAdj m x v) := nofun
theorem Unspelled.laneStep (m : Master) (x : Nat) (v : Word) : Unspelled.Statement (.laneStep m x v) := nofun
theorem Unspelled.feedTimeout (x : Nat) : Unspelled.Statement (.feedTimeout x) := nofun
theorem Unspelled.holdoverLimit (x : Nat) : Unspelled.Statement (.holdoverLimit x) := nofun
theorem Unspelled.errBudgetExceeded (x : Nat) : Unspelled.Statement (.errBudgetExceeded x) := nofun
theorem Unspelled.selWrite (m : Master) (v : Word) : Unspelled.Statement (.selWrite m v) := nofun
theorem Unspelled.autoSelect : Unspelled.Statement .autoSelect := nofun
theorem Unspelled.bridgeDone : Unspelled.Statement .bridgeDone := nofun
theorem Unspelled.agreeCheck : Unspelled.Statement .agreeCheck := nofun
theorem Unspelled.timeOkRise : Unspelled.Statement .timeOkRise := nofun
theorem Unspelled.snap (m : Master) : Unspelled.Statement (.snap m) := nofun
theorem Unspelled.ppsOutPulse : Unspelled.Statement .ppsOutPulse := nofun
theorem Unspelled.ppsOutEnd : Unspelled.Statement .ppsOutEnd := nofun
theorem Unspelled.ppsInEdge (rising : Bool) (back : Nat) : Unspelled.Statement (.ppsInEdge rising back) := nofun
theorem Unspelled.tsuAlarm (k : Nat) : Unspelled.Statement (.tsuAlarm k) := nofun
theorem Unspelled.tpinPulseEnd (k : Nat) : Unspelled.Statement (.tpinPulseEnd k) := nofun
theorem Unspelled.schInsert : Unspelled.Statement .schInsert := nofun
theorem Unspelled.schFire (upset : Upset) : Unspelled.Statement (.schFire upset) := nofun
theorem Unspelled.schCancel (m : Master) (ident : Nat) : Unspelled.Statement (.schCancel m ident) := nofun
theorem Unspelled.schFlush (m : Master) : Unspelled.Statement (.schFlush m) := nofun
theorem Unspelled.schCompletionPush : Unspelled.Statement .schCompletionPush := nofun
theorem Unspelled.canIntegrated (n : Nat) : Unspelled.Statement (.canIntegrated n) := nofun
theorem Unspelled.canFrameReceived (n : Nat) (frame : CanFrame) (back : Nat) : Unspelled.Statement (.canFrameReceived n frame back) := nofun
theorem Unspelled.canRxbSnapshot (m : Master) (n b : Nat) : Unspelled.Statement (.canRxbSnapshot m n b) := nofun
theorem Unspelled.canRxbNewClear (m : Master) (n b : Nat) (v : Word) : Unspelled.Statement (.canRxbNewClear m n b v) := nofun
theorem Unspelled.canRxQueuePush (n : Nat) : Unspelled.Statement (.canRxQueuePush n) := nofun
theorem Unspelled.canTxcommit (m : Master) (n : Nat) (v : Word) : Unspelled.Statement (.canTxcommit m n v) := nofun
theorem Unspelled.canTxreq (m : Master) (n : Nat) (v : Word) : Unspelled.Statement (.canTxreq m n v) := nofun
theorem Unspelled.canTxcancel (m : Master) (n : Nat) (v : Word) : Unspelled.Statement (.canTxcancel m n v) := nofun
theorem Unspelled.canArbitrationStart (n : Nat) : Unspelled.Statement (.canArbitrationStart n) := nofun
theorem Unspelled.canTxDone (n delay : Nat) : Unspelled.Statement (.canTxDone n delay) := nofun
theorem Unspelled.canTxError (n : Nat) (how : TxFail) (lec : Nat) : Unspelled.Statement (.canTxError n how lec) := nofun
theorem Unspelled.canRecover (m : Master) (n : Nat) : Unspelled.Statement (.canRecover m n) := nofun
theorem Unspelled.canRecoveryDone (n : Nat) : Unspelled.Statement (.canRecoveryDone n) := nofun
theorem Unspelled.mtxCycleStart (n : Nat) : Unspelled.Statement (.mtxCycleStart n) := nofun
theorem Unspelled.mtxWindowOpen (n e : Nat) : Unspelled.Statement (.mtxWindowOpen n e) := nofun
theorem Unspelled.mtxWindowClose (n e : Nat) : Unspelled.Statement (.mtxWindowClose n e) := nofun
theorem Unspelled.kswFrameRx (port : Nat) (frame : List (BitVec 8)) (fcs : Bool) : Unspelled.Statement (.kswFrameRx port frame fcs) := nofun
theorem Unspelled.kswEgressStart (port : Nat) (read : EgressRead) : Unspelled.Statement (.kswEgressStart port read) := nofun
theorem Unspelled.kswAgeOut (sa : Nat) : Unspelled.Statement (.kswAgeOut sa) := nofun
theorem Unspelled.gclEntryChange (port : Nat) : Unspelled.Statement (.gclEntryChange port) := nofun
theorem Unspelled.streamHistoryReset (stream : Nat) : Unspelled.Statement (.streamHistoryReset stream) := nofun
theorem Unspelled.beatTx : Unspelled.Statement .beatTx := nofun
theorem Unspelled.beatAgeCheck : Unspelled.Statement .beatAgeCheck := nofun
theorem Unspelled.kntAuthUpdate : Unspelled.Statement .kntAuthUpdate := nofun
theorem Unspelled.seqReset (m : Master) : Unspelled.Statement (.seqReset m) := nofun
theorem Unspelled.posWrite (m : Master) (v : Word) : Unspelled.Statement (.posWrite m v) := nofun
theorem Unspelled.ltxKick (m : Master) : Unspelled.Statement (.ltxKick m) := nofun
theorem Unspelled.mdioPoll (port : Nat) (up : Bool) : Unspelled.Statement (.mdioPoll port up) := nofun
theorem Unspelled.mdioCmd (m : Master) (port : Nat) (v : Word) : Unspelled.Statement (.mdioCmd m port v) := nofun
theorem Unspelled.mdioDone (port data : Nat) : Unspelled.Statement (.mdioDone port data) := nofun
theorem Unspelled.ldlArm (m : Master) (c : Nat) : Unspelled.Statement (.ldlArm m c) := nofun
theorem Unspelled.ldlDisarm (m : Master) (c : Nat) : Unspelled.Statement (.ldlDisarm m c) := nofun
theorem Unspelled.ldlFire (m : Master) (c : Nat) : Unspelled.Statement (.ldlFire m c) := nofun
theorem Unspelled.ldlArmComplete (c back : Nat) : Unspelled.Statement (.ldlArmComplete c back) := nofun
theorem Unspelled.ldlSample (c back : Nat) : Unspelled.Statement (.ldlSample c back) := nofun
theorem Unspelled.ldlEventTrigger (c : Nat) : Unspelled.Statement (.ldlEventTrigger c) := nofun
theorem Unspelled.ldlTimeTrigger (c : Nat) : Unspelled.Statement (.ldlTimeTrigger c) := nofun
theorem Unspelled.ldlNetFireTime (c : Nat) : Unspelled.Statement (.ldlNetFireTime c) := nofun
theorem Unspelled.ldlRingWrite (c words : Nat) : Unspelled.Statement (.ldlRingWrite c words) := nofun
theorem Unspelled.ldlRecordPush (c : Nat) : Unspelled.Statement (.ldlRecordPush c) := nofun
theorem Unspelled.ldlCaptureDisable (m : Master) (c : Nat) : Unspelled.Statement (.ldlCaptureDisable m c) := nofun
theorem Unspelled.aonSwitchToVbat : Unspelled.Statement .aonSwitchToVbat := nofun
theorem Unspelled.aonReturnToVin : Unspelled.Statement .aonReturnToVin := nofun
theorem Unspelled.aonPor : Unspelled.Statement .aonPor := nofun
theorem Unspelled.rtcCalDone (n : Nat) : Unspelled.Statement (.rtcCalDone n) := nofun
theorem Unspelled.xtal32Fail : Unspelled.Statement .xtal32Fail := nofun
theorem Unspelled.rtcSet (m : Master) (v : Word) : Unspelled.Statement (.rtcSet m v) := nofun
theorem Unspelled.rtcAlarm (k : Nat) : Unspelled.Statement (.rtcAlarm k) := nofun
theorem Unspelled.wakePinEdge (rising : Bool) : Unspelled.Statement (.wakePinEdge rising) := nofun
theorem Unspelled.vbatMeasure (millivolts drawn : Nat) : Unspelled.Statement (.vbatMeasure millivolts drawn) := nofun
theorem Unspelled.gaugeCapWrite (m : Master) (v : Word) : Unspelled.Statement (.gaugeCapWrite m v) := nofun
theorem Unspelled.padWrite (m : Master) (p : Nat) (v : Word) : Unspelled.Statement (.padWrite m p v) := nofun
theorem Unspelled.gpioEdge (p : Nat) (level : Bool) : Unspelled.Statement (.gpioEdge p level) := nofun
theorem Unspelled.ldlNetArmTime (c : Nat) : Unspelled.Statement (.ldlNetArmTime c) := nofun
theorem Unspelled.canRxError (n lec : Nat) (eight : Bool) : Unspelled.Statement (.canRxError n lec eight) := nofun
theorem Unspelled.canProtocolException (n : Nat) : Unspelled.Statement (.canProtocolException n) := nofun
theorem Unspelled.minPulseStretchEnd (n x : Nat) : Unspelled.Statement (.minPulseStretchEnd n x) := nofun
theorem Unspelled.actDutyGateOff (k : Nat) : Unspelled.Statement (.actDutyGateOff k) := nofun
theorem Unspelled.illegalEncoding (n : Nat) (w : Word) : Unspelled.Statement (.illegalEncoding n w) := nofun
theorem Unspelled.postedEWriteDone (n : Nat) : Unspelled.Statement (.postedEWriteDone n) := nofun
theorem Unspelled.kswEgressDone (port : Nat) : Unspelled.Statement (.kswEgressDone port) := nofun

end Sys2Proof.Laws
end

