-- ==== Sys2Proof/WellFormed.lean ====
section
/-! DEFINITION. Which commands the block's interfaces can deliver: the ranges of addresses, pages, units, host headers and frames. The
meanings are total, so a command outside these ranges has a meaning too; nothing rests on it. -/

namespace Sys2Proof

/-- A number below a limit: a unit, a queue, a line. -/
def below (limit n : Nat) : Bool := decide (n < limit)

/-- A 32-bit byte address (R40). -/
def okAddr (a : Nat) : Bool := decide (a < 2 ^ 32)

/-- A page index of the 4 MB of register pages (R40). -/
def okPage (p : Nat) : Bool := decide (p < 0x400)

/-- An access width of the bus (R116). -/
def okBytes (b : Nat) : Bool := decide (b = 1) || decide (b = 2) || decide (b = 4)

/-- A register code of R235. -/
def okRegCode (c : Nat) : Bool := decide (c < 0x0C) || (decide (0x10 ≤ c) && decide (c ≤ 0x2A))

/-- The operands of an action of the SPE debug access port (R231): program, X, Y and E addresses, register codes, register values. -/
def okDebugAct : DebugAct → Bool
  | .halt => true
  | .breakpoint pc _ => decide (pc < 0x4000)
  | .watchpoint space addr _ => decide (space < 3) && decide (addr < if space = 2 then 2 ^ 32 else 0x8000)
  | .readReg c h => okRegCode c && decide (h < 2)
  | .writeReg c v => okRegCode c && decide (v < 2 ^ 56)

/-- The fields of a host port header (R184): op 8, length 8, address 32, sequence and flags 8 bits each. -/
def okHeader (op len addr seq flags : Nat) : Bool :=
  decide (op < 0x100) && decide (len < 0x100) && decide (addr < 2 ^ 32) && decide (seq < 0x100) && decide (flags < 0x100)

/-- The data bursts of a host write: no more words than its header announces (R185). -/
def okBursts (len : Nat) (data : List HpBurst) : Bool := decide ((data.map fun b => b.words.length).sum ≤ len + 1)

/-- A CAN or CAN FD frame (R409): an identifier of 11 or 29 bits, a 4-bit DLC, at most 64 data bytes. -/
def okCanFrame (f : CanFrame) : Bool :=
  decide (f.ident < if f.ide then 2 ^ 29 else 2 ^ 11) && decide (f.dlc < 16) && decide (f.data.length ≤ 64)

/-- A received Ethernet frame has at least its two addresses and a type (R428). -/
def okFrame (f : List (BitVec 8)) : Bool := decide (14 ≤ f.length)

/-- A well-formed command. -/
def Instr.wf : Instr → Bool
  | .registerWrite _ addr _ => okAddr addr
  | .absentPageAccess _ addr _ => okAddr addr
  | .unbackedAccess _ addr _ => okAddr addr
  | .narrowRegisterAccess _ addr bytes _ => okAddr addr && okBytes bytes
  | .keyWrite _ page _ => okPage page
  | .keySequenceLapse page => okPage page
  | .keyOpeningLapse page => okPage page
  | .lockWrite _ page _ => okPage page
  | .errCntClear _ page _ => okPage page
  | .absentStatClear _ _ => true
  | .counterClear _ addr _ => okAddr addr
  | .pageCrcUpdate page => okPage page
  | .ctrlEnSet _ page _ => okPage page
  | .ctrlEnClear _ page _ => okPage page
  | .stopComplete page => okPage page
  | .ctrlAbort _ page _ => okPage page
  | .ctrlSoftReset _ page _ => okPage page
  | .ctrlFreeze _ page _ => okPage page
  | .irqStatClear _ page _ => okPage page
  | .irqSet _ page _ => okPage page
  | .softSet _ _ => true
  | .softClear _ _ => true
  | .spreadCfgWrite _ _ => true
  | .spreadApplied => true
  | .powerUp => true
  | .porstNLow _ => true
  | .resetPinLow _ => true
  | .rstKey _ _ => true
  | .supplyUndervoltage _ _ => true
  | .supplyOvervoltage _ _ => true
  | .vinWarn => true
  | .clockLoss _ _ => true
  | .pwrReq _ _ => true
  | .powerStateGating => true
  | .vinLoss => true
  | .vinReturn => true
  | .holdCanActivity k => below 3 k
  | .hpCsFall => true
  | .wakeStepDone => true
  | .wakeStepTimeout => true
  | .wakeStepRetry => true
  | .faultLineCheck line _ => below 96 line
  | .eventLineIdleCheck line => below 96 line
  | .coxStopTimeout => true
  | .latchClear _ k _ => below 3 k
  | .fmapEntryWrite _ line _ => below 96 line
  | .releaseRun _ => true
  | .releaseCheck _ => true
  | .senEnWrite _ _ => true
  | .coxAutoReset => true
  | .checkStart => true
  | .checkTestDone _ => true
  | .wdWinWrite _ _ => true
  | .wdaWrite _ _ => true
  | .wdWindowExpire => true
  | .spewdWrite _ n _ => below 2 n
  | .speWdExpire n => below 2 n
  | .leLivenessCheck n => below 2 n
  | .firstClear _ _ => true
  | .swStop _ => true
  | .swOff _ => true
  | .memoryRead _ addr bytes _ => okAddr addr && okBytes bytes
  | .memoryWrite _ addr bytes _ => okAddr addr && okBytes bytes
  | .atomicAddRead _ addr _ => okAddr addr
  | .atomicAddWrite _ addr _ _ => okAddr addr
  | .atomicSwapRead _ addr _ => okAddr addr
  | .atomicSwapWrite _ addr _ => okAddr addr
  | .ceWriteback addr => okAddr addr
  | .starve _ bank => below 16 bank
  | .injectWrite _ _ => true
  | .rmapWrite _ k _ _ => below 32 k
  | .skimBlockStart _ => true
  | .skimBlockWriteback _ => true
  | .skimPassLimitCheck => true
  | .secmemAccess _ addr _ _ => okAddr addr
  | .lcReq _ _ => true
  | .lcWordProgrammed => true
  | .wipe _ _ => true
  | .wipeDone _ => true
  | .tamperDetect b _ => below 5 b
  | .tamperStatClear _ _ => true
  | .verifyStart _ _ => true
  | .verifyDone => true
  | .dbgMailboxRead => true
  | .dbgUnlock _ _ => true
  | .progCmd _ _ => true
  | .progDone _ => true
  | .queuePush _ q _ => below 256 q
  | .queuePop _ q => below 256 q
  | .headTransfer x => below 256 x.q
  | .spillBurst q => below 256 q
  | .fillBurst q _ => below 256 q
  | .flush _ q => below 256 q
  | .flushDone q => below 256 q
  | .pktOpen _ q => below 256 q
  | .pktClose _ q => below 256 q
  | .pktAbort _ q => below 256 q
  | .regionWrite _ q _ => below 256 q
  | .queueCfgWrite _ q _ => below 256 q
  | .hpNop op len addr seq flags _ => okHeader op len addr seq flags
  | .hpRead len addr seq flags _ _ _ => okHeader 0 len addr seq flags
  | .hpReadFixed len addr seq flags _ _ _ => okHeader 0 len addr seq flags
  | .hpWrite len addr seq flags _ data => okHeader 0 len addr seq flags && okBursts len data
  | .hpWriteFixed len addr seq flags _ data => okHeader 0 len addr seq flags && okBursts len data
  | .hpCsRise => true
  | .modeReset => true
  | .dmaDescWrite _ n _ => below 16 n
  | .dmaDescFetch n => below 16 n
  | .dmaTrig _ n => below 16 n
  | .dmaRoutedTrigger src => below 64 src
  | .dmaBurst n => below 16 n
  | .bootStart _ => true
  | .bootVerifyDone => true
  | .flLenWrite _ _ => true
  | .flDone _ => true
  | .speEnable _ n => below 2 n
  | .speInterrupt n => below 2 n
  | .speStallEnd n => below 2 n
  | .speWaitResume n => below 2 n
  | .lockstepMismatch n => below 2 n
  | .debugHalt r => below 2 r.spe && okDebugAct r.act
  | .debugResume n => below 2 n
  | .debugStep n => below 2 n
  | .pMove n _ => below 2 n
  | .mul n _ => below 2 n
  | .muln n _ => below 2 n
  | .fma n _ => below 2 n
  | .fms n _ => below 2 n
  | .mulr n _ => below 2 n
  | .fmar n _ => below 2 n
  | .add n _ => below 2 n
  | .sub n _ => below 2 n
  | .adda n _ => below 2 n
  | .suba n _ => below 2 n
  | .cmp n _ => below 2 n
  | .cmpa n _ => below 2 n
  | .copy n _ => below 2 n
  | .copya n _ => below 2 n
  | .absA n _ => below 2 n
  | .neg n _ => below 2 n
  | .clr n _ => below 2 n
  | .round n _ => below 2 n
  | .shl1 n _ => below 2 n
  | .shr1 n _ => below 2 n
  | .sat n _ => below 2 n
  | .andA n _ => below 2 n
  | .orA n _ => below 2 n
  | .xor n _ => below 2 n
  | .notA n _ => below 2 n
  | .addi n _ => below 2 n
  | .subi n _ => below 2 n
  | .cmpi n _ => below 2 n
  | .andi n _ => below 2 n
  | .ori n _ => below 2 n
  | .xori n _ => below 2 n
  | .copyi n _ => below 2 n
  | .ldi n _ => below 2 n
  | .move n _ => below 2 n
  | .ldx n _ => below 2 n
  | .ldy n _ => below 2 n
  | .stx n _ => below 2 n
  | .sty n _ => below 2 n
  | .ldxa n _ => below 2 n
  | .ldya n _ => below 2 n
  | .stxa n _ => below 2 n
  | .stya n _ => below 2 n
  | .lui n _ => below 2 n
  | .modp n _ => below 2 n
  | .lde n _ => below 2 n
  | .ste n _ => below 2 n
  | .spePush n _ => below 2 n
  | .spePop n _ => below 2 n
  | .qcmd n _ => below 2 n
  | .maxi n _ => below 2 n
  | .mini n _ => below 2 n
  | .vmax n _ => below 2 n
  | .vmin n _ => below 2 n
  | .div n _ => below 2 n
  | .nrm n _ => below 2 n
  | .scnt n _ => below 2 n
  | .ash n _ => below 2 n
  | .ashi n _ => below 2 n
  | .srset n _ => below 2 n
  | .srclr n _ => below 2 n
  | .sig n _ => below 2 n
  | .nop n _ => below 2 n
  | .bra n _ => below 2 n
  | .call n _ => below 2 n
  | .jmpr n _ => below 2 n
  | .callr n _ => below 2 n
  | .rts n _ => below 2 n
  | .rti n _ => below 2 n
  | .rep n _ => below 2 n
  | .repr n _ => below 2 n
  | .doLoop n _ => below 2 n
  | .dor n _ => below 2 n
  | .lpop n _ => below 2 n
  | .wait n _ => below 2 n
  | .trap n _ => below 2 n
  | .adcConversionDone k _ => below 12 k
  | .seqRoundStart => true
  | .refBlind => true
  | .refDiffUpdate => true
  | .refSelWrite _ _ => true
  | .sdmOutput k _ _ => below 16 k
  | .sdmStuck k => below 16 k
  | .tempUpdate _ _ _ _ => true
  | .encEdge n _ _ _ _ => below 16 n
  | .encVelTimeout n => below 16 n
  | .posSetHi _ n _ => below 16 n
  | .pwmCarrierZero n => below 16 n
  | .pwmCarrierPeriod n => below 16 n
  | .pwmCommit _ n => below 16 n
  | .pwmXcmpFire n k => below 16 n && below 4 k
  | .pwmEdgeRequest n x => below 16 n && below 3 x
  | .pwmDeadTimeEnd n x => below 16 n && below 3 x
  | .pwmTrip n _ => below 16 n
  | .tripClear _ n => below 16 n
  | .hrCal n _ => below 16 n
  | .pwmSyncStart n => below 16 n
  | .leSampleTrigger n => below 16 n
  | .leSlotStart le slot => below 2 le && below 8 slot
  | .lePairMismatch le slot _ => below 2 le && below 8 slot
  | .paramCommit _ n => below 16 n
  | .axEnable _ n => below 16 n
  | .axDisable _ n => below 16 n
  | .snapReq _ le _ => below 2 le
  | .repClear _ n => below 16 n
  | .repClearDone n => below 16 n
  | .repCtrlEnable _ n _ _ => below 16 n
  | .repFadeTimeout n => below 16 n
  | .profStop _ n => below 16 n
  | .profGo _ n => below 16 n
  | .profRefusedClear _ n => below 16 n
  | .vmLoad _ n => below 16 n
  | .latchEdge k _ _ => below 16 k
  | .latRecordPush k => below 16 k
  | .latNext _ k => below 16 k
  | .actCmdOpen _ k => below 48 k
  | .actCmdClose _ k => below 48 k
  | .actClearTrip _ k => below 48 k
  | .actSample k _ _ => below 48 k
  | .actChopToffEnd k => below 48 k
  | .actBoostTmax k => below 48 k
  | .actPeakEnd k => below 48 k
  | .actFinishWindowEnd k => below 48 k
  | .nozzleCoilOn k => below 48 k
  | .nozzleCoilOff k => below 48 k
  | .boostWaitTimeout k => below 48 k
  | .boostRailReady k => below 48 k
  | .actTrip k => below 48 k
  | .actTripRetry k => below 48 k
  | .actThermalUpdate k => below 48 k
  | .groupShortCheck g _ => below 6 g
  | .actDiagPeriodic k => below 48 k
  | .propPeriodStart k => below 48 k
  | .lampPeriodStart k => below 48 k
  | .inrushEnd k => below 48 k
  | .actSlotBind _ k _ => below 48 k
  | .latOpenWrite _ k _ _ => below 16 k
  | .bstRailSample x _ => below 2 x
  | .bstIlim x => below 2 x
  | .bstToffEnd x => below 2 x
  | .bstChargeTimeout x => below 2 x
  | .incrCommit _ x _ => below 2 x
  | .laneAdj _ x _ => below 2 x
  | .laneStep _ x _ => below 2 x
  | .feedTimeout x => below 2 x
  | .holdoverLimit x => below 2 x
  | .errBudgetExceeded x => below 2 x
  | .selWrite _ _ => true
  | .autoSelect => true
  | .bridgeDone => true
  | .agreeCheck => true
  | .timeOkRise => true
  | .snap _ => true
  | .ppsOutPulse => true
  | .ppsOutEnd => true
  | .ppsInEdge _ _ => true
  | .tsuAlarm k => below 4 k
  | .tpinPulseEnd k => below 8 k
  | .schInsert => true
  | .schFire _ => true
  | .schCancel _ ident => below 65536 ident
  | .schFlush _ => true
  | .schCompletionPush => true
  | .canIntegrated n => below 3 n
  | .canFrameReceived n frame _ => below 3 n && okCanFrame frame
  | .canRxbSnapshot _ n b => below 3 n && below 16 b
  | .canRxbNewClear _ n b _ => below 3 n && below 16 b
  | .canRxQueuePush n => below 3 n
  | .canTxcommit _ n _ => below 3 n
  | .canTxreq _ n _ => below 3 n
  | .canTxcancel _ n _ => below 3 n
  | .canArbitrationStart n => below 3 n
  | .canTxDone n _ => below 3 n
  | .canTxError n _ lec => below 3 n && below 8 lec
  | .canRecover _ n => below 3 n
  | .canRecoveryDone n => below 3 n
  | .mtxCycleStart n => below 3 n
  | .mtxWindowOpen n e => below 3 n && below 64 e
  | .mtxWindowClose n e => below 3 n && below 64 e
  | .kswFrameRx port frame _ => below 2 port && okFrame frame
  | .kswEgressStart port _ => below 2 port
  | .kswAgeOut sa => below (2 ^ 48) sa
  | .gclEntryChange port => below 2 port
  | .streamHistoryReset stream => below 32 stream
  | .beatTx => true
  | .beatAgeCheck => true
  | .kntAuthUpdate => true
  | .seqReset _ => true
  | .posWrite _ _ => true
  | .ltxKick _ => true
  | .mdioPoll port _ => below 2 port
  | .mdioCmd _ port _ => below 2 port
  | .mdioDone port data => below 2 port && below 65536 data
  | .ldlArm _ c => below 4 c
  | .ldlDisarm _ c => below 4 c
  | .ldlFire _ c => below 4 c
  | .ldlArmComplete c _ => below 4 c
  | .ldlSample c _ => below 4 c
  | .ldlEventTrigger c => below 4 c
  | .ldlTimeTrigger c => below 4 c
  | .ldlNetFireTime c => below 4 c
  | .ldlRingWrite c _ => below 4 c
  | .ldlRecordPush c => below 4 c
  | .ldlCaptureDisable _ c => below 4 c
  | .aonSwitchToVbat => true
  | .aonReturnToVin => true
  | .aonPor => true
  | .rtcCalDone n => below 16 n
  | .xtal32Fail => true
  | .rtcSet _ _ => true
  | .rtcAlarm k => below 2 k
  | .wakePinEdge _ => true
  | .vbatMeasure _ _ => true
  | .gaugeCapWrite _ _ => true
  | .padWrite _ p _ => below 625 p
  | .gpioEdge p _ => below 625 p
  | .ldlNetArmTime c => below 4 c
  | .canRxError n lec _ => below 3 n && below 8 lec
  | .canProtocolException n => below 3 n
  | .minPulseStretchEnd n x => below 16 n && below 3 x
  | .actDutyGateOff k => below 48 k
  | .illegalEncoding n _ => below 2 n
  | .postedEWriteDone n => below 2 n
  | .kswEgressDone port => below 2 port

end Sys2Proof
end

