-- ==== Sys2Proof/Tests/Slice0.lean ====
section
/-! SUPPORT. Tests: an ill-formed command for each check of WellFormed, the spec's worked words and values, single steps on small states,
and for every statement with hypotheses a state and operands that meet them. -/

namespace Sys2Proof.Tests

open Machine

-- One declaration at a time: hundreds of kernel evaluations side by side, each on a stack of its own, pass the memory limit of the check.
set_option Elab.async false

/-! ## Ill-formed commands -/

theorem test_wf_refuses_address : (Instr.registerWrite .host 0x100000000 0).wf = false := by decide
theorem test_wf_refuses_page : (Instr.keyWrite .host 0x400 0).wf = false := by decide
theorem test_wf_refuses_width : (Instr.narrowRegisterAccess .host 0x40000008 3 true).wf = false := by decide
theorem test_wf_refuses_unit : (Instr.mul 2 0x010C626E).wf = false := by decide
theorem test_wf_refuses_header : (Instr.hpNop 0x100 0 0 0 0 ⟨0, true⟩).wf = false := by decide
theorem test_wf_refuses_bursts : (Instr.hpWrite 0 0 0 0 0 [⟨[1, 2], 0⟩]).wf = false := by decide
theorem test_wf_refuses_can_frame : (Instr.canFrameReceived 0 ⟨false, false, false, false, false, 0x800, 0, []⟩ 0).wf = false := by decide
theorem test_wf_refuses_frame : (Instr.kswFrameRx 0 (List.replicate 13 0) true).wf = false := by decide
theorem test_wf_accepts_word : (Instr.mul 1 0x010C626E).wf = true := by decide

/-! ## Worked words of spec/11_spe_isa.md -/

/-- Line 1 of the peak search: ldi p2, #0x2000 is 0x6A00_2000. -/
theorem test_word_ldi : opClass 0x6A002000 = 3 ∧ bits 0x6A002000 24 5 = 10 ∧ legalWord 0x6A002000 = true := by decide
/-- Line 2: copyi a2, #0x800000 is 0x3A80_0000, I-format op 6, Ad 2. -/
theorem test_word_copyi : opClass 0x3A800000 = 1 ∧ opCode 0x3A800000 = 6 ∧ bits 0x3A800000 24 2 = 2 ∧ legalWord 0x3A800000 = true := by decide
/-- Line 6: maxi a2, x[p2++] is 0x8088_8000, S-format op 0, Ad 2, P2, mode 1. -/
theorem test_word_maxi : opClass 0x80888000 = 4 ∧ opCode 0x80888000 = 0 ∧ bits 0x80888000 18 3 = 2 ∧ bits 0x80888000 15 3 = 1
    ∧ legalWord 0x80888000 = true := by decide
/-- The first MUL of the pre-interpolator is 0x010C_626E and loads D4 and D5 in parallel. -/
theorem test_word_mul : opClass 0x010C626E = 0 ∧ opCode 0x010C626E = 1 ∧ moveLoads (bits 0x010C626E 8 8) = some 4
    ∧ moveLoads (bits 0x010C626E 0 8) = some 5 ∧ legalWord 0x010C626E = true := by decide

/-! ## Check values of the CRCs -/

/-- The digits 1 to 9. -/
def digits : List (BitVec 8) := [0x31, 0x32, 0x33, 0x34, 0x35, 0x36, 0x37, 0x38, 0x39]

/-- R185's parameters give the published check value 0x29B1. -/
theorem test_crc16 : crc16 digits = 0x29B1 := by decide +kernel
/-- R55's parameters give the published check value 0xCBF43926. -/
theorem test_crc32 : crc32Bytes digits = 0xCBF43926 := by decide +kernel

/-- The worked read of spec/09_host.md: the header 10 00 40 00 00 40 01 00 has CRC 0x4806, and CAP0 has data CRC 0x222C. -/
theorem test_host_header_crc : headerBytes ⟨0x10, 0, 0x40000040, 1, 0⟩ = [0x10, 0x00, 0x40, 0x00, 0x00, 0x40, 0x01, 0x00]
    ∧ crc16 (headerBytes ⟨0x10, 0, 0x40000040, 1, 0⟩) = 0x4806 ∧ crc16 (burstBytes [0x80302610]) = 0x222C := by decide +kernel
/-- The first status after a reset, with the Cox in CHECK, is 00 0F 00 10 BA C0. -/
theorem test_host_first_status : statusBytes (State.reset.setFld (Reg.COX + 0x00C) 4 4 1) = [0x00, 0x0F, 0x00, 0x10, 0xBA, 0xC0] := by
  decide +kernel

/-! ## Single steps -/

/-- The state after reset with some register words written. -/
def reg (l : List (Nat × Word)) : State := l.foldl (fun s p => s.wr p.1 p.2) State.reset

/-- The state that a command leaves. -/
def after (c : Instr) (s : State) : State :=
  match exec c s with
  | .next t => t
  | _ => s

/-- A first power-up and its four wake steps leave State.reset (R84, R94). -/
def dark : State :=
  { State.reset with regs := [], power := { phase := .held, aonLost := true, under := [.vin] }, aon := { lostToLatch := true } }

theorem test_power_up_reaches_reset :
    after .wakeStepDone (after .wakeStepDone (after .wakeStepDone (after .wakeStepDone (after .powerUp dark)))) = State.reset := by
  decide +kernel

/-- R71: the capability registers of the three variants. -/
theorem test_caps :
    (List.range 4).map (fun k => State.reset.rd (Reg.SYS_CAP k)) = [0x80302610, 0x2280100C, 0x32002000, 0x20084100]
    ∧ (List.range 4).map (fun k => ({ State.reset with variant := .aq1660 } : State).rd (Reg.SYS_CAP k))
      = [0x60202408, 0x11800808, 0x32001000, 0x10084100]
    ∧ (List.range 4).map (fun k => ({ State.reset with variant := .aq1620 } : State).rd (Reg.SYS_CAP k))
      = [0x20101204, 0x11000004, 0x21010000, 0x08044080] := by decide +kernel

/-- R50: the two key words open one write of an RWK register, and a write without them is refused (R51). -/
theorem test_key_opens_write :
    (after (.registerWrite .host Reg.SYS_CFG 1) (after (.keyWrite .host 0 0x3F58) (after (.keyWrite .host 0 0xC0A7) State.reset))).rd
      Reg.SYS_CFG = 1 ∧ (after (.registerWrite .host Reg.SYS_CFG 1) State.reset).rd Reg.SYS_CFG = 0 := by decide +kernel

/-- SPE0 in RUN with every register 0. -/
def running : State := reg [(Reg.SPE 0 + 0x00C, 0x10)]

/-- Line 1 of the peak search: P2 is usable for addresses from line 4 on. -/
theorem test_ldi : (spe (after (.ldi 0 0x6A002000) running) 0).queued.map (fun q => (q.code, q.value, q.seenFrom)) = [(0x12, 0x2000, 3)] := by
  decide +kernel
/-- Line 2: A2 is −1.0, which is −2^47 in units of 2^−47. -/
theorem test_copyi : (spe (after (.copyi 0 0x3A800000) running) 0).settle.acc 2 = -(2 ^ 47) := by decide +kernel
/-- Line 6 at the peak: the sample 0x5C_2A10 at X:0x2073 goes to A2, its address to IX, and P2 moves on. -/
theorem test_maxi :
    let t := after (.maxi 0 0x80888000)
      (({ running with spes := [(0, { file := [(cP 2, 0x2073)] })] } : State).putRaw (xyAddr 0 0 0x2073) 0x5C2A10)
    (spe t 0).settle.acc 2 = 0x5C2A10 * 2 ^ 24 ∧ (spe t 0).settle.reg (cP 2) = 0x2074
      ∧ (spe t 0).queued.any (fun q => q.code = 0x28 ∧ q.value = 0x2073) = true := by decide +kernel

/-- The seed meter of spec/15_repetitive.md after its set-up, with its bins 22, 23, 24, 26 and 27. -/
def seedMeter : State :=
  ((((({ reg [(Reg.AX_REP_CTRL 0, 3), (Reg.AX_REP_CFG 0, 1), (Reg.AX_REP_ALPHA 0, 0x7FDF3B), (Reg.AX_REP_GAMMA 0, 0x1D666666),
      (Reg.AX_REP_LEAD 0, 2), (Reg.AX_REP_BLIM 0, 0x0CCCCD)] with reps := [(0, { j := 26, frac := 0x280000, jAt := 26, fracAt := 0x280000, psi := 1 })] } : State).putRaw
    (binAddr 0 22) 0x010000).putRaw (binAddr 0 23) 0x014000).putRaw (binAddr 0 24) 0x018000).putRaw (binAddr 0 26) 0x020000).putRaw
    (binAddr 0 27) 0x030000
/-- Step 7: the correction is 0x02_2800. -/
theorem test_rep_correction : (repCorr 0 seedMeter).1 = 0x022800 := by decide +kernel
/-- Step 8: bin 24 becomes 0x01_A062, and bin 23 is smoothed to 0x01_4818. -/
theorem test_rep_learning :
    (learnBins 0 0x0147AE seedMeter).rawWord (binAddr 0 24) = 0x01A062 ∧ (learnBins 0 0x0147AE seedMeter).rawWord (binAddr 0 23) = 0x014818 := by
  decide +kernel

/-! ## Hypotheses that can be met: for every statement, a state and operands for each of its clauses -/

/-- Four conditions that hold together, with what follows them. -/
theorem and_four {a b c d e : Prop} (h : a ∧ b ∧ c ∧ d) (he : e) : a ∧ b ∧ c ∧ d ∧ e := ⟨h.1, h.2.1, h.2.2.1, h.2.2.2, he⟩

/-- A unit at rest is in no stop. -/
theorem not_stop {g : Segment} (h : g = .none) : ∀ p0 v0 a b c, g ≠ .stopPhase p0 v0 a b c := by subst h; intros; nofun

/-- Hypotheses of KeysAndPlainWrites. -/
theorem witness_KeysAndPlainWrites :
    (∃ (m : Master) (page : Nat) (v : Word) (s : State), HeaderPage page ∧ Reaches m (pageAddr page + 0x02C) s ∧ keyNow s page = .idle ∧ v =
      0x0000C0A7)
    ∧ (∃ (m : Master) (page : Nat) (v : Word) (s : State) (since : Nat), HeaderPage page ∧ Reaches m (pageAddr page + 0x02C) s ∧ keyNow s page
      = .first (masterCode m) since ∧ v = 0x00003F58)
    ∧ (∃ (m : Master) (page : Nat) (v : Word) (s : State), HeaderPage page ∧ Reaches m (pageAddr page + 0x02C) s ∧ ((keyNow s page = .idle ∧ v
      ≠ 0x0000C0A7) ∨ (∃ o since, keyNow s page = .first o since ∧ (o ≠ masterCode m ∨ v ≠ 0x00003F58)) ∨ (∃ o since, keyNow s page =
      .opened o since ∧ (o ≠ masterCode m ∨ v ≠ 0x0000C0A7))))
    ∧ (∃ (page : Nat) (o : Nat) (since : Nat) (s : State), tabGet s.pages.keys page .idle = .first o since)
    ∧ (∃ (page : Nat) (o : Nat) (since : Nat) (s : State), tabGet s.pages.keys page .idle = .opened o since)
    ∧ (∃ (m : Master) (a : Nat) (c : PageClass) (d : RegDef) (s : State), RegisterAt c d a s ∧ PlainRow c d ∧ Reaches m a s ∧ (d.kind =
      RegKind.rw ∨ d.kind = RegKind.rwk ∨ d.kind = RegKind.rwo))
    ∧ (∃ (m : Master) (a : Nat) (v : Word) (c : PageClass) (d : RegDef) (s : State), RegisterAt c d a s ∧ PlainRow c d ∧ Reaches m a s ∧
      (d.kind = .rw ∨ d.kind = .rwk ∨ d.kind = .rwo) ∧ featureAbsent s.variant c (a % 0x1000) = false ∧ Accepted d a m v s)
    ∧ (∃ (m : Master) (a : Nat) (v : Word) (c : PageClass) (d : RegDef) (s : State), RegisterAt c d a s ∧ PlainRow c d ∧ Reaches m a s ∧
      (d.kind = .rw ∨ d.kind = .rwk ∨ d.kind = .rwo) ∧ featureAbsent s.variant c (a % 0x1000) = false ∧ isConfig d = true ∧ cfgLocked s
      (pageOf a) = true ∧ clearedEnables d (s.rd a) v = 0)
    ∧ (∃ (m : Master) (a : Nat) (c : PageClass) (d : RegDef) (s : State), RegisterAt c d a s ∧ PlainRow c d ∧ Reaches m a s ∧ (d.kind = .rw ∨
      d.kind = .rwk ∨ d.kind = .rwo) ∧ featureAbsent s.variant c (a % 0x1000) = false ∧ d.kind = .rwk ∧ (isConfig d = true → cfgLocked s
      (pageOf a) = false) ∧ safeLocked s (pageOf a) = false ∧ holdsOpening s (pageOf a) m = false)
    ∧ (∃ (m : Master) (a : Nat) (v : Word) (c : PageClass) (d : RegDef) (s : State), RegisterAt c d a s ∧ PlainRow c d ∧ Reaches m a s ∧
      (d.kind = RegKind.rw ∨ d.kind = RegKind.rwk ∨ d.kind = RegKind.rwo) ∧ featureAbsent s.variant c (a % 0x1000) = true ∧ v &&&
      featureEnables c d = 0) :=
  ⟨⟨.dma, 2, 0xc0a7, State.reset, by unfold Reaches HeaderPage; decide +kernel⟩,
  ⟨.dma, 2, 0x3f58, { State.reset with pages := { keys := [(2, (.first 1 4))] } }, 4, by unfold Reaches HeaderPage; decide +kernel⟩,
  ⟨.dma, 2, 0xC0A8, State.reset, by unfold HeaderPage; decide +kernel, by unfold Reaches; decide +kernel, .inl (by decide +kernel)⟩,
  ⟨7, 6, 0, { State.reset with pages := { keys := [(7, (.first 6 0))] } }, by decide +kernel⟩,
  ⟨7, 6, 0, { State.reset with pages := { keys := [(7, (.opened 6 0))] } }, by decide +kernel⟩,
  ⟨.dma, 0x400BC108, .sdm, ⟨0x108, 16, 16, .rw, 0xFFFFFFFF, 0x7FFF8000, false, [], 0⟩, State.reset, ⟨by decide +kernel, by decide +kernel,
    by decide +kernel, by decide +kernel, by decide +kernel, ⟨0, by decide +kernel⟩, ⟨0, by decide +kernel⟩⟩, fun _ _ _ _ _ => rfl,
    by unfold Reaches; decide +kernel, by decide +kernel⟩,
  ⟨.dma, 0x400BC108, 2, .sdm, ⟨0x108, 16, 16, .rw, 0xFFFFFFFF, 0x7FFF8000, false, [], 0⟩, State.reset, ⟨by decide +kernel,
    by decide +kernel, by decide +kernel, by decide +kernel, by decide +kernel, ⟨0, by decide +kernel⟩, ⟨0, by decide +kernel⟩⟩, fun _ _ _ _
    _ => rfl, by unfold Reaches; decide +kernel, by decide +kernel, by decide +kernel, by unfold Accepted; decide +kernel⟩,
  ⟨.dma, 0x400BC108, 2, .sdm, ⟨0x108, 16, 16, .rw, 0xFFFFFFFF, 0x7FFF8000, false, [], 0⟩, (reg [(0x400BC028, 1)]), ⟨by decide +kernel,
    by decide +kernel, by decide +kernel, by decide +kernel, by decide +kernel, ⟨0, by decide +kernel⟩, ⟨0, by decide +kernel⟩⟩, fun _ _ _ _
    _ => rfl, by unfold Reaches; decide +kernel, by decide +kernel⟩,
  ⟨.dma, 0x40000050, .sys, ⟨0x050, 0, 1, .rwk, 0x1, 0, false, [], 0⟩, State.reset, ⟨by decide +kernel, by decide +kernel, by decide +kernel,
    by decide +kernel, by decide +kernel, ⟨0, by decide +kernel⟩, ⟨0, by decide +kernel⟩⟩, fun _ _ _ _ _ => rfl,
    by unfold Reaches; decide +kernel, by decide +kernel⟩,
  ⟨.dma, 0x400BC188, 2, .sdm, ⟨0x108, 16, 16, .rw, 0xFFFFFFFF, 0x7FFF8000, false, [], 0⟩, { State.reset with variant := .aq1660 },
    ⟨by decide +kernel, by decide +kernel, by decide +kernel, by decide +kernel, by decide +kernel, ⟨0, by decide +kernel⟩, ⟨8,
    by decide +kernel⟩⟩, fun _ _ _ _ _ => rfl, by unfold Reaches; decide +kernel, by decide +kernel⟩⟩

/-- Hypotheses of HeaderEnableAndStop. -/
theorem witness_HeaderEnableAndStop :
    (∃ (m : Master) (page : Nat) (s : State), HeaderPage page ∧ Reaches m (pageAddr page + 0x028) s ∧ tabGet s.pages.lockWritten page false
      = false)
    ∧ (∃ (m : Master) (page : Nat) (s : State), HeaderPage page ∧ Reaches m (pageAddr page + 0x028) s ∧ tabGet s.pages.lockWritten page false
      = true)
    ∧ (∃ (m : Master) (page : Nat) (v : Word) (s : State), HeaderPage page ∧ Reaches m (pageAddr page + 36) s ∧ bits v 0 16 = 0)
    ∧ (∃ (m : Master) (page : Nat) (v : Word) (s : State), HeaderPage page ∧ Reaches m (pageAddr page + 36) s ∧ bits v 0 16 ≠ 0)
    ∧ (∃ (m : Master) (page : Nat) (s : State), HeaderPage page ∧ Reaches m (pageAddr page + 0x018) s)
    ∧ (∃ (m : Master) (page : Nat) (s : State), HeaderPage page ∧ Reaches m (pageAddr page + 0x01C) s)
    ∧ (∃ (m : Master) (s : State), Reaches m Reg.EVT_SOFT_SET s)
    ∧ (∃ (m : Master) (s : State), Reaches m Reg.EVT_SOFT s)
    ∧ (∃ (m : Master) (page : Nat) (i : Nat) (c : PageClass) (v : Word) (s : State), pageClass page = some (c, i) ∧ HeaderPage page ∧ Reaches
      m (ctrlAddr page) s ∧ c ≠ .cox ∧ c ≠ .aon ∧ bit v 1 = false ∧ bit v 2 = false ∧ bit v 3 = false ∧ s.flag (ctrlAddr page) 2 = false ∧
      s.fld (statAddr page) 0 3 = 4 ∧ (c = .ax → s.flag (Reg.PWM_CFG i) 4 = true) ∧ (c = .spe → speTrusted s i = true))
    ∧ (∃ (m : Master) (page : Nat) (i : Nat) (c : PageClass) (v : Word) (s : State), pageClass page = some (c, i) ∧ HeaderPage page ∧ Reaches
      m (ctrlAddr page) s ∧ c ≠ .cox ∧ c ≠ .aon ∧ bit v 1 = false ∧ bit v 2 = false ∧ bit v 3 = false ∧ s.flag (ctrlAddr page) 2 = false ∧
      s.flag (statAddr page) 1 = true)
    ∧ (∃ (m : Master) (page : Nat) (i : Nat) (c : PageClass) (v : Word) (s : State), pageClass page = some (c, i) ∧ HeaderPage page ∧ Reaches
      m (ctrlAddr page) s ∧ c ≠ .cox ∧ c ≠ .aon ∧ bit v 1 = false ∧ bit v 2 = false ∧ bit v 3 = false ∧ s.flag (ctrlAddr page) 2 = false ∧
      s.fld (statAddr page) 0 3 = 1)
    ∧ (∃ (m : Master) (page : Nat) (i : Nat) (c : PageClass) (v : Word) (s : State), pageClass page = some (c, i) ∧ HeaderPage page ∧ Reaches
      m (ctrlAddr page) s ∧ c ≠ .cox ∧ c ≠ .aon ∧ bit v 1 = false ∧ bit v 2 = false ∧ bit v 3 = false ∧ s.flag (ctrlAddr page) 2 = false ∧
      s.flag (statAddr page) 0 = true)
    ∧ (∃ (m : Master) (page : Nat) (i : Nat) (c : PageClass) (v : Word) (s : State), pageClass page = some (c, i) ∧ HeaderPage page ∧ Reaches
      m (ctrlAddr page) s ∧ c ≠ PageClass.cox ∧ c ≠ PageClass.aon ∧ bit v 1 = false ∧ bit v 2 = false ∧ bit v 3 = false ∧ s.flag (ctrlAddr
      page) 2 = false ∧ s.fld (statAddr page) 0 3 = 4)
    ∧ (∃ (m : Master) (page : Nat) (i : Nat) (c : PageClass) (v : Word) (s : State), pageClass page = some (c, i) ∧ HeaderPage page ∧ Reaches
      m (ctrlAddr page) s ∧ c ≠ .cox ∧ c ≠ .aon ∧ bit v 1 = false ∧ bit v 2 = false ∧ bit v 3 = false ∧ s.flag (ctrlAddr page) 2 = false ∧
      s.fld (statAddr page) 0 3 = 2 ∧ bit v 0 = false)
    ∧ (∃ (page : Nat) (i : Nat) (c : PageClass) (s : State), pageClass page = some (c, i) ∧ HeaderPage page ∧ frozen s page = false ∧ s.flag
      (statAddr page) 1 = true ∧ unitDone c i s = true) :=
  ⟨⟨.dma, 7, State.reset, by unfold Reaches HeaderPage; decide +kernel⟩,
  ⟨.dma, 7, { State.reset with pages := { lockWritten := [(7, true)] } }, by unfold Reaches HeaderPage; decide +kernel⟩,
  ⟨.dma, 2, 0, State.reset, by unfold Reaches HeaderPage; decide +kernel⟩,
  ⟨.dma, 2, 1, State.reset, by unfold Reaches HeaderPage; decide +kernel⟩,
  ⟨.dma, 7, State.reset, by unfold Reaches HeaderPage; decide +kernel⟩,
  ⟨.dma, 7, State.reset, by unfold Reaches HeaderPage; decide +kernel⟩,
  ⟨.dma, State.reset, by unfold Reaches; decide +kernel⟩,
  ⟨.dma, State.reset, by unfold Reaches; decide +kernel⟩,
  ⟨.dma, 34, 0, .sec, 0, State.reset, by unfold Reaches HeaderPage; decide +kernel⟩,
  ⟨.dma, 34, 0, .sec, 0, (reg [(0x4002200C, 2)]), by unfold Reaches HeaderPage; decide +kernel⟩,
  ⟨.dma, 34, 0, .sec, 0, (reg [(0x4002200C, 1)]), by unfold Reaches HeaderPage; decide +kernel⟩,
  ⟨.dma, 34, 0, .sec, 0, (reg [(0x4002200C, 1)]), by unfold Reaches HeaderPage; decide +kernel⟩,
  ⟨.dma, 34, 0, .sec, 0, State.reset, by unfold Reaches HeaderPage; decide +kernel⟩,
  ⟨.dma, 34, 0, .sec, 0, (reg [(0x4002200C, 2)]), by unfold Reaches HeaderPage; decide +kernel⟩,
  ⟨34, 0, .sec, (reg [(0x4002200C, 2)]), by unfold HeaderPage; decide +kernel⟩⟩

/-- Hypotheses of AccessesElsewhere. -/
theorem witness_AccessesElsewhere :
    (∃ (m : Master) (a : Nat) (w : Bool) (s : State), busUp s = true ∧ debugMay s m a w = true ∧ isRegAddr a = true ∧ pageHere s a = false)
    ∧ (∃ (m : Master) (a : Nat) (w : Bool) (s : State), busUp s = true ∧ debugMay s m a w = true ∧ isRegAddr a = false ∧ ¬(0x60000000 ≤ a ∧ a
      < 0x60002000) ∧ (s.sec.scrapped = true ∨ (memInfo s.variant a = none ∧ aliasOf s.variant a = none)))
    ∧ (∃ (m : Master) (a : Nat) (w : Bool) (s : State) (n : Nat), busUp s = true ∧ debugMay s m a w = true ∧ isRegAddr a = true ∧ pageHere s a
      = true ∧ ¬(n = 4 ∧ a % 4 = 0))
    ∧ (∃ (m : Master) (s : State), Reaches m Reg.SYS_ABSENT_STAT s) :=
  ⟨⟨.debug, 0x400081cc, false, State.reset, by decide +kernel⟩,
  ⟨.spe0, 0x80000, false, State.reset, by decide +kernel⟩,
  ⟨.dma, 0x400500c4, true, State.reset, 2, by decide +kernel⟩,
  ⟨.dma, State.reset, by unfold Reaches; decide +kernel⟩⟩

/-- Hypotheses of SoftResetCrcAndCounters. -/
theorem witness_SoftResetCrcAndCounters :
    (∃ (m : Master) (page : Nat) (i : Nat) (c : PageClass) (s : State), pageClass page = some (c, i) ∧ HeaderPage page ∧ Reaches m (ctrlAddr
      page) s ∧ (c = .cox ∨ c = .aon))
    ∧ (∃ (m : Master) (page : Nat) (i : Nat) (c : PageClass) (s : State), pageClass page = some (c, i) ∧ HeaderPage page ∧ Reaches m (ctrlAddr
      page) s ∧ c ≠ .cox ∧ c ≠ .aon ∧ cfgLocked s page = false ∧ s.flag (statAddr page) 2 = true)
    ∧ (∃ (m : Master) (page : Nat) (i : Nat) (c : PageClass) (v : Word) (s : State), pageClass page = some (c, i) ∧ HeaderPage page ∧ Reaches
      m (ctrlAddr page) s ∧ c ≠ .cox ∧ c ≠ .aon ∧ cfgLocked s page = true ∧ bit v 0 = s.flag (statAddr page) 0 ∧ bit v 2 = false ∧ s.flag
      (statAddr page) 1 = false)
    ∧ (∃ (m : Master) (page : Nat) (i : Nat) (c : PageClass) (v : Word) (s : State), pageClass page = some (c, i) ∧ HeaderPage page ∧ Reaches
      m (ctrlAddr page) s ∧ c ≠ .cox ∧ c ≠ .aon ∧ cfgLocked s page = false ∧ s.flag (statAddr page) 2 = false ∧ s.flag (statAddr page) 0 =
      true ∧ s.flag (statAddr page) 1 = false ∧ bit v 0 = true ∧ bit v 2 = false)
    ∧ (∃ (m : Master) (page : Nat) (i : Nat) (c : PageClass) (v : Word) (s : State), pageClass page = some (c, i) ∧ HeaderPage page ∧ Reaches
      m (ctrlAddr page) s ∧ c ≠ .cox ∧ c ≠ .aon ∧ bit v 1 = false ∧ bit v 0 = s.flag (statAddr page) 0 ∧ s.flag (statAddr page) 1 = false ∧
      freezeOk (s.attach m) = true)
    ∧ (∃ (m : Master) (page : Nat) (i : Nat) (c : PageClass) (v : Word) (s : State), pageClass page = some (c, i) ∧ HeaderPage page ∧ Reaches
      m (ctrlAddr page) s ∧ c ≠ .cox ∧ c ≠ .aon ∧ bit v 1 = false ∧ bit v 0 = s.flag (statAddr page) 0 ∧ s.flag (statAddr page) 1 = false ∧
      freezeOk (s.attach m) = false)
    ∧ (∃ (m : Master) (page : Nat) (s : State), HeaderPage page ∧ (pageClass page).isSome = true ∧ busUp s = true ∧ debugMay s m (pageAddr
      page + 48) false = true ∧ s.hasPage page = true)
    ∧ (∃ (m : Master) (a : Nat) (v : Word) (c : PageClass) (d : RegDef) (s : State), RegisterAt c d a s ∧ PlainRow c d ∧ Reaches m a s ∧
      d.kind = .cz ∧ Accepted d a m v s ∧ featureAbsent s.variant c (a % 0x1000) = false ∧ d.mask = 0x0000FFFF)
    ∧ (∃ (m : Master) (a : Nat) (v : Word) (c : PageClass) (d : RegDef) (s : State), RegisterAt c d a s ∧ PlainRow c d ∧ Reaches m a s ∧
      d.kind = .cz ∧ Accepted d a m v s ∧ featureAbsent s.variant c (a % 0x1000) = false ∧ d.mask = 0xFFFF0000)
    ∧ (∃ (m : Master) (a : Nat) (v : Word) (c : PageClass) (d : RegDef) (s : State), RegisterAt c d a s ∧ PlainRow c d ∧ Reaches m a s ∧
      d.kind = .cz ∧ Accepted d a m v s ∧ featureAbsent s.variant c (a % 0x1000) = false ∧ d.mask = 0xFFFFFFFF) :=
  ⟨⟨.debug, 16, 0, .cox, State.reset, by unfold Reaches HeaderPage; decide +kernel⟩,
  ⟨.dma, 34, 0, .sec, State.reset, by unfold Reaches HeaderPage; decide +kernel⟩,
  ⟨.dma, 34, 0, .sec, 8, (reg [(0x40022028, 1)]), by unfold Reaches HeaderPage; decide +kernel⟩,
  ⟨.dma, 34, 0, .sec, 9, (reg [(0x4002200C, 1)]), by unfold Reaches HeaderPage; decide +kernel⟩,
  ⟨.debug, 1, 0, .clk, 0, (reg [(0x40022040, 1)]), by unfold Reaches HeaderPage; decide +kernel⟩,
  ⟨.dma, 34, 0, .sec, 8, State.reset, by unfold Reaches HeaderPage; decide +kernel⟩,
  ⟨.debug, 16, State.reset, by unfold HeaderPage; decide +kernel⟩,
  ⟨.dma, 0x400B0064, 8, .adc, ⟨0x064, 0, 1, .cz, 0xFFFF, 0, false, [], 0⟩, State.reset, ⟨by decide +kernel, by decide +kernel,
    by decide +kernel, by decide +kernel, by decide +kernel, ⟨0, by decide +kernel⟩, ⟨0, by decide +kernel⟩⟩, fun _ _ _ _ _ => rfl,
    by unfold Reaches; decide +kernel, by decide +kernel, by unfold Accepted; decide +kernel, by decide +kernel⟩,
  ⟨.host, 0x4002004C, 7, .mem, ⟨0x04C, 0, 1, .cz, 0xFFFF0000, 0, true, [], 0⟩, State.reset, ⟨by decide +kernel, by decide +kernel,
    by decide +kernel, by decide +kernel, by decide +kernel, ⟨0, by decide +kernel⟩, ⟨0, by decide +kernel⟩⟩, fun _ _ _ _ _ => rfl,
    by unfold Reaches; decide +kernel, by decide +kernel, by unfold Accepted; decide +kernel, by decide +kernel⟩,
  ⟨.dma, 0x400900A4, 168, .pwm, ⟨0x0A4, 0, 1, .cz, 0xFFFFFFFF, 0, true, [], 0⟩, State.reset, ⟨by decide +kernel, by decide +kernel,
    by decide +kernel, by decide +kernel, by decide +kernel, ⟨0, by decide +kernel⟩, ⟨0, by decide +kernel⟩⟩, fun _ _ _ _ _ => rfl,
    by unfold Reaches; decide +kernel, by decide +kernel, by unfold Accepted; decide +kernel, by decide +kernel⟩⟩

/-- Hypotheses of ResetScope. -/
theorem witness_ResetScope :
    (∃ (a : Nat), isRegAddr a = true ∧ pageOf a ≠ 0x24 ∧ a ≠ Reg.SYS_RST_CAUSE ∧ a ≠ Reg.PWR_WAKE_STAT ∧ a ≠ Reg.CLK_PLL_STAT)
    ∧ (∃ (a : Nat), aonKept (a, 0) = true) :=
  ⟨⟨0x400f913c, by decide +kernel⟩,
  ⟨0x40024110, by decide +kernel⟩⟩

/-- Hypotheses of ResetSources. -/
theorem witness_ResetSources :
    (∃ (ns : Nat) (s : State), 10000 ≤ ns ∧ s.fld Reg.PWR_STATE 0 3 ≠ 5)
    ∧ (∃ (ns : Nat), ns < 1000)
    ∧ (∃ (ns : Nat) (s : State), 1000 ≤ ns ∧ drivesResetN s = false)
    ∧ (∃ (ns : Nat) (s : State), ns < 1000 ∧ drivesResetN s = false)
    ∧ (∃ (ns : Nat) (s : State), 0 < ns ∧ drivesResetN s = true)
    ∧ (∃ (m : Master) (v : Word) (s : State), Reaches m Reg.SYS_RST_KEY s ∧ holdsOpening s 0x00 m = true ∧ v = 0x0000A5C3)
    ∧ (∃ (m : Master) (v : Word) (s : State), Reaches m Reg.SYS_RST_KEY s ∧ holdsOpening s 0x00 m = true ∧ v ≠ 0x0000A5C3)
    ∧ (∃ (m : Master) (s : State), Reaches m Reg.SYS_RST_KEY s ∧ holdsOpening s 0x00 m = false)
    ∧ (∃ (s : State), s.power.phase = .held) :=
  ⟨⟨0x2710, State.reset, by decide +kernel⟩,
  ⟨8, by decide +kernel⟩,
  ⟨1000, State.reset, by decide +kernel⟩,
  ⟨0, State.reset, by decide +kernel⟩,
  ⟨5, { State.reset with power := { phase := .held } }, by decide +kernel⟩,
  ⟨.dma, 0xa5c3, { State.reset with pages := { keys := [(0, (.opened 1 0))] } }, by unfold Reaches; decide +kernel⟩,
  ⟨.dma, 0xa5c4, { State.reset with pages := { keys := [(0, (.opened 1 0))] } }, by unfold Reaches; decide +kernel⟩,
  ⟨.dma, State.reset, by unfold Reaches; decide +kernel⟩,
  ⟨{ State.reset with power := { phase := .held } }, by decide +kernel⟩⟩

/-- Hypotheses of ClocksSuppliesAndTheirLoss. -/
theorem witness_ClocksSuppliesAndTheirLoss :
    (∃ (m : Master) (v : Word) (n : Word) (s : State), Reaches m Reg.CLK_SPREAD_CFG s ∧ Accepted (defOf .clk 0x048) Reg.CLK_SPREAD_CFG m v s
      ∧ n = storeValue (defOf .clk 0x048) (s.rd Reg.CLK_SPREAD_CFG) v ∧ (bit n 22 = true ∨ (bit n 20 = true ∧ 1 < bits n 0 2) ∨ bits n 4 2 =
      3))
    ∧ (∃ (m : Master) (v : Word) (n : Word) (s : State), Reaches m Reg.CLK_SPREAD_CFG s ∧ Accepted (defOf .clk 0x048) Reg.CLK_SPREAD_CFG m v s
      ∧ n = storeValue (defOf .clk 0x048) (s.rd Reg.CLK_SPREAD_CFG) v ∧ (¬(bit n 22 = true ∨ (bit n 20 = true ∧ 1 < bits n 0 2) ∨ bits n 4 2
      = 3)))
    ∧ (∃ (s : State), frozen s 0x01 = false ∧ s.flag Reg.CLK_SPREAD_STAT 31 = true ∧ atModBoundary s = true)
    ∧ (∃ (s : State), s.fld Reg.PWR_STATE 0 3 ≠ 2)
    ∧ (∃ (s : State), s.power.phase ≠ PwrPhase.held ∧ (∀ (k n : Nat) (b : Bool) (d : Nat), s.power.phase ≠ PwrPhase.waking 6 k n b d) ∧ s.fld
      Reg.PWR_STATE 0 3 ≤ 3)
    ∧ (∃ (x : Supply) (s : State), x ≠ .vin ∧ x ≠ .vbat ∧ s.fld Reg.PWR_STATE 0 3 ≤ 3)
    ∧ (∃ (x : Supply) (s : State), x ≠ .vin ∧ (x = .vbat ∨ 3 < s.fld Reg.PWR_STATE 0 3))
    ∧ (∃ (x : Supply), x = .vin)
    ∧ (∃ (s : State), s.fld Reg.PWR_STATE 0 3 ≠ 5)
    ∧ (∃ (s : State), s.fld Reg.PWR_STATE 0 3 = 5 ∧ s.power.phase = .steady) :=
  ⟨⟨.dma, 0x400800, 0x400000, { State.reset with pages := { keys := [(1, (.opened 1 0))] } }, by unfold Reaches Accepted; decide +kernel⟩,
  ⟨.dma, 15, 3, { State.reset with pages := { keys := [(1, (.opened 1 0))] } }, by unfold Reaches Accepted; decide +kernel⟩,
  ⟨{ State.reset with now := 3, regs := [(0x40000058, 3), (0x4000104c, 0x80000000), (0x40002018, 2), (0x40024018, 0x80000)], power := { modOrigin := 3 } },
    by decide +kernel⟩,
  ⟨State.reset, by decide +kernel⟩,
  ⟨State.reset, by decide +kernel, fun _ _ _ _ => nofun, by decide +kernel⟩,
  ⟨.vhp, State.reset, by decide +kernel⟩,
  ⟨.vbat, State.reset, by decide +kernel⟩,
  ⟨.vin, by decide +kernel⟩,
  ⟨State.reset, by decide +kernel⟩,
  ⟨(reg [(0x40002044, 5)]), by decide +kernel⟩⟩

/-- Hypotheses of PowerLadder. -/
theorem witness_PowerLadder :
    (∃ (m : Master) (v : Word) (s : State), Reaches m Reg.PWR_REQ s ∧ Accepted (defOf .pwr 0x040) Reg.PWR_REQ m v s ∧ s.power.phase =
      .steady ∧ bits v 0 3 = s.fld Reg.PWR_STATE 0 3 ∧ bits v 0 3 < 5)
    ∧ (∃ (m : Master) (v : Word) (s : State), Reaches m Reg.PWR_REQ s ∧ Accepted (defOf .pwr 0x040) Reg.PWR_REQ m v s ∧ s.power.phase =
      .steady ∧ 5 ≤ bits v 0 3)
    ∧ (∃ (m : Master) (v : Word) (s : State), Reaches m Reg.PWR_REQ s ∧ Accepted (defOf .pwr 0x040) Reg.PWR_REQ m v s ∧ s.power.phase =
      .steady ∧ bits v 0 3 < 5 ∧ s.fld Reg.PWR_STATE 0 3 < bits v 0 3 ∧ outputsLive s = true)
    ∧ (∃ (m : Master) (v : Word) (s : State), Reaches m Reg.PWR_REQ s ∧ Accepted (defOf PageClass.pwr 64) Reg.PWR_REQ m v s ∧ s.power.phase =
      PwrPhase.steady ∧ bits v 0 3 < 5 ∧ s.fld Reg.PWR_STATE 0 3 < bits v 0 3 ∧ outputsLive s = false ∧ (wakePending s (bits v 0 3) (s.rd
      Reg.PWR_WAKE_CFG) = true ∨ s.otp.prog ≠ none))
    ∧ (∃ (m : Master) (v : Word) (s : State), Reaches m Reg.PWR_REQ s ∧ Accepted (defOf .pwr 0x040) Reg.PWR_REQ m v s ∧ s.power.phase =
      .steady ∧ bits v 0 3 < 5 ∧ s.fld Reg.PWR_STATE 0 3 < bits v 0 3 ∧ outputsLive s = false ∧ wakePending s (bits v 0 3) (s.rd
      Reg.PWR_WAKE_CFG) = false ∧ s.otp.prog = none ∧ (s.fld (Reg.COX + 0x00C) 4 4 = 1 ∨ s.fld (Reg.COX + 0x00C) 4 4 = 4))
    ∧ (∃ (m : Master) (v : Word) (s : State), Reaches m Reg.PWR_REQ s ∧ Accepted (defOf .pwr 0x040) Reg.PWR_REQ m v s ∧ s.power.phase =
      .steady ∧ bits v 0 3 < 5 ∧ s.fld Reg.PWR_STATE 0 3 < bits v 0 3 ∧ outputsLive s = false ∧ wakePending s (bits v 0 3) (s.rd
      Reg.PWR_WAKE_CFG) = false ∧ s.otp.prog = none ∧ s.fld (Reg.COX + 0x00C) 4 4 ≠ 1 ∧ s.fld (Reg.COX + 0x00C) 4 4 ≠ 4)
    ∧ (∃ (m : Master) (v : Word) (s : State), Reaches m Reg.PWR_REQ s ∧ Accepted (defOf .pwr 0x040) Reg.PWR_REQ m v s ∧ s.power.phase =
      .steady ∧ bits v 0 3 < s.fld Reg.PWR_STATE 0 3)
    ∧ (∃ (m : Master) (v : Word) (s : State) (f : Nat) (k : Nat) (n : Nat) (b : Bool) (x : Nat), Reaches m Reg.PWR_REQ s ∧ Accepted (defOf
      .pwr 0x040) Reg.PWR_REQ m v s ∧ s.power.phase = .waking f k n b x)
    ∧ (∃ (m : Master) (v : Word) (s : State) (g : Nat), Reaches m Reg.PWR_REQ s ∧ Accepted (defOf .pwr 0x040) Reg.PWR_REQ m v s ∧
      s.power.phase = .entering g)
    ∧ (∃ (target : Nat) (s : State), s.power.phase = PwrPhase.entering target ∧ (unitsAtRest s = false ∨ haltsDone s target = false))
    ∧ (∃ (target : Nat) (s : State), s.power.phase = PwrPhase.entering target ∧ unitsAtRest s = true ∧ haltsDone s target = true ∧ wakePending
      s target (s.rd Reg.PWR_WAKE_CFG) = true)
    ∧ (∃ (target : Nat) (s : State), s.power.phase = PwrPhase.entering target ∧ unitsAtRest s = true ∧ haltsDone s target = true ∧ wakePending
      s target (s.rd Reg.PWR_WAKE_CFG) = false ∧ (target = 1 ∨ target = 2 ∨ target = 3))
    ∧ (∃ (target : Nat) (s : State), s.power.phase = PwrPhase.entering target ∧ unitsAtRest s = true ∧ haltsDone s target = true ∧ wakePending
      s target (s.rd Reg.PWR_WAKE_CFG) = false ∧ target = 4) :=
  ⟨⟨.dma, 8, { State.reset with pages := { keys := [(2, (.opened 1 0))] } }, by unfold Reaches Accepted; decide +kernel⟩,
  ⟨.dma, 13, { State.reset with pages := { keys := [(2, (.opened 1 0))] } }, by unfold Reaches Accepted; decide +kernel⟩,
  ⟨.dma, 9, { reg [(0x400A8008, 1)] with pages := { keys := [(2, (.opened 1 0))] } }, by unfold Reaches Accepted; decide +kernel⟩,
  ⟨.dma, 9, { State.reset with pages := { keys := [(2, (.opened 1 0))] }, otp := { prog := some ⟨0, 0⟩ } },
    by unfold Reaches Accepted; decide +kernel⟩,
  ⟨.dma, 9, { reg [(0x4001000C, 64)] with pages := { keys := [(2, (.opened 1 0))] } }, by unfold Reaches Accepted; decide +kernel⟩,
  ⟨.dma, 9, { State.reset with pages := { keys := [(2, (.opened 1 0))] } }, by unfold Reaches Accepted; decide +kernel⟩,
  ⟨.spe0, 0, { reg [(0x40002044, 1)] with pages := { keys := [(2, (.opened 2 0))] } }, by unfold Reaches Accepted; decide +kernel⟩,
  ⟨.spe0, 116, { State.reset with pages := { keys := [(2, (.opened 2 0))] }, power := { phase := (.waking 2 4 8 true 4) } }, 2, 4, 8, true,
    4, by unfold Reaches Accepted; decide +kernel⟩,
  ⟨.dma, 165, { State.reset with pages := { keys := [(2, (.opened 1 0))] }, power := { phase := (.entering 0) } }, 0,
    by unfold Reaches Accepted; decide +kernel⟩,
  ⟨4, { State.reset with power := { phase := .entering 4 }, sec := { wipeStart := some 0 } }, by decide +kernel⟩,
  ⟨4, { State.reset with power := { phase := (.entering 4) }, sec := { tamperNow := [0] } }, by decide +kernel⟩,
  ⟨3, { State.reset with power := { phase := (.entering 3) } }, by decide +kernel⟩,
  ⟨4, { State.reset with power := { phase := (.entering 4) } }, by decide +kernel⟩⟩

/-- Hypotheses of WakeSteps. -/
theorem witness_WakeSteps :
    (∃ (k : Nat) (s : State), s.fld Reg.PWR_STATE 0 3 = 3 ∧ s.power.phase = .steady ∧ k < cansOf s.variant ∧ bit s.power.wakeHeld (4 + k) =
      true)
    ∧ (∃ (k : Nat) (s : State), s.power.phase = PwrPhase.entering 3 ∧ k < cansOf s.variant ∧ s.flag Reg.PWR_WAKE_CFG (4 + k) = true)
    ∧ (∃ (s : State), frozen s 0x30 = false ∧ s.boot.controller = false ∧ s.host.csLow = false)
    ∧ (∃ (f : Nat) (k : Nat) (n : Nat) (dest : Nat) (s : State), s.power.phase = .waking f k n false dest ∧ (k = 1 ∨ k = 2))
    ∧ (∃ (f : Nat) (k : Nat) (n : Nat) (dest : Nat) (s : State), s.power.phase = .waking f k n false dest ∧ k = 3)
    ∧ (∃ (f : Nat) (k : Nat) (n : Nat) (dest : Nat) (s : State), s.power.phase = PwrPhase.waking f k n false dest ∧ k = 4 ∧ s.sec.wipeStart =
      none ∧ s.sec.wipeDue = none ∧ (f = 6 → s.power.resetLow = 0))
    ∧ (∃ (f : Nat) (k : Nat) (n : Nat) (dest : Nat) (s : State), s.power.phase = .waking f k n false dest ∧ n < 4)
    ∧ (∃ (f : Nat) (k : Nat) (n : Nat) (dest : Nat) (s : State), s.power.phase = .waking f k n false dest ∧ 4 ≤ n)
    ∧ (∃ (f : Nat) (k : Nat) (n : Nat) (dest : Nat) (s : State), s.power.phase = .waking f k n true dest) :=
  ⟨⟨1, { reg [(0x40002044, 3)] with power := { wakeHeld := 32 } }, by decide +kernel⟩,
  ⟨0, { reg [(Reg.PWR_WAKE_CFG, 0x10)] with power := { phase := .entering 3 } }, by decide +kernel⟩,
  ⟨State.reset, by decide +kernel⟩,
  ⟨2, 1, 4, 1, { State.reset with power := { phase := (.waking 2 1 4 false 1) } }, by decide +kernel⟩,
  ⟨2, 3, 4, 1, { State.reset with power := { phase := (.waking 2 3 4 false 1) } }, by decide +kernel⟩,
  ⟨2, 4, 4, 1, { State.reset with power := { phase := (.waking 2 4 4 false 1) } }, by decide +kernel⟩,
  ⟨4, 4, 0, 1, { State.reset with power := { phase := (.waking 4 4 0 false 1) } }, by decide +kernel⟩,
  ⟨4, 4, 4, 1, { State.reset with power := { phase := (.waking 4 4 4 false 1) } }, by decide +kernel⟩,
  ⟨2, 2, 4, 1, { State.reset with power := { phase := (.waking 2 2 4 true 1) } }, by decide +kernel⟩⟩

/-- Hypotheses of FaultLineCounting. -/
theorem witness_FaultLineCounting :
    (∃ (n : Nat) (s : State) (r : State), n < 96 ∧ coxAlive s = true ∧ (r = if n = 6 then padReadback s else s) ∧ lineAbsent s.variant n =
      true)
    ∧ (∃ (n : Nat) (b : Bool) (s : State) (r : State), n < 96 ∧ coxAlive s = true ∧ (r = if n = 6 then padReadback s else s) ∧ lineAbsent
      s.variant n = false ∧ (lineCond s n).getD b = false)
    ∧ (∃ (n : Nat) (b : Bool) (s : State) (r : State), n < 96 ∧ coxAlive s = true ∧ (r = if n = 6 then padReadback s else s) ∧ lineAbsent
      s.variant n = false ∧ (lineCond s n).getD b = true ∧ tabGet s.cox.stuck n false = true)
    ∧ (∃ (n : Nat) (b : Bool) (s : State) (r : State), n < 96 ∧ coxAlive s = true ∧ (r = if n = 6 then padReadback s else s) ∧ lineAbsent
      s.variant n = false ∧ (lineCond s n).getD b = true ∧ tabGet s.cox.stuck n false = false ∧ tabGet s.cox.count n 0 + 1 < max 1 (s.fld
      (Reg.COX_FMAP_ENTRY n) 8 8))
    ∧ (∃ (n : Nat) (b : Bool) (s : State) (r : State), n < 96 ∧ coxAlive s = true ∧ (r = if n = 6 then padReadback s else s) ∧ lineAbsent
      s.variant n = false ∧ (lineCond s n).getD b = true ∧ tabGet s.cox.stuck n false = false ∧ max 1 (s.fld (Reg.COX_FMAP_ENTRY n) 8 8) ≤
      tabGet s.cox.count n 0 + 1)
    ∧ (∃ (n : Nat) (s : State), n < 96 ∧ coxAlive s = true ∧ lineAbsent s.variant n = false ∧ eventLine n = true ∧ tabGet s.cox.lastEvent n 0
      + 1000000000 ≤ s.cox.ps)
    ∧ (∃ (n : Nat) (s : State), n < 96 ∧ coxAlive s = true ∧ lineAbsent s.variant n = false ∧ (eventLine n = false ∨ s.cox.ps < tabGet
      s.cox.lastEvent n 0 + 1000000000)) :=
  ⟨⟨4, { State.reset with variant := .aq1660 }, _, by decide, by decide +kernel, rfl, by decide +kernel⟩,
  ⟨8, false, State.reset, _, by decide, by decide +kernel, rfl, by decide +kernel⟩,
  ⟨4, true, { State.reset with cox := { stuck := [(4, true)] } }, _, by decide, by decide +kernel, rfl, by decide +kernel⟩,
  ⟨4, true, (reg [(0x40011050, 0x80000303)]), _, by decide, by decide +kernel, rfl, by decide +kernel⟩,
  ⟨4, true, State.reset, _, by decide, by decide +kernel, rfl, by decide +kernel⟩,
  ⟨36, { State.reset with cox := { ps := 0x3b9aca00 } }, by decide +kernel⟩,
  ⟨4, State.reset, by decide +kernel⟩⟩

/-- Hypotheses of OffReactionAndStartUp. -/
theorem witness_OffReactionAndStartUp :
    (∃ (n : Nat) (s : State), 3 ≤ s.fld (Reg.COX_FMAP_ENTRY n) 0 2 ∧ coxState s ≠ 5 ∧ ¬(n = 15 ∧ coxState s = 1))
    ∧ (∃ (e : Nat) (s : State), s.cox.stopEnd = some e ∧ e ≤ s.cox.ps ∧ coxState s = 4)
    ∧ (∃ (m : Master) (s : State), Reaches m Reg.COX_SW_FAULT s)
    ∧ (∃ (e : Nat) (s : State), s.cox.offSince = some e ∧ e + 10000000000 ≤ s.cox.ps ∧ coxState s = 5 ∧ s.flag Reg.COX_CFG 8 = true)
    ∧ (∃ (e : Nat) (s : State), s.cox.offSince = some e ∧ e + 10000000000 ≤ s.cox.ps ∧ coxState s = 5 ∧ s.flag Reg.COX_CFG 8 = false)
    ∧ (∃ (s : State), coxAlive s = true ∧ coxState s = 0 ∧ s.power.phase = PwrPhase.steady ∧ busUp s = true)
    ∧ (∃ (s : State), coxAlive s = true ∧ coxState s = 1 ∧ 1 ≤ s.cox.test ∧ s.cox.test < 6 ∧ s.cox.test ≠ 5)
    ∧ (∃ (s : State), coxAlive s = true ∧ coxState s = 1 ∧ 1 ≤ s.cox.test ∧ s.cox.test < 6 ∧ s.cox.test ≠ 5 ∧ lineLatched s 15 = true)
    ∧ (∃ (s : State), coxAlive s = true ∧ coxState s = 1 ∧ 1 ≤ s.cox.test ∧ s.cox.test < 6 ∧ lineLatched s 15 = false)
    ∧ (∃ (s : State), coxAlive s = true ∧ coxState s = 1 ∧ s.cox.test = 5)
    ∧ (∃ (l : List Nat) (s : State), coxAlive s = true ∧ coxState s = 1 ∧ s.cox.test = 6 ∧ s.cox.pulseBad = false ∧ ∀ (g : Nat), senTested s g
      = true → g ∈ l)
    ∧ (∃ (l : List Nat) (s : State), coxAlive s = true ∧ coxState s = 1 ∧ s.cox.test = 6 ∧ s.cox.pulseBad = false ∧ (∀ (g : Nat), senTested s
      g = true → g ∈ l) ∧ ∀ (p : Nat × CoxLatch), p ∈ s.cox.held → p.fst = 15 → lineLatched s 15 = true → p.snd.cls < 2)
    ∧ (∃ (l : List Nat) (s : State) (p : Nat × CoxLatch), coxAlive s = true ∧ coxState s = 1 ∧ s.cox.test = 6 ∧ s.cox.pulseBad = false ∧ (∀ (g
      : Nat), senTested s g = true → g ∈ l) ∧ lineLatched s 15 = true ∧ List.find? (fun x ↦ x.fst == 15) s.cox.held = some p ∧ 2 ≤
      p.snd.cls)
    ∧ (∃ (ok : Bool) (l : List Nat) (s : State), coxAlive s = true ∧ coxState s = 1 ∧ s.cox.test = 6 ∧ (ok = false ∨ s.cox.pulseBad = true ∨ ∃
      g, senTested s g = true ∧ ¬g ∈ l)) :=
  ⟨⟨4, State.reset, by decide +kernel⟩,
  ⟨0, { reg [(0x4001000C, 64)] with cox := { stopEnd := (some 0) } }, by decide +kernel⟩,
  ⟨.dma, State.reset, by unfold Reaches; decide +kernel⟩,
  ⟨8, { reg [(0x4001000C, 80), (0x40010040, 256)] with cox := { ps := 0x2540be408, offSince := (some 8) } }, by decide +kernel⟩,
  ⟨8, { reg [(0x4001000C, 80)] with cox := { ps := 0x2540be408, offSince := (some 8) } }, by decide +kernel⟩,
  ⟨State.reset, by decide +kernel⟩,
  ⟨{ reg [(0x4001000C, 16), (0x40010064, 0x8000)] with cox := { test := 1 } }, by decide +kernel⟩,
  ⟨{ reg [(0x4001000C, 16), (0x40010064, 0x8000)] with cox := { test := 1 } }, by decide +kernel⟩,
  ⟨{ reg [(0x4001000C, 16)] with cox := { test := 5 } }, by decide +kernel⟩,
  ⟨{ reg [(0x4001000C, 16)] with cox := { test := 5 } }, by decide +kernel⟩,
  ⟨List.range 6, { reg [(0x4001000C, 16), (0x40010064, 0x8000)] with cox := { test := 6 } }, by decide +kernel, by decide +kernel,
    by decide +kernel, by decide +kernel, fun _ h => List.mem_range.2 (of_decide_eq_true (Bool.and_eq_true_iff.1 h).1)⟩,
  ⟨List.range 6, { reg [(0x4001000C, 16), (0x40010064, 0x8000)] with cox := { test := 6 } }, by decide +kernel, by decide +kernel,
    by decide +kernel, by decide +kernel, fun _ h => List.mem_range.2 (of_decide_eq_true (Bool.and_eq_true_iff.1 h).1), nofun⟩,
  ⟨List.range 6, { reg [(0x4001000C, 16), (0x40010064, 0x8000)] with cox := { test := 6, held := [(15, ⟨2, 0⟩)] } }, (15, ⟨2, 0⟩),
    by decide +kernel, by decide +kernel, by decide +kernel, by decide +kernel, fun _ h => List.mem_range.2
    (of_decide_eq_true (Bool.and_eq_true_iff.1 h).1), by decide +kernel⟩,
  ⟨false, [], { reg [(0x4001000C, 16), (0x40010064, 0x8000)] with cox := { test := 6 } }, by decide +kernel, by decide +kernel,
    by decide +kernel, .inl rfl⟩⟩

/-- Hypotheses of ReleasesMapAndLatches. -/
theorem witness_ReleasesMapAndLatches :
    (∃ (m : Master) (s : State), Reaches m Reg.COX_RELEASE s ∧ holdsOpening s 0x10 m = true ∧ releaseCause s 0x0000AC01 = 0)
    ∧ (∃ (m : Master) (s : State) (c : Nat), Reaches m Reg.COX_RELEASE s ∧ holdsOpening s 0x10 m = true ∧ releaseCause s 0x0000AC01 = c + 1)
    ∧ (∃ (m : Master) (s : State), Reaches m Reg.COX_RELEASE s ∧ holdsOpening s 0x10 m = true ∧ releaseCause s 0x0000AC02 = 0)
    ∧ (∃ (m : Master) (s : State) (c : Nat), Reaches m Reg.COX_RELEASE s ∧ holdsOpening s 0x10 m = true ∧ releaseCause s 0x0000AC02 = c + 1)
    ∧ (∃ (m : Master) (v : Word) (s : State), Reaches m Reg.COX_CFG s ∧ Accepted (defOf .cox 0x040) Reg.COX_CFG m v s)
    ∧ (∃ (m : Master) (n : Nat) (s : State), n < 96 ∧ Reaches m (Reg.COX_FMAP_ENTRY n) s ∧ s.flag (Reg.COX_FMAP_ENTRY n) 31 = true ∧ cfgLocked
      s 0x11 = false)
    ∧ (∃ (m : Master) (n : Nat) (s : State), n < 96 ∧ Reaches m (Reg.COX_FMAP_ENTRY n) s ∧ s.flag (Reg.COX_FMAP_ENTRY n) 31 = true ∧ cfgLocked
      s 0x11 = true)
    ∧ (∃ (m : Master) (n : Nat) (v : Word) (s : State) (w : Word), n < 96 ∧ Reaches m (Reg.COX_FMAP_ENTRY n) s ∧ s.flag (Reg.COX_FMAP_ENTRY n)
      31 = false ∧ w = (if bits v 8 8 = 0 then putBits v 8 8 1 else v) ∧ Accepted (defOf .cox_fmap 0x040) (Reg.COX_FMAP_ENTRY n) m w s)
    ∧ (∃ (m : Master) (k : Nat) (b : Nat) (s : State), k < 3 ∧ b < 32 ∧ Reaches m (Reg.COX_LATCH k) s ∧ lineLatched s (32 * k + b) = true ∧
      (lineReports s (32 * k + b) = true ∨ 32 * k + b < 5))
    ∧ (∃ (m : Master) (k : Nat) (b : Nat) (s : State), k < 3 ∧ b < 32 ∧ Reaches m (Reg.COX_LATCH k) s ∧ lineLatched s (32 * k + b) = true ∧
      lineReports s (32 * k + b) = false ∧ 5 ≤ 32 * k + b)
    ∧ (∃ (m : Master) (s : State), Reaches m Reg.COX_FIRST s) :=
  ⟨⟨.dma,
    { reg [(0x4001000C, 32), (0x40010028, 2), (0x40010080, 0x40000000), (0x40010094, 0x40000000), (0x40011028, 2)] with pages := { keys := [(16, (.opened 1 0))] }, cox := { wd := { active := true } } },
    by unfold Reaches; decide +kernel⟩,
  ⟨.dma, { State.reset with pages := { keys := [(16, (.opened 1 0))] } }, 0, by unfold Reaches; decide +kernel⟩,
  ⟨.dma, { reg [(0x4001000C, 80), (0x40010080, 0x40000000)] with pages := { keys := [(16, (.opened 1 0))] } },
    by unfold Reaches; decide +kernel⟩,
  ⟨.dma, { State.reset with pages := { keys := [(16, (.opened 1 0))] } }, 0, by unfold Reaches; decide +kernel⟩,
  ⟨.dma, 5, State.reset, by unfold Reaches Accepted; decide +kernel⟩,
  ⟨.dma, 1, State.reset, by unfold Reaches; decide +kernel⟩,
  ⟨.dma, 1, (reg [(0x40011028, 1)]), by unfold Reaches; decide +kernel⟩,
  ⟨.dma, 32, 8, State.reset, 264, by unfold Reaches Accepted; decide +kernel⟩,
  ⟨.dma, 0, 2, (reg [(0x40010064, 4)]), by unfold Reaches; decide +kernel⟩,
  ⟨.dma, 1, 3, (reg [(0x40010068, 8)]), by unfold Reaches; decide +kernel⟩,
  ⟨.dma, State.reset, by unfold Reaches; decide +kernel⟩⟩

/-- Hypotheses of Watchdogs. -/
theorem witness_Watchdogs :
    (∃ (m : Master) (v : Word) (s : State), Reaches m Reg.COX_WD_WIN s ∧ Accepted (defOf .cox 0x088) Reg.COX_WD_WIN m v s)
    ∧ (∃ (m : Master) (s : State), Reaches m Reg.COX_WDA s ∧ s.cox.wd.active = false)
    ∧ (∃ (m : Master) (v : Word) (s : State), Reaches m Reg.COX_WDA s ∧ s.cox.wd.active = true ∧ s.cox.wd.wopen * 1000000 ≤ s.cox.ps -
      s.cox.wd.start ∧ s.cox.ps - s.cox.wd.start < s.cox.wd.wclose * 1000000 ∧ bits v 0 16 = rotl16 (s.fld Reg.COX_WDQ 0 16 ^^^
      s.cox.wd.seedAt) 3 ^^^ 0x5A3C)
    ∧ (∃ (m : Master) (v : Word) (s : State), Reaches m Reg.COX_WDA s ∧ s.cox.wd.active = true ∧ ¬(s.cox.wd.wopen * 1000000 ≤ s.cox.ps -
      s.cox.wd.start ∧ s.cox.ps - s.cox.wd.start < s.cox.wd.wclose * 1000000 ∧ bits v 0 16 = rotl16 (s.fld Reg.COX_WDQ 0 16 ^^^
      s.cox.wd.seedAt) 3 ^^^ 0x5A3C))
    ∧ (∃ (s : State), s.cox.wd.active = true ∧ s.cox.wd.start + s.cox.wd.wclose * 1000000 ≤ s.cox.ps ∧ coxAlive s = true)
    ∧ (∃ (m : Master) (n : Nat) (v : Word) (s : State), n < enginesOf s.variant ∧ Reaches m (Reg.COX_SPEWD n) s ∧ speIdle s n = false ∧ v =
      (if (speWd s n).nextA5 then 0x000000A5 else 0x0000005A) ∧ ((speWd s n).active = true → s.fld Reg.COX_SPE_WD_WIN 0 16 * 1000000 ≤
      s.cox.ps - (speWd s n).last ∧ s.cox.ps - (speWd s n).last ≤ s.fld Reg.COX_SPE_WD_WIN 16 16 * 1000000))
    ∧ (∃ (m : Master) (n : Nat) (v : Word) (s : State), n < enginesOf s.variant ∧ Reaches m (Reg.COX_SPEWD n) s ∧ speIdle s n = false ∧ v ≠
      (if (speWd s n).nextA5 then 0x000000A5 else 0x0000005A))
    ∧ (∃ (n : Nat) (s : State), n < enginesOf s.variant ∧ (speWd s n).active = true ∧ speIdle s n = false ∧ (speWd s n).last + s.fld
      Reg.COX_SPE_WD_WIN 16 16 * 1000000 < s.cox.ps)
    ∧ (∃ (n : Nat) (s : State), n < enginesOf s.variant ∧ s.flag (Reg.LE n + 0x008) 0 = true) :=
  ⟨⟨.dma, 5, State.reset, by unfold Reaches Accepted; decide +kernel⟩,
  ⟨.dma, State.reset, by unfold Reaches; decide +kernel⟩,
  ⟨.debug, 0xdcf95a3c, { State.reset with cox := { wd := { active := true, wclose := 5 } } }, by unfold Reaches; decide +kernel⟩,
  ⟨.dma, 5, { State.reset with cox := { wd := { active := true } } }, by unfold Reaches; decide +kernel⟩,
  ⟨{ State.reset with cox := { wd := { active := true } } }, by decide +kernel⟩,
  ⟨.dma, 1, 165, (reg [(0x4005100C, 0)]), by unfold Reaches; decide +kernel⟩,
  ⟨.dma, 1, 3, (reg [(0x4005100C, 0)]), by unfold Reaches; decide +kernel⟩,
  ⟨1, { reg [(0x4005100C, 0)] with cox := { ps := 1, spe1 := { active := true } } }, by decide +kernel⟩,
  ⟨1, (reg [(0x40061008, 1)]), by decide +kernel⟩⟩

/-- Hypotheses of MemoryReads. -/
theorem witness_MemoryReads :
    (∃ (m : Master) (a : Nat) (bytes : Nat) (up : Upset) (i : MemInfo) (s : State), busUp s = true ∧ debugMay s m a false = true ∧ isRegAddr
      a = false ∧ aliasOf s.variant a = none ∧ ¬(0x60000000 ≤ a ∧ a < 0x60002000) ∧ reach s m a bytes = some i ∧ secGate m a false s =
      (true, s) ∧ underTest s (a / 4 * 4) = false ∧ foundCode s (a / 4 * 4) up = none)
    ∧ (∃ (m : Master) (a : Nat) (bytes : Nat) (up : Upset) (i : MemInfo) (s : State) (x : Nat), busUp s = true ∧ debugMay s m a false = true ∧
      isRegAddr a = false ∧ aliasOf s.variant a = none ∧ ¬(0x60000000 ≤ a ∧ a < 0x60002000) ∧ reach s m a bytes = some i ∧ secGate m a false
      s = (true, s) ∧ underTest s (a / 4 * 4) = false ∧ foundCode s (a / 4 * 4) up = some (.single x))
    ∧ (∃ (m : Master) (a : Nat) (bytes : Nat) (up : Upset) (i : MemInfo) (s : State) (e : EccState) (k : Nat) (x : Nat), busUp s = true ∧
      debugMay s m a false = true ∧ isRegAddr a = false ∧ aliasOf s.variant a = none ∧ ¬(0x60000000 ≤ a ∧ a < 0x60002000) ∧ reach s m a
      bytes = some i ∧ secGate m a false s = (true, s) ∧ underTest s (a / 4 * 4) = false ∧ foundCode s (a / 4 * 4) up = some e ∧ (e =
      EccState.uncorrectable x ∧ k = 2 ∨ e = EccState.poison ∧ k = 3 ∧ x = poisonSyn s.variant (a / 4 * 4)) ∧ detectedNow s (a / 4 * 4) =
      none)
    ∧ (∃ (m : Master) (a : Nat) (bytes : Nat) (s : State), busUp s = true ∧ debugMay s m a false = true ∧ isRegAddr a = false ∧ aliasOf
      s.variant a = none ∧ ¬(0x60000000 ≤ a ∧ a < 0x60002000) ∧ reach s m a bytes = none) :=
  ⟨⟨.spe1, 0x20100000, 4, .none, { id := 20 }, State.reset, by decide +kernel⟩,
  ⟨.spe1, 8, 4, .none, { id := 0, narrow := true }, { State.reset with ecc := [(8, (.single 0))] }, 0, by decide +kernel⟩,
  ⟨.spe1, 8, 4, .none, { id := 0, narrow := true }, { State.reset with ecc := [(8, (.uncorrectable 0))] }, .uncorrectable 0, 2, 0,
    by decide +kernel⟩,
  ⟨.spe1, 8, 3, State.reset, by decide +kernel⟩⟩

/-- Hypotheses of MemoryWritesAndAliases. -/
theorem witness_MemoryWritesAndAliases :
    (∃ (m : Master) (a : Nat) (i : MemInfo) (s : State), busUp s = true ∧ debugMay s m a true = true ∧ isRegAddr a = false ∧ aliasOf
      s.variant a = none ∧ leWriteBlocked s a = false ∧ secGate m a true s = (true, s) ∧ reach s m a 4 = some i ∧ (isSram s.variant a =
      false ∨ s.flag Reg.MEM_INJECT 31 = false))
    ∧ (∃ (m : Master) (a : Nat) (i : MemInfo) (s : State), busUp s = true ∧ debugMay s m a true = true ∧ isRegAddr a = false ∧ aliasOf
      s.variant a = none ∧ leWriteBlocked s a = false ∧ secGate m a true s = (true, s) ∧ isSram s.variant a = true ∧ s.flag Reg.MEM_INJECT
      31 = true ∧ reach s m a 4 = some i)
    ∧ (∃ (m : Master) (a : Nat) (i : MemInfo) (s : State) (n : Nat), busUp s = true ∧ debugMay s m a true = true ∧ isRegAddr a = false ∧
      aliasOf s.variant a = none ∧ leWriteBlocked s a = false ∧ secGate m a true s = (true, s) ∧ (n = 1 ∨ n = 2) ∧ reach s m a n = some i ∧
      GoodWord (a / 4 * 4) s)
    ∧ (∃ (m : Master) (a : Nat) (i : MemInfo) (s : State) (n : Nat), busUp s = true ∧ debugMay s m a true = true ∧ isRegAddr a = false ∧
      aliasOf s.variant a = none ∧ leWriteBlocked s a = false ∧ secGate m a true s = (true, s) ∧ (n = 1 ∨ n = 2) ∧ reach s m a n = some i ∧
      s.eccAt (a / 4 * 4) = some .poison)
    ∧ (∃ (m : Master) (a : Nat) (s : State), busUp s = true ∧ (∀ b w, debugMay s m b w = true) ∧ a < sramKiB s.variant * 1024 ∧ a % 4 = 0 ∧
      s.sec.scrapped = false ∧ GoodWord a s ∧ s.flag Reg.MEM_INJECT 31 = false)
    ∧ (∃ (m : Master) (a : Nat) (s : State), busUp s = true ∧ (∀ b w, debugMay s m b w = true) ∧ a < sramKiB s.variant * 1024 ∧ a % 4 = 0 ∧
      s.sec.scrapped = false ∧ s.eccAt a = some .poison) :=
  ⟨⟨.dma, 0x20000000, { id := 16 }, State.reset, by decide +kernel⟩,
  ⟨.host, 4, { id := 0, narrow := true }, (reg [(0x40020050, 0x80000000)]), by decide +kernel⟩,
  ⟨.host, 4, { id := 0, narrow := true }, State.reset, 1, by unfold GoodWord; decide +kernel⟩,
  ⟨.host, 4, { id := 0, narrow := true }, { State.reset with ecc := [(4, .poison)] }, 1, by decide +kernel⟩,
  ⟨.host, 0, State.reset, by decide +kernel, fun _ _ => rfl, by decide +kernel, by decide +kernel, by decide +kernel,
    by unfold GoodWord; decide +kernel, by decide +kernel⟩,
  ⟨.host, 0, { State.reset with ecc := [(0, .poison)] }, by decide +kernel, fun _ _ => rfl, by decide +kernel⟩⟩

/-- Hypotheses of MemoryServiceAndSkimmer. -/
theorem witness_MemoryServiceAndSkimmer :
    (∃ (s : State), frozen s 0x20 = false ∧ busUp s = true)
    ∧ (∃ (who : Nat) (bank : Nat) (s : State), frozen s 0x20 = false ∧ busUp s = true ∧ who < 16 ∧ bank < 256)
    ∧ (∃ (m : Master) (s : State), Reaches m Reg.MEM_INJECT s ∧ holdsOpening s 0x20 m = true)
    ∧ (∃ (m : Master) (s : State), Reaches m Reg.MEM_INJECT s ∧ holdsOpening s 0x20 m = false)
    ∧ (∃ (m : Master) (k : Nat) (limit : Bool) (v : Word) (w : Word) (a : Nat) (s : State), k < 32 ∧ w = storeValue (defOf .mem (if limit then
      0x104 else 0x100)) (s.rd a) v ∧ a = (if limit then Reg.MEM_RMAP_LIMIT k else Reg.MEM_RMAP_BASE k) ∧ Reaches m a s ∧ cfgLocked s 0x20 =
      false ∧ (safeLocked s 0x20 = false ∨ safetyKept s (s.wr a w) = true))
    ∧ (∃ (m : Master) (k : Nat) (limit : Bool) (v : Word) (w : Word) (a : Nat) (s : State), k < 32 ∧ w = storeValue (defOf .mem (if limit then
      0x104 else 0x100)) (s.rd a) v ∧ a = (if limit then Reg.MEM_RMAP_LIMIT k else Reg.MEM_RMAP_BASE k) ∧ Reaches m a s ∧ cfgLocked s 0x20 =
      false ∧ safeLocked s 0x20 = true ∧ safetyKept s (s.wr a w) = false)
    ∧ (∃ (i : Nat) (r : SkimRun) (s : State), frozen s 33 = false ∧ skimOn s = true ∧ s.skim.inHand = none ∧ (s.skim.anew = true ∨
      s.skim.lastStart + s.fld Reg.SKIM_INTERVAL 0 16 ≤ s.now) ∧ nextRun s s.skim.memIdx = some (i, r) ∧ (r.en ≠ 5 ∨ s.sec.wipeStart = none)
      ∧ s.ecc = [])
    ∧ (∃ (s : State), frozen s 33 = false ∧ skimOn s = true ∧ s.skim.inHand = none ∧ s.skim.fresh = false ∧ (s.skim.anew = true ∨
      s.skim.lastStart + s.fld Reg.SKIM_INTERVAL 0 16 ≤ s.now) ∧ nextRun s s.skim.memIdx = none ∧ nextRun s 0 = none)
    ∧ (∃ (a : Nat) (r : SkimRun) (s : State), frozen s 33 = false ∧ s.skim.inHand = some a ∧ s.memctl.writeBack = [] ∧ s.skim.fresh = false ∧
      (skimRuns s.variant)[s.skim.memIdx]? = some r ∧ s.flag Reg.SKIM_CFG r.en = true ∧ 64 * (s.skim.block + 1) < r.size)
    ∧ (∃ (a : Nat) (r : SkimRun) (s : State), frozen s 33 = false ∧ s.skim.inHand = some a ∧ s.memctl.writeBack = [] ∧ s.skim.fresh = false ∧
      (skimRuns s.variant)[s.skim.memIdx]? = some r ∧ s.flag Reg.SKIM_CFG r.en = true ∧ r.size ≤ 64 * (s.skim.block + 1) ∧ nextRun s
      (s.skim.memIdx + 1) = none)
    ∧ (∃ (s : State), coxState s = 3 ∧ s.skim.limitFrom + passLimit (s.fld Reg.SKIM_CFG 9 3) * 0xBEBC200 < s.now)
    ∧ (∃ (s : State), coxState s ≠ 3 ∨ s.now ≤ s.skim.limitFrom + passLimit (s.fld Reg.SKIM_CFG 9 3) * 0xBEBC200) :=
  ⟨⟨State.reset, by decide +kernel⟩,
  ⟨4, 4, State.reset, by decide +kernel⟩,
  ⟨.dma, { State.reset with pages := { keys := [(32, (.opened 1 0))] } }, by unfold Reaches; decide +kernel⟩,
  ⟨.dma, State.reset, by unfold Reaches; decide +kernel⟩,
  ⟨.dma, 3, true, 4, 0, 0x4002011c, State.reset, by unfold Reaches; decide +kernel⟩,
  ⟨.host, 0, true, 0, 0, 0x40020104, (reg [(0x40020028, 2), (0x40020100, 1), (0x40020104, 1)]), by decide +kernel, by decide +kernel,
    by decide +kernel, by unfold Reaches; decide +kernel, by decide +kernel⟩,
  ⟨0, { base := 0, size := 0x80000, en := 0 }, (reg [(0x40021008, 1)]), by decide +kernel⟩,
  ⟨{ reg [(0x40021008, 1), (0x40021040, 0)] with skim := { fresh := false } }, by decide +kernel⟩,
  ⟨0, ⟨0, 0x80000, 0⟩, { State.reset with skim := { inHand := some 0, fresh := false } }, by decide +kernel⟩,
  ⟨0x30003FC0, ⟨0x30000000, 0x4000, 5⟩,
    { reg [(0x40021040, 0x20)] with skim := { memIdx := 17, block := 255, inHand := some 0x30003FC0, fresh := false } }, by decide +kernel⟩,
  ⟨{ reg [(0x4001000C, 0x30)] with now := 4000000000000 }, by decide +kernel⟩,
  ⟨State.reset, by decide +kernel⟩⟩

/-- Hypotheses of SecureMemoryAndOtp. -/
theorem witness_SecureMemoryAndOtp :
    (∃ (m : Master) (off : Nat) (a : Nat) (w : Bool) (s : State), a = 0x30000000 + off % 0x4000 ∧ a % 4 = 0 ∧ busUp s = true ∧ debugMay s m
      a w = true ∧ secClosed s = true)
    ∧ (∃ (m : Master) (off : Nat) (a : Nat) (w : Bool) (s : State), a = 0x30000000 + off % 0x4000 ∧ a % 4 = 0 ∧ busUp s = true ∧ debugMay s m
      a w = true ∧ secClosed s = false ∧ slotGrants s m a w = false)
    ∧ (∃ (m : Master) (off : Nat) (a : Nat) (w : Bool) (s : State), a = 0x30000000 + off % 0x4000 ∧ a % 4 = 0 ∧ busUp s = true ∧ debugMay s m
      a w = true ∧ secClosed s = false ∧ slotGrants s m a w = true ∧ GoodWord a s ∧ w = false)
    ∧ (∃ (m : Master) (off : Nat) (a : Nat) (w : Bool) (s : State), a = 0x30000000 + off % 0x4000 ∧ a % 4 = 0 ∧ busUp s = true ∧ debugMay s m
      a w = true ∧ secClosed s = false ∧ slotGrants s m a w = true ∧ GoodWord a s ∧ w = true)
    ∧ (∃ (m : Master) (v : Word) (off : Nat) (s : State), off = s.fld Reg.OTP_PROG_ADDR 2 11 * 4 ∧ Reaches m Reg.OTP_PROG_CMD s ∧ holdsOpening
      s 0x23 m = true ∧ s.otp.prog = none ∧ s.fld Reg.PWR_STATE 0 3 = 0 ∧ v = 0x00000F5E ∧ progCause s off (s.rd Reg.OTP_PROG_DATA) = 0)
    ∧ (∃ (m : Master) (v : Word) (off : Nat) (s : State) (c : Nat), off = s.fld Reg.OTP_PROG_ADDR 2 11 * 4 ∧ Reaches m Reg.OTP_PROG_CMD s ∧
      holdsOpening s 0x23 m = true ∧ s.otp.prog = none ∧ s.fld Reg.PWR_STATE 0 3 = 0 ∧ v = 0x00000F5E ∧ progCause s off (s.rd
      Reg.OTP_PROG_DATA) = c + 1)
    ∧ (∃ (m : Master) (v : Word) (off : Nat) (s : State), off = s.fld Reg.OTP_PROG_ADDR 2 11 * 4 ∧ Reaches m Reg.OTP_PROG_CMD s ∧ holdsOpening
      s 0x23 m = true ∧ s.otp.prog = none ∧ s.fld Reg.PWR_STATE 0 3 = 0 ∧ v ≠ 0x00000F5E)
    ∧ (∃ (g : OtpProg) (s : State), frozen s 0x23 = false ∧ s.otp.prog = some g ∧ s.sec.lc = .idle) :=
  ⟨⟨.debug, 0, 0x30000000, true, { State.reset with sec := { wipeFailed := true } }, by decide +kernel⟩,
  ⟨.debug, 0, 0x30000000, false, State.reset, by decide +kernel⟩,
  ⟨.spe1, 4, 0x30000004, false, State.reset, by unfold GoodWord; decide +kernel⟩,
  ⟨.spe1, 4, 0x30000004, true, State.reset, by unfold GoodWord; decide +kernel⟩,
  ⟨.host, 3934, 3072, { reg [(0x40023040, 3072)] with pages := { keys := [(35, (.opened 0 0))] } }, by unfold Reaches; decide +kernel⟩,
  ⟨.dma, 3934, 0, { State.reset with pages := { keys := [(35, (.opened 1 0))] } }, 0, by unfold Reaches; decide +kernel⟩,
  ⟨.dma, 3935, 0, { State.reset with pages := { keys := [(35, (.opened 1 0))] } }, by unfold Reaches; decide +kernel⟩,
  ⟨{ off := 2, value := 0 }, { State.reset with otp := { prog := (some { off := 2, value := 0 }) } }, by decide +kernel⟩⟩

/-- Hypotheses of LifeCycleAndWipes. -/
theorem witness_LifeCycleAndWipes :
    (∃ (m : Master) (v : Word) (s : State), Reaches m Reg.SEC_LC_REQ s ∧ holdsOpening s 0x22 m = true ∧ lcCause s (bits v 0 3) = 0)
    ∧ (∃ (m : Master) (v : Word) (s : State) (c : Nat), Reaches m Reg.SEC_LC_REQ s ∧ holdsOpening s 0x22 m = true ∧ lcCause s (bits v 0 3) = c
      + 1)
    ∧ (∃ (k : Nat) (s : State), frozen s 34 = false ∧ s.sec.lc = LcPhase.programming k)
    ∧ (∃ (m : Master) (v : Word) (s : State), Reaches m Reg.SEC_WIPE s ∧ holdsOpening s 0x22 m = true ∧ v = 0x00005EC0 ∧ s.sec.wipeStart =
      none)
    ∧ (∃ (m : Master) (v : Word) (s : State), Reaches m Reg.SEC_WIPE s ∧ holdsOpening s 0x22 m = true ∧ v = 0x00005EC0 ∧ s.sec.wipeStart ≠
      none)
    ∧ (∃ (m : Master) (v : Word) (s : State), Reaches m Reg.SEC_WIPE s ∧ holdsOpening s 0x22 m = true ∧ v ≠ 0x00005EC0)
    ∧ (∃ (s : State), frozen s 0x22 = false ∧ s.sec.wipeStart ≠ none) :=
  ⟨⟨.spe0, 116, { State.reset with pages := { keys := [(34, (.opened 2 0))] } }, by unfold Reaches; decide +kernel⟩,
  ⟨.dma, 15, { State.reset with pages := { keys := [(34, (.opened 1 0))] } }, 0, by unfold Reaches; decide +kernel⟩,
  ⟨2, { State.reset with sec := { lc := (.programming 2) }, otp := { prog := (some { off := 0, value := 4 }) } }, by decide +kernel⟩,
  ⟨.dma, 0x5ec0, { State.reset with pages := { keys := [(34, (.opened 1 0))] } }, by unfold Reaches; decide +kernel⟩,
  ⟨.spe0, 0x5ec0, { State.reset with pages := { keys := [(34, (.opened 2 0x99eef75b))] }, sec := { wipeStart := (some 0x4737f) } },
    by unfold Reaches; decide +kernel⟩,
  ⟨.dma, 0x5ec1, { State.reset with pages := { keys := [(34, (.opened 1 0))] } }, by unfold Reaches; decide +kernel⟩,
  ⟨{ State.reset with sec := { wipeStart := (some 0x187ba) } }, by decide +kernel⟩⟩

/-- Hypotheses of TamperAndDebug. -/
theorem witness_TamperAndDebug :
    (∃ (b : Nat) (s : State), b < 5 ∧ tamperSeen s b = true ∧ busUp s = true ∧ s.power.aonLost = false ∧ s.fld Reg.PWR_STATE 0 3 ≤ 2)
    ∧ (∃ (b : Nat) (s : State), b < 5 ∧ b = 0 ∧ s.power.phase = PwrPhase.steady ∧ s.power.aonLost = false ∧ s.fld Reg.PWR_STATE 0 3 = 3)
    ∧ (∃ (b : Nat) (s : State), b < 5 ∧ b = 0 ∧ s.power.phase = PwrPhase.steady ∧ s.power.aonLost = false ∧ s.fld Reg.PWR_STATE 0 3 = 4)
    ∧ (∃ (b : Nat), b < 5)
    ∧ (∃ (m : Master) (s : State), Reaches m Reg.SEC_TAMPER_STAT s)
    ∧ (∃ (s : State), busUp s = true ∧ debugLocked s = true)
    ∧ (∃ (key : List Byte) (sig : List Byte) (s : State), busUp s = true ∧ debugLocked s = true ∧ s.fld Reg.PWR_STATE 0 3 ≤ 2 ∧ unlockCause s
      key sig = 1)
    ∧ (∃ (key : List Byte) (sig : List Byte) (s : State), busUp s = true ∧ debugLocked s = true ∧ s.fld Reg.PWR_STATE 0 3 ≤ 2 ∧ 2 ≤
      unlockCause s key sig) :=
  ⟨⟨0, State.reset, by decide +kernel⟩,
  ⟨0, (reg [(Reg.PWR_STATE, 3)]), by decide +kernel⟩,
  ⟨0, (reg [(Reg.PWR_STATE, 4)]), by decide +kernel⟩,
  ⟨4, by decide +kernel⟩,
  ⟨.dma, State.reset, by unfold Reaches; decide +kernel⟩,
  ⟨(reg [(0x40022040, 2)]), by decide +kernel⟩,
  ⟨[], [], (reg [(0x40022040, 2)]), by decide +kernel⟩,
  (by
    refine ⟨[], [], { reg [(0x40022040, 2), (0x4001000C, 0x24)] with otp := { words := [(0x340, 0x100)] } }, by decide +kernel,
      by decide +kernel, by decide +kernel, ?_⟩
    unfold unlockCause
    rw [if_neg (by decide +kernel), if_neg (by decide +kernel)]
    split
    · decide
    · rw [if_pos (by decide +kernel)]
      decide)⟩

/-- Hypotheses of QueuePushAndPop. -/
theorem witness_QueuePushAndPop :
    (∃ (m : Master) (q : Nat) (s : State), ReachesQueue m q 0x00 true s ∧ s.fld (qAddr q 0x10) 8 8 ≠ 0)
    ∧ (∃ (m : Master) (q : Nat) (s : State), ReachesQueue m q 0 true s ∧ s.fld (qAddr q 16) 8 8 = 0 ∧ ((queue s q).pktOpen = false ∨ (queue s
      q).pktLen < 0xFFFF) ∧ qRefuses (qPrepare q s) q = false)
    ∧ (∃ (m : Master) (q : Nat) (s : State), ReachesQueue m q 0 true s ∧ s.fld (qAddr q 16) 8 8 = 0 ∧ ((queue s q).pktOpen = false ∨ (queue s
      q).pktLen < 0xFFFF) ∧ qRefuses (qPrepare q s) q = true)
    ∧ (∃ (m : Master) (q : Nat) (s : State) (x : State), ReachesQueue m q 4 false s ∧ x = qReady q ((queue s q).depth + 1) s ∧ s.fld (qAddr q
      16) 16 8 ≠ 0)
    ∧ (∃ (m : Master) (q : Nat) (s : State) (x : State), ReachesQueue m q 4 false s ∧ x = qReady q ((queue s q).depth + 1) s ∧ s.fld (qAddr q
      16) 16 8 = 0 ∧ (queue s q).lengthLost = true)
    ∧ (∃ (m : Master) (q : Nat) (s : State) (x : State), ReachesQueue m q 4 false s ∧ x = qReady q ((queue s q).depth + 1) s ∧ s.fld (qAddr q
      16) 16 8 = 0 ∧ (queue s q).lengthLost = false ∧ (qEnabled s q = false ∨ (queue s q).flushing = true))
    ∧ (∃ (m : Master) (q : Nat) (s : State) (x : State), ReachesQueue m q 4 false s ∧ x = qReady q ((queue s q).depth + 1) s ∧ s.fld (qAddr q
      16) 16 8 = 0 ∧ (queue s q).lengthLost = false ∧ qEnabled s q = true ∧ (queue s q).flushing = false ∧ (∀ (w : QWord), w ∈ (queue s
      q).head → w.abandoned = false) ∧ kept (queue s q).words = [])
    ∧ (∃ (m : Master) (q : Nat) (s : State) (x : State), ReachesQueue m q 4 false s ∧ x = qReady q ((queue s q).depth + 1) s ∧ s.fld (qAddr q
      16) 16 8 = 0 ∧ (queue s q).lengthLost = false ∧ qEnabled s q = true ∧ (queue s q).flushing = false ∧ (∀ (w : QWord), w ∈ (queue s
      q).head → w.abandoned = false) ∧ s.ecc = [])
    ∧ (∃ (m : Master) (q : Nat) (s : State) (x : State), ReachesQueue m q 4 false s ∧ x = qReady q ((queue s q).depth + 1) s ∧ s.fld (qAddr q
      16) 16 8 = 0 ∧ (queue s q).lengthLost = false ∧ qEnabled s q = true ∧ (queue s q).flushing = false ∧ ∀ (w : QWord), w ∈ (queue s
      q).head → w.abandoned = false)
    ∧ (∃ (m : Master) (q : Nat) (s : State) (x : State) (w : QWord) (r : List QWord), ReachesQueue m q 4 false s ∧ x = qReady q ((queue s
      q).depth + 1) s ∧ s.fld (qAddr q 16) 16 8 = 0 ∧ (queue s q).lengthLost = false ∧ qEnabled s q = true ∧ (queue s q).flushing = false ∧
      (∀ (w : QWord), w ∈ (queue s q).head → w.abandoned = false) ∧ kept (queue x q).words = w :: r ∧ w.reserved = true)
    ∧ (∃ (m : Master) (q : Nat) (s : State) (x : State) (w : QWord) (r : List QWord), ReachesQueue m q 4 false s ∧ x = qReady q ((queue s
      q).depth + 1) s ∧ s.fld (qAddr q 16) 16 8 = 0 ∧ (queue s q).lengthLost = false ∧ qEnabled s q = true ∧ (queue s q).flushing = false ∧
      (∀ (w : QWord), w ∈ (queue s q).head → w.abandoned = false) ∧ kept (queue x q).words = w :: r ∧ w.reserved = false ∧ badLength w =
      true)
    ∧ (∃ (m : Master) (q : Nat) (s : State) (x : State) (w : QWord) (r : List QWord), ReachesQueue m q 4 false s ∧ x = qReady q ((queue s
      q).depth + 1) s ∧ s.fld (qAddr q 16) 16 8 = 0 ∧ (queue s q).lengthLost = false ∧ qEnabled s q = true ∧ (queue s q).flushing = false ∧
      (∀ (w : QWord), w ∈ (queue s q).head → w.abandoned = false) ∧ kept (queue x q).words = w :: r ∧ w.reserved = false ∧ badLength w =
      false) :=
  ⟨⟨.dma, 1, (reg [(0x40041090, 256)]), by unfold ReachesQueue; decide +kernel⟩,
  ⟨.dma, 1, (reg [(0x40040008, 1), (0x40041090, 1)]), by unfold ReachesQueue; decide +kernel⟩,
  ⟨.dma, 1, State.reset, by unfold ReachesQueue; decide +kernel⟩,
  ⟨.dma, 1, (reg [(0x40041090, 0x20000)]), _, by unfold ReachesQueue; decide +kernel, rfl, by decide +kernel⟩,
  ⟨.dma, 1, { State.reset with queues := [(1, { lengthLost := true })] }, _, by unfold ReachesQueue; decide +kernel, rfl, by decide +kernel⟩,
  ⟨.dma, 1, State.reset, _, by unfold ReachesQueue; decide +kernel, rfl, by decide +kernel⟩,
  ⟨.dma, 1, (reg [(0x40040008, 1), (0x40041090, 1)]), _, by unfold ReachesQueue; decide +kernel, rfl, by decide +kernel⟩,
  ⟨.dma, 1, (reg [(0x40040008, 1), (0x40041090, 1)]), _, by unfold ReachesQueue; decide +kernel, rfl, by decide +kernel⟩,
  ⟨.dma, 1, (reg [(0x40040008, 1), (0x40041090, 1)]), _, by unfold ReachesQueue; decide +kernel, rfl, by decide +kernel⟩,
  ⟨.spe1, 4, { reg [(0x40040008, 1), (0x40041210, 1)] with queues := [(4, { head := [{ data := 0, reserved := true }] })] }, _,
    { data := 0, reserved := true }, [], by unfold ReachesQueue; decide +kernel, rfl, by decide +kernel⟩,
  ⟨.host, 1, { reg [(0x40040008, 1), (0x40041090, 1)] with queues := [(1, { head := [{ data := 2, length := true }] })] }, _,
    { data := 2, length := true }, [], by unfold ReachesQueue; decide +kernel, rfl, by decide +kernel⟩,
  ⟨.spe1, 4, { reg [(0x40040008, 1), (0x40041210, 1)] with queues := [(4, { head := [{ data := 0 }] })] }, _, { data := 0 }, [],
    by unfold ReachesQueue; decide +kernel, rfl, by decide +kernel⟩⟩

/-- Hypotheses of QueueMovesAndPackets. -/
theorem witness_QueueMovesAndPackets :
    (∃ (q : Nat) (s : State) (w : QWord) (r : List QWord), busUp s = true ∧ queuePresent s q = true ∧ qEnabled s q = true ∧ (queue s
      q).flushing = false ∧ frozen s 0x40 = false ∧ (queue s q).tail = w :: r ∧ w.abandoned = false ∧ (queue s q).middle = [] ∧ (queue s
      q).head.length < 8)
    ∧ (∃ (q : Nat) (s : State) (w : QWord) (r : List QWord) (x : QWord) (l : List QWord), busUp s = true ∧ queuePresent s q = true ∧ qEnabled
      s q = true ∧ (queue s q).flushing = false ∧ frozen s 64 = false ∧ (queue s q).tail = w :: r ∧ w.abandoned = false ∧ (queue s q).middle
      = [] ∧ (queue s q).head.length < 8 ∧ (queue s q).head = x :: l)
    ∧ (∃ (q : Nat) (s : State), busUp s = true ∧ queuePresent s q = true ∧ qEnabled s q = true ∧ (queue s q).flushing = false ∧ frozen s 64 =
      false ∧ 4 ≤ (queue s q).tail.length ∧ ((queue s q).middle ≠ [] ∨ 8 ≤ (queue s q).head.length) ∧ (queue s q).middle.length < 256 *
      qSize s q)
    ∧ (∃ (q : Nat) (s : State), busUp s = true ∧ queuePresent s q = true ∧ qEnabled s q = true ∧ (queue s q).flushing = false ∧ frozen s 64 =
      false ∧ (queue s q).head.length ≤ 4 ∧ (queue s q).middle ≠ [] ∧ s.ecc = [])
    ∧ (∃ (q : Nat) (s : State) (w : QWord) (r : List QWord) (a : Nat), busUp s = true ∧ queuePresent s q = true ∧ qEnabled s q = true ∧ (queue
      s q).flushing = false ∧ frozen s 64 = false ∧ (queue s q).head.length ≤ 4 ∧ (queue s q).middle = w :: r ∧ w.abandoned = false ∧ s.ecc
      = [] ∧ s.skim.inHand = none ∧ detectedNow s a = none ∧ a = vatWordAddr s q (queue s q).midStart)
    ∧ (∃ (q : Nat) (s : State) (w : QWord) (r : List QWord) (a : Nat), busUp s = true ∧ queuePresent s q = true ∧ qEnabled s q = true ∧ (queue
      s q).flushing = false ∧ frozen s 64 = false ∧ (queue s q).head.length ≤ 4 ∧ (queue s q).middle = w :: r ∧ w.abandoned = false ∧ s.ecc
      = [] ∧ s.skim.inHand = none ∧ detectedNow s a = none ∧ a = vatWordAddr s q (queue s q).midStart ∧ r = [])
    ∧ (∃ (m : Master) (q : Nat) (s : State), ReachesQueue m q 0x1C true s ∧ s.flag (qAddr q 0x10) 1 = true ∧ (queue s q).pktOpen = false ∧
      qRefuses (qPrepare q s) q = false)
    ∧ (∃ (m : Master) (q : Nat) (s : State), ReachesQueue m q 0x1C true s ∧ s.flag (qAddr q 0x10) 1 = true ∧ (queue s q).pktOpen = true)
    ∧ (∃ (m : Master) (q : Nat) (s : State), ReachesQueue m q 0x1C true s ∧ (s.flag (qAddr q 0x10) 1 = false ∨ (queue s q).pktOpen = false))
    ∧ (∃ (m : Master) (q : Nat) (s : State), ReachesQueue m q 28 true s)
    ∧ (∃ (q : Nat) (s : State), busUp s = true ∧ queuePresent s q = true ∧ frozen s 0x40 = false ∧ (queue s q).flushing = true) :=
  ⟨⟨0, { reg [(0x40040008, 1), (0x40041010, 1)] with queues := [(0, { tail := [{ data := 4 }] })] }, { data := 4 }, [], by decide +kernel⟩,
  ⟨0, { reg [(0x40040008, 1), (0x40041010, 1)] with queues := [(0, { tail := [{ data := 4 }], head := [{ data := 1 }] })] }, { data := 4 },
    [], { data := 1 }, [], by decide +kernel⟩,
  ⟨1,
    { reg [(0x40040008, 1), (0x40041090, 1), (0x40041094, 0x40000)] with queues := [(1, { middle := [{ data := 0x811824, reserved := true }], tail := [{ data := 0x100a0040 }, { data := 0x8000000, abandoned := true }, { data := 0x80000000 }, { data := 2048 }] })] },
    by decide +kernel⟩,
  ⟨1,
    { reg [(0x40040008, 1), (0x40041090, 1), (0x40041094, 0x40000)] with queues := [(1, { middle := [{ data := 0x811824, reserved := true }], tail := [{ data := 0x100a0040 }, { data := 0x8000000, abandoned := true }, { data := 0x80000000 }, { data := 2048 }] })] },
    by decide +kernel⟩,
  ⟨1, { reg [(0x40040008, 1), (0x40041090, 1)] with queues := [(1, { middle := [{ data := 2 }] })] }, { data := 2 }, [], _, and_four
    (by decide +kernel) (and_four (by decide +kernel) ⟨by decide +kernel, by decide +kernel, rfl, rfl⟩)⟩,
  ⟨1, { reg [(0x40040008, 1), (0x40041090, 1)] with queues := [(1, { middle := [{ data := 2 }] })] }, { data := 2 }, [], _, and_four
    (by decide +kernel) (and_four (by decide +kernel) ⟨by decide +kernel, by decide +kernel, by decide +kernel, rfl, rfl⟩)⟩,
  ⟨.dma, 1, (reg [(0x40040008, 1), (0x40041090, 3)]), by unfold ReachesQueue; decide +kernel⟩,
  ⟨.dma, 1, { reg [(0x40041090, 2)] with queues := [(1, { pktOpen := true })] }, by unfold ReachesQueue; decide +kernel⟩,
  ⟨.dma, 1, State.reset, by unfold ReachesQueue; decide +kernel⟩,
  ⟨.dma, 1, (reg [(0x40040008, 1), (0x40041090, 3)]), by unfold ReachesQueue; decide +kernel⟩,
  ⟨4, { State.reset with queues := [(4, { flushing := true })] }, by decide +kernel⟩⟩

/-- Hypotheses of QueueConfiguration. -/
theorem witness_QueueConfiguration :
    (∃ (m : Master) (q : Nat) (v : Word) (new : Word) (s : State), ReachesQueue m q 0x14 true s ∧ new = storeValue (queueDef 0x14) (s.rd
      (qAddr q 0x14)) v ∧ cfgLocked s 0x40 = true)
    ∧ (∃ (m : Master) (q : Nat) (v : Word) (new : Word) (s : State), ReachesQueue m q 0x14 true s ∧ new = storeValue (queueDef 0x14) (s.rd
      (qAddr q 0x14)) v ∧ cfgLocked s 0x40 = false ∧ (qEnabled s q = true ∨ (queue s q).depth ≠ 0))
    ∧ (∃ (m : Master) (q : Nat) (v : Word) (new : Word) (s : State), ReachesQueue m q 0x14 true s ∧ new = storeValue (queueDef 0x14) (s.rd
      (qAddr q 0x14)) v ∧ cfgLocked s 0x40 = false ∧ qEnabled s q = false ∧ (queue s q).depth = 0 ∧ (bits new 16 11 ≠ 0 ∧ ∃ p, p < queuesOf
      s.variant ∧ p ≠ q ∧ qSize s p ≠ 0 ∧ overlap (bits new 0 11) (bits new 16 11) (qBase s p) (qSize s p) = true))
    ∧ (∃ (m : Master) (q : Nat) (v : Word) (new : Word) (s : State), ReachesQueue m q 0x14 true s ∧ new = storeValue (queueDef 0x14) (s.rd
      (qAddr q 0x14)) v ∧ cfgLocked s 0x40 = false ∧ qEnabled s q = false ∧ (queue s q).depth = 0 ∧ (bits new 16 11 = 0 ∨ ∀ p, p < queuesOf
      s.variant → p ≠ q → qSize s p ≠ 0 → overlap (bits new 0 11) (bits new 16 11) (qBase s p) (qSize s p) = false) ∧ bits new 16 11 ≠ 0 ∧
      vatKiB s.variant < bits new 0 11 + bits new 16 11)
    ∧ (∃ (m : Master) (q : Nat) (v : Word) (new : Word) (s : State), ReachesQueue m q 0x14 true s ∧ new = storeValue (queueDef 0x14) (s.rd
      (qAddr q 0x14)) v ∧ cfgLocked s 0x40 = false ∧ qEnabled s q = false ∧ (queue s q).depth = 0 ∧ (bits new 16 11 = 0 ∨ ∀ p, p < queuesOf
      s.variant → p ≠ q → qSize s p ≠ 0 → overlap (bits new 0 11) (bits new 16 11) (qBase s p) (qSize s p) = false) ∧ (bits new 16 11 = 0 ∨
      bits new 0 11 + bits new 16 11 ≤ vatKiB s.variant))
    ∧ (∃ (m : Master) (q : Nat) (v : Word) (new : Word) (s : State), ReachesQueue m q 0x10 true s ∧ new = storeValue (queueDef 0x10) (s.rd
      (qAddr q 0x10)) v ∧ cfgLocked s 0x40 = true)
    ∧ (∃ (m : Master) (q : Nat) (v : Word) (new : Word) (s : State), ReachesQueue m q 0x10 true s ∧ new = storeValue (queueDef 0x10) (s.rd
      (qAddr q 0x10)) v ∧ cfgLocked s 0x40 = false ∧ bits (s.rd (qAddr q 0x10)) 8 16 ≠ bits new 8 16 ∧ (qEnabled s q = true ∨ bindingOk s q
      new = false))
    ∧ (∃ (m : Master) (q : Nat) (v : Word) (new : Word) (s : State), ReachesQueue m q 0x10 true s ∧ new = storeValue (queueDef 0x10) (s.rd
      (qAddr q 0x10)) v ∧ cfgLocked s 0x40 = false ∧ bits (s.rd (qAddr q 0x10)) 8 16 = bits new 8 16 ∧ bit (s.rd (qAddr q 0x10)) 1 ≠ bit new
      1 ∧ (qEnabled s q = true ∨ (queue s q).depth ≠ 0))
    ∧ (∃ (m : Master) (q : Nat) (v : Word) (new : Word) (s : State), ReachesQueue m q 0x10 true s ∧ new = storeValue (queueDef 0x10) (s.rd
      (qAddr q 0x10)) v ∧ cfgLocked s 0x40 = false ∧ (bits (s.rd (qAddr q 0x10)) 8 16 = bits new 8 16 ∨ (qEnabled s q = false ∧ bindingOk s
      q new = true)) ∧ (bit (s.rd (qAddr q 0x10)) 1 = bit new 1 ∨ (qEnabled s q = false ∧ (queue s q).depth = 0))) :=
  ⟨⟨.dma, 1, 3, 3, (reg [(0x40040028, 1)]), by unfold ReachesQueue; decide +kernel⟩,
  ⟨.spe1, 0, 5, 5, { State.reset with queues := [(0, { head := [{ data := 4 }] })] }, by unfold ReachesQueue; decide +kernel⟩,
  ⟨.dma, 1, 0x30001, 0x30001, (reg [(0x40041014, 0x40000)]), by unfold ReachesQueue; decide +kernel⟩,
  ⟨.dma, 1, 0x7ff07ff, 0x7ff07ff, State.reset, by unfold ReachesQueue; decide +kernel⟩,
  ⟨.dma, 1, 3, 3, State.reset, by unfold ReachesQueue; decide +kernel⟩,
  ⟨.dma, 1, 3, 3, (reg [(0x40040028, 1)]), by unfold ReachesQueue; decide +kernel⟩,
  ⟨.dma, 1, 278, 262, State.reset, by unfold ReachesQueue; decide +kernel⟩,
  ⟨.dma, 3, 63, 7, { State.reset with queues := [(3, { head := [{ data := 4 }] })] }, by unfold ReachesQueue; decide +kernel⟩,
  ⟨.dma, 1, 3, 3, State.reset, by unfold ReachesQueue; decide +kernel⟩⟩

/-- Hypotheses of QueueCountersBalance. -/
theorem witness_QueueCountersBalance :
    ∃ (q : Nat) (s : State), q < 256 ∧ QueueBalanced q s :=
  ⟨0, State.reset, by unfold QueueBalanced; decide +kernel⟩

/-- Hypotheses of HostTransactions. -/
theorem witness_HostTransactions :
    (∃ (s : State), frozen s 48 = false ∧ s.boot.controller = false ∧ s.host.csLow = false ∧ s.fld Reg.PWR_STATE 0 3 ≠ 3 ∧ enteringWith s 3
      3 8 = false)
    ∧ (∃ (s : State) (u : State) (op : Nat) (len : Nat) (addr : Nat) (seq : Nat) (fl : Nat) (b : Nat) (k : Nat) (data : List HpBurst) (whole :
      Bool) (crc : BitVec 16) (h : HpHeader) (c : Instr), frozen s 48 = false ∧ s.host.csLow = true ∧ s.host.cur = none ∧ busUp s = true ∧
      s.boot.controller = false ∧ u = { s with host := { s.host with status := statusBytes s, quietSince := s.now } } ∧ h =
      { op := op % 256, len := len % 256, addr := addr % 2 ^ 32, seq := seq % 256, flags := fl % 256 } ∧ (op = 16 ∧ c = Instr.hpRead len
      addr seq fl crc b k ∨ op = 17 ∧ c = Instr.hpReadFixed len addr seq fl crc b k ∨ op = 32 ∧ c = Instr.hpWrite len addr seq fl crc data ∨
      op = 33 ∧ c = Instr.hpWriteFixed len addr seq fl crc data ∨ ¬op % 256 ∈ [16, 17, 32, 33] ∧ c = Instr.hpNop op len addr seq fl
      { crc := crc, whole := whole }) ∧ crc16 (headerBytes h) ≠ crc)
    ∧ (∃ (s : State) (u : State) (op : Nat) (len : Nat) (addr : Nat) (seq : Nat) (fl : Nat) (b : Nat) (k : Nat) (data : List HpBurst) (whole :
      Bool) (crc : BitVec 16) (h : HpHeader) (c : Instr), frozen s 48 = false ∧ s.host.csLow = true ∧ s.host.cur = none ∧ busUp s = true ∧
      s.boot.controller = false ∧ u = { s with host := { s.host with status := statusBytes s, quietSince := s.now } } ∧ h =
      { op := op % 256, len := len % 256, addr := addr % 2 ^ 32, seq := seq % 256, flags := fl % 256 } ∧ (op = 16 ∧ c = Instr.hpRead len
      addr seq fl crc b k ∨ op = 17 ∧ c = Instr.hpReadFixed len addr seq fl crc b k ∨ op = 32 ∧ c = Instr.hpWrite len addr seq fl crc data ∨
      op = 33 ∧ c = Instr.hpWriteFixed len addr seq fl crc data ∨ ¬op % 256 ∈ [16, 17, 32, 33] ∧ c = Instr.hpNop op len addr seq fl
      { crc := crc, whole := whole }) ∧ crc16 (headerBytes h) = crc ∧ badHeader h = true ∧ isRetry s h = false ∧ op % 256 ∈ [16, 17, 32,
      33])
    ∧ (∃ (s : State) (u : State) (len : Nat) (addr : Nat) (seq : Nat) (fl : Nat) (b : Nat) (k : Nat) (h : HpHeader) (crc : BitVec 16) (m :
      Nat), frozen s 48 = false ∧ s.host.csLow = true ∧ s.host.cur = none ∧ busUp s = true ∧ s.boot.controller = false ∧ u =
      { s with host := { s.host with status := statusBytes s, quietSince := s.now } } ∧ h =
      { op := 16, len := len % 256, addr := addr % 2 ^ 32, seq := seq % 256, flags := fl % 256 } ∧ m = min (hpWords h) (64 * min (burstCount
      h) (max b k)) ∧ crc16 (headerBytes h) = crc ∧ badHeader h = false ∧ isRetry s h = false)
    ∧ (∃ (s : State) (u : State) (len : Nat) (addr : Nat) (seq : Nat) (fl : Nat) (b : Nat) (k : Nat) (h : HpHeader) (crc : BitVec 16) (m :
      Nat), frozen s 48 = false ∧ s.host.csLow = true ∧ s.host.cur = none ∧ busUp s = true ∧ s.boot.controller = false ∧ u =
      { s with host := { s.host with status := statusBytes s, quietSince := s.now } } ∧ h =
      { op := 16, len := len % 256, addr := addr % 2 ^ 32, seq := seq % 256, flags := fl % 256 } ∧ m = min (hpWords h) (64 * min (burstCount
      h) (max b k)) ∧ crc16 (headerBytes h) = crc ∧ badHeader h = false ∧ isRetry s h = true)
    ∧ (∃ (s : State) (u : State) (len : Nat) (addr : Nat) (seq : Nat) (fl : Nat) (h : HpHeader) (crc : BitVec 16), frozen s 0x30 = false ∧
      s.host.csLow = true ∧ s.host.cur = none ∧ busUp s = true ∧ s.boot.controller = false ∧ u =
      { s with host := { s.host with quietSince := s.now, status := statusBytes s } } ∧ h = ⟨0x11, len % 256, addr % 2 ^ 32, seq % 256, fl %
      256⟩ ∧ crc16 (headerBytes h) = crc ∧ badHeader h = false ∧ isRetry s h = false)
    ∧ (∃ (s : State) (u : State) (op : Nat) (len : Nat) (addr : Nat) (seq : Nat) (fl : Nat) (h : HpHeader) (crc : BitVec 16), frozen s 0x30 =
      false ∧ s.host.csLow = true ∧ s.host.cur = none ∧ busUp s = true ∧ s.boot.controller = false ∧ u =
      { s with host := { s.host with quietSince := s.now, status := statusBytes s } } ∧ h = ⟨op % 256, len % 256, addr % 2 ^ 32, seq % 256,
      fl % 256⟩ ∧ op % 256 ∉ [0x10, 0x11, 0x20, 0x21] ∧ crc16 (headerBytes h) = crc ∧ isRetry s h = false)
    ∧ (∃ (s : State) (u : State) (len : Nat) (addr : Nat) (seq : Nat) (fl : Nat) (h : HpHeader) (crc : BitVec 16) (b : HpBurst), frozen s 0x30
      = false ∧ s.host.csLow = true ∧ s.host.cur = none ∧ busUp s = true ∧ s.boot.controller = false ∧ u =
      { s with host := { s.host with quietSince := s.now, status := statusBytes s } } ∧ h = ⟨0x20, len % 256, addr % 2 ^ 32, seq % 256, fl %
      256⟩ ∧ crc16 (headerBytes h) = crc ∧ badHeader h = false ∧ isRetry s h = false ∧ burstCount h = 1 ∧ b.words.length = burstLen h 0 ∧
      crc16 (burstBytes b.words) = b.crc)
    ∧ (∃ (s : State) (u : State) (len : Nat) (addr : Nat) (seq : Nat) (fl : Nat) (h : HpHeader) (crc : BitVec 16) (b : HpBurst), frozen s 0x30
      = false ∧ s.host.csLow = true ∧ s.host.cur = none ∧ busUp s = true ∧ s.boot.controller = false ∧ u =
      { s with host := { s.host with quietSince := s.now, status := statusBytes s } } ∧ h = ⟨0x20, len % 256, addr % 2 ^ 32, seq % 256, fl %
      256⟩ ∧ crc16 (headerBytes h) = crc ∧ badHeader h = false ∧ isRetry s h = false ∧ burstCount h = 1 ∧ b.words.length = burstLen h 0 ∧
      crc16 (burstBytes b.words) ≠ b.crc)
    ∧ (∃ (s : State) (u : State) (len : Nat) (addr : Nat) (seq : Nat) (fl : Nat) (h : HpHeader) (crc : BitVec 16) (data : List HpBurst),
      frozen s 0x30 = false ∧ s.host.csLow = true ∧ s.host.cur = none ∧ busUp s = true ∧ s.boot.controller = false ∧ u =
      { s with host := { s.host with quietSince := s.now, status := statusBytes s } } ∧ h = ⟨0x20, len % 256, addr % 2 ^ 32, seq % 256, fl %
      256⟩ ∧ crc16 (headerBytes h) = crc ∧ badHeader h = false ∧ isDup s h = true ∧ (∀ b ∈ data, crc16 (burstBytes b.words) = b.crc))
    ∧ (∃ (s : State) (u : State) (len : Nat) (addr : Nat) (seq : Nat) (fl : Nat) (h : HpHeader) (crc : BitVec 16) (b : HpBurst), frozen s 0x30
      = false ∧ s.host.csLow = true ∧ s.host.cur = none ∧ busUp s = true ∧ s.boot.controller = false ∧ u =
      { s with host := { s.host with quietSince := s.now, status := statusBytes s } } ∧ h = ⟨0x21, len % 256, addr % 2 ^ 32, seq % 256, fl %
      256⟩ ∧ crc16 (headerBytes h) = crc ∧ badHeader h = false ∧ isRetry s h = false ∧ burstCount h = 1 ∧ b.words.length = burstLen h 0 ∧
      crc16 (burstBytes b.words) = b.crc)
    ∧ (∃ (x : HpTrans) (s : State), frozen s 0x30 = false ∧ s.host.csLow = true ∧ s.host.cur = some x ∧ s.host.pendingMode = none ∧ x.good =
      true)
    ∧ (∃ (x : HpTrans) (s : State), frozen s 0x30 = false ∧ s.host.csLow = true ∧ s.host.cur = some x ∧ s.host.pendingMode = none ∧ x.good =
      false)
    ∧ (∃ (l : Nat) (d : Bool) (s : State), frozen s 0x30 = false ∧ s.host.csLow = true ∧ s.host.cur = none ∧ s.host.pendingMode = some (l, d)
      ∧ l < 4)
    ∧ (∃ (s : State), frozen s 0x30 = false ∧ busUp s = true ∧ s.boot.controller = false ∧ s.host.csLow = true ∧ s.host.quietSince + 10000 ≤
      s.now) :=
  ⟨⟨State.reset, by decide +kernel⟩,
  ⟨{ State.reset with host := { csLow := true } }, _, 16, 0, 4, 1, 0, 1, 0, [], true, 0, _, .hpRead 0 4 1 0 0 1 0, and_four
    (by decide +kernel) ⟨by decide +kernel, rfl, rfl, by decide +kernel⟩⟩,
  ⟨{ State.reset with host := { csLow := true } }, _, 16, 1, 4, 1, 1, 1, 0, [], true, _, _, .hpRead 1 4 1 1
    (crc16 (headerBytes ⟨16, 1, 4, 1, 1⟩)) 1 0, and_four (by decide +kernel) ⟨by decide +kernel, rfl, rfl, .inl ⟨rfl, rfl⟩, rfl,
    by decide +kernel⟩⟩,
  ⟨{ State.reset with host := { csLow := true } }, _, 0, 4, 1, 0, 1, 0, _, _, _, and_four (by decide +kernel) ⟨by decide +kernel, rfl, rfl,
    rfl, rfl, by decide +kernel⟩⟩,
  ⟨{ State.reset with host := { csLow := true, prev := some ⟨16, 0, 4, 1, 0⟩, prevResult := 0, replay := [(0, 0)] } }, _, 0, 4, 1, 0, 1, 0,
    _, _, _, and_four (by decide +kernel) ⟨by decide +kernel, rfl, rfl, rfl, rfl, by decide +kernel⟩⟩,
  ⟨{ State.reset with now := 7, host := { csLow := true } },
    { State.reset with now := 7, host := { csLow := true, quietSince := 7, status := [0, 15, 0, 0, 168, 241] } }, 2, 4, 1, 4,
    { op := 17, len := 2, addr := 4, seq := 1, flags := 4 }, 0x84cf, by decide +kernel⟩,
  ⟨{ State.reset with host := { csLow := true } }, { State.reset with host := { csLow := true, status := [0, 15, 0, 0, 168, 241] } }, 3, 2,
    32, 3, 4, { op := 3, len := 2, addr := 32, seq := 3, flags := 4 }, 2745, by decide +kernel⟩,
  ⟨{ State.reset with now := 28, host := { csLow := true } },
    { State.reset with now := 28, host := { csLow := true, quietSince := 28, status := [0, 15, 0, 0, 168, 241] } }, 1, 44, 1, 104,
    { op := 32, len := 1, addr := 44, seq := 1, flags := 104 }, 0xdf0f, { words := [0, 0], crc := 0x313e }, by decide +kernel⟩,
  ⟨{ State.reset with now := 28, host := { csLow := true } },
    { State.reset with now := 28, host := { csLow := true, quietSince := 28, status := [0, 15, 0, 0, 168, 241] } }, 1, 44, 1, 104,
    { op := 32, len := 1, addr := 44, seq := 1, flags := 104 }, 0xdf0f, { words := [0, 0], crc := 63 }, by decide +kernel⟩,
  ⟨{ State.reset with now := 28, host := { csLow := true, prev := (some { op := 32, len := 1, addr := 44, seq := 1, flags := 104 }), prevResult := 0 } },
    { State.reset with now := 28, host := { csLow := true, quietSince := 28, prev := (some { op := 32, len := 1, addr := 44, seq := 1, flags := 104 }), prevResult := 0, status := [0, 15, 0, 0, 168, 241] } },
    1, 44, 1, 104, { op := 32, len := 1, addr := 44, seq := 1, flags := 104 }, 0xdf0f, [], by decide +kernel⟩,
  ⟨{ State.reset with now := 19, host := { csLow := true } },
    { State.reset with now := 19, host := { csLow := true, quietSince := 19, status := [0, 15, 0, 0, 168, 241] } }, 0, 0x80000, 4, 48,
    { op := 33, len := 0, addr := 0x80000, seq := 4, flags := 48 }, 0xf53f, { words := [0], crc := 0x84c0 }, by decide +kernel⟩,
  ⟨{ hdr := { op := 0, len := 0, addr := 0, seq := 4, flags := 49 }, good := true, complete := true, result := 3, detail := 8, crcBad := true },
    { State.reset with host := { csLow := true, cur := (some { hdr := { op := 0, len := 0, addr := 0, seq := 4, flags := 49 }, good := true, complete := true, result := 3, detail := 8, crcBad := true }) } },
    by decide +kernel⟩,
  ⟨{ hdr := { op := 0, len := 0, addr := 0, seq := 4, flags := 49 }, good := false, complete := true, result := 3, detail := 8, crcBad := true },
    { State.reset with host := { csLow := true, cur := (some { hdr := { op := 0, len := 0, addr := 0, seq := 4, flags := 49 }, good := false, complete := true, result := 3, detail := 8, crcBad := true }) } },
    by decide +kernel⟩,
  ⟨0, true, { State.reset with host := { csLow := true, pendingMode := (some (0, true)) } }, by decide +kernel⟩,
  ⟨{ State.reset with now := 0x2710, host := { csLow := true } }, by decide +kernel⟩⟩

/-- Hypotheses of DmaChannels. -/
theorem witness_DmaChannels :
    (∃ (m : Master) (n : Nat) (s : State), n < 16 ∧ Reaches m (Reg.DMA_CH_DESC n) s ∧ ((dmaChan s n).st = DmaState.idle ∨ (dmaChan s n).st =
      DmaState.done ∨ (dmaChan s n).st = DmaState.error))
    ∧ (∃ (m : Master) (n : Nat) (s : State), n < 16 ∧ Reaches m (Reg.DMA_CH_DESC n) s ∧ (¬((dmaChan s n).st = .idle ∨ (dmaChan s n).st = .done
      ∨ (dmaChan s n).st = .error)))
    ∧ (∃ (n : Nat) (d : Nat) (x : DmaChan) (s : State), frozen s 0x31 = false ∧ dmaOn s n = true ∧ (dmaChan s n).st = .fetch ∧ busUp s = true
      ∧ d = (dmaChan s n).desc ∧ x =
      { st := .run, desc := d, w0 := s.rawWord d, src := (s.rawWord (d + 4)).toNat, dst := (s.rawWord (d + 8)).toNat, next := (s.rawWord (d + 12)).toNat, pend := (dmaChan s n).pend }
      ∧ (isSram s.variant d = false ∨ d % 32 ≠ 0))
    ∧ (∃ (n : Nat) (d : Nat) (x : DmaChan) (s : State), frozen s 0x31 = false ∧ dmaOn s n = true ∧ (dmaChan s n).st = .fetch ∧ busUp s = true
      ∧ d = (dmaChan s n).desc ∧ x =
      { st := .run, desc := d, w0 := s.rawWord d, src := (s.rawWord (d + 4)).toNat, dst := (s.rawWord (d + 8)).toNat, next := (s.rawWord (d + 12)).toNat, pend := (dmaChan s n).pend }
      ∧ isSram s.variant d = true ∧ d % 32 = 0 ∧ s.sec.scrapped = false ∧ (∀ k, k < 5 → GoodWord (d + 4 * k) s) ∧ bit (s.rawWord (d + 16))
      31 = true ∧ (dmaChan s n).asked = false)
    ∧ (∃ (n : Nat) (d : Nat) (x : DmaChan) (s : State), frozen s 0x31 = false ∧ dmaOn s n = true ∧ (dmaChan s n).st = .fetch ∧ busUp s = true
      ∧ d = (dmaChan s n).desc ∧ x =
      { st := .run, desc := d, w0 := s.rawWord d, src := (s.rawWord (d + 4)).toNat, dst := (s.rawWord (d + 8)).toNat, next := (s.rawWord (d + 12)).toNat, pend := (dmaChan s n).pend }
      ∧ isSram s.variant d = true ∧ d % 32 = 0 ∧ s.sec.scrapped = false ∧ (∀ k, k < 5 → GoodWord (d + 4 * k) s) ∧ bit (s.rawWord (d + 16))
      31 = false ∧ dmaBad s x = false ∧ bit x.w0 31 = false)
    ∧ (∃ (n : Nat) (d : Nat) (x : DmaChan) (s : State), frozen s 0x31 = false ∧ dmaOn s n = true ∧ (dmaChan s n).st = .fetch ∧ busUp s = true
      ∧ d = (dmaChan s n).desc ∧ x =
      { st := .run, desc := d, w0 := s.rawWord d, src := (s.rawWord (d + 4)).toNat, dst := (s.rawWord (d + 8)).toNat, next := (s.rawWord (d + 12)).toNat, pend := (dmaChan s n).pend }
      ∧ isSram s.variant d = true ∧ d % 32 = 0 ∧ s.sec.scrapped = false ∧ (∀ k, k < 5 → GoodWord (d + 4 * k) s) ∧ bit (s.rawWord (d + 16))
      31 = false ∧ dmaBad s x = false ∧ bit x.w0 31 = true ∧ x.pend = 0)
    ∧ (∃ (n : Nat) (d : Nat) (x : DmaChan) (s : State), frozen s 0x31 = false ∧ dmaOn s n = true ∧ (dmaChan s n).st = .fetch ∧ busUp s = true
      ∧ d = (dmaChan s n).desc ∧ x =
      { st := .run, desc := d, w0 := s.rawWord d, src := (s.rawWord (d + 4)).toNat, dst := (s.rawWord (d + 8)).toNat, next := (s.rawWord (d + 12)).toNat, pend := (dmaChan s n).pend }
      ∧ isSram s.variant d = true ∧ d % 32 = 0 ∧ s.sec.scrapped = false ∧ (∀ k, k < 5 → GoodWord (d + 4 * k) s) ∧ bit (s.rawWord (d + 16))
      31 = false ∧ dmaBad s x = false ∧ bit x.w0 31 = true ∧ 0 < x.pend)
    ∧ (∃ (m : Master) (n : Nat) (s : State), n < 16 ∧ Reaches m (Reg.DMA_CH_TRIG n) s ∧ dmaOn s n = false)
    ∧ (∃ (m : Master) (n : Nat) (s : State), n < 16 ∧ Reaches m (Reg.DMA_CH_TRIG n) s ∧ dmaOn s n = true ∧ frozen (s.attach m) 49 = false ∧
      (dmaChan s n).st = DmaState.waitTrig)
    ∧ (∃ (m : Master) (n : Nat) (s : State), n < 16 ∧ Reaches m (Reg.DMA_CH_TRIG n) s ∧ dmaOn s n = true ∧ frozen (s.attach m) 49 = false ∧
      (dmaChan s n).st = DmaState.waitOwn)
    ∧ (∃ (m : Master) (n : Nat) (s : State), n < 16 ∧ Reaches m (Reg.DMA_CH_TRIG n) s ∧ dmaOn s n = true ∧ frozen (s.attach m) 49 = true)
    ∧ (∃ (m : Master) (n : Nat) (s : State), n < 16 ∧ Reaches m (Reg.DMA_CH_TRIG n) s ∧ dmaOn s n = true ∧ frozen (s.attach m) 49 = false ∧
      (dmaChan s n).st ≠ DmaState.waitTrig ∧ (dmaChan s n).st ≠ DmaState.waitOwn ∧ (dmaChan s n).pend < 15)
    ∧ (∃ (m : Master) (n : Nat) (s : State), n < 16 ∧ Reaches m (Reg.DMA_CH_TRIG n) s ∧ dmaOn s n = true ∧ frozen (s.attach m) 49 = false ∧
      (dmaChan s n).st ≠ DmaState.waitTrig ∧ (dmaChan s n).st ≠ DmaState.waitOwn ∧ 15 ≤ (dmaChan s n).pend)
    ∧ (∃ (src : Nat) (n : Nat) (s : State), src < 64 ∧ busUp s = true ∧ sourceOn s src = true ∧ s.pages.dmaSeen.contains src = false ∧ n =
      s.fld (Reg.EVT_ROUTE src) 8 4 ∧ s.flag (Reg.EVT_ROUTE src) 14 = true ∧ dmaOn s n = true ∧ frozen s 49 = false ∧ (dmaChan s n).st =
      DmaState.waitTrig)
    ∧ (∃ (n : Nat) (a : Nat) (b : Nat) (x : DmaChan) (s : State), frozen s 0x31 = false ∧ busUp s = true ∧ dmaGranted s = some n ∧ x = dmaChan
      s n ∧ x.st = .run ∧ x.packet = false ∧ x.srcMode = 0 ∧ x.dstMode = 0 ∧ x.length = x.moved + 1 ∧ x.poison = none ∧ a = (x.src + 4 *
      x.moved) % 2 ^ 32 ∧ b = (x.dst + 4 * x.moved) % 2 ^ 32 ∧ isSram s.variant a = true ∧ isSram s.variant b = true ∧ isSram s.variant
      x.desc = true ∧ a % 4 = 0 ∧ b % 4 = 0 ∧ x.desc % 32 = 0 ∧ ¬(x.desc ≤ b ∧ b < x.desc + 32) ∧ GoodWord a s ∧ s.sec.scrapped = false ∧
      s.flag Reg.MEM_INJECT 31 = false) :=
  ⟨⟨.dma, 1, State.reset, by unfold Reaches; decide +kernel⟩,
  ⟨.host, 0, { State.reset with dma := [(0, { st := .run }), (1, {})] }, by unfold Reaches; decide +kernel⟩,
  ⟨1, 172, { st := .run, desc := 172 }, { reg [(0x40031008, 1), (0x40031120, 1)] with dma := [(1, { st := .fetch, desc := 172 })] },
    by decide +kernel⟩,
  ⟨4, 0, { st := .run }, { reg [(0x40031008, 1), (0x40031180, 1)] with mem := [(19, 128)], dma := [(4, { st := .fetch })] },
    by unfold GoodWord; decide +kernel⟩,
  ⟨4, 0x3000, { st := .run, desc := 0x3000, w0 := 1 },
    { reg [(0x40031008, 1), (0x40031180, 1)] with mem := [(0x3000, 1)], dma := [(4, { st := .fetch, desc := 0x3000 })] },
    by unfold GoodWord; decide +kernel⟩,
  ⟨4, 0x3000, { st := .run, desc := 0x3000, w0 := 0x80000001 },
    { reg [(0x40031008, 1), (0x40031180, 1)] with mem := [(0x3000, 1), (0x3003, 128)], dma := [(4, { st := .fetch, desc := 0x3000 })] },
    by unfold GoodWord; decide +kernel⟩,
  ⟨4, 0x3000, { st := .run, desc := 0x3000, w0 := 0x80000001, pend := 2 },
    { reg [(0x40031008, 1), (0x40031180, 1)] with mem := [(0x3000, 1), (0x3003, 128)], dma := [(4, { st := .fetch, desc := 0x3000, pend := 2 })] },
    by unfold GoodWord; decide +kernel⟩,
  ⟨.dma, 1, State.reset, by unfold Reaches; decide +kernel⟩,
  ⟨.dma, 1, { reg [(0x40031008, 1), (0x40031120, 1)] with dma := [(1, { st := .waitTrig })] }, by unfold Reaches; decide +kernel⟩,
  ⟨.dma, 1, { reg [(0x40031008, 1), (0x40031120, 1)] with dma := [(1, { st := .waitOwn })] }, by unfold Reaches; decide +kernel⟩,
  ⟨.debug, 0, (reg [(0x40031008, 5), (Reg.DMA_CH_CFG 0, 1), (0x40022040, 1)]), by unfold Reaches; decide +kernel⟩,
  ⟨.dma, 1, (reg [(0x40031008, 1), (0x40031120, 1)]), by unfold Reaches; decide +kernel⟩,
  ⟨.dma, 1, { reg [(0x40031008, 1), (0x40031120, 1)] with dma := [(1, { pend := 15 })] }, by unfold Reaches; decide +kernel⟩,
  ⟨8, 0,
    { reg [(0x40005120, 0x4000), (0x40031008, 1), (0x40031014, 0x8000), (0x40031018, 0x8000), (0x40031100, 1)] with dma := [(0, { st := .waitTrig })] },
    by decide +kernel⟩,
  ⟨4, 256, 0x3040, { st := .run, desc := 0x3000, w0 := 1, src := 256, dst := 0x3040 },
    { reg [(0x40031008, 1), (0x40031180, 1)] with dma := [(4, { st := .run, desc := 0x3000, w0 := 1, src := 256, dst := 0x3040 })] },
    by unfold GoodWord; decide +kernel⟩⟩

/-- Hypotheses of BootAndVerify. -/
theorem witness_BootAndVerify :
    (∃ (image : List Word) (c : Nat) (s : State), frozen s 0x30 = false ∧ s.boot.phase = .waitTest5 ∧ s.boot.written = [] ∧ busUp s = true ∧
      coxState s ≠ 0 ∧ ¬(coxState s = 1 ∧ s.cox.test ≤ 5) ∧ 32 ≤ image.length ∧ imageUnchecked s = false ∧ imageCond s (image.take 32) = c ∧
      c ≠ 0)
    ∧ (∃ (mask : Nat) (un : Bool) (s : State), frozen s 0x30 = false ∧ s.boot.phase = .verifying mask false un)
    ∧ (∃ (mask : Nat) (un : Bool) (s : State), frozen s 48 = false ∧ s.boot.phase = BootPhase.verifying mask true un)
    ∧ (∃ (m : Master) (v : Word) (s : State), Reaches m Reg.SEC_VERIFY_CTRL s ∧ bit v 0 = true ∧ s.sec.verify = none ∧ bits v 4 2 < enginesOf
      s.variant)
    ∧ (∃ (m : Master) (v : Word) (s : State), Reaches m Reg.SEC_VERIFY_CTRL s ∧ bit v 0 = true ∧ s.sec.verify = none ∧ enginesOf s.variant ≤
      bits v 4 2)
    ∧ (∃ (j : Verify) (h : List Word) (p : List Word) (n : Nat) (s : State), frozen s 0x22 = false ∧ s.sec.verify = some j ∧ imageUnchecked s
      = false ∧ j.addr % 4 = 0 ∧ h = (List.range 32).map (fun k => s.rawWord (j.addr + 4 * k)) ∧ n = min 0x40000 ((hdrWord h 2).toNat / 4) ∧
      p = (List.range n).map (fun k => s.rawWord (j.addr + 128 + 4 * k)) ∧ isSram s.variant (j.addr + 124 + 4 * n) = true ∧ (∀ k, k < 32 + n
      → GoodWord (j.addr + 4 * k) s) ∧ imageCond s h ≠ 0)
    ∧ (∃ (m : Master) (s : State), Reaches m Reg.HPT_FL_LEN s ∧ s.boot.controller = false)
    ∧ (∃ (m : Master) (s : State), Reaches m Reg.HPT_FL_LEN s ∧ s.boot.controller = true ∧ flBusy s = true)
    ∧ (∃ (m : Master) (s : State), Reaches m Reg.HPT_FL_LEN s ∧ s.boot.controller = true ∧ flBusy s = false)
    ∧ (∃ (data : List Word) (n : Nat) (d : Nat) (s : State), frozen s 0x30 = false ∧ flBusy s = true ∧ busUp s = true ∧ d = (s.rd
      Reg.HPT_FL_DST).toNat ∧ s.fld Reg.HPT_FL_LEN 0 20 = 4 * n ∧ loadableRange s d n = true ∧ data.length = n ∧ d + 4 * n ≤ sramKiB
      s.variant * 1024 ∧ s.flag Reg.MEM_INJECT 31 = false)
    ∧ (∃ (d : Nat) (s : State), frozen s 0x30 = false ∧ flBusy s = true ∧ busUp s = true ∧ d = (s.rd Reg.HPT_FL_DST).toNat ∧ (s.fld
      Reg.HPT_FL_LEN 0 20 % 4 ≠ 0 ∨ loadableRange s d (s.fld Reg.HPT_FL_LEN 0 20 / 4) = false)) :=
  ⟨⟨(List.replicate 32 0), 1, { reg [(0x40022040, 2), (0x4001000C, 0x24)] with boot := { phase := .waitTest5 } }, by decide +kernel⟩,
  ⟨1, true, { State.reset with boot := { phase := .verifying 1 false true } }, by decide +kernel⟩,
  ⟨0, true, { State.reset with boot := { phase := .verifying 0 true true } }, by decide +kernel⟩,
  ⟨.dma, 1, State.reset, by unfold Reaches; decide +kernel⟩,
  ⟨.dma, 0x31, State.reset, by unfold Reaches; decide +kernel⟩,
  ⟨⟨0, 0, 0⟩, (List.replicate 32 0), [], 0, { reg [(0x40022040, 2)] with sec := { verify := some ⟨0, 0, 0⟩ } },
    by unfold GoodWord; decide +kernel⟩,
  ⟨.dma, State.reset, by unfold Reaches; decide +kernel⟩,
  ⟨.dma, { reg [(0x40030064, 0x80000000)] with boot := { controller := true } }, by unfold Reaches; decide +kernel⟩,
  ⟨.dma, { State.reset with boot := { controller := true } }, by unfold Reaches; decide +kernel⟩,
  ⟨[5], 1, 0, (reg [(0x40030060, 4), (0x40030064, 0x80000000)]), by decide +kernel⟩,
  ⟨0, (reg [(0x40030060, 2), (0x40030064, 0x80000000)]), by decide +kernel⟩⟩

/-- Hypotheses of SpeArithmetic. -/
theorem witness_SpeArithmetic :
    (∃ (n : Nat) (w : Word) (x : Spe) (s : State) (p : Int) (a : Int), p = x.dReg (bits w 19 3) * x.dReg (bits w 16 3) * 2 ∧ a = x.acc (bits
      w 22 2) ∧ SpeIssues 0 0x00 n w s x)
    ∧ (∃ (n : Nat) (w : Word) (x : Spe) (s : State) (p : Int) (a : Int), p = x.dReg (bits w 19 3) * x.dReg (bits w 16 3) * 2 ∧ a = x.acc (bits
      w 22 2) ∧ SpeIssues 0 0x01 n w s x)
    ∧ (∃ (n : Nat) (w : Word) (x : Spe) (s : State) (p : Int) (a : Int), p = x.dReg (bits w 19 3) * x.dReg (bits w 16 3) * 2 ∧ a = x.acc (bits
      w 22 2) ∧ SpeIssues 0 0x02 n w s x)
    ∧ (∃ (n : Nat) (w : Word) (x : Spe) (s : State) (p : Int) (a : Int), p = x.dReg (bits w 19 3) * x.dReg (bits w 16 3) * 2 ∧ a = x.acc (bits
      w 22 2) ∧ SpeIssues 0 0x03 n w s x)
    ∧ (∃ (n : Nat) (w : Word) (x : Spe) (s : State) (p : Int) (a : Int), p = x.dReg (bits w 19 3) * x.dReg (bits w 16 3) * 2 ∧ a = x.acc (bits
      w 22 2) ∧ SpeIssues 0 0x04 n w s x)
    ∧ (∃ (n : Nat) (w : Word) (x : Spe) (s : State) (p : Int) (a : Int), p = x.dReg (bits w 19 3) * x.dReg (bits w 16 3) * 2 ∧ a = x.acc (bits
      w 22 2) ∧ SpeIssues 0 0x05 n w s x)
    ∧ (∃ (n : Nat) (w : Word) (x : Spe) (s : State) (p : Int) (a : Int), p = x.dReg (bits w 19 3) * x.dReg (bits w 16 3) * 2 ∧ a = x.acc (bits
      w 22 2) ∧ SpeIssues 0 0x06 n w s x)
    ∧ (∃ (n : Nat) (k : Nat) (w : Word) (x : Spe) (s : State) (a : Int) (d : Int) (b : Int) (i : Int), k = bits w 22 2 ∧ a = x.acc k ∧ d =
      toAcc (x.reg (bits w 19 3)) ∧ b = x.acc (bits w 16 3) ∧ i = toAcc (bits w 0 24) ∧ SpeIssues 0 0x08 n w s x)
    ∧ (∃ (n : Nat) (k : Nat) (w : Word) (x : Spe) (s : State) (a : Int) (d : Int) (b : Int) (i : Int), k = bits w 22 2 ∧ a = x.acc k ∧ d =
      toAcc (x.reg (bits w 19 3)) ∧ b = x.acc (bits w 16 3) ∧ i = toAcc (bits w 0 24) ∧ SpeIssues 0 0x09 n w s x)
    ∧ (∃ (n : Nat) (k : Nat) (w : Word) (x : Spe) (s : State) (a : Int) (d : Int) (b : Int) (i : Int), k = bits w 22 2 ∧ a = x.acc k ∧ d =
      toAcc (x.reg (bits w 19 3)) ∧ b = x.acc (bits w 16 3) ∧ i = toAcc (bits w 0 24) ∧ SpeIssues 0 0x0A n w s x)
    ∧ (∃ (n : Nat) (k : Nat) (w : Word) (x : Spe) (s : State) (a : Int) (d : Int) (b : Int) (i : Int), k = bits w 22 2 ∧ a = x.acc k ∧ d =
      toAcc (x.reg (bits w 19 3)) ∧ b = x.acc (bits w 16 3) ∧ i = toAcc (bits w 0 24) ∧ SpeIssues 0 0x0B n w s x)
    ∧ (∃ (n : Nat) (k : Nat) (w : Word) (x : Spe) (s : State) (a : Int) (d : Int) (b : Int) (i : Int), k = bits w 22 2 ∧ a = x.acc k ∧ d =
      toAcc (x.reg (bits w 19 3)) ∧ b = x.acc (bits w 16 3) ∧ i = toAcc (bits w 0 24) ∧ SpeIssues 0 0x0C n w s x)
    ∧ (∃ (n : Nat) (k : Nat) (w : Word) (x : Spe) (s : State) (a : Int) (d : Int) (b : Int) (i : Int), k = bits w 22 2 ∧ a = x.acc k ∧ d =
      toAcc (x.reg (bits w 19 3)) ∧ b = x.acc (bits w 16 3) ∧ i = toAcc (bits w 0 24) ∧ SpeIssues 0 0x0D n w s x)
    ∧ (∃ (n : Nat) (k : Nat) (w : Word) (x : Spe) (s : State) (a : Int) (d : Int) (b : Int) (i : Int), k = bits w 22 2 ∧ a = x.acc k ∧ d =
      toAcc (x.reg (bits w 19 3)) ∧ b = x.acc (bits w 16 3) ∧ i = toAcc (bits w 0 24) ∧ SpeIssues 0 0x10 n w s x)
    ∧ (∃ (n : Nat) (k : Nat) (w : Word) (x : Spe) (s : State) (a : Int) (d : Int) (b : Int) (i : Int), k = bits w 22 2 ∧ a = x.acc k ∧ d =
      toAcc (x.reg (bits w 19 3)) ∧ b = x.acc (bits w 16 3) ∧ i = toAcc (bits w 0 24) ∧ SpeIssues 0 0x11 n w s x)
    ∧ (∃ (n : Nat) (k : Nat) (w : Word) (x : Spe) (s : State) (a : Int) (d : Int) (b : Int) (i : Int), k = bits w 22 2 ∧ a = x.acc k ∧ d =
      toAcc (x.reg (bits w 19 3)) ∧ b = x.acc (bits w 16 3) ∧ i = toAcc (bits w 0 24) ∧ SpeIssues 0 0x14 n w s x)
    ∧ (∃ (n : Nat) (k : Nat) (w : Word) (x : Spe) (s : State) (a : Int) (d : Int) (b : Int) (i : Int), k = bits w 22 2 ∧ a = x.acc k ∧ d =
      toAcc (x.reg (bits w 19 3)) ∧ b = x.acc (bits w 16 3) ∧ i = toAcc (bits w 0 24) ∧ SpeIssues 0 0x15 n w s x)
    ∧ (∃ (n : Nat) (k : Nat) (w : Word) (x : Spe) (s : State) (a : Int) (d : Int) (b : Int) (i : Int), k = bits w 22 2 ∧ a = x.acc k ∧ d =
      toAcc (x.reg (bits w 19 3)) ∧ b = x.acc (bits w 16 3) ∧ i = toAcc (bits w 0 24) ∧ SpeIssues 1 0 n w s x)
    ∧ (∃ (n : Nat) (k : Nat) (w : Word) (x : Spe) (s : State) (a : Int) (d : Int) (b : Int) (i : Int), k = bits w 22 2 ∧ a = x.acc k ∧ d =
      toAcc (x.reg (bits w 19 3)) ∧ b = x.acc (bits w 16 3) ∧ i = toAcc (bits w 0 24) ∧ SpeIssues 1 1 n w s x)
    ∧ (∃ (n : Nat) (k : Nat) (w : Word) (x : Spe) (s : State) (a : Int) (d : Int) (b : Int) (i : Int), k = bits w 22 2 ∧ a = x.acc k ∧ d =
      toAcc (x.reg (bits w 19 3)) ∧ b = x.acc (bits w 16 3) ∧ i = toAcc (bits w 0 24) ∧ SpeIssues 1 2 n w s x) :=
  ⟨⟨0, 0, {}, (reg [(0x4005000C, 16)]), 0, 0, by unfold SpeIssues; decide +kernel⟩,
  ⟨0, 0x1d4529a, {}, (reg [(0x4005000C, 16)]), 0, 0, by unfold SpeIssues; decide +kernel⟩,
  ⟨0, 0x2d4529a, {}, (reg [(0x4005000C, 16)]), 0, 0, by unfold SpeIssues; decide +kernel⟩,
  ⟨0, 0x3d4529a, {}, (reg [(0x4005000C, 16)]), 0, 0, by unfold SpeIssues; decide +kernel⟩,
  ⟨0, 0x4d4529a, {}, (reg [(0x4005000C, 16)]), 0, 0, by unfold SpeIssues; decide +kernel⟩,
  ⟨0, 0x5d4529a, {}, (reg [(0x4005000C, 16)]), 0, 0, by unfold SpeIssues; decide +kernel⟩,
  ⟨0, 0x6d4529a, {}, (reg [(0x4005000C, 16)]), 0, 0, by unfold SpeIssues; decide +kernel⟩,
  ⟨1, 0, 0x8000000, {}, (reg [(0x4005100C, 16)]), 0, 0, 0, 0, by unfold SpeIssues; decide +kernel⟩,
  ⟨1, 0, 0x9000000, {}, (reg [(0x4005100C, 16)]), 0, 0, 0, 0, by unfold SpeIssues; decide +kernel⟩,
  ⟨1, 0, 0xa000000, {}, (reg [(0x4005100C, 16)]), 0, 0, 0, 0, by unfold SpeIssues; decide +kernel⟩,
  ⟨1, 0, 0xb000000, {}, (reg [(0x4005100C, 16)]), 0, 0, 0, 0, by unfold SpeIssues; decide +kernel⟩,
  ⟨1, 0, 0xc000000, {}, (reg [(0x4005100C, 16)]), 0, 0, 0, 0, by unfold SpeIssues; decide +kernel⟩,
  ⟨1, 0, 0xd000000, {}, (reg [(0x4005100C, 16)]), 0, 0, 0, 0, by unfold SpeIssues; decide +kernel⟩,
  ⟨1, 0, 0x10000000, {}, (reg [(0x4005100C, 16)]), 0, 0, 0, 0, by unfold SpeIssues; decide +kernel⟩,
  ⟨1, 0, 0x11000000, {}, (reg [(0x4005100C, 16)]), 0, 0, 0, 0, by unfold SpeIssues; decide +kernel⟩,
  ⟨1, 0, 0x14000000, {}, (reg [(0x4005100C, 16)]), 0, 0, 0, 0, by unfold SpeIssues; decide +kernel⟩,
  ⟨1, 0, 0x15000000, {}, (reg [(0x4005100C, 16)]), 0, 0, 0, 0, by unfold SpeIssues; decide +kernel⟩,
  ⟨1, 0, 0x20000000, {}, (reg [(0x4005100C, 16)]), 0, 0, 0, 0, by unfold SpeIssues; decide +kernel⟩,
  ⟨1, 0, 0x24000000, {}, (reg [(0x4005100C, 16)]), 0, 0, 0, 0, by unfold SpeIssues; decide +kernel⟩,
  ⟨1, 0, 0x28000000, {}, (reg [(0x4005100C, 16)]), 0, 0, 0, 0, by unfold SpeIssues; decide +kernel⟩⟩

/-- Hypotheses of SpeCopiesAndLogic. -/
theorem witness_SpeCopiesAndLogic :
    (∃ (n : Nat) (k : Nat) (w : Word) (x : Spe) (s : State) (d : Nat) (m : Nat), k = bits w 22 2 ∧ d = lowBits 56 (toAcc (x.reg (bits w 19
      3))) ∧ m = lowBits 56 (toAcc (bits w 0 24)) ∧ SpeIssues 0 0x0E n w s x)
    ∧ (∃ (n : Nat) (k : Nat) (w : Word) (x : Spe) (s : State) (d : Nat) (m : Nat), k = bits w 22 2 ∧ d = lowBits 56 (toAcc (x.reg (bits w 19
      3))) ∧ m = lowBits 56 (toAcc (bits w 0 24)) ∧ SpeIssues 0 0x0F n w s x)
    ∧ (∃ (n : Nat) (k : Nat) (w : Word) (x : Spe) (s : State) (d : Nat) (m : Nat), k = bits w 22 2 ∧ d = lowBits 56 (toAcc (x.reg (bits w 19
      3))) ∧ m = lowBits 56 (toAcc (bits w 0 24)) ∧ SpeIssues 0 0x12 n w s x)
    ∧ (∃ (n : Nat) (k : Nat) (w : Word) (x : Spe) (s : State) (d : Nat) (m : Nat), k = bits w 22 2 ∧ d = lowBits 56 (toAcc (x.reg (bits w 19
      3))) ∧ m = lowBits 56 (toAcc (bits w 0 24)) ∧ SpeIssues 0 0x13 n w s x)
    ∧ (∃ (n : Nat) (k : Nat) (w : Word) (x : Spe) (s : State) (d : Nat) (m : Nat), k = bits w 22 2 ∧ d = lowBits 56 (toAcc (x.reg (bits w 19
      3))) ∧ m = lowBits 56 (toAcc (bits w 0 24)) ∧ SpeIssues 0 0x16 n w s x)
    ∧ (∃ (n : Nat) (k : Nat) (w : Word) (x : Spe) (s : State) (d : Nat) (m : Nat), k = bits w 22 2 ∧ d = lowBits 56 (toAcc (x.reg (bits w 19
      3))) ∧ m = lowBits 56 (toAcc (bits w 0 24)) ∧ SpeIssues 0 0x17 n w s x)
    ∧ (∃ (n : Nat) (k : Nat) (w : Word) (x : Spe) (s : State) (d : Nat) (m : Nat), k = bits w 22 2 ∧ d = lowBits 56 (toAcc (x.reg (bits w 19
      3))) ∧ m = lowBits 56 (toAcc (bits w 0 24)) ∧ SpeIssues 0 0x18 n w s x)
    ∧ (∃ (n : Nat) (k : Nat) (w : Word) (x : Spe) (s : State) (d : Nat) (m : Nat), k = bits w 22 2 ∧ d = lowBits 56 (toAcc (x.reg (bits w 19
      3))) ∧ m = lowBits 56 (toAcc (bits w 0 24)) ∧ SpeIssues 0 0x19 n w s x)
    ∧ (∃ (n : Nat) (k : Nat) (w : Word) (x : Spe) (s : State) (d : Nat) (m : Nat), k = bits w 22 2 ∧ d = lowBits 56 (toAcc (x.reg (bits w 19
      3))) ∧ m = lowBits 56 (toAcc (bits w 0 24)) ∧ SpeIssues 0 0x1A n w s x)
    ∧ (∃ (n : Nat) (k : Nat) (w : Word) (x : Spe) (s : State) (d : Nat) (m : Nat), k = bits w 22 2 ∧ d = lowBits 56 (toAcc (x.reg (bits w 19
      3))) ∧ m = lowBits 56 (toAcc (bits w 0 24)) ∧ SpeIssues 1 3 n w s x)
    ∧ (∃ (n : Nat) (k : Nat) (w : Word) (x : Spe) (s : State) (d : Nat) (m : Nat), k = bits w 22 2 ∧ d = lowBits 56 (toAcc (x.reg (bits w 19
      3))) ∧ m = lowBits 56 (toAcc (bits w 0 24)) ∧ SpeIssues 1 4 n w s x)
    ∧ (∃ (n : Nat) (k : Nat) (w : Word) (x : Spe) (s : State) (d : Nat) (m : Nat), k = bits w 22 2 ∧ d = lowBits 56 (toAcc (x.reg (bits w 19
      3))) ∧ m = lowBits 56 (toAcc (bits w 0 24)) ∧ SpeIssues 1 5 n w s x)
    ∧ (∃ (n : Nat) (k : Nat) (w : Word) (x : Spe) (s : State) (d : Nat) (m : Nat), k = bits w 22 2 ∧ d = lowBits 56 (toAcc (x.reg (bits w 19
      3))) ∧ m = lowBits 56 (toAcc (bits w 0 24)) ∧ SpeIssues 1 6 n w s x)
    ∧ (∃ (n : Nat) (k : Nat) (w : Word) (x : Spe) (s : State) (d : Nat) (m : Nat), k = bits w 22 2 ∧ d = lowBits 56 (toAcc (x.reg (bits w 19
      3))) ∧ m = lowBits 56 (toAcc (bits w 0 24)) ∧ SpeIssues 3 (bits w 24 5) n w s x)
    ∧ (∃ (n : Nat) (k : Nat) (w : Word) (x : Spe) (s : State) (d : Nat) (m : Nat), k = bits w 22 2 ∧ d = lowBits 56 (toAcc (x.reg (bits w 19
      3))) ∧ m = lowBits 56 (toAcc (bits w 0 24)) ∧ SpeIssues 2 0x00 n w s x)
    ∧ (∃ (n : Nat) (k : Nat) (w : Word) (x : Spe) (s : State) (d : Nat) (m : Nat), k = bits w 22 2 ∧ d = lowBits 56 (toAcc (x.reg (bits w 19
      3))) ∧ m = lowBits 56 (toAcc (bits w 0 24)) ∧ SpeIssues 2 0x09 n w s x)
    ∧ (∃ (n : Nat) (k : Nat) (w : Word) (x : Spe) (s : State) (d : Nat) (m : Nat), k = bits w 22 2 ∧ d = lowBits 56 (toAcc (x.reg (bits w 19
      3))) ∧ m = lowBits 56 (toAcc (bits w 0 24)) ∧ SpeIssues 2 0x0A n w s x)
    ∧ (∃ (n : Nat) (k : Nat) (w : Word) (x : Spe) (s : State) (d : Nat) (m : Nat), k = bits w 22 2 ∧ d = lowBits 56 (toAcc (x.reg (bits w 19
      3))) ∧ m = lowBits 56 (toAcc (bits w 0 24)) ∧ SpeIssues 4 0x09 n w s x)
    ∧ (∃ (n : Nat) (k : Nat) (w : Word) (x : Spe) (s : State) (d : Nat) (m : Nat), k = bits w 22 2 ∧ d = lowBits 56 (toAcc (x.reg (bits w 19
      3))) ∧ m = lowBits 56 (toAcc (bits w 0 24)) ∧ SpeIssues 4 0x0A n w s x) :=
  ⟨⟨1, 0, 0xe000000, {}, (reg [(0x4005100C, 16)]), 0, 0, by unfold SpeIssues; decide +kernel⟩,
  ⟨1, 0, 0xf000000, {}, (reg [(0x4005100C, 16)]), 0, 0, by unfold SpeIssues; decide +kernel⟩,
  ⟨1, 0, 0x12000000, {}, (reg [(0x4005100C, 16)]), 0, 0, by unfold SpeIssues; decide +kernel⟩,
  ⟨1, 0, 0x13000000, {}, (reg [(0x4005100C, 16)]), 0, 0, by unfold SpeIssues; decide +kernel⟩,
  ⟨1, 0, 0x16000000, {}, (reg [(0x4005100C, 16)]), 0, 0, by unfold SpeIssues; decide +kernel⟩,
  ⟨1, 0, 0x17000000, {}, (reg [(0x4005100C, 16)]), 0, 0, by unfold SpeIssues; decide +kernel⟩,
  ⟨1, 0, 0x18000000, {}, (reg [(0x4005100C, 16)]), 0, 0, by unfold SpeIssues; decide +kernel⟩,
  ⟨1, 0, 0x19000000, {}, (reg [(0x4005100C, 16)]), 0, 0, by unfold SpeIssues; decide +kernel⟩,
  ⟨1, 0, 0x1a000000, {}, (reg [(0x4005100C, 16)]), 0, 0, by unfold SpeIssues; decide +kernel⟩,
  ⟨1, 0, 0x2c000000, {}, (reg [(0x4005100C, 16)]), 0, 0, by unfold SpeIssues; decide +kernel⟩,
  ⟨1, 0, 0x30000000, {}, (reg [(0x4005100C, 16)]), 0, 0, by unfold SpeIssues; decide +kernel⟩,
  ⟨1, 0, 0x34000000, {}, (reg [(0x4005100C, 16)]), 0, 0, by unfold SpeIssues; decide +kernel⟩,
  ⟨1, 0, 0x38000000, {}, (reg [(0x4005100C, 16)]), 0, 0, by unfold SpeIssues; decide +kernel⟩,
  ⟨1, 0, 0x70000000, {}, (reg [(0x4005100C, 16)]), 0, 0, by unfold SpeIssues; decide +kernel⟩,
  ⟨1, 0, 0x40000000, {}, (reg [(0x4005100C, 16)]), 0, 0, by unfold SpeIssues; decide +kernel⟩,
  ⟨1, 0, 0x49000000, {}, (reg [(0x4005100C, 16)]), 0, 0, by unfold SpeIssues; decide +kernel⟩,
  ⟨1, 0, 0x4a000000, {}, (reg [(0x4005100C, 16)]), 0, 0, by unfold SpeIssues; decide +kernel⟩,
  ⟨1, 0, 0x89000000, {}, (reg [(0x4005100C, 16)]), 0, 0, by unfold SpeIssues; decide +kernel⟩,
  ⟨1, 0, 0x8a000000, {}, (reg [(0x4005100C, 16)]), 0, 0, by unfold SpeIssues; decide +kernel⟩⟩

/-- Hypotheses of SpeMemoryAccess. -/
theorem witness_SpeMemoryAccess :
    (∃ (n : Nat) (a : Nat) (new : Nat) (w : Word) (x : Spe) (s : State), (a, new) = x.ea (bits w 15 3) (bits w 12 3) 1 ∧ x.watchpoints = []
      ∧ SpeIssues 2 0x01 n w s x ∧ GoodWord (xyAddr n 0 a) s)
    ∧ (∃ (n : Nat) (a : Nat) (new : Nat) (w : Word) (x : Spe) (s : State), (a, new) = x.ea (bits w 15 3) (bits w 12 3) 1 ∧ x.watchpoints = []
      ∧ SpeIssues 2 0x02 n w s x ∧ GoodWord (xyAddr n 1 a) s)
    ∧ (∃ (n : Nat) (a : Nat) (new : Nat) (w : Word) (x : Spe) (s : State), (a, new) = x.ea (bits w 15 3) (bits w 12 3) 1 ∧ x.watchpoints = []
      ∧ SpeIssues 2 0x03 n w s x)
    ∧ (∃ (n : Nat) (a : Nat) (new : Nat) (w : Word) (x : Spe) (s : State), (a, new) = x.ea (bits w 15 3) (bits w 12 3) 1 ∧ x.watchpoints = []
      ∧ SpeIssues 2 0x04 n w s x)
    ∧ (∃ (n : Nat) (a : Nat) (w : Word) (x : Spe) (s : State), a = bits w 0 15 ∧ x.watchpoints = [] ∧ SpeIssues 2 0x05 n w s x ∧ GoodWord
      (xyAddr n 0 a) s)
    ∧ (∃ (n : Nat) (a : Nat) (w : Word) (x : Spe) (s : State), a = bits w 0 15 ∧ x.watchpoints = [] ∧ SpeIssues 2 0x06 n w s x ∧ GoodWord
      (xyAddr n 1 a) s)
    ∧ (∃ (n : Nat) (a : Nat) (w : Word) (x : Spe) (s : State), a = bits w 0 15 ∧ x.watchpoints = [] ∧ SpeIssues 2 0x07 n w s x)
    ∧ (∃ (n : Nat) (a : Nat) (w : Word) (x : Spe) (s : State), a = bits w 0 15 ∧ x.watchpoints = [] ∧ SpeIssues 2 0x08 n w s x)
    ∧ (∃ (n : Nat) (a : Nat) (new : Nat) (w : Word) (x : Spe) (s : State), (a, new) = x.ea (bits w 15 3) (bits w 12 3) 4 ∧ x.watchpoints = []
      ∧ SpeIssues 2 0x0B n w s x)
    ∧ (∃ (n : Nat) (a : Nat) (new : Nat) (w : Word) (x : Spe) (s : State), (a, new) = x.ea (bits w 15 3) (bits w 12 3) 4 ∧ x.watchpoints = []
      ∧ SpeIssues 2 0x0C n w s x ∧ x.posted.length < 2)
    ∧ (∃ (n : Nat) (a : Nat) (new : Nat) (w : Word) (x : Spe) (s : State), (a, new) = x.ea (bits w 15 3) (bits w 12 3) 4 ∧ x.watchpoints = []
      ∧ SpeIssues 2 0x0C n w s x ∧ 2 ≤ x.posted.length)
    ∧ (∃ (n : Nat) (s : State), n < enginesOf s.variant) :=
  ⟨⟨0, 0, 0, 0x41000000, {}, (reg [(0x4005000C, 16)]), by unfold GoodWord SpeIssues; decide +kernel⟩,
  ⟨0, 0, 0, 0x42000000, {}, (reg [(0x4005000C, 16)]), by unfold GoodWord SpeIssues; decide +kernel⟩,
  ⟨0, 0, 0, 0x43000000, {}, (reg [(0x4005000C, 16)]), by unfold SpeIssues; decide +kernel⟩,
  ⟨0, 0, 0, 0x44000000, {}, (reg [(0x4005000C, 16)]), by unfold SpeIssues; decide +kernel⟩,
  ⟨0, 4, 0x45000004, {}, (reg [(0x4005000C, 16)]), by unfold GoodWord SpeIssues; decide +kernel⟩,
  ⟨0, 4, 0x46000004, {}, (reg [(0x4005000C, 16)]), by unfold GoodWord SpeIssues; decide +kernel⟩,
  ⟨0, 4, 0x47000004, {}, (reg [(0x4005000C, 16)]), by unfold SpeIssues; decide +kernel⟩,
  ⟨0, 4, 0x48000004, {}, (reg [(0x4005000C, 16)]), by unfold SpeIssues; decide +kernel⟩,
  ⟨0, 0, 0, 0x4b000000, {}, (reg [(0x4005000C, 16)]), by unfold SpeIssues; decide +kernel⟩,
  ⟨0, 0, 0, 0x4c000000, {}, (reg [(0x4005000C, 16)]), by unfold SpeIssues; decide +kernel⟩,
  ⟨0, 0, 0, 0x4c000000, { posted := [(0, 0), (0, 0)] }, { reg [(0x4005000C, 16)] with spes := [(0, { posted := [(0, 0), (0, 0)] })] },
    by unfold SpeIssues; decide +kernel⟩,
  ⟨1, State.reset, by decide +kernel⟩⟩

/-- Hypotheses of SpeQueueAccess. -/
theorem witness_SpeQueueAccess :
    (∃ (n : Nat) (q : Nat) (w : Word) (x : Spe) (s : State), q = (if bit w 17 then x.reg (cP (bits w 14 3)) % 512 else bits w 0 9) ∧
      SpeIssues 2 0x10 n w s x ∧ queuePresent s q = true ∧ s.fld (qAddr q 0x10) 8 8 = 0 ∧ (queue s q).pktOpen = false)
    ∧ (∃ (n : Nat) (q : Nat) (w : Word) (x : Spe) (s : State), q = (if bit w 17 then x.reg (cP (bits w 14 3)) % 512 else bits w 0 9) ∧
      SpeIssues 2 0x10 n w s x ∧ queuePresent s q = true ∧ s.fld (qAddr q 0x10) 8 8 ≠ 0)
    ∧ (∃ (n : Nat) (q : Nat) (w : Word) (x : Spe) (s : State), q = (if bit w 17 then x.reg (cP (bits w 14 3)) % 512 else bits w 0 9) ∧
      SpeIssues 2 0x11 n w s x ∧ queuePresent s q = true ∧ s.fld (qAddr q 0x10) 16 8 = 0 ∧ spePopWaits s q = false)
    ∧ (∃ (n : Nat) (q : Nat) (w : Word) (x : Spe) (s : State), q = (if bit w 17 then x.reg (cP (bits w 14 3)) % 512 else bits w 0 9) ∧
      SpeIssues 2 0x11 n w s x ∧ spePopWaits s q = true)
    ∧ (∃ (n : Nat) (q : Nat) (w : Word) (x : Spe) (s : State), q = (if bit w 17 then x.reg (cP (bits w 14 3)) % 512 else bits w 0 9) ∧
      SpeIssues 2 0x11 n w s x ∧ queuePresent s q = true ∧ s.fld (qAddr q 0x10) 16 8 ≠ 0)
    ∧ (∃ (n : Nat) (q : Nat) (w : Word) (x : Spe) (s : State), q = (if bit w 17 then x.reg (cP (bits w 14 3)) % 512 else bits w 0 9) ∧
      SpeIssues 2 0x12 n w s x ∧ queuePresent s q = true)
    ∧ (∃ (n : Nat) (c : Nat) (a : Nat) (s : State), speLive s n = true ∧ (spe s n).stall = some (.read c a) ∧ (spe s n).posted = [] ∧
      isRegAddr a = false ∧ (memRead (speMaster n) a 4 .none s) = (some (s.rawWord a), s) ∧ aliasOf s.variant a = none ∧ ¬(0x60000000 ≤ a ∧
      a < 0x60002000))
    ∧ (∃ (n : Nat) (a : Nat) (v : Word) (r : List (Nat × Word)) (i : MemInfo) (s : State), speLive s n = true ∧ (spe s n).posted = (a, v) :: r
      ∧ isRegAddr a = false ∧ aliasOf s.variant a = none ∧ reach s (speMaster n) a 4 = some i ∧ leWriteBlocked s a = false ∧ secGate
      (speMaster n) a true s = (true, s)) :=
  ⟨⟨0, 1, 0x50000001, {}, (reg [(0x4005000C, 16)]), by unfold SpeIssues; decide +kernel⟩,
  ⟨0, 1, 0x50000001, {}, (reg [(0x40041090, 256), (0x4005000C, 16)]), by unfold SpeIssues; decide +kernel⟩,
  ⟨0, 1, 0x51000001, {}, (reg [(0x4005000C, 16)]), by unfold SpeIssues; decide +kernel⟩,
  ⟨0, 1, 0x51000001, {}, { reg [(0x40040008, 1), (0x40041090, 1), (0x4005000C, 16)] with queues := [(1, { middle := [{ data := 3 }] })] },
    by unfold SpeIssues; decide +kernel⟩,
  ⟨0, 1, 0x51000001, {}, (reg [(0x40041090, 0x10000), (0x4005000C, 16)]), by unfold SpeIssues; decide +kernel⟩,
  ⟨1, 0, 0x52000200, {}, (reg [(0x4005100C, 16)]), by unfold SpeIssues; decide +kernel⟩,
  ⟨1, 5, 0, { State.reset with spes := [(1, { stall := (some (.read 5 0)) })] }, by decide +kernel⟩,
  ⟨0, 44, 0, [], { id := 0, narrow := true }, { State.reset with spes := [(0, { posted := [(44, 0)] })] }, by decide +kernel⟩⟩

/-- Hypotheses of SpeSearchAndShift. -/
theorem witness_SpeSearchAndShift :
    (∃ (n : Nat) (a : Nat) (new : Nat) (v : Nat) (w : Word) (x : Spe) (s : State), (a, new) = x.ea (bits w 18 3) (bits w 15 3) 1 ∧
      x.watchpoints = [] ∧ v = (s.rawWord (xyAddr n (bits w 21 1) a)).toNat % 2 ^ 24 ∧ GoodWord (xyAddr n (bits w 21 1) a) s ∧ SpeIssues 4
      0x00 n w s x ∧ x.acc (bits w 22 2) < toAcc v)
    ∧ (∃ (n : Nat) (a : Nat) (new : Nat) (v : Nat) (w : Word) (x : Spe) (s : State), (a, new) = x.ea (bits w 18 3) (bits w 15 3) 1 ∧
      x.watchpoints = [] ∧ v = (s.rawWord (xyAddr n (bits w 21 1) a)).toNat % 2 ^ 24 ∧ GoodWord (xyAddr n (bits w 21 1) a) s ∧ SpeIssues 4
      0x00 n w s x ∧ toAcc v ≤ x.acc (bits w 22 2))
    ∧ (∃ (n : Nat) (a : Nat) (new : Nat) (v : Nat) (w : Word) (x : Spe) (s : State), (a, new) = x.ea (bits w 18 3) (bits w 15 3) 1 ∧
      x.watchpoints = [] ∧ v = (s.rawWord (xyAddr n (bits w 21 1) a)).toNat % 2 ^ 24 ∧ GoodWord (xyAddr n (bits w 21 1) a) s ∧ SpeIssues 4
      0x01 n w s x ∧ toAcc v < x.acc (bits w 22 2))
    ∧ (∃ (n : Nat) (a : Nat) (new : Nat) (v : Nat) (w : Word) (x : Spe) (s : State), (a, new) = x.ea (bits w 18 3) (bits w 15 3) 1 ∧
      x.watchpoints = [] ∧ v = (s.rawWord (xyAddr n (bits w 21 1) a)).toNat % 2 ^ 24 ∧ GoodWord (xyAddr n (bits w 21 1) a) s ∧ SpeIssues 4
      0x01 n w s x ∧ x.acc (bits w 22 2) ≤ toAcc v)
    ∧ (∃ (n : Nat) (a : Nat) (new : Nat) (v : Nat) (cnt : Nat) (w : Word) (x : Spe) (s : State), (a, new) = x.ea (bits w 18 3) 1 1 ∧
      x.watchpoints = [] ∧ v = (s.rawWord (xyAddr n (bits w 21 1) a)).toNat % 2 ^ 24 ∧ GoodWord (xyAddr n (bits w 21 1) a) s ∧ cnt = (if bit
      w 17 then x.reg (bits w 0 3) % 0x10000 else bits w 0 16) ∧ x.rep = 0 ∧ SpeIssues 4 0x02 n w s x ∧ cnt = 0)
    ∧ (∃ (n : Nat) (a : Nat) (new : Nat) (v : Nat) (cnt : Nat) (w : Word) (x : Spe) (s : State), (a, new) = x.ea (bits w 18 3) 1 1 ∧
      x.watchpoints = [] ∧ v = (s.rawWord (xyAddr n (bits w 21 1) a)).toNat % 2 ^ 24 ∧ GoodWord (xyAddr n (bits w 21 1) a) s ∧ cnt = (if bit
      w 17 then x.reg (bits w 0 3) % 0x10000 else bits w 0 16) ∧ x.rep = 0 ∧ SpeIssues 4 0x03 n w s x ∧ cnt = 0)
    ∧ (∃ (n : Nat) (a : Nat) (new : Nat) (v : Nat) (cnt : Nat) (w : Word) (x : Spe) (s : State), (a, new) = x.ea (bits w 18 3) 1 1 ∧
      x.watchpoints = [] ∧ v = (s.rawWord (xyAddr n (bits w 21 1) a)).toNat % 2 ^ 24 ∧ GoodWord (xyAddr n (bits w 21 1) a) s ∧ cnt = (if bit
      w 17 then x.reg (bits w 0 3) % 0x10000 else bits w 0 16) ∧ x.rep = 0 ∧ SpeIssues 4 0x02 n w s x ∧ cnt ≠ 0)
    ∧ (∃ (n : Nat) (a : Nat) (new : Nat) (v : Nat) (cnt : Nat) (w : Word) (x : Spe) (s : State), (a, new) = x.ea (bits w 18 3) 1 1 ∧
      x.watchpoints = [] ∧ v = (s.rawWord (xyAddr n (bits w 21 1) a)).toNat % 2 ^ 24 ∧ GoodWord (xyAddr n (bits w 21 1) a) s ∧ cnt = (if bit
      w 17 then x.reg (bits w 0 3) % 0x10000 else bits w 0 16) ∧ x.rep = 0 ∧ SpeIssues 4 0x03 n w s x ∧ cnt ≠ 0)
    ∧ (∃ (n : Nat) (k : Nat) (j : Nat) (w : Word) (x : Spe) (s : State) (a : Int) (d : Int), k = bits w 22 2 ∧ j = bits w 16 3 ∧ a = x.acc k ∧
      d = x.dReg j ∧ SpeIssues 4 0x04 n w s x ∧ d ≠ 0 ∧ a.natAbs < d.natAbs * 2 ^ 24)
    ∧ (∃ (n : Nat) (k : Nat) (j : Nat) (w : Word) (x : Spe) (s : State) (a : Int) (d : Int), k = bits w 22 2 ∧ j = bits w 16 3 ∧ a = x.acc k ∧
      d = x.dReg j ∧ SpeIssues 4 0x04 n w s x ∧ (d = 0 ∨ d.natAbs * 2 ^ 24 ≤ a.natAbs))
    ∧ (∃ (n : Nat) (k : Nat) (j : Nat) (w : Word) (x : Spe) (s : State) (a : Int) (d : Int), k = bits w 22 2 ∧ j = bits w 16 3 ∧ a = x.acc k ∧
      d = x.dReg j ∧ SpeIssues 4 0x05 n w s x ∧ (a = 0 ∨ isNormal a = true))
    ∧ (∃ (n : Nat) (k : Nat) (j : Nat) (w : Word) (x : Spe) (s : State) (a : Int) (d : Int), k = bits w 22 2 ∧ j = bits w 16 3 ∧ a = x.acc k ∧
      d = x.dReg j ∧ SpeIssues 4 0x05 n w s x ∧ a ≠ 0 ∧ a ≠ -1 ∧ isNormal a = false ∧ normCount a ≠ 0)
    ∧ (∃ (n : Nat) (k : Nat) (j : Nat) (w : Word) (x : Spe) (s : State) (a : Int) (d : Int), k = bits w 22 2 ∧ j = bits w 16 3 ∧ a = x.acc k ∧
      d = x.dReg j ∧ SpeIssues 4 0x06 n w s x ∧ a ≠ -1)
    ∧ (∃ (n : Nat) (k : Nat) (j : Nat) (w : Word) (x : Spe) (s : State) (a : Int) (d : Int), k = bits w 22 2 ∧ j = bits w 16 3 ∧ a = x.acc k ∧
      d = x.dReg j ∧ SpeIssues 4 0x07 n w s x)
    ∧ (∃ (n : Nat) (k : Nat) (j : Nat) (w : Word) (x : Spe) (s : State) (a : Int) (d : Int), k = bits w 22 2 ∧ j = bits w 16 3 ∧ a = x.acc k ∧
      d = x.dReg j ∧ SpeIssues 4 0x08 n w s x)
    ∧ (∃ (n : Nat) (k : Nat) (j : Nat) (w : Word) (x : Spe) (s : State) (a : Int) (d : Int), k = bits w 22 2 ∧ j = bits w 16 3 ∧ a = x.acc k ∧
      d = x.dReg j ∧ SpeIssues 4 0x0B n w s x) :=
  ⟨⟨0, 0, 1, 0x32fd, 0x80008000, {},
    { reg [(0x4005000C, 16)] with mem := [(0x20010000, 253), (0x20010001, 50), (0x20014b28, 253), (0x20014b29, 50)] },
    by unfold GoodWord SpeIssues; decide +kernel⟩,
  ⟨0, 0, 0, 0, 0x80200000, {}, (reg [(0x4005000C, 16)]), by unfold GoodWord SpeIssues; decide +kernel⟩,
  ⟨1, 4085, 0x2377, 0, 0x81c10000,
    { file := [(11, 0xbaf8), (12, 3063), (13, 0x1cf7), (14, 3574), (15, 0x1ef5), (16, 4085), (17, 244), (18, 0x11f3), (19, 754), (20, 0x13f2), (21, 1265), (22, 0x15f0), (23, 1776), (24, 0x17ef), (25, 2286), (26, 0x19ee), (27, 2797), (28, 0x1bec), (29, 3308), (30, 0x1deb), (31, 3818), (32, 0x1fea), (33, 0x10e9), (34, 488), (35, 0x12e7), (36, 999), (37, 0x14e6), (38, 1509), (39, 0x16e5), (40, 2020), (41, 0x18e3), (42, 2531)] },
    { reg [(0x4005100C, 16)] with spes := [(1, { file := [(11, 0xbaf8), (12, 3063), (13, 0x1cf7), (14, 3574), (15, 0x1ef5), (16, 4085), (17, 244), (18, 0x11f3), (19, 754), (20, 0x13f2), (21, 1265), (22, 0x15f0), (23, 1776), (24, 0x17ef), (25, 2286), (26, 0x19ee), (27, 2797), (28, 0x1bec), (29, 3308), (30, 0x1deb), (31, 3818), (32, 0x1fea), (33, 0x10e9), (34, 488), (35, 0x12e7), (36, 999), (37, 0x14e6), (38, 1509), (39, 0x16e5), (40, 2020), (41, 0x18e3), (42, 2531)] })] },
    by unfold GoodWord SpeIssues; decide +kernel⟩,
  ⟨0, 0, 0, 0, 0x81400000, {}, (reg [(0x4005000C, 16)]), by unfold GoodWord SpeIssues; decide +kernel⟩,
  ⟨0, 0, 1, 0, 0, 0x82000000, {}, (reg [(0x4005000C, 16)]), by unfold GoodWord SpeIssues; decide +kernel⟩,
  ⟨0, 0, 1, 0, 0, 0x83000000, {}, (reg [(0x4005000C, 16)]), by unfold GoodWord SpeIssues; decide +kernel⟩,
  ⟨1, 0, 1, 0, 1, 0x82000001, {}, (reg [(0x4005100C, 16)]), by unfold GoodWord SpeIssues; decide +kernel⟩,
  ⟨1, 0, 1, 0, 1, 0x83000001, {}, (reg [(0x4005100C, 16)]), by unfold GoodWord SpeIssues; decide +kernel⟩,
  ⟨0, 0, 3, 0x841b0000,
    { file := [(3, 0x32fd), (4, 0x43fd), (5, 0x54fc), (6, 0x65fb), (7, 0x76fb), (8, 0x87fa), (9, 0x98f9), (10, 0xa9f9), (11, 0xbaf8), (12, 3063), (13, 0x1cf7), (14, 3574), (15, 0x1ef5), (16, 4085), (17, 244), (18, 0x11f3), (19, 754), (20, 0x13f2), (21, 1265), (22, 0x15f0), (23, 1776), (24, 0x17ef), (25, 2286), (26, 0x19ee), (27, 2797), (28, 0x1bec), (29, 3308), (30, 0x1deb), (31, 3818), (32, 0x1fea), (33, 0x10e9), (34, 488), (35, 0x12e7), (36, 999), (37, 0x14e6), (38, 1509), (39, 0x16e5), (40, 2020), (41, 0x18e3), (42, 2531)] },
    { reg [(0x4005000C, 16)] with spes := [(0, { file := [(3, 0x32fd), (4, 0x43fd), (5, 0x54fc), (6, 0x65fb), (7, 0x76fb), (8, 0x87fa), (9, 0x98f9), (10, 0xa9f9), (11, 0xbaf8), (12, 3063), (13, 0x1cf7), (14, 3574), (15, 0x1ef5), (16, 4085), (17, 244), (18, 0x11f3), (19, 754), (20, 0x13f2), (21, 1265), (22, 0x15f0), (23, 1776), (24, 0x17ef), (25, 2286), (26, 0x19ee), (27, 2797), (28, 0x1bec), (29, 3308), (30, 0x1deb), (31, 3818), (32, 0x1fea), (33, 0x10e9), (34, 488), (35, 0x12e7), (36, 999), (37, 0x14e6), (38, 1509), (39, 0x16e5), (40, 2020), (41, 0x18e3), (42, 2531)] })] },
    0x87fa, 0x32fd, by unfold SpeIssues; decide +kernel⟩,
  ⟨0, 0, 1, 0x84010000, {}, (reg [(0x4005000C, 16)]), 0, 0, by unfold SpeIssues; decide +kernel⟩,
  ⟨0, 0, 1, 0x85010000, {}, (reg [(0x4005000C, 16)]), 0, 0, by unfold SpeIssues; decide +kernel⟩,
  ⟨0, 2, 0, 0x85800000,
    { file := [(10, 0xa9f9), (11, 0xbaf8), (12, 3063), (13, 0x1cf7), (14, 3574), (15, 0x1ef5), (16, 4085), (17, 244), (18, 0x11f3), (19, 754), (20, 0x13f2), (21, 1265), (22, 0x15f0), (23, 1776), (24, 0x17ef), (25, 2286), (26, 0x19ee), (27, 2797), (28, 0x1bec), (29, 3308), (30, 0x1deb), (31, 3818), (32, 0x1fea), (33, 0x10e9), (34, 488), (35, 0x12e7), (36, 999), (37, 0x14e6), (38, 1509), (39, 0x16e5), (40, 2020), (41, 0x18e3), (42, 2531)] },
    { reg [(0x4005000C, 16)] with spes := [(0, { file := [(10, 0xa9f9), (11, 0xbaf8), (12, 3063), (13, 0x1cf7), (14, 3574), (15, 0x1ef5), (16, 4085), (17, 244), (18, 0x11f3), (19, 754), (20, 0x13f2), (21, 1265), (22, 0x15f0), (23, 1776), (24, 0x17ef), (25, 2286), (26, 0x19ee), (27, 2797), (28, 0x1bec), (29, 3308), (30, 0x1deb), (31, 3818), (32, 0x1fea), (33, 0x10e9), (34, 488), (35, 0x12e7), (36, 999), (37, 0x14e6), (38, 1509), (39, 0x16e5), (40, 2020), (41, 0x18e3), (42, 2531)] })] },
    0xa9f9, 0, by unfold SpeIssues; decide +kernel⟩,
  ⟨0, 0, 1, 0x86010000, {}, (reg [(0x4005000C, 16)]), 0, 0, by unfold SpeIssues; decide +kernel⟩,
  ⟨0, 0, 1, 0x87010000, {}, (reg [(0x4005000C, 16)]), 0, 0, by unfold SpeIssues; decide +kernel⟩,
  ⟨0, 0, 0, 0x88000007, {}, (reg [(0x4005000C, 16)]), 0, 0, by unfold SpeIssues; decide +kernel⟩,
  ⟨0, 0, 0, 0x8b000000, {}, (reg [(0x4005000C, 16)]), 0, 0, by unfold SpeIssues; decide +kernel⟩⟩

/-- Hypotheses of SpeFlow. -/
theorem witness_SpeFlow :
    (∃ (n : Nat) (w : Word) (x : Spe) (s : State), SpeIssues 5 0x00 n w s x)
    ∧ (∃ (n : Nat) (w : Word) (x : Spe) (s : State), SpeIssues 5 0x01 n w s x)
    ∧ (∃ (n : Nat) (w : Word) (x : Spe) (s : State), SpeIssues 5 0x03 n w s x)
    ∧ (∃ (n : Nat) (w : Word) (x : Spe) (s : State), SpeIssues 5 0x02 n w s x ∧ condHolds (x.reg cSR) (bits w 15 5) = true ∧ x.stack.length <
      16)
    ∧ (∃ (n : Nat) (w : Word) (x : Spe) (s : State), SpeIssues 5 0x02 n w s x ∧ condHolds (x.reg cSR) (bits w 15 5) = true ∧ 16 ≤
      x.stack.length)
    ∧ (∃ (n : Nat) (w : Word) (x : Spe) (s : State), SpeIssues 5 4 n w s x ∧ condHolds (x.reg cSR) (bits w 15 5) = true ∧ 16 ≤ x.stack.length)
    ∧ (∃ (n : Nat) (w : Word) (x : Spe) (s : State) (op : Nat) (c : Instr), (op = 2 ∧ c = Instr.call n w ∨ op = 4 ∧ c = Instr.callr n w ∨ op =
      5 ∧ c = Instr.rts n w) ∧ SpeIssues 5 op n w s x ∧ condHolds (x.reg cSR) (bits w 15 5) = false)
    ∧ (∃ (n : Nat) (w : Word) (x : Spe) (s : State), SpeIssues 5 0x04 n w s x ∧ condHolds (x.reg cSR) (bits w 15 5) = true ∧ x.stack.length <
      16)
    ∧ (∃ (n : Nat) (w : Word) (x : Spe) (s : State), SpeIssues 5 0x05 n w s x ∧ condHolds (x.reg cSR) (bits w 15 5) = true ∧ x.stack = [])
    ∧ (∃ (n : Nat) (w : Word) (x : Spe) (s : State) (f : SpeFrame) (r : List SpeFrame), SpeIssues 5 0x05 n w s x ∧ condHolds (x.reg cSR) (bits
      w 15 5) = true ∧ x.stack = f :: r)
    ∧ (∃ (n : Nat) (w : Word) (x : Spe) (s : State), SpeIssues 5 6 n w s x ∧ x.stack = [])
    ∧ (∃ (n : Nat) (w : Word) (x : Spe) (s : State) (p : Nat) (q : Nat × Nat) (e : Bool) (r : List SpeFrame), SpeIssues 5 6 n w s x ∧ x.stack
      = { pc := p, status := some q, exc := e } :: r)
    ∧ (∃ (n : Nat) (w : Word) (x : Spe) (s : State), SpeIssues 5 0x07 n w s x)
    ∧ (∃ (n : Nat) (w : Word) (x : Spe) (s : State), SpeIssues 5 0x08 n w s x)
    ∧ (∃ (k : Nat), k = 0)
    ∧ (∃ (k : Nat), k ≠ 0)
    ∧ (∃ (n : Nat) (w : Word) (x : Spe) (s : State), SpeIssues 5 0x09 n w s x ∧ doBodyOk n ((x.pc + 1) % 0x4000) (bits w 0 14) s = true ∧ bits
      w 14 10 ≠ 0 ∧ x.loops.length < 4)
    ∧ (∃ (n : Nat) (w : Word) (x : Spe) (s : State), SpeIssues 5 0x09 n w s x ∧ doBodyOk n ((x.pc + 1) % 0x4000) (bits w 0 14) s = true ∧ bits
      w 14 10 ≠ 0 ∧ 4 ≤ x.loops.length)
    ∧ (∃ (n : Nat) (w : Word) (x : Spe) (s : State), SpeIssues 5 0x0A n w s x ∧ doBodyOk n ((x.pc + 1) % 0x4000) (bits w 0 14) s = true ∧
      x.reg (bits w 18 6) % 0x10000 ≠ 0 ∧ x.loops.length < 4)
    ∧ (∃ (n : Nat) (w : Word) (x : Spe) (s : State), SpeIssues 5 10 n w s x ∧ doBodyOk n ((x.pc + 1) % 0x4000) (bits w 0 14) s = true ∧ x.reg
      (bits w 18 6) % 0x10000 ≠ 0 ∧ 4 ≤ x.loops.length)
    ∧ (∃ (n : Nat) (w : Word) (x : Spe) (s : State) (op : Nat) (c : Instr) (k : Nat), (op = 9 ∧ c = Instr.doLoop n w ∧ k = bits w 14 10 ∨ op =
      10 ∧ c = Instr.dor n w ∧ k = x.reg (bits w 18 6) % 0x10000) ∧ SpeIssues 5 op n w s x ∧ doBodyOk n ((x.pc + 1) % 0x4000) (bits w 0 14)
      s = false)
    ∧ (∃ (n : Nat) (w : Word) (x : Spe) (s : State) (op : Nat) (c : Instr) (k : Nat), (op = 9 ∧ c = Instr.doLoop n w ∧ k = bits w 14 10 ∨ op =
      10 ∧ c = Instr.dor n w ∧ k = x.reg (bits w 18 6) % 0x10000) ∧ SpeIssues 5 op n w s x ∧ doBodyOk n ((x.pc + 1) % 0x4000) (bits w 0 14)
      s = true ∧ k = 0)
    ∧ (∃ (n : Nat) (w : Word) (x : Spe) (s : State), SpeIssues 5 0x0B n w s x ∧ x.loops = [])
    ∧ (∃ (n : Nat) (w : Word) (x : Spe) (s : State) (e : SpeLoop) (r : List SpeLoop), SpeIssues 5 0x0B n w s x ∧ x.loops = e :: r)
    ∧ (∃ (n : Nat) (w : Word) (x : Spe) (s : State), SpeIssues 5 0x0C n w s x)
    ∧ (∃ (n : Nat) (w : Word) (x : Spe) (s : State), SpeIssues 5 0x0D n w s x)
    ∧ (∃ (n : Nat) (w : Word) (x : Spe) (s : State), speCan s n = true ∧ x = (spe s n).issue (s.fld (Reg.SPE_REP_CAP n) 0 16) ∧ legalWord w =
      false)
    ∧ (∃ (n : Nat) (w : Word) (x : Spe) (s : State) (op : Nat) (c : Instr), speCan s n = true ∧ x = (spe s n).issue (s.fld (Reg.SPE_REP_CAP n)
      0 16) ∧ (op = 1 ∧ c = Instr.bra n w ∨ op = 2 ∧ c = Instr.call n w ∨ op = 6 ∧ c = Instr.rti n w ∨ op = 7 ∧ c = Instr.rep n w ∨ op = 9 ∧
      c = Instr.doLoop n w) ∧ opClass w = 5 ∧ opCode w = op ∧ legalWord w = true ∧ misplaced x w = true) :=
  ⟨⟨0, 0xa0000000, {}, (reg [(0x4005000C, 16)]), by unfold SpeIssues; decide +kernel⟩,
  ⟨0, 0xa1000063, {}, (reg [(0x4005000C, 16)]), by unfold SpeIssues; decide +kernel⟩,
  ⟨1, 0xa3080000, {}, (reg [(0x4005100C, 16)]), by unfold SpeIssues; decide +kernel⟩,
  ⟨0, 0xa2000063, {}, (reg [(0x4005000C, 16)]), by unfold SpeIssues; decide +kernel⟩,
  ⟨0, 0xa2000063,
    { stack := (List.replicate 16 ⟨3, none, false⟩) },
    { reg [(0x4005000C, 16)] with spes := [(0, { stack := (List.replicate 16 ⟨3, none, false⟩) })] },
    by unfold SpeIssues; decide +kernel⟩,
  ⟨0, 0xA4000000, { stack := List.replicate 16 ⟨3, none, false⟩ },
    { reg [(0x4005000C, 16)] with spes := [(0, { stack := List.replicate 16 ⟨3, none, false⟩ })] }, by unfold SpeIssues; decide +kernel⟩,
  ⟨0, 0xA2008000, {}, (reg [(0x4005000C, 16)]), 2, .call 0 0xA2008000, by unfold SpeIssues; decide +kernel⟩,
  ⟨0, 0xa4000000, {}, (reg [(0x4005000C, 16)]), by unfold SpeIssues; decide +kernel⟩,
  ⟨0, 0xa5000000, {}, (reg [(0x4005000C, 16)]), by unfold SpeIssues; decide +kernel⟩,
  ⟨1, 0xa5000000, { stack := [{ pc := 0 }] }, { reg [(0x4005100C, 16)] with spes := [(1, { stack := [{ pc := 0 }] })] }, { pc := 0 }, [],
    by unfold SpeIssues; decide +kernel⟩,
  ⟨0, 0xA6000000, {}, (reg [(0x4005000C, 16)]), by unfold SpeIssues; decide +kernel⟩,
  ⟨0, 0xA6000000, { stack := [⟨2, some (0, 1), false⟩] },
    { reg [(0x4005000C, 16)] with spes := [(0, { stack := [⟨2, some (0, 1), false⟩] })] }, 2, (0, 1), false, [],
    by unfold SpeIssues; decide +kernel⟩,
  ⟨0, 0xa7000063, {}, (reg [(0x4005000C, 16)]), by unfold SpeIssues; decide +kernel⟩,
  ⟨0, 0xa8000010, {}, (reg [(0x4005000C, 16)]), by unfold SpeIssues; decide +kernel⟩,
  ⟨0, by decide +kernel⟩,
  ⟨2, by decide +kernel⟩,
  ⟨0, 0xa9007940, {}, (reg [(0x4005000C, 16)]), by unfold SpeIssues; decide +kernel⟩,
  ⟨0, 0xa900a004,
    { loops := [{ lc := 12, first := 34, last := 0x781df85 }, { lc := 1, first := 12, last := 0x8ffb1893 }, { lc := 0, first := 0, last := 0x9a48d903 }, { lc := 8, first := 4, last := 0x5afa3f3b }] },
    { reg [(0x4005000C, 16)] with spes := [(0, { loops := [{ lc := 12, first := 34, last := 0x781df85 }, { lc := 1, first := 12, last := 0x8ffb1893 }, { lc := 0, first := 0, last := 0x9a48d903 }, { lc := 8, first := 4, last := 0x5afa3f3b }] }), (1, {})] },
    by unfold SpeIssues; decide +kernel⟩,
  ⟨0, 0xaa000800, { file := [(0, 1)], count := 60 },
    { reg [(0x4005000C, 16)] with spes := [(0, { queued := [{ code := 0, mask := 3, value := 1, seenFrom := 13 }], count := 60 }), (2, {}), (3, { count := 4 })] },
    by unfold SpeIssues; decide +kernel⟩,
  ⟨0, 0xAA000800, { file := [(0, 1)], loops := List.replicate 4 ⟨1, 0, 1⟩ },
    { reg [(0x4005000C, 16)] with spes := [(0, { file := [(0, 1)], loops := List.replicate 4 ⟨1, 0, 1⟩ })] },
    by unfold SpeIssues; decide +kernel⟩,
  ⟨0, 0xA9000000, {}, (reg [(0x4005000C, 16)]), 9, .doLoop 0 0xA9000000, 0, by unfold SpeIssues; decide +kernel⟩,
  ⟨0, 0xA9000800, {}, (reg [(0x4005000C, 16)]), 9, .doLoop 0 0xA9000800, 0, by unfold SpeIssues; decide +kernel⟩,
  ⟨0, 0xab000000, {}, (reg [(0x4005000C, 16)]), by unfold SpeIssues; decide +kernel⟩,
  ⟨0, 0xab000000, { loops := [{ lc := 2, first := 0, last := 1 }] },
    { reg [(0x4005000C, 16)] with spes := [(0, { loops := [{ lc := 2, first := 0, last := 1 }] })] }, { lc := 2, first := 0, last := 1 },
    [], by unfold SpeIssues; decide +kernel⟩,
  ⟨0, 0xac000000, {}, (reg [(0x4005000C, 16)]), by unfold SpeIssues; decide +kernel⟩,
  ⟨0, 0xad000000, {}, (reg [(0x4005000C, 16)]), by unfold SpeIssues; decide +kernel⟩,
  ⟨0, 0xcbdbf940, {}, (reg [(0x4005000C, 16)]), by decide +kernel⟩,
  ⟨0, 0xA1000063, _, { reg [(0x4005000C, 16)] with spes := [(0, { repFresh := true })] }, 1, .bra 0 0xA1000063, by decide +kernel, rfl,
    by decide +kernel⟩⟩

/-- Hypotheses of SpeEvents. -/
theorem witness_SpeEvents :
    (∃ (n : Nat) (src : Nat) (x : Spe) (s : State), speCan s n = true ∧ speAtRest s n = true ∧ x = (spe s n).settle ∧ x.ie = true ∧ speFirst
      s n x.ipl = some src ∧ x.stack.length < 16 ∧ x.busError = false ∧ x.haltAsked = false ∧ x.stepping = false ∧ x.breakpoints = [] ∧
      s.flag (Reg.SPE n + 0x00C) 1 = false)
    ∧ (∃ (n : Nat) (src : Nat) (x : Spe) (s : State), speLive s n = true ∧ speState s n = 2 ∧ x = (spe s n).settle ∧ speFirst s n x.ipl = some
      src ∧ x.ie = false)
    ∧ (∃ (n : Nat) (s : State), speLive s n = true ∧ 1 ≤ speState s n ∧ speState s n ≤ 4)
    ∧ (∃ (n : Nat) (s : State), n < enginesOf s.variant ∧ busUp s = true ∧ debugControls s = true ∧ 1 ≤ speState s n ∧ speState s n ≤ 2 ∧
      speAtRest s n = true ∧ s.flag (Reg.SPE n + 0x00C) 1 = false ∧ (spe s n).busError = false)
    ∧ (∃ (n : Nat) (s : State), n < enginesOf s.variant ∧ busUp s = true ∧ debugControls s = true ∧ speState s n = 5 ∧ (spe s n).resumeTo < 5)
    ∧ (∃ (n : Nat) (s : State), n < enginesOf s.variant ∧ busUp s = true ∧ debugControls s = true)
    ∧ (∃ (n : Nat) (s : State), n < enginesOf s.variant ∧ busUp s = true ∧ debugControls s = true ∧ speState s n = 5)
    ∧ (∃ (m : Master) (n : Nat) (s : State), n < 2 ∧ Reaches m (ctrlAddr (0x50 + n)) s ∧ s.rd (statAddr (0x50 + n)) = 4 ∧ s.rd (ctrlAddr (0x50
      + n)) = 0 ∧ speTrusted s n = true) :=
  ⟨⟨0, 8, { file := [(42, 0x9cc167)] },
    { reg [(0x40005120, 16), (0x40031014, 0x8000), (0x40031018, 0x8000), (0x4005000C, 16), (0x40050060, 0x20000)] with spes := [(0, { file := [(42, 0x9cc167)] })] },
    by decide +kernel⟩,
  ⟨0, 8, {}, (reg [(0x40005120, 16), (0x40031014, 0x8000), (0x40031018, 0x8000), (0x4005000C, 32), (0x40050060, 0x20000)]),
    by decide +kernel⟩,
  ⟨0, (reg [(0x4005000C, 64)]), by decide +kernel⟩,
  ⟨0, (reg [(0x4005000C, 32)]), by decide +kernel⟩,
  ⟨0, (reg [(0x4005000C, 80)]), by decide +kernel⟩,
  ⟨0,
    { reg [(0x40005120, 16), (0x40031014, 0x8000), (0x40031018, 0x8000), (0x4005000C, 16), (0x40050060, 0x20000)] with spes := [(0, { file := [(42, 0x9cc167)] })] },
    by decide +kernel⟩,
  ⟨0, (reg [(0x4005000C, 80)]), by decide +kernel⟩,
  ⟨.dma, 1, State.reset, by unfold Reaches; decide +kernel⟩⟩

/-- Hypotheses of DivisionIsExact. -/
theorem witness_DivisionIsExact :
    (∃ (a : Int) (k : Int), -(2 ^ 55 : Int) ≤ a ∧ a < 2 ^ 55 ∧ -(2 ^ 23 : Int) ≤ k ∧ k < 2 ^ 23 ∧ k ≠ 0 ∧ a.natAbs < k.natAbs * 2 ^ 24)
    ∧ (∃ (a : Int) (k : Int), -(2 ^ 55 : Int) ≤ a ∧ a < 2 ^ 55 ∧ -(2 ^ 23 : Int) ≤ k ∧ k < 2 ^ 23 ∧ (k = 0 ∨ k.natAbs * 2 ^ 24 ≤ a.natAbs)) :=
  ⟨⟨0x1ffffff, 2, by decide +kernel⟩,
  ⟨0x7ffffffffffffe, 0, by decide +kernel⟩⟩

/-- Hypotheses of AccumulatorSeenNext. -/
theorem witness_AccumulatorSeenNext :
    ∃ (k : Nat), k < 4 :=
  ⟨0, by decide +kernel⟩

/-- Hypotheses of Converters. -/
theorem witness_Converters :
    (∃ (k : Nat) (s : State), frozen s (0xB0 + k) = false ∧ senseRuns s = true ∧ adcOn s k = true ∧ (adc s k).work = .idle)
    ∧ (∃ (k : Nat) (s : State) (ch : Nat), frozen s (176 + k) = false ∧ senseRuns s = true ∧ adcOn s k = true ∧ ch < 16 ∧ (adc s k).work =
      AdcWork.seq ch ∧ converted s k = true)
    ∧ (∃ (k : Nat) (s : State), frozen s (176 + k) = false ∧ senseRuns s = true ∧ adcOn s k = true ∧ (adc s k).work ≠ AdcWork.idle ∧ converted
      s k = false)
    ∧ (∃ (k : Nat) (s : State) (j : Nat) (ch : Nat), frozen s (176 + k) = false ∧ senseRuns s = true ∧ adcOn s k = true ∧ j < 4 ∧ (adc s
      k).work = AdcWork.direct j ch ∧ converted s k = true)
    ∧ (∃ (s : State), frozen s 189 = false ∧ senseRuns s = true ∧ seqOn s = true ∧ s.now < s.sense.nextRound)
    ∧ (∃ (s : State), frozen s 189 = false ∧ senseRuns s = true ∧ seqOn s = true ∧ s.sense.nextRound ≤ s.now ∧ s.sense.inRound = true)
    ∧ (∃ (s : State), frozen s 189 = false ∧ senseRuns s = true ∧ seqOn s = true ∧ s.sense.nextRound ≤ s.now ∧ s.sense.inRound = false)
    ∧ (∃ (s : State), frozen s 0x07 = false ∧ coxState s = 3 ∧ s.sense.lastRound + 2000000 ≤ s.now)
    ∧ (∃ (d : Rat) (s : State), frozen s 0x07 = false ∧ senseRuns s = true ∧ d = (if s.sense.xCount = 0 then s.sense.diff else s.sense.diff +
      (s.sense.xSum / (s.sense.xCount : Rat) - s.sense.diff) / 1000))
    ∧ (∃ (m : Master) (v : Word) (s : State), Reaches m Reg.REF_SEL s ∧ Accepted (defOf .ref 0x040) Reg.REF_SEL m v s ∧ coxState s = 2)
    ∧ (∃ (m : Master) (v : Word) (s : State), Reaches m Reg.REF_SEL s ∧ Accepted (defOf .ref 0x040) Reg.REF_SEL m v s ∧ coxState s ≠ 2)
    ∧ (∃ (k : Nat) (ones : Nat) (fast : Nat) (value : Int) (quick : Int) (s : State), frozen s 188 = false ∧ senseRuns s = true ∧ sdmOn s k =
      true ∧ value = densityValue 24 (12 + 3 * s.fld (Reg.SDM_CFG k) 8 3) ones ∧ quick = densityValue 16 8 fast ∧ s.flag (Reg.SDM_CFG k) 29
      = false ∧ sdmSettled s k = true)
    ∧ (∃ (k : Nat) (ones : Nat) (fast : Nat) (value : Int) (quick : Int) (s : State), frozen s 188 = false ∧ senseRuns s = true ∧ sdmOn s k =
      true ∧ value = densityValue 24 (12 + 3 * s.fld (Reg.SDM_CFG k) 8 3) ones ∧ quick = densityValue 16 8 fast ∧ s.flag (Reg.SDM_CFG k) 29
      = false ∧ sdmSettled s k = false)
    ∧ (∃ (k : Nat) (ones : Nat) (fast : Nat) (value : Int) (quick : Int) (s : State), frozen s 188 = false ∧ senseRuns s = true ∧ sdmOn s k =
      true ∧ value = densityValue 24 (12 + 3 * s.fld (Reg.SDM_CFG k) 8 3) ones ∧ quick = densityValue 16 8 fast ∧ s.flag (Reg.SDM_CFG k) 29
      = true)
    ∧ (∃ (k : Nat) (s : State), frozen s 0xBC = false ∧ senseRuns s = true ∧ k < sdmsOf s.variant ∧ s.flag (Reg.SDM + 0x008) 0 = true ∧ s.flag
      (Reg.SDM_CFG k) 31 = true) :=
  ⟨⟨2, (reg [(0x400B2008, 1)]), by decide +kernel⟩,
  ⟨2, { reg [(0x400B2008, 1)] with now := 1000, adcs := [(2, { work := (.seq 1) })] }, 1, by decide +kernel⟩,
  ⟨2, { reg [(0x400B2008, 1)] with adcs := [(2, { work := (.seq 1) })] }, by decide +kernel⟩,
  ⟨2, { reg [(0x400B2008, 1)] with now := 1000, adcs := [(2, { work := (.direct 1 2) })] }, 1, 2, by decide +kernel⟩,
  ⟨{ reg [(0x400BD008, 1)] with sense := { nextRound := 1 } }, by decide +kernel⟩,
  ⟨{ reg [(0x400BD008, 1)] with sense := { inRound := true } }, by decide +kernel⟩,
  ⟨(reg [(0x400BD008, 1)]), by decide +kernel⟩,
  ⟨{ State.reset with now := 0x1e8480, regs := [(0x40000058, 3), (0x40002018, 2), (0x4001000c, 48), (0x40024018, 0x80000)] },
    by decide +kernel⟩,
  ⟨0, State.reset, by decide +kernel⟩,
  ⟨.dma, 5, (reg [(0x4001000C, 32)]), by unfold Reaches Accepted; decide +kernel⟩,
  ⟨.dma, 5, State.reset, by unfold Reaches Accepted; decide +kernel⟩,
  ⟨0, 0, 0, _, _, { reg [(0x400BC008, 1), (0x400BC040, 1), (0x400BC100, 0x80000000)] with now := 1000000 }, by decide +kernel,
    by decide +kernel, by decide +kernel, rfl, rfl, by decide +kernel⟩,
  ⟨0, 0, 0, _, _, { reg [(0x400BC008, 1), (0x400BC040, 1), (0x400BC100, 0x80000000)] with sdms := [(0, { lastOut := some 0 })] },
    by decide +kernel, by decide +kernel, by decide +kernel, rfl, rfl, by decide +kernel⟩,
  ⟨0, 0, 0, _, _, (reg [(0x400BC008, 1), (0x400BC040, 1), (0x400BC100, 0xA0000000)]), by decide +kernel, by decide +kernel,
    by decide +kernel, rfl, rfl, by decide +kernel⟩,
  ⟨4, (reg [(0x400BC008, 1), (0x400BC140, 0x80000000)]), by decide +kernel⟩⟩

/-- Hypotheses of TemperatureAndPosition. -/
theorem witness_TemperatureAndPosition :
    (∃ (t0 : Int) (t1 : Int) (t2 : Int) (t3 : Int) (mx : Int) (s : State), frozen s 0x06 = false ∧ busUp s = true ∧ (∀ x ∈ [t0, t1, t2, t3],
      -800 ≤ x ∧ x ≤ 2560) ∧ (∃ x ∈ [t0, t1, t2, t3], x = mx ∧ ((x : Rat) - median [t0, t1, t2, t3]).abs ≤ 320) ∧ (∀ x ∈ [t0, t1, t2, t3],
      ((x : Rat) - median [t0, t1, t2, t3]).abs ≤ 320 → x ≤ mx))
    ∧ (∃ (n : Nat) (back : Nat) (s : State), frozen s (192 + n) = false ∧ encCounts s n = true ∧ -posMax < (enc s n).pos ∧ (enc s n).pos <
      posMax ∧ ↑back < encDelay s n)
    ∧ (∃ (n : Nat) (a : Bool) (b : Bool) (z : Bool) (back : Nat) (s : State) (up : Bool), frozen s (192 + n) = false ∧ encCounts s n = true ∧
      -posMax < (enc s n).pos ∧ (enc s n).pos < posMax ∧ encDelay s n ≤ ↑back ∧ encMode s n = 1 ∧ (z = false ∨ (enc s n).z = true) ∧ ((enc s
      n).a ≠ a ∧ (enc s n).b = b ∧ up = ((a != b) != s.flag (Reg.ENC_CFG n) 29) ∨ (enc s n).a = a ∧ (enc s n).b ≠ b ∧ up = ((b == a) !=
      s.flag (Reg.ENC_CFG n) 29)))
    ∧ (∃ (n : Nat) (a : Bool) (b : Bool) (z : Bool) (back : Nat) (s : State), frozen s (192 + n) = false ∧ encCounts s n = true ∧ -posMax <
      (enc s n).pos ∧ (enc s n).pos < posMax ∧ encDelay s n ≤ ↑back ∧ encMode s n = 1 ∧ (z = false ∨ (enc s n).z = true) ∧ (enc s n).a ≠ a ∧
      (enc s n).b ≠ b)
    ∧ (∃ (n : Nat) (a : Bool) (b : Bool) (z : Bool) (back : Nat) (s : State), frozen s (192 + n) = false ∧ encCounts s n = true ∧ -posMax <
      (enc s n).pos ∧ (enc s n).pos < posMax ∧ encDelay s n ≤ ↑back ∧ encMode s n = 1 ∧ (enc s n).a = a ∧ (enc s n).b = b ∧ z = true ∧ (enc
      s n).z = false)
    ∧ (∃ (n : Nat) (a : Bool) (b : Bool) (z : Bool) (back : Nat) (s : State), frozen s (192 + n) = false ∧ encCounts s n = true ∧ -posMax <
      (enc s n).pos ∧ (enc s n).pos < posMax ∧ encDelay s n ≤ ↑back ∧ encMode s n = 2 ∧ hallSector a b z = none)
    ∧ (∃ (n : Nat) (a : Bool) (b : Bool) (z : Bool) (back : Nat) (s : State) (i : Nat) (j : Nat), frozen s (192 + n) = false ∧ encCounts s n =
      true ∧ -posMax < (enc s n).pos ∧ (enc s n).pos < posMax ∧ encDelay s n ≤ ↑back ∧ encMode s n = 2 ∧ hallSector a b z = some j ∧
      hallSector (enc s n).a (enc s n).b (enc s n).z = some i ∧ i ≠ j ∧ j = (i + 1) % 6 ∧ s.flag (Reg.ENC_CFG n) 29 = false)
    ∧ (∃ (n : Nat) (a : Bool) (b : Bool) (z : Bool) (back : Nat) (s : State) (i : Nat) (j : Nat), frozen s (192 + n) = false ∧ encCounts s n =
      true ∧ -posMax < (enc s n).pos ∧ (enc s n).pos < posMax ∧ encDelay s n ≤ ↑back ∧ encMode s n = 2 ∧ hallSector a b z = some j ∧
      hallSector (enc s n).a (enc s n).b (enc s n).z = some i ∧ i ≠ j ∧ i = (j + 1) % 6 ∧ s.flag (Reg.ENC_CFG n) 29 = false)
    ∧ (∃ (n : Nat) (a : Bool) (b : Bool) (z : Bool) (back : Nat) (s : State) (i : Nat) (j : Nat), frozen s (192 + n) = false ∧ encCounts s n =
      true ∧ -posMax < (enc s n).pos ∧ (enc s n).pos < posMax ∧ encDelay s n ≤ ↑back ∧ encMode s n = 2 ∧ hallSector a b z = some j ∧
      hallSector (enc s n).a (enc s n).b (enc s n).z = some i ∧ i ≠ j ∧ j ≠ (i + 1) % 6 ∧ i ≠ (j + 1) % 6)
    ∧ (∃ (n : Nat) (a : Bool) (b : Bool) (back : Nat) (s : State), frozen s (192 + n) = false ∧ encCounts s n = true ∧ -posMax < (enc s n).pos
      ∧ (enc s n).pos < posMax ∧ encDelay s n ≤ ↑back ∧ encMode s n = 3 ∧ (enc s n).a = false ∧ a = true ∧ (enc s n).b = b ∧ ∀ (u : Int),
      (enc s n).lastB = some u → encDelay s n < rootNow s - ↑back - u)
    ∧ (∃ (n : Nat) (a : Bool) (back : Nat) (s : State) (l : Int), frozen s (192 + n) = false ∧ encCounts s n = true ∧ -posMax < (enc s n).pos
      ∧ (enc s n).pos < posMax ∧ encDelay s n ≤ ↑back ∧ encMode s n = 4 ∧ (enc s n).a = false ∧ a = true ∧ (enc s n).last = some l ∧ s.flag
      (Reg.ENC_CFG n) 29 = false)
    ∧ (∃ (n : Nat) (s : State), frozen s (0xC0 + n) = false ∧ encCounts s n = true ∧ (∀ l, (enc s n).last = some l → l + s.fld
      (Reg.ENC_VEL_CFG n) 0 16 * 800 ≤ rootNow s))
    ∧ (∃ (n : Nat) (s : State) (l : Int), frozen s (0xC0 + n) = false ∧ encCounts s n = true ∧ (enc s n).last = some l ∧ rootNow s < l + s.fld
      (Reg.ENC_VEL_CFG n) 0 16 * 800)
    ∧ (∃ (m : Master) (n : Nat) (v : Word) (s : State), n < 16 ∧ Reaches m (Reg.ENC_POS_SET_HI n) s ∧ Accepted (defOf .enc 0x084)
      (Reg.ENC_POS_SET_HI n) m v s ∧ axisOn s n = true)
    ∧ (∃ (m : Master) (n : Nat) (v : Word) (s : State), n < 16 ∧ Reaches m (Reg.ENC_POS_SET_HI n) s ∧ Accepted (defOf .enc 0x084)
      (Reg.ENC_POS_SET_HI n) m v s ∧ axisOn s n = false) :=
  ⟨⟨3, 0, 1, 1, 3, State.reset, by decide +kernel⟩,
  ⟨1, 0, (reg [(0x400C1008, 1), (0x400C1040, 1)]), by decide +kernel⟩,
  ⟨1, false, true, false, 1000, (reg [(0x400C1008, 1), (0x400C1040, 1)]), false, by decide +kernel⟩,
  ⟨0, true, true, false, 1000, (reg [(0x400C0008, 1), (0x400C0040, 1)]), by decide +kernel⟩,
  ⟨1, false, false, true, 1000, (reg [(0x400C1008, 1), (0x400C1040, 1)]), by decide +kernel⟩,
  ⟨0, true, true, true, 1000, (reg [(0x400C0008, 1), (0x400C0040, 2)]), by decide +kernel⟩,
  ⟨1, true, false, true, 1000, { reg [(0x400C1008, 1), (0x400C1040, 2)] with encs := [(1, { z := true })] }, 4, 5, by decide +kernel⟩,
  ⟨1, true, false, true, 1000, { reg [(0x400C1008, 1), (0x400C1040, 2)] with encs := [(1, { a := true })] }, 0, 5, by decide +kernel⟩,
  ⟨0, true, true, false, 1000, { reg [(0x400C0008, 1), (0x400C0040, 2)] with encs := [(0, { z := true })] }, 4, 1, by decide +kernel⟩,
  ⟨1, true, false, 1000, (reg [(0x400C1008, 1), (0x400C1040, 3)]), and_four (by decide +kernel)
    (and_four (by decide +kernel) ⟨by decide +kernel, nofun⟩)⟩,
  ⟨0, true, 1000, { reg [(0x400C0008, 1), (0x400C0040, 4)] with encs := [(0, { last := (some 4) })] }, 4, by decide +kernel⟩,
  ⟨1, (reg [(0x400C1008, 1), (0x400C1040, 4)]), by decide +kernel⟩,
  ⟨1, { reg [(0x400C1008, 1), (0x400C1040, 2)] with encs := [(1, { last := (some 0x3d0905) })] }, 0x3d0905, by decide +kernel⟩,
  ⟨.dma, 1, 3, { reg [(0x40081008, 1)] with pages := { keys := [(193, (.opened 1 0))] } }, by unfold Reaches Accepted; decide +kernel⟩,
  ⟨.dma, 1, 3, { State.reset with pages := { keys := [(193, (.opened 1 0))] } }, by unfold Reaches Accepted; decide +kernel⟩⟩

/-- Hypotheses of AxisPwm. -/
theorem witness_AxisPwm :
    (∃ (n : Nat) (s : State), frozen s (144 + n) = false ∧ n < axesOf s.variant ∧ pwmOn s n = true ∧ inRow s = true ∧ (pwm s n).run = true ∧
      halfEnd s n ≤ hrEnd s ∧ (pwm s n).down = true)
    ∧ (∃ (n : Nat) (s : State), frozen s (144 + n) = false ∧ n < axesOf s.variant ∧ pwmOn s n = true ∧ inRow s = true ∧ (pwm s n).run = true ∧
      halfEnd s n ≤ hrEnd s ∧ (pwm s n).down = false)
    ∧ (∃ (m : Master) (n : Nat) (s : State), n < 16 ∧ Reaches m (Reg.PWM_COMMIT n) s ∧ s.fld (Reg.PWM_CFG n) 4 1 = 0)
    ∧ (∃ (m : Master) (n : Nat) (s : State), n < 16 ∧ Reaches m (Reg.PWM_COMMIT n) s ∧ s.fld (Reg.PWM_CFG n) 4 1 = 1)
    ∧ (∃ (n : Nat) (k : Nat) (s : State), frozen s (0x90 + n) = false ∧ n < axesOf s.variant ∧ xcmpDue s n k = true)
    ∧ (∃ (n : Nat) (x : Nat) (s : State), frozen s (144 + n) = false ∧ n < axesOf s.variant ∧ x < 3 ∧ pwmOn s n = true ∧ inRow s = true ∧ (pwm
      s n).run = true ∧ ((pwm s n).phase x).crossed = false ∧ ((pwm s n).phase x).req = startRequest s n x ∧ (cmpCrosses s n x = false ∨
      hrEnd s < crossing s n x))
    ∧ (∃ (n : Nat) (x : Nat) (s : State) (high : Bool) (at_ : Int) (q : PwmPhase), frozen s (144 + n) = false ∧ n < axesOf s.variant ∧ x < 3 ∧
      pwmOn s n = true ∧ inRow s = true ∧ (pwm s n).run = true ∧ ((pwm s n).phase x).crossed = false ∧ (((pwm s n).phase x).req ≠
      startRequest s n x ∧ high = startRequest s n x ∧ at_ = grid s n (pwm s n).half ∨ ((pwm s n).phase x).req = startRequest s n x ∧
      cmpCrosses s n x = true ∧ crossing s n x ≤ hrEnd s ∧ high = !(pwm s n).down ∧ at_ = crossing s n x) ∧ q = ((pwm s n).phase x).side
      high ∧ (tripLatched s n = true ∨ (pwm s n).resume = true))
    ∧ (∃ (n : Nat) (x : Nat) (s : State) (high : Bool) (at_ : Int) (on : Int) (q : PwmPhase), frozen s (144 + n) = false ∧ n < axesOf
      s.variant ∧ x < 3 ∧ pwmOn s n = true ∧ inRow s = true ∧ (pwm s n).run = true ∧ ((pwm s n).phase x).crossed = false ∧ (((pwm s n).phase
      x).req ≠ startRequest s n x ∧ high = startRequest s n x ∧ at_ = grid s n (pwm s n).half ∨ ((pwm s n).phase x).req = startRequest s n x
      ∧ cmpCrosses s n x = true ∧ crossing s n x ≤ hrEnd s ∧ high = !(pwm s n).down ∧ at_ = crossing s n x) ∧ q = ((pwm s n).phase x).side
      high ∧ tripLatched s n = false ∧ (pwm s n).resume = false ∧ q.dropLow = false ∧ q.stretchEnd = none ∧ q.ext = none ∧ on = grid s n
      (at_ + ↑(deadTime s n high)) ∧ pulseFilter s n x high on = PulseFilter.keep)
    ∧ (∃ (n : Nat) (x : Nat) (s : State) (high : Bool) (at_ : Int) (on : Int) (q : PwmPhase), frozen s (144 + n) = false ∧ n < axesOf
      s.variant ∧ x < 3 ∧ pwmOn s n = true ∧ inRow s = true ∧ (pwm s n).run = true ∧ ((pwm s n).phase x).crossed = false ∧ (((pwm s n).phase
      x).req ≠ startRequest s n x ∧ high = startRequest s n x ∧ at_ = grid s n (pwm s n).half ∨ ((pwm s n).phase x).req = startRequest s n x
      ∧ cmpCrosses s n x = true ∧ crossing s n x ≤ hrEnd s ∧ high = !(pwm s n).down ∧ at_ = crossing s n x) ∧ q = ((pwm s n).phase x).side
      high ∧ tripLatched s n = false ∧ (pwm s n).resume = false ∧ q.dropLow = false ∧ q.stretchEnd = none ∧ q.ext = none ∧ on = grid s n
      (at_ + ↑(deadTime s n high)) ∧ pulseFilter s n x high on = PulseFilter.drop)
    ∧ (∃ (n : Nat) (x : Nat) (s : State) (high : Bool) (at_ : Int) (on : Int) (q : PwmPhase) (e : Int), frozen s (144 + n) = false ∧ n <
      axesOf s.variant ∧ x < 3 ∧ pwmOn s n = true ∧ inRow s = true ∧ (pwm s n).run = true ∧ ((pwm s n).phase x).crossed = false ∧ (((pwm s
      n).phase x).req ≠ startRequest s n x ∧ high = startRequest s n x ∧ at_ = grid s n (pwm s n).half ∨ ((pwm s n).phase x).req =
      startRequest s n x ∧ cmpCrosses s n x = true ∧ crossing s n x ≤ hrEnd s ∧ high = !(pwm s n).down ∧ at_ = crossing s n x) ∧ q = ((pwm s
      n).phase x).side high ∧ tripLatched s n = false ∧ (pwm s n).resume = false ∧ q.dropLow = false ∧ q.stretchEnd = none ∧ q.ext = none ∧
      on = grid s n (at_ + ↑(deadTime s n high)) ∧ pulseFilter s n x high on = PulseFilter.stretch e)
    ∧ (∃ (n : Nat) (x : Nat) (s : State) (high : Bool) (at_ : Int) (on : Int) (q : PwmPhase) (e : Int) (stop : Int), frozen s (144 + n) =
      false ∧ n < axesOf s.variant ∧ x < 3 ∧ pwmOn s n = true ∧ inRow s = true ∧ (pwm s n).run = true ∧ ((pwm s n).phase x).crossed = false
      ∧ (((pwm s n).phase x).req ≠ startRequest s n x ∧ high = startRequest s n x ∧ at_ = grid s n (pwm s n).half ∨ ((pwm s n).phase x).req
      = startRequest s n x ∧ cmpCrosses s n x = true ∧ crossing s n x ≤ hrEnd s ∧ high = !(pwm s n).down ∧ at_ = crossing s n x) ∧ q = ((pwm
      s n).phase x).side high ∧ tripLatched s n = false ∧ (pwm s n).resume = false ∧ q.dropLow = false ∧ q.stretchEnd = none ∧ q.ext = some
      e ∧ q.low = true ∧ q.lowOn = none ∧ stop = min e (loadAfter s n false) ∧ at_ < stop ∧ on = grid s n (stop + ↑(deadTime s n high)) ∧
      pulseFilter s n x high on = PulseFilter.keep)
    ∧ (∃ (n : Nat) (x : Nat) (s : State) (g : Int), frozen s (144 + n) = false ∧ n < axesOf s.variant ∧ x < 3 ∧ ((pwm s n).phase x).stretchEnd
      = none ∧ ((pwm s n).phase x).highOn = some g ∧ g ≤ hrEnd s)
    ∧ (∃ (n : Nat) (x : Nat) (s : State) (g : Int), frozen s (144 + n) = false ∧ n < axesOf s.variant ∧ x < 3 ∧ ((pwm s n).phase x).stretchEnd
      = none ∧ ((pwm s n).phase x).highOn = none ∧ ((pwm s n).phase x).lowOn = some g ∧ g ≤ hrEnd s)
    ∧ (∃ (n : Nat) (x : Nat) (s : State) (g : Int), frozen s (144 + n) = false ∧ n < axesOf s.variant ∧ x < 3 ∧ ((pwm s n).phase x).stretchEnd
      = some g ∧ g ≤ hrEnd s ∧ ((pwm s n).phase x).low = true)
    ∧ (∃ (n : Nat) (x : Nat) (s : State) (g : Int), frozen s (144 + n) = false ∧ n < axesOf s.variant ∧ x < 3 ∧ ((pwm s n).phase x).stretchEnd
      = some g ∧ g ≤ hrEnd s ∧ ((pwm s n).phase x).low = false)
    ∧ (∃ (n : Nat) (level : Nat) (s : State), n < axesOf s.variant ∧ s.flag (Reg.PWM_TRIP_CFG n) 31 = true ∧ (pwm s n).cmp = false ∧ s.fld
      (Reg.PWM_TRIP_CFG n) 0 10 * 0x249F00 < level * 1024)
    ∧ (∃ (n : Nat) (level : Nat) (s : State), n < axesOf s.variant ∧ (level + tripHyst s n) * 1024 ≤ s.fld (Reg.PWM_TRIP_CFG n) 0 10 *
      0x249F00)
    ∧ (∃ (n : Nat) (level : Nat) (s : State), n < axesOf s.variant ∧ s.fld (Reg.PWM_TRIP_CFG n) 0 10 * 0x249F00 < (level + tripHyst s n) *
      1024 ∧ level * 1024 ≤ s.fld (Reg.PWM_TRIP_CFG n) 0 10 * 0x249F00)
    ∧ (∃ (m : Master) (n : Nat) (s : State), n < 16 ∧ Reaches m (Reg.PWM_TRIP_STAT n) s ∧ tripActive s n = true)
    ∧ (∃ (m : Master) (n : Nat) (s : State), n < 16 ∧ Reaches m (Reg.PWM_TRIP_STAT n) s ∧ tripActive s n = false ∧ tripLatched s n = true)
    ∧ (∃ (n : Nat) (taps : Nat) (s : State), frozen s (0x90 + n) = false ∧ n < axesOf s.variant ∧ taps < 256)
    ∧ (∃ (n : Nat) (first : Int) (s : State), frozen s (144 + n) = false ∧ n < axesOf s.variant ∧ pwmOn s n = true ∧ inRow s = true ∧ (pwm s
      n).run = false ∧ (pwm s n).enabledAt < s.now ∧ first = ↑(((pwm s n).enabledAt + 1) * 64) ∧ s.fld (Reg.PWM_CFG n) 12 2 = 0 ∧ s.fld
      (Reg.PWM_TOP n) 0 24 ≠ 0)
    ∧ (∃ (n : Nat) (first : Int) (s : State) (q : Pwm), frozen s (144 + n) = false ∧ n < axesOf s.variant ∧ pwmOn s n = true ∧ inRow s = true
      ∧ (pwm s n).run = false ∧ (pwm s n).enabledAt < s.now ∧ first = ↑(((pwm s n).enabledAt + 1) * 64) ∧ s.fld (Reg.PWM_CFG n) 12 2 = 1 ∧ q
      = pwm s (s.fld (Reg.PWM_CFG n) 16 4) ∧ q.run = true ∧ q.down = false ∧ q.held = false ∧ frozen s (144 + s.fld (Reg.PWM_CFG n) 16 4) =
      false ∧ first ≤ q.half ∧ q.half ≤ hrEnd s)
    ∧ (∃ (n : Nat) (first : Int) (s : State) (q : Pwm), frozen s (144 + n) = false ∧ n < axesOf s.variant ∧ pwmOn s n = true ∧ inRow s = true
      ∧ (pwm s n).run = false ∧ (pwm s n).enabledAt < s.now ∧ first = ↑(((pwm s n).enabledAt + 1) * 64) ∧ s.fld (Reg.PWM_CFG n) 12 2 = 1 ∧ q
      = pwm s (s.fld (Reg.PWM_CFG n) 16 4) ∧ (q.run = false ∨ q.down = true ∨ q.held = true ∨ q.half < first))
    ∧ (∃ (n : Nat) (first : Int) (s : State) (d : Int), frozen s (144 + n) = false ∧ n < axesOf s.variant ∧ pwmOn s n = true ∧ inRow s = true
      ∧ (pwm s n).run = false ∧ (pwm s n).enabledAt < s.now ∧ first = ↑(((pwm s n).enabledAt + 1) * 64) ∧ s.fld (Reg.PWM_CFG n) 12 2 = 2 ∧ d
      = (↑(s.fld (Reg.PWM_SYNC_PHASE n) 0 24) - itHr s) % ↑(2 * max 1 (s.fld (Reg.PWM_TOP n) 0 24)) ∧ d < 64 ∧ s.fld (Reg.PWM_TOP n) 0 24 ≠
      0)
    ∧ (∃ (n : Nat) (first : Int) (s : State) (d : Int), frozen s (144 + n) = false ∧ n < axesOf s.variant ∧ pwmOn s n = true ∧ inRow s = true
      ∧ (pwm s n).run = false ∧ (pwm s n).enabledAt < s.now ∧ first = ↑(((pwm s n).enabledAt + 1) * 64) ∧ s.fld (Reg.PWM_CFG n) 12 2 = 2 ∧ d
      = (↑(s.fld (Reg.PWM_SYNC_PHASE n) 0 24) - itHr s) % ↑(2 * max 1 (s.fld (Reg.PWM_TOP n) 0 24)) ∧ 64 ≤ d) :=
  ⟨⟨4, { reg [(0x40094008, 1)] with pwms := [(4, { run := true, down := true, xcmp := [0, 0, 0], presc := [0, 0, 0, 0, 0] })] },
    by decide +kernel⟩,
  ⟨4, { reg [(0x40094008, 1)] with pwms := [(4, { run := true, xcmp := [0, 0, 0], presc := [0, 0, 0, 0, 0] })] }, by decide +kernel⟩,
  ⟨.dma, 1, State.reset, by unfold Reaches; decide +kernel⟩,
  ⟨.dma, 1, (reg [(0x40091040, 16)]), by unfold Reaches; decide +kernel⟩,
  ⟨1, 0, { reg [(0x40091008, 1)] with pwms := [(1, { run := true, xcmp := [0xc0000000, 0xc0000000], presc := [0, 0, 0, 0, 0] })] },
    by decide +kernel⟩,
  ⟨0, 0, { reg [(0x40090008, 1), (0x40090048, 0x1000), (0x4009005C, 3584)] with pwms := [(0, { run := true, len := 0x1000 })] },
    by decide +kernel⟩,
  ⟨0, 0,
    { reg [(0x40090008, 1), (0x40090048, 0x1000), (0x4009005C, 0)] with pwms := [(0, { run := true, len := 0x1000, resume := true })] },
    true, 0, {}, by decide +kernel⟩,
  ⟨0, 0,
    { reg [(0x40090008, 1), (0x40090048, 0x1000), (0x4009005C, 0), (0x40090068, 0)] with pwms := [(0, { run := true, len := 0x1000 })] },
    true, 0, 0, {}, by decide +kernel⟩,
  ⟨0, 0,
    { reg [(0x40090008, 1), (0x40090048, 0x1000), (0x4009005C, 3584), (0x40090068, 0), (0x4009006C, 768)] with pwms := [(0, { run := true, down := true, len := 0x1000 })] },
    true, 0, 0, {}, by decide +kernel⟩,
  ⟨0, 0,
    { reg [(0x40090008, 1), (0x40090048, 0x1000), (0x40090040, 256), (0x4009005C, 3840), (0x40090068, 16), (0x4009006C, 768)] with pwms := [(0, { run := true, down := true, len := 0x1000 })] },
    true, 0, 16, {}, 784, by decide +kernel⟩,
  ⟨0, 0,
    { reg [(0x40090008, 1), (0x40090048, 0x1000), (0x4009005C, 0), (0x40090068, 0)] with pwms := [(0, { run := true, len := 0x1000, u := { ext := some 112, low := true } })] },
    true, 0, 112, { ext := some 112, low := true }, 112, 112, by decide +kernel⟩,
  ⟨4, 1, { State.reset with pwms := [(4, { xcmp := [0, 0, 0], presc := [0, 0, 0, 0, 0], v := { highOn := (some 63) } })] }, 63,
    by decide +kernel⟩,
  ⟨4, 1, { State.reset with pwms := [(4, { xcmp := [0, 0, 0], presc := [0, 0, 0, 0, 0], v := { lowOn := (some 62) } })] }, 62,
    by decide +kernel⟩,
  ⟨4, 1, { State.reset with pwms := [(4, { v := { low := true, stretchEnd := (some 63) } })] }, 63, by decide +kernel⟩,
  ⟨4, 1,
    { State.reset with pwms := [(4, { xcmp := [0, 0, 0], presc := [0, 0, 0, 0, 0], v := { high := true, stretchEnd := (some 63) } })] }, 63,
    by decide +kernel⟩,
  ⟨0, 2000000, (reg [(Reg.PWM_TRIP_CFG 0, 0x80000000)]), by decide +kernel⟩,
  ⟨0, 0, (reg [(Reg.PWM_TRIP_CFG 0, 1)]), by decide +kernel⟩,
  ⟨0, 0, (reg [(Reg.PWM_TRIP_CFG 0, 0x1000001)]), by decide +kernel⟩,
  ⟨.dma, 1,
    { State.reset with pwms := [(1, { xcmp := [0, 0, 0], presc := [0, 0, 0, 0, 0], cmp := true }), (2, { xcmp := [0, 0, 0], presc := [0, 0, 0, 0, 0] })] },
    by unfold Reaches; decide +kernel⟩,
  ⟨.dma, 1, (reg [(0x40091094, 1)]), by unfold Reaches; decide +kernel⟩,
  ⟨4, 4, State.reset, by decide +kernel⟩,
  ⟨4, _, { reg [(0x40094008, 1), (0x40094048, 100)] with now := 5 }, and_four (by decide +kernel) ⟨by decide +kernel, by decide +kernel,
    rfl, by decide +kernel⟩⟩,
  ⟨0, _, { reg [(0x40090008, 1), (0x40090040, 0x11000)] with now := 5, pwms := [(1, { run := true, half := 100 })] }, _, and_four
    (by decide +kernel) ⟨by decide +kernel, by decide +kernel, rfl, by decide +kernel, rfl, by decide +kernel⟩⟩,
  ⟨0, _, { reg [(0x40090008, 1), (0x40090040, 0x11000)] with now := 5 }, _, and_four (by decide +kernel) ⟨by decide +kernel,
    by decide +kernel, rfl, by decide +kernel, rfl, by decide +kernel⟩⟩,
  ⟨0, _, { reg [(0x40090008, 1), (0x40090040, 0x2000), (0x40090048, 100)] with now := 5 }, _, and_four (by decide +kernel)
    ⟨by decide +kernel, by decide +kernel, rfl, by decide +kernel, rfl, by decide +kernel⟩⟩,
  ⟨0, _, { reg [(0x40090008, 1), (0x40090040, 0x2000), (0x40090048, 100), (Reg.PWM_SYNC_PHASE 0, 80)] with now := 5 }, _, and_four
    (by decide +kernel) ⟨by decide +kernel, by decide +kernel, rfl, by decide +kernel, rfl, by decide +kernel⟩⟩⟩

/-- Hypotheses of LoopEnginesAndLearning. -/
theorem witness_LoopEnginesAndLearning :
    (∃ (n : Nat) (at_ : Int) (cpr : Nat) (s : State), n < axesOf s.variant ∧ (ax s n).due = some at_ ∧ at_ ≤ rootNow s + 3 ∧ cpr = s.fld
      (Reg.ENC_CPR n) 0 24 ∧ cpr ≠ 0 ∧ frozen s (0xC0 + n) = false)
    ∧ (∃ (n : Nat) (s : State), (ax s n).due = none)
    ∧ (∃ (e : Nat) (k : Nat) (n : Nat) (s : State), leOn s e = true ∧ k < 8 ∧ n = 8 * e + k ∧ (le s e).trig ≠ none ∧ nextSlot s e = some k ∧
      (le s e).ready ≤ s.now ∧ inputsFresh s n = true)
    ∧ (∃ (e : Nat) (k : Nat) (n : Nat) (s : State), leOn s e = true ∧ k < 8 ∧ n = 8 * e + k ∧ (le s e).trig ≠ none ∧ nextSlot s e = some k ∧
      (le s e).ready ≤ s.now ∧ inputsFresh s n = true ∧ ∀ (a : Nat), 0x50000000 + 0x100000 * e ≤ a → a < 0x50010000 + 0x100000 * e →
      GoodWord a s)
    ∧ (∃ (e : Nat) (T : Nat) (s : State) (t : State), leOn s e = true ∧ (le s e).trig = some T ∧ (le s e).ready ≤ s.now ∧ t = leAdvance e s ∧
      (le s e).work = some [] ∧ coxState s ≠ 4)
    ∧ (∃ (e : Nat) (T : Nat) (s : State) (t : State), leOn s e = true ∧ (le s e).trig = some T ∧ (le s e).ready ≤ s.now ∧ t = leAdvance e s ∧
      (le s e).work = some [] ∧ coxState s ≠ 4 ∧ s.rd (Reg.LE_SNAP_REQ e) ≠ 0)
    ∧ (∃ (e : Nat) (T : Nat) (s : State) (t : State) (w : LeWork) (r : List LeWork), leOn s e = true ∧ (le s e).trig = some T ∧ (le s e).ready
      ≤ s.now ∧ t = leAdvance e s ∧ (le s e).work = some (w :: r) ∧ LeWork.stands s e w = true)
    ∧ (∃ (e : Nat) (T : Nat) (s : State) (t : State), leOn s e = true ∧ (le s e).trig = some T ∧ (le s e).ready ≤ s.now ∧ t = leAdvance e s ∧
      (le s e).work = none ∧ nextSlot s e ≠ none)
    ∧ (∃ (e : Nat) (k : Nat) (s : State), (leOn s e = false ∨ (le s e).trig = none ∨ nextSlot s e ≠ some k ∨ s.now < (le s e).ready))
    ∧ (∃ (e : Nat) (s : State), leOn s e = true ∧ (le s e).trig ≠ none)
    ∧ (∃ (m : Master) (n : Nat) (s : State), n < 16 ∧ Reaches m (Reg.AX_PARAM_CTRL n) s ∧ Accepted (defOf .ax 0x044) (Reg.AX_PARAM_CTRL n) m 0
      s ∧ s.flag (Reg.AX_PARAM_CTRL n) 0 = true)
    ∧ (∃ (m : Master) (n : Nat) (a : Nat) (s : State), n < 16 ∧ a = Reg.AX n + 0x008 ∧ Reaches m a s ∧ s.flag a 1 = false ∧ s.flag a 2 = false
      ∧ s.flag a 3 = false ∧ s.fld (Reg.AX n + 0x00C) 0 3 = 4 ∧ s.flag (Reg.PWM_CFG n) 4 = true)
    ∧ (∃ (m : Master) (n : Nat) (a : Nat) (s : State), n < 16 ∧ a = Reg.AX n + 0x008 ∧ Reaches m a s ∧ s.flag a 1 = false ∧ s.flag a 2 = false
      ∧ s.flag a 3 = false ∧ s.fld (Reg.AX n + 0x00C) 0 3 = 4 ∧ s.flag (Reg.PWM_CFG n) 4 = false)
    ∧ (∃ (m : Master) (n : Nat) (a : Nat) (s : State), n < 16 ∧ a = Reg.AX n + 0x008 ∧ Reaches m a s ∧ s.flag a 1 = false ∧ s.flag a 2 = false
      ∧ s.flag a 3 = false ∧ s.flag (Reg.AX n + 0x00C) 0 = true)
    ∧ (∃ (m : Master) (e : Nat) (v : Word) (s : State), e < 2 ∧ Reaches m (Reg.LE_SNAP_REQ e) s ∧ Accepted (defOf .le 0x060) (Reg.LE_SNAP_REQ
      e) m v s ∧ featureAbsent s.variant .le 0x060 = false)
    ∧ (∃ (m : Master) (n : Nat) (s : State), n < 16 ∧ Reaches m (Reg.AX_REP_CTRL n) s ∧ repPresent s.variant = true ∧ Accepted (defOf .ax
      0x200) (Reg.AX_REP_CTRL n) m (s.rd (Reg.AX_REP_CTRL n) ||| 4) s ∧ s.flag (Reg.AX_REP_CTRL n) 1 = false)
    ∧ (∃ (m : Master) (n : Nat) (s : State), n < 16 ∧ Reaches m (Reg.AX_REP_CTRL n) s ∧ repPresent s.variant = true ∧ Accepted (defOf .ax
      0x200) (Reg.AX_REP_CTRL n) m (s.rd (Reg.AX_REP_CTRL n) ||| 4) s ∧ s.flag (Reg.AX_REP_CTRL n) 1 = true)
    ∧ (∃ (n : Nat) (s : State), n < 16 ∧ frozen s (0x80 + n) = false ∧ (rep s n).clearing = true)
    ∧ (∃ (n : Nat) (s : State), n < 16 ∧ frozen s (0x80 + n) = false ∧ (rep s n).clearing = false)
    ∧ (∃ (m : Master) (n : Nat) (play : Bool) (learn : Bool) (w : Word) (s : State), n < 16 ∧ w = putBit (putBit 0 0 play) 1 learn ∧ Reaches m
      (Reg.AX_REP_CTRL n) s ∧ repPresent s.variant = true ∧ Accepted (defOf .ax 0x200) (Reg.AX_REP_CTRL n) m w s ∧ (badRep s n = false ∨
      (play = true → s.flag (Reg.AX_REP_CTRL n) 0 = true) ∧ (learn = true → s.flag (Reg.AX_REP_CTRL n) 1 = true)))
    ∧ (∃ (m : Master) (n : Nat) (play : Bool) (learn : Bool) (w : Word) (s : State), n < 16 ∧ w = putBit (putBit 0 0 play) 1 learn ∧ Reaches m
      (Reg.AX_REP_CTRL n) s ∧ repPresent s.variant = true ∧ Accepted (defOf .ax 0x200) (Reg.AX_REP_CTRL n) m w s ∧ badRep s n = true ∧ (play
      = true ∧ s.flag (Reg.AX_REP_CTRL n) 0 = false ∨ learn = true ∧ s.flag (Reg.AX_REP_CTRL n) 1 = false))
    ∧ (∃ (m : Master) (n : Nat) (play : Bool) (learn : Bool) (w : Word) (s : State), n < 16 ∧ w = putBit (putBit 0 0 play) 1 learn ∧ Reaches m
      (Reg.AX_REP_CTRL n) s ∧ repPresent s.variant = false ∧ (play = true ∨ learn = true))
    ∧ (∃ (n : Nat) (s : State), frozen s (0x80 + n) = false ∧ repPresent s.variant = true ∧ repFalling s n = true ∧ (rep s n).crossed +
      20000000 ≤ s.now) :=
  ⟨⟨4, 3, 1, { reg [(0x400C4044, 1)] with axes := [(4, { inputs := [0, 0, 0], due := (some 3) })] }, by decide +kernel⟩,
  ⟨4, State.reset, by decide +kernel⟩,
  ⟨0, 0, 0, { reg [(0x40060008, 1), (0x40080008, 1), (0x40081008, 1)] with loops := [(0, { trig := (some 0) })] }, by decide +kernel⟩,
  ⟨0, 0, 0, { reg [(0x40060008, 1), (0x40080008, 1), (0x40081008, 1)] with loops := [(0, { trig := (some 0) })] }, and_four
    (by decide +kernel) ⟨by decide +kernel, by decide +kernel, by decide +kernel, fun _ _ _ => ⟨rfl, by unfold underTest; rfl⟩⟩⟩,
  ⟨1, 1, { reg [(0x40061008, 1)] with now := 9, loops := [(1, { trig := (some 1), work := some [] })] }, _, by decide +kernel,
    by decide +kernel, by decide +kernel, rfl, by decide +kernel⟩,
  ⟨1, 1, { reg [(0x40061008, 1), (Reg.LE_SNAP_REQ 1, 1)] with now := 9, loops := [(1, { trig := (some 1), work := some [] })] }, _,
    by decide +kernel, by decide +kernel, by decide +kernel, rfl, by decide +kernel⟩,
  ⟨0, 1,
    { reg [(0x40060008, 1), (0x400A00B4, 0x80000000), (0x400A0040, 1)] with now := 9, loops := [(0, { trig := (some 1), work := some [.act 0] })] },
    _, .act 0, [], by decide +kernel, by decide +kernel, by decide +kernel, rfl, by decide +kernel⟩,
  ⟨0, 0, { reg [(0x40060008, 1), (0x40080008, 1)] with loops := [(0, { trig := (some 0) })] }, _, by decide +kernel, by decide +kernel,
    by decide +kernel, rfl, by decide +kernel⟩,
  ⟨8, 4, State.reset, by decide +kernel⟩,
  ⟨1, { reg [(0x40061008, 1)] with loops := [(1, { trig := (some 1) }), (2, {}), (3, {})] }, by decide +kernel⟩,
  ⟨.dma, 1, (reg [(0x40081044, 1)]), by unfold Reaches Accepted; decide +kernel⟩,
  ⟨.dma, 1, 0x40081008, (reg [(0x40091040, 16)]), by unfold Reaches; decide +kernel⟩,
  ⟨.dma, 1, 0x40081008, State.reset, by unfold Reaches; decide +kernel⟩,
  ⟨.dma, 1, 0x40081008, (reg [(0x4008100C, 1)]), by unfold Reaches; decide +kernel⟩,
  ⟨.dma, 0, 4, State.reset, by unfold Reaches Accepted; decide +kernel⟩,
  ⟨.dma, 1, State.reset, by unfold Reaches Accepted; decide +kernel⟩,
  ⟨.dma, 1, (reg [(0x40081200, 2)]), by unfold Reaches Accepted; decide +kernel⟩,
  ⟨4, { State.reset with reps := [(4, { clearing := true })] }, by decide +kernel⟩,
  ⟨4, State.reset, by decide +kernel⟩,
  ⟨.dma, 1, true, true, 3, State.reset, by unfold Reaches Accepted; decide +kernel⟩,
  ⟨.host, 2, true, true, 3, (reg [(0x40082040, 2)]), by unfold Reaches Accepted; decide +kernel⟩,
  ⟨.host, 1, true, true, 3, { State.reset with variant := .aq1620 }, by unfold Reaches; decide +kernel⟩,
  ⟨4, { State.reset with now := 0x1312d00, regs := [(0x40000058, 3), (0x40002018, 2), (0x40024018, 0x80000), (0x40084214, 0x800000)] },
    by decide +kernel⟩⟩

/-- Hypotheses of ProfilesAndLatches. -/
theorem witness_ProfilesAndLatches :
    (∃ (m : Master) (n : Nat) (s : State), n < 16 ∧ Reaches m (Reg.AX_PROF_CMD n) s ∧ axisLive s n = false)
    ∧ (∃ (m : Master) (n : Nat) (s : State), n < 16 ∧ Reaches m (Reg.AX_PROF_CMD n) s ∧ axisLive s n = true ∧ profState s n ≠ 0 ∧ (prof s n).v
      = 0 ∧ (prof s n).dec = none)
    ∧ (∃ (m : Master) (n : Nat) (s : State), n < 16 ∧ Reaches m (Reg.AX_PROF_CMD n) s ∧ axisLive s n = true ∧ profState s n ≠ 0 ∧ (prof s n).v
      ≠ 0 ∧ (prof s n).dec = none ∧ ∀ (p0 v0 : Int) (a : Nat) (b : Int) (c : Nat), (prof s n).seg ≠ Segment.stopPhase p0 v0 a b c)
    ∧ (∃ (m : Master) (n : Nat) (s : State) (d : Decel), n < 16 ∧ Reaches m (Reg.AX_PROF_CMD n) s ∧ axisLive s n = true ∧ profState s n ≠ 0 ∧
      (prof s n).v ≠ 0 ∧ (prof s n).dec = some d)
    ∧ (∃ (m : Master) (n : Nat) (s : State), n < 16 ∧ Reaches m (Reg.AX_PROF_CMD n) s ∧ axisLive s n = true ∧ profState s n = 8)
    ∧ (∃ (m : Master) (n : Nat) (s : State), n < 16 ∧ Reaches m (Reg.AX_PROF_CMD n) s ∧ axisLive s n = true ∧ profState s n ≠ 8)
    ∧ (∃ (m : Master) (n : Nat) (s : State), n < 16 ∧ Reaches m (Reg.AX_PROF_REFUSED n) s ∧ Accepted (defOf .ax 0x10C) (Reg.AX_PROF_REFUSED n)
      m 1 s ∧ restrictStart s = false)
    ∧ (∃ (m : Master) (n : Nat) (s : State), n < 16 ∧ Reaches m (Reg.AX_PROF_REFUSED n) s ∧ Accepted (defOf .ax 0x10C) (Reg.AX_PROF_REFUSED n)
      m 1 s ∧ restrictStart s = true)
    ∧ (∃ (m : Master) (n : Nat) (s : State), n < 16 ∧ Reaches m (Reg.AX_VM_LOAD n) s ∧ s.flag (Reg.AX_VM_CTRL n) 8 = false)
    ∧ (∃ (m : Master) (n : Nat) (s : State), n < 16 ∧ Reaches m (Reg.AX_VM_LOAD n) s ∧ s.flag (Reg.AX_VM_CTRL n) 8 = true)
    ∧ (∃ (k : Nat) (level : Bool) (back : Nat) (ball : Int) (r : Int) (s : State), k < 16 ∧ busUp s = true ∧ frozen s 208 = false ∧ ldlOn s =
      false ∧ (latIn s k).level ≠ level ∧ ball = rootNow s - ↑back ∧ r = latchInstant s k ball ∧ latPasses s k ball = true ∧ (s.flag
      (Reg.LAT + 8) 0 = false ∨ s.flag (Reg.LAT_CFG k) 31 = false ∨ latSelected s k level = false))
    ∧ (∃ (k : Nat) (level : Bool) (back : Nat) (ball : Int) (r : Int) (s : State), k < 16 ∧ busUp s = true ∧ frozen s 208 = false ∧ ldlOn s =
      false ∧ (latIn s k).level ≠ level ∧ ball = rootNow s - ↑back ∧ r = latchInstant s k ball ∧ latPasses s k ball = true ∧ s.flag (Reg.LAT
      + 8) 0 = true ∧ s.flag (Reg.LAT_CFG k) 31 = true ∧ latSelected s k level = true ∧ (∀ (p : Int), (latIn s k).last = some p → 32 ≤ ball
      - p) ∧ (latIn s k).fifo.length < 4)
    ∧ (∃ (k : Nat) (level : Bool) (back : Nat) (ball : Int) (r : Int) (s : State), k < 16 ∧ busUp s = true ∧ frozen s 208 = false ∧ ldlOn s =
      false ∧ (latIn s k).level ≠ level ∧ ball = rootNow s - ↑back ∧ r = latchInstant s k ball ∧ latPasses s k ball = true ∧ s.flag (Reg.LAT
      + 8) 0 = true ∧ s.flag (Reg.LAT_CFG k) 31 = true ∧ latSelected s k level = true ∧ ((∃ p, (latIn s k).last = some p ∧ ball - p < 32) ∨
      4 ≤ (latIn s k).fifo.length))
    ∧ (∃ (k : Nat) (level : Bool) (back : Nat) (ball : Int) (r : Int) (s : State), k < 16 ∧ busUp s = true ∧ frozen s 208 = false ∧ ldlOn s =
      false ∧ (latIn s k).level ≠ level ∧ ball = rootNow s - ↑back ∧ r = latchInstant s k ball ∧ latPasses s k ball = false)
    ∧ (∃ (k : Nat) (q : Nat) (x : LatRecord) (r : List LatRecord) (s : State), k < 16 ∧ frozen s 0xD0 = false ∧ busUp s = true ∧ (latIn s
      k).fifo = x :: r ∧ boundProd s (0x10 + k) = some q ∧ s.flag (Reg.LAT_CFG k) 24 = true ∧ qRoom s q (if s.flag (qAddr q 0x10) 1 then 13
      else 12) = true)
    ∧ (∃ (k : Nat) (q : Nat) (x : LatRecord) (r : List LatRecord) (s : State), k < 16 ∧ frozen s 0xD0 = false ∧ busUp s = true ∧ (latIn s
      k).fifo = x :: r ∧ boundProd s (0x10 + k) = some q ∧ s.flag (Reg.LAT_CFG k) 24 = true ∧ qRoom s q (if s.flag (qAddr q 0x10) 1 then 13
      else 12) = false ∧ s.flag (qAddr q 0x10) 2 = true)
    ∧ (∃ (k : Nat) (q : Nat) (x : LatRecord) (r : List LatRecord) (s : State), k < 16 ∧ frozen s 0xD0 = false ∧ busUp s = true ∧ (latIn s
      k).fifo = x :: r ∧ boundProd s (0x10 + k) = some q ∧ s.flag (Reg.LAT_CFG k) 24 = true ∧ qRoom s q (if s.flag (qAddr q 0x10) 1 then 13
      else 12) = false ∧ s.flag (qAddr q 0x10) 2 = false)
    ∧ (∃ (m : Master) (k : Nat) (s : State), k < 16 ∧ Reaches m (Reg.LAT_NEXT k) s) :=
  ⟨⟨.dma, 1, State.reset, by unfold Reaches; decide +kernel⟩,
  ⟨.dma, 1, (reg [(0x40081008, 1), (0x40081108, 256)]), by unfold Reaches; decide +kernel⟩,
  ⟨.dma, 1, { reg [(0x40081008, 1), (0x40081108, 256)] with profs := [(1, { v := 2 })] }, by decide +kernel,
    by unfold Reaches; decide +kernel, by decide +kernel, by decide +kernel, by decide +kernel, by decide +kernel, not_stop rfl⟩,
  ⟨.debug, 0,
    { reg [(0x40080008, 1), (0x40080108, 256)] with profs := [(0, { dec := (some { p0 := 1, v0 := 3, rate := 7, k := 3, ends := .ready }), v := 1 })] },
    { p0 := 1, v0 := 3, rate := 7, k := 3, ends := .ready }, by unfold Reaches; decide +kernel⟩,
  ⟨.dma, 1, (reg [(0x40081008, 1), (0x40081108, 2048)]), by unfold Reaches; decide +kernel⟩,
  ⟨.dma, 1, (reg [(0x40081008, 1), (0x40081108, 256)]), by unfold Reaches; decide +kernel⟩,
  ⟨.dma, 1, State.reset, by unfold Reaches Accepted; decide +kernel⟩,
  ⟨.dma, 1, (reg [(0x40010054, 8)]), by unfold Reaches Accepted; decide +kernel⟩,
  ⟨.dma, 1, State.reset, by unfold Reaches; decide +kernel⟩,
  ⟨.dma, 1, (reg [(0x40081180, 256)]), by unfold Reaches; decide +kernel⟩,
  ⟨8, true, 0, _, _, (reg [(0x400D0008, 1), (0x400D0500, 0x90000000)]), and_four (by decide +kernel) ⟨by decide +kernel, rfl, rfl,
    by decide +kernel⟩⟩,
  ⟨8, true, 0, _, _, (reg [(0x400D0008, 1), (0x400D0500, 0x80000000)]), and_four (by decide +kernel) ⟨by decide +kernel, rfl, rfl,
    by decide +kernel, by decide +kernel, by decide +kernel, by decide +kernel, nofun, by decide +kernel⟩⟩,
  ⟨8, true, 0, _, _, { reg [(0x400D0008, 1), (0x400D0500, 0x80000000)] with lats := [(8, { fifo := List.replicate 4 { words := [] } })] },
    and_four (by decide +kernel) ⟨by decide +kernel, rfl, rfl, by decide +kernel, by decide +kernel, by decide +kernel, by decide +kernel,
    .inr (by decide +kernel)⟩⟩,
  ⟨8, true, 0, _, _, { reg [(0x400D0008, 1), (0x400D0500, 0x80040000)] with lats := [(8, { last := some 0 })] }, and_four
    (by decide +kernel) ⟨by decide +kernel, rfl, rfl, by decide +kernel⟩⟩,
  ⟨8, 3, { words := [] }, [],
    { reg [(0x40040008, 1), (0x40041190, 0x1801), (0x400D0500, 0x1000000)] with lats := [(8, { fifo := [{ words := [] }] })] },
    by decide +kernel⟩,
  ⟨8, 3, { words := [] }, [], { reg [(0x40041190, 0x1804), (0x400D0500, 0x1000000)] with lats := [(8, { fifo := [{ words := [] }] })] },
    by decide +kernel⟩,
  ⟨8, 3, { words := [] }, [], { reg [(0x40041190, 0x1800), (0x400D0500, 0x1000000)] with lats := [(8, { fifo := [{ words := [] }] })] },
    by decide +kernel⟩,
  ⟨.dma, 1, State.reset, by unfold Reaches; decide +kernel⟩⟩

/-- Hypotheses of ActuatorCommands. -/
theorem witness_ActuatorCommands :
    (∃ (m : Master) (k : Nat) (st : Nat) (s : State) (code : Nat), k < 48 ∧ Reaches m (chReg Reg.ACTG_CMD k) s ∧ st = chState s k ∧ (st = 0
      ∧ code = 2 ∨ st = 10 ∧ code = 8 ∨ st = 8 ∧ code = 6 ∨ st = 9 ∧ code = 5 ∨ (st = 1 ∨ st = 7 ∨ st = 6 ∧ chFlag s k 1 = false) ∧
      restrictOpen s = true ∧ code = 3 ∨ (st = 1 ∨ st = 7 ∨ st = 6 ∧ chFlag s k 1 = false) ∧ restrictOpen s = false ∧ chSupplied s k = false
      ∧ code = 4))
    ∧ (∃ (m : Master) (k : Nat) (st : Nat) (s : State), k < 48 ∧ Reaches m (chReg Reg.ACTG_CMD k) s ∧ st = chState s k ∧ (st = 2 ∨ st = 3 ∨ st
      = 4 ∨ st = 5 ∨ st = 6 ∧ chFlag s k 1 = true))
    ∧ (∃ (m : Master) (k : Nat) (st : Nat) (s : State), k < 48 ∧ Reaches m (chReg Reg.ACTG_CMD k) s ∧ st = chState s k ∧ (st = 1 ∨ st = 7) ∧
      restrictOpen s = false ∧ chSupplied s k = true ∧ (chMode s k = 1 ∨ chMode s k = 3))
    ∧ (∃ (m : Master) (k : Nat) (st : Nat) (s : State), k < 48 ∧ Reaches m (chReg Reg.ACTG_CMD k) s ∧ st = chState s k ∧ (st = 1 ∨ st = 7) ∧
      restrictOpen s = false ∧ chSupplied s k = true ∧ (chMode s k = 0 ∨ chMode s k = 4) ∧ boostRail s k = none)
    ∧ (∃ (m : Master) (k : Nat) (st : Nat) (s : State) (x : Nat), k < 48 ∧ Reaches m (chReg Reg.ACTG_CMD k) s ∧ st = chState s k ∧ (st = 1 ∨
      st = 7) ∧ restrictOpen s = false ∧ chSupplied s k = true ∧ (chMode s k = 0 ∨ chMode s k = 4) ∧ boostRail s k = some x ∧ railReady s x
      = true)
    ∧ (∃ (m : Master) (k : Nat) (st : Nat) (s : State) (x : Nat), k < 48 ∧ Reaches m (chReg Reg.ACTG_CMD k) s ∧ st = chState s k ∧ (st = 1 ∨
      st = 7) ∧ restrictOpen s = false ∧ chSupplied s k = true ∧ (chMode s k = 0 ∨ chMode s k = 4) ∧ boostRail s k = some x ∧ railReady s x
      = false)
    ∧ (∃ (m : Master) (k : Nat) (st : Nat) (s : State), k < 48 ∧ Reaches m (chReg Reg.ACTG_CMD k) s ∧ st = chState s k)
    ∧ (∃ (m : Master) (k : Nat) (st : Nat) (s : State), k < 48 ∧ Reaches m (chReg Reg.ACTG_CMD k) s ∧ st = chState s k ∧ st = 8)
    ∧ (∃ (m : Master) (k : Nat) (st : Nat) (s : State), k < 48 ∧ Reaches m (chReg Reg.ACTG_CMD k) s ∧ st = chState s k ∧ st ≠ 8)
    ∧ (∃ (m : Master) (k : Nat) (v : Word) (w : Word) (s : State) (num : Nat), k < 48 ∧ Reaches m (chReg Reg.ACTG_ACT_SLOT k) s ∧ Accepted
      (defOf .actg 0x0B4) (chReg Reg.ACTG_ACT_SLOT k) m v s ∧ w = storeValue (defOf .actg 0x0B4) (s.rd (chReg Reg.ACTG_ACT_SLOT k)) v ∧
      (s.flag (chReg Reg.ACTG_CFG k) 31 = true ∧ num = 0x01 ∨ s.flag (chReg Reg.ACTG_CFG k) 31 = false ∧ bit w 31 = true ∧ (enginesOf
      s.variant ≤ bits w 24 1 ∨ 23 < bits w 0 5) ∧ num = 0x04 ∨ s.flag (chReg Reg.ACTG_CFG k) 31 = false ∧ bit w 31 = true ∧ bits w 24 1 <
      enginesOf s.variant ∧ bits w 0 5 ≤ 23 ∧ slotTaken s k (bits w 24 1) (bits w 0 5) = true ∧ num = 0x03))
    ∧ (∃ (m : Master) (k : Nat) (v : Word) (w : Word) (s : State), k < 48 ∧ Reaches m (chReg Reg.ACTG_ACT_SLOT k) s ∧ Accepted (defOf .actg
      0x0B4) (chReg Reg.ACTG_ACT_SLOT k) m v s ∧ w = storeValue (defOf .actg 0x0B4) (s.rd (chReg Reg.ACTG_ACT_SLOT k)) v ∧ s.flag (chReg
      Reg.ACTG_CFG k) 31 = false ∧ (bit w 31 = false ∨ bits w 24 1 < enginesOf s.variant ∧ bits w 0 5 ≤ 23 ∧ slotTaken s k (bits w 24 1)
      (bits w 0 5) = false))
    ∧ (∃ (m : Master) (k : Nat) (close : Bool) (v : Word) (a : Nat) (lim : Nat) (d : RegDef) (s : State), k < 48 ∧ Reaches m (chReg
      Reg.ACTG_LAT_OPEN k) s ∧ a = chReg (if close = true then Reg.ACTG_LAT_CLOSE else Reg.ACTG_LAT_OPEN) k ∧ lim = chReg (if close = true
      then Reg.ACTG_LAT_CLOSE_LIM else Reg.ACTG_LAT_OPEN_LIM) k ∧ d = defOf PageClass.actg (if close = true then 108 else 104) ∧ Accepted d
      a m v s ∧ s.fld lim 0 16 * 1000 ≤ BitVec.toNat v ∧ BitVec.toNat v ≤ s.fld lim 16 16 * 1000)
    ∧ (∃ (m : Master) (k : Nat) (close : Bool) (v : Word) (a : Nat) (lim : Nat) (d : RegDef) (s : State), k < 48 ∧ Reaches m (chReg
      Reg.ACTG_LAT_OPEN k) s ∧ a = chReg (if close = true then Reg.ACTG_LAT_CLOSE else Reg.ACTG_LAT_OPEN) k ∧ lim = chReg (if close = true
      then Reg.ACTG_LAT_CLOSE_LIM else Reg.ACTG_LAT_OPEN_LIM) k ∧ d = defOf PageClass.actg (if close = true then 108 else 104) ∧ Accepted d
      a m v s ∧ (BitVec.toNat v < s.fld lim 0 16 * 1000 ∨ s.fld lim 16 16 * 1000 < BitVec.toNat v)) :=
  ⟨⟨.dma, 1, 0, State.reset, 2, by unfold Reaches; decide +kernel⟩,
  ⟨.dma, 1, 4, (reg [(0x400A0248, 0x40000000)]), by unfold Reaches; decide +kernel⟩,
  ⟨.dma, 1, 7, { reg [(0x400A0240, 1), (0x400A0248, 0x70000000)] with cox := { actSen := [0] } }, by unfold Reaches; decide +kernel⟩,
  ⟨.dma, 1, 1, { reg [(0x400A0248, 0x10000000)] with cox := { actSen := [0] } }, by unfold Reaches; decide +kernel⟩,
  ⟨.dma, 1, 7, { reg [(0x400A0240, 32), (0x400A0248, 0x70000000), (0x400A8078, 1)] with cox := { actSen := [0] } }, 1,
    by unfold Reaches; decide +kernel⟩,
  ⟨.dma, 1, 7, { reg [(0x400A0240, 32), (0x400A0248, 0x70000000)] with cox := { actSen := [0] } }, 1, by unfold Reaches; decide +kernel⟩,
  ⟨.dma, 1, 0, State.reset, by unfold Reaches; decide +kernel⟩,
  ⟨.dma, 1, 8, (reg [(0x400A0248, 0x80000000)]), by unfold Reaches; decide +kernel⟩,
  ⟨.dma, 1, 7, (reg [(0x400A0248, 0x70000000)]), by unfold Reaches; decide +kernel⟩,
  ⟨.debug, 2, 0xf0e10858, 0x80000018, State.reset, 4, by unfold Reaches Accepted; decide +kernel⟩,
  ⟨.dma, 1, 3, 3, State.reset, by unfold Reaches Accepted; decide +kernel⟩,
  ⟨.dma, 0, true, 0, _, _, _, State.reset, by decide, by unfold Reaches; decide +kernel, rfl, rfl, rfl, by unfold Accepted; decide +kernel,
    by decide +kernel⟩,
  ⟨.dma, 0, false, 0xFFFFFFFF, _, _, _, State.reset, by decide, by unfold Reaches; decide +kernel, rfl, rfl, rfl,
    by unfold Accepted; decide +kernel, by decide +kernel⟩⟩

/-- Hypotheses of ActuatorEvents. -/
theorem witness_ActuatorEvents :
    (∃ (k : Nat) (s : State) (i : Int), frozen s (160 + k / 8) = false ∧ k < 8 * groupsOf s.variant ∧ chSupplied s k = true ∧ s.now % 200 =
      0 ∧ chState s k = 4 ∧ (chan s k).gate = true ∧ (chan s k).stretch = false ∧ (chan s k).stretching = false ∧ q23 (heldReg s k 84) *
      ↑(chan s k).lam * ↑(holdScale s k) ≤ i * 0x400000000000)
    ∧ (∃ (k : Nat) (s : State) (i : Int), frozen s (160 + k / 8) = false ∧ k < 8 * groupsOf s.variant ∧ chSupplied s k = true ∧ s.now % 200 =
      0 ∧ chState s k = 4 ∧ (chan s k).gate = true ∧ (chan s k).stretch = false ∧ (chan s k).stretching = false ∧ i * 0x400000000000 < q23
      (heldReg s k 84) * ↑(chan s k).lam * ↑(holdScale s k))
    ∧ (∃ (k : Nat) (s : State) (d : DrainSample) (it : Nat), frozen s (160 + k / 8) = false ∧ k < 8 * groupsOf s.variant ∧ chSupplied s k =
      true ∧ s.now % 200 = 0 ∧ s.now ≤ (chan s k).offTick + bits (heldReg s k 116) 16 16 * 200 ∧ chState s k = 7 ∧ (chan s k).offIt = some
      it ∧ (chan s k).plateau = true ∧ d.drain < q15 (heldReg s k 100) 0)
    ∧ (∃ (k : Nat) (s : State), frozen s (160 + k / 8) = false ∧ k < 8 * groupsOf s.variant ∧ (chSupplied s k = false ∨ s.now % 200 ≠ 0))
    ∧ (∃ (k : Nat) (s : State) (e : Nat), frozen s (0xA0 + k / 8) = false ∧ k < 8 * groupsOf s.variant ∧ (chan s k).chopEnd = some e ∧ e ≤
      s.now ∧ chState s k = 4)
    ∧ (∃ (k : Nat) (s : State), frozen s (0xA0 + k / 8) = false ∧ k < 8 * groupsOf s.variant ∧ chState s k = 3 ∧ (chan s k).boost = true ∧
      (chan s k).start + bits (heldReg s k 0x05C) 16 16 * 200 ≤ s.now)
    ∧ (∃ (k : Nat) (s : State), frozen s (160 + k / 8) = false ∧ k < 8 * groupsOf s.variant ∧ chState s k = 3 ∧ ((chan s k).start + bits
      (heldReg s k 88) 16 16 * 200 ≤ s.now ∨ ∃ c, (chan s k).caught = some c ∧ c + bits (heldReg s k 88) 0 16 * 200 ≤ s.now))
    ∧ (∃ (k : Nat) (s : State), frozen s (0xA0 + k / 8) = false ∧ k < 8 * groupsOf s.variant ∧ chState s k = 7 ∧ (chan s k).offTick + bits
      (heldReg s k 0x074) 16 16 * 200 ≤ s.now)
    ∧ (∃ (k : Nat) (s : State) (g : Nat) (j : Nat), frozen s (0xA0 + k / 8) = false ∧ k < 8 * groupsOf s.variant ∧ (chan s k).nextOn = some g
      ∧ (chan s k).grid = some j ∧ chState s k = 6 ∧ chFlag s k 1 = true ∧ g ≤ implementTime s ∧ (chan s k).skip = true)
    ∧ (∃ (k : Nat) (s : State) (g : Nat) (j : Nat), frozen s (0xA0 + k / 8) = false ∧ k < 8 * groupsOf s.variant ∧ (chan s k).nextOn = some g
      ∧ (chan s k).grid = some j ∧ chState s k = 6 ∧ chFlag s k 1 = true ∧ g ≤ implementTime s ∧ (chan s k).skip = false ∧ boostRail s k =
      none)
    ∧ (∃ (k : Nat) (s : State) (g : Nat) (j : Nat), frozen s (0xA0 + k / 8) = false ∧ k < 8 * groupsOf s.variant ∧ (chan s k).nextOff = some g
      ∧ (chan s k).grid = some j ∧ (chState s k = 3 ∨ chState s k = 4) ∧ chFlag s k 1 = true ∧ g ≤ implementTime s ∧ nozMin s k ≤ nozFlow s
      k ∧ coilOn s k (j + 1) < g + latClose s k + nozMin s k)
    ∧ (∃ (k : Nat) (s : State) (g : Nat) (j : Nat), frozen s (0xA0 + k / 8) = false ∧ k < 8 * groupsOf s.variant ∧ (chan s k).nextOff = some g
      ∧ (chan s k).grid = some j ∧ (chState s k = 3 ∨ chState s k = 4) ∧ chFlag s k 1 = true ∧ g ≤ implementTime s ∧ g + latClose s k +
      nozMin s k ≤ coilOn s k (j + 1))
    ∧ (∃ (k : Nat) (s : State), frozen s (0xA0 + k / 8) = false ∧ k < 8 * groupsOf s.variant ∧ chState s k = 2 ∧ (chan s k).start + bits
      (heldReg s k 0x0D8) 0 16 * 200 ≤ s.now)
    ∧ (∃ (k : Nat) (s : State) (x : Nat), frozen s (0xA0 + k / 8) = false ∧ k < 8 * groupsOf s.variant ∧ chState s k = 2 ∧ boostRail s k =
      some x ∧ railReady s x = true)
    ∧ (∃ (k : Nat) (s : State) (e : Nat), frozen s (0xA0 + k / 8) = false ∧ k < 8 * groupsOf s.variant ∧ (chan s k).retryAt = some e ∧ e ≤
      s.now ∧ chState s k = 1 ∧ chFlag s k 0 = true ∧ (chMode s k = 1 ∨ chMode s k = 3))
    ∧ (∃ (k : Nat) (s : State) (T : Rat), frozen s (160 + k / 8) = false ∧ k < 8 * groupsOf s.variant ∧ chActs s k = true ∧ s.flag (chReg
      Reg.ACTG_CFG k) 18 = true ∧ bits (heldReg s k 228) 16 16 ≠ 0 ∧ (chan s k).thFrom + 0x30D40 ≤ s.now ∧ T = ambient s k + thermalStep s k
      ∧ chState s k ≠ 9 ∧ chState s k ≠ 10)
    ∧ (∃ (k : Nat) (s : State), frozen s (160 + k / 8) = false ∧ k < 8 * groupsOf s.variant ∧ s.now < (chan s k).thFrom + 0x30D40)
    ∧ (∃ (k : Nat) (s : State), frozen s (0xA0 + k / 8) = false ∧ k < 8 * groupsOf s.variant ∧ (chan s k).diagSince + 200000 ≤ s.now ∧ diagOn
      s k = true ∧ chState s k = 4 ∧ (chan s k).gate = true)
    ∧ (∃ (k : Nat) (w : Word) (s : State), k < 8 * groupsOf s.variant ∧ w = heldReg s k 208 ∧ bit w 31 = true)
    ∧ (∃ (k : Nat) (s : State), frozen s (160 + k / 8) = false ∧ k < 48 ∧ chState s k = 5 ∧ chMode s k = 1 ∧ periodOver s k = true ∧ (chan s
      k).stretching = false ∧ slotRuns s k = false)
    ∧ (∃ (k : Nat) (s : State), frozen s (160 + k / 8) = false ∧ k < 48 ∧ chState s k = 5 ∧ chMode s k = 3 ∧ periodOver s k = true ∧ s.fld
      (chReg Reg.ACTG_LAMP_DUTY k) 0 24 = 0x7FFFFF ∧ chFlag s k 8 = false)
    ∧ (∃ (k : Nat) (s : State), frozen s (0xA0 + k / 8) = false ∧ k < 48 ∧ chState s k = 5 ∧ periodOver s k = false)
    ∧ (∃ (k : Nat) (s : State) (e : Nat), frozen s (0xA0 + k / 8) = false ∧ k < 48 ∧ chState s k = 5 ∧ (chan s k).inrushEnd = some e ∧ e ≤
      s.now)
    ∧ (∃ (k : Nat) (s : State) (e : Nat), frozen s (160 + k / 8) = false ∧ k < 48 ∧ chState s k = 5 ∧ (chan s k).onEnd = some e ∧ e ≤ s.now ∧
      chMode s k = 1 ∧ (chan s k).stretch = false ∧ (chan s k).stretching = false)
    ∧ (∃ (g : Nat) (current : Int) (r : Int) (s : State), g < groupsOf s.variant ∧ r = groupResidual (groupSample g current s) g ∧
      s.cox.actSen.contains g = true ∧ s.now % 200 = 0 ∧ shortCheckDue s g = true)
    ∧ (∃ (g : Nat) (current : Int) (r : Int) (s : State), g < groupsOf s.variant ∧ r = groupResidual (groupSample g current s) g ∧
      (s.cox.actSen.contains g = false ∨ s.now % 200 ≠ 0 ∨ shortCheckDue s g = false))
    ∧ (∃ (x : Nat) (s : State) (uv : Nat) (rail : Nat), frozen s 0xA8 = false ∧ x < boostsOf s.variant ∧ (bstState s x = 1 ∨ bstState s x = 2)
      ∧ rail = min 0xFFFF (uv * s.fld (Reg.BST_X_DIV x) 0 16 / 256 / 10000))
    ∧ (∃ (x : Nat) (s : State), frozen s 0xA8 = false ∧ x < boostsOf s.variant ∧ (bstState s x = 1 ∨ bstState s x = 2) ∧ (bst s x).gate =
      true)
    ∧ (∃ (x : Nat) (s : State) (e : Nat), frozen s 0xA8 = false ∧ x < boostsOf s.variant ∧ (bstState s x = 1 ∨ bstState s x = 2) ∧ (bst s
      x).toffEnd = some e ∧ e ≤ s.now)
    ∧ (∃ (x : Nat) (s : State), frozen s 0xA8 = false ∧ x < boostsOf s.variant ∧ (bstState s x = 1 ∨ bstState s x = 2) ∧ bstState s x = 1 ∧
      (bst s x).wasReady = false ∧ (bst s x).since + s.fld (Reg.BST_X_SW x) 8 8 * 2000000 ≤ s.now) :=
  ⟨⟨0, { reg [(0x400A0048, 0x40000000)] with cox := { actSen := [0] }, acts := [(0, { gate := true })] }, 3, by decide +kernel⟩,
  ⟨1, { reg [(0x400A0248, 0x40000000)] with cox := { actSen := [0] }, acts := [(1, { gate := true })] }, (-1), by decide +kernel⟩,
  ⟨3, { reg [(0x400A0648, 0x70000000)] with cox := { actSen := [0] }, acts := [(3, { offIt := (some 2), plateau := true })] }, ⟨-1, 0⟩, 2,
    by decide +kernel⟩,
  ⟨0, State.reset, by decide +kernel⟩,
  ⟨4, { reg [(0x400A0848, 0x40000000)] with acts := [(4, { chopEnd := (some 0) })] }, 0, by decide +kernel⟩,
  ⟨4,
    { State.reset with now := 0x30d41, regs := [(0x40000058, 3), (0x40002018, 2), (0x40024018, 0x80000), (0x400a0848, 0x30000000)], acts := [(4, { boost := true })] },
    by decide +kernel⟩,
  ⟨37, { State.reset with now := 0xc4df98, regs := [(0x40000058, 3), (0x40002018, 2), (0x40024018, 0x80000), (0x400a4a48, 0x30000000)] },
    by decide +kernel⟩,
  ⟨4, { State.reset with now := 0xc7ff38, regs := [(0x40000058, 3), (0x40002018, 2), (0x40024018, 0x80000), (0x400a0848, 0x70000000)] },
    by decide +kernel⟩,
  ⟨4, { reg [(0x400A0848, 0x60000002)] with acts := [(4, { nextOn := (some 0), grid := (some 2), skip := true })] }, 0, 2,
    by decide +kernel⟩,
  ⟨4, { reg [(0x400A0848, 0x60000002)] with acts := [(4, { nextOn := (some 0), grid := (some 2) })] }, 0, 2, by decide +kernel⟩,
  ⟨4,
    { reg [(0x400A0848, 0x40000002), (0x400A086C, 64), (0x400A0888, 0), (0x400A0894, 0)] with acts := [(4, { nextOff := (some 0xea5b), grid := (some 2) })], tsu := { bridge := 0x40000000000000000000000000000000000000 } },
    0xea5b, 2, by decide +kernel⟩,
  ⟨4, { reg [(0x400A0848, 0x30000002)] with acts := [(4, { nextOff := (some 0), grid := (some 2) })] }, 0, 2, by decide +kernel⟩,
  ⟨4, { State.reset with now := 0x4e20, regs := [(0x40000058, 3), (0x40002018, 2), (0x40024018, 0x80000), (0x400a0848, 0x20000000)] },
    by decide +kernel⟩,
  ⟨4, (reg [(0x400A0840, 16), (0x400A0848, 0x20000000), (0x400A8058, 1)]), 0, by decide +kernel⟩,
  ⟨4, { reg [(0x400A0840, 1), (0x400A0848, 0x10000001)] with acts := [(4, { retryAt := (some 0) })] }, 0, by decide +kernel⟩,
  ⟨4, { reg [(0x400A0008, 1), (0x400A0840, 0x80040000), (0x400A08E4, 0x10000)] with now := 200000 }, _, and_four (by decide +kernel)
    ⟨by decide +kernel, by decide +kernel, rfl, by decide +kernel⟩⟩,
  ⟨0, { reg [(0x400A0048, 0x40000000)] with cox := { actSen := [0] }, acts := [(0, { gate := true })] }, by decide +kernel⟩,
  ⟨4,
    { State.reset with now := 0x30d40, regs := [(0x40000058, 3), (0x40002018, 2), (0x40024018, 0x80000), (0x400a0848, 0x40000000)], cox := { actSen := [0] }, acts := [(4, { gate := true })] },
    by decide +kernel⟩,
  ⟨0, _, (reg [(0x400A00D0, 0x80000000)]), by decide +kernel, rfl, by decide +kernel⟩,
  ⟨4, (reg [(0x400A0840, 1), (0x400A0848, 0x50000000)]), by decide +kernel⟩,
  ⟨4, (reg [(0x400A0840, 3), (0x400A0848, 0x50000000), (0x400A08B8, 0x7FFFFF)]), by decide +kernel⟩,
  ⟨4, { reg [(0x400A0848, 0x50000000)] with acts := [(4, { begun := true, start := 1 })] }, by decide +kernel⟩,
  ⟨4, { reg [(0x400A0848, 0x50000000)] with acts := [(4, { inrushEnd := (some 0) })] }, 0, by decide +kernel⟩,
  ⟨4, { reg [(0x400A0840, 1), (0x400A0848, 0x50000000)] with acts := [(4, { onEnd := (some 0) })] }, 0, by decide +kernel⟩,
  ⟨4, 9, 0, { State.reset with cox := { actSen := [4, 12, 3, 2, 3, 61, 0, 3, 12] } }, by decide +kernel⟩,
  ⟨3, 4, 0, State.reset, by decide +kernel⟩,
  ⟨0, (reg [(0x400A8058, 2)]), 4, 0, by decide +kernel⟩,
  ⟨0, { reg [(0x400A8058, 2)] with bsts := [(0, { gate := true })] }, by decide +kernel⟩,
  ⟨0, { reg [(0x400A8058, 1)] with bsts := [(0, { toffEnd := (some 0) })] }, 0, by decide +kernel⟩,
  ⟨0, (reg [(0x400A8050, 0), (0x400A8058, 1)]), by decide +kernel⟩⟩

/-- Hypotheses of LanesAndTime. -/
theorem witness_LanesAndTime :
    (∃ (m : Master) (x : Nat) (v : Word) (i : Nat) (s : State), x < 2 ∧ Reaches m (Reg.TSU_L_INCR_HI x) s ∧ i = bits v 0 8 * 4294967296 +
      (s.rd (Reg.TSU_L_INCR_LO x)).toNat ∧ 4995 * 4294967296 ≤ i * 1000 ∧ i * 1000 ≤ 5005 * 4294967296)
    ∧ (∃ (m : Master) (x : Nat) (v : Word) (i : Nat) (s : State), x < 2 ∧ Reaches m (Reg.TSU_L_INCR_HI x) s ∧ i = bits v 0 8 * 4294967296 +
      (s.rd (Reg.TSU_L_INCR_LO x)).toNat ∧ (i * 1000 < 4995 * 4294967296 ∨ 5005 * 4294967296 < i * 1000))
    ∧ (∃ (m : Master) (x : Nat) (st : Nat) (n : Nat) (v : Word) (o : Int) (s : State), x < 2 ∧ Reaches m (Reg.TSU_L_ADJ x) s ∧ st = laneState
      s x ∧ o = sbits v 0 32 ∧ n = max 1 (s.fld (Reg.TSU_L_TRACK x) 0 8))
    ∧ (∃ (m : Master) (x : Nat) (st : Nat) (v : Word) (d : Int) (s : State), x < 2 ∧ Reaches m (Reg.TSU_L_STEP_CMD x) s ∧ st = laneState s x ∧
      d = signed 64 (s.rd64 (Reg.TSU_L_STEP_LO x)) ∧ (st = 1 ∨ st = 2 ∨ (st = 3 ∨ st = 4) ∧ bit v 1 = true ∧ holdsOpening s 0xE0 m = true) ∧
      0 ≤ ((laneOf s x).time : Int) + d * laneUnit)
    ∧ (∃ (m : Master) (x : Nat) (st : Nat) (v : Word) (d : Int) (s : State), x < 2 ∧ Reaches m (Reg.TSU_L_STEP_CMD x) s ∧ st = laneState s x ∧
      d = signed 64 (s.rd64 (Reg.TSU_L_STEP_LO x)) ∧ (st = 0 ∨ st = 5 ∨ (st = 3 ∨ st = 4) ∧ (bit v 1 = false ∨ holdsOpening s 0xE0 m =
      false)))
    ∧ (∃ (x : Nat) (st : Nat) (s : State), x < 2 ∧ frozen s 0xE0 = false ∧ st = laneState s x ∧ (s.now < (laneOf s x).fed + s.fld
      (Reg.TSU_L_FEED x) 16 16 * 200000 ∨ st ≠ 2 ∧ st ≠ 3))
    ∧ (∃ (x : Nat) (st : Nat) (s : State), x < 2 ∧ frozen s 0xE0 = false ∧ st = laneState s x ∧ (laneOf s x).fed + s.fld (Reg.TSU_L_FEED x) 16
      16 * 200000 ≤ s.now ∧ st = 2)
    ∧ (∃ (x : Nat) (st : Nat) (s : State), x < 2 ∧ frozen s 0xE0 = false ∧ st = laneState s x ∧ (laneOf s x).fed + s.fld (Reg.TSU_L_FEED x) 16
      16 * 200000 ≤ s.now ∧ st = 3)
    ∧ (∃ (x : Nat) (st : Nat) (s : State), x < 2 ∧ frozen s 0xE0 = false ∧ st = laneState s x ∧ st = 4 ∧ (laneOf s x).hoSince + s.fld
      (Reg.TSU_L_FEED x) 0 16 * 200000000 ≤ s.now)
    ∧ (∃ (x : Nat) (st : Nat) (s : State), x < 2 ∧ frozen s 0xE0 = false ∧ st = laneState s x ∧ (st ≠ 4 ∨ s.now < (laneOf s x).hoSince + s.fld
      (Reg.TSU_L_FEED x) 0 16 * 200000000))
    ∧ (∃ (x : Nat) (st : Nat) (s : State), x < 2 ∧ frozen s 224 = false ∧ st = laneState s x ∧ st = 4 ∧ s.fld (Reg.TSU_L_BUDGET x) 0 16 * 10 *
      0xBEBC200 < (laneOf s x).lastAbs * 0xBEBC200 + s.fld (Reg.TSU_L_BUDGET x) 16 16 * (s.now - (laneOf s x).hoSince))
    ∧ (∃ (x : Nat) (st : Nat) (s : State), x < 2 ∧ frozen s 224 = false ∧ st = laneState s x ∧ (st ≠ 4 ∨ (laneOf s x).lastAbs * 0xBEBC200 +
      s.fld (Reg.TSU_L_BUDGET x) 16 16 * (s.now - (laneOf s x).hoSince) ≤ s.fld (Reg.TSU_L_BUDGET x) 0 16 * 10 * 0xBEBC200))
    ∧ (∃ (n : Nat) (s : State), s.pending = [] ∧ s.power.phase = .steady ∧ s.fld Reg.PWR_STATE 0 3 ≤ 3 ∧ n = (if s.fld Reg.PWR_STATE 0 3 ≤ 1
      then 1 else 8)) :=
  ⟨⟨.spe1, 0, 5, 0x500000000, State.reset, by unfold Reaches; decide +kernel⟩,
  ⟨.host, 1, 0, 0, State.reset, by unfold Reaches; decide +kernel⟩,
  ⟨.dma, 1, 0, 4, 0, 0, State.reset, by unfold Reaches; decide +kernel⟩,
  ⟨.dma, 1, 2, 8, 0, (reg [(0x400E0284, 2)]), by unfold Reaches; decide +kernel⟩,
  ⟨.dma, 1, 4, 8, 0, (reg [(0x400E0284, 4)]), by unfold Reaches; decide +kernel⟩,
  ⟨0, 0, State.reset, by decide +kernel⟩,
  ⟨1, 2, (reg [(0x400E0284, 2), (0x400E02B8, 0)]), by decide +kernel⟩,
  ⟨1, 3, (reg [(0x400E0284, 3), (0x400E02B8, 0)]), by decide +kernel⟩,
  ⟨1, 4, (reg [(0x400E0284, 4), (0x400E02B8, 0)]), by decide +kernel⟩,
  ⟨0, 5, (reg [(0x400E0204, 5)]), by decide +kernel⟩,
  ⟨0, 4, { reg [(0x400E0204, 4)] with tsu := { a := { lastAbs := 0x60379 } } }, by decide +kernel⟩,
  ⟨1, 0, State.reset, by decide +kernel⟩,
  ⟨8, (reg [(0x40002044, 2)]), by decide +kernel⟩⟩

/-- Hypotheses of ImplementTime. -/
theorem witness_ImplementTime :
    (∃ (m : Master) (v : Word) (s : State), Reaches m Reg.TSU_SEL_CFG s ∧ Accepted (defOf .tsu 0x050) Reg.TSU_SEL_CFG m v s)
    ∧ (∃ (s : State), frozen s 224 = false ∧ s.tsu.selWrote ≠ some s.now ∧ s.flag Reg.TSU_SEL_CFG 8 = true ∧ (laneState s (selLane s) = 4 ∧
      laneState s (1 - selLane s) = 3 ∧ s.tsu.autoKept = false ∨ laneValid s (selLane s) = false ∧ laneValid s (1 - selLane s) = true))
    ∧ (∃ (s : State), frozen s 224 = false ∧ (s.tsu.selWrote = some s.now ∨ s.flag Reg.TSU_SEL_CFG 8 = false ∨ laneState s 0 = 4 ∧ laneState s
      1 = 4 ∨ laneState s (selLane s) = 3 ∨ laneState s (selLane s) = 4 ∧ s.tsu.autoKept = true))
    ∧ (∃ (s : State), frozen s 0xE0 = false ∧ s.tsu.bridging = true ∧ s.tsu.bridge = 0)
    ∧ (∃ (s : State), frozen s 0xE0 = false ∧ (s.tsu.bridging = false ∨ s.tsu.bridge ≠ 0))
    ∧ (∃ (s : State) (d : Int), frozen s 0xE0 = false ∧ d = ((laneOf s 0).ns : Int) - (laneOf s 1).ns)
    ∧ (∃ (s : State) (k : Nat), frozen s 0xE0 = false ∧ timeOk s = false ∧ s.tsu.okSince = some k ∧ timeConditions s = true ∧ k + s.fld
      Reg.TSU_OK_HOLD 0 16 * 200000 ≤ s.now)
    ∧ (∃ (s : State), frozen s 0xE0 = false ∧ (s.tsu.okSince = none ∨ timeOk s = true ∨ timeConditions s = false))
    ∧ (∃ (s : State), frozen s 224 = false ∧ s.flag Reg.TSU_PPS_OUT_CFG 31 = true ∧ max s.tsu.ppsLast s.tsu.ppsFrom < implementTime s /
      0x3B9ACA00)
    ∧ (∃ (s : State), frozen s 224 = false ∧ (s.flag Reg.TSU_PPS_OUT_CFG 31 = false ∨ implementTime s / 0x3B9ACA00 ≤ max s.tsu.ppsLast
      s.tsu.ppsFrom))
    ∧ (∃ (s : State) (e : Nat), frozen s 0xE0 = false ∧ s.tsu.ppsEnd = some e ∧ e ≤ s.now)
    ∧ (∃ (s : State) (rising : Bool) (back : Nat) (passes : Prop), frozen s 224 = false ∧ (passes ↔ s.tsu.ppsLevel ≠ rising ∧ ∀ (p : Int),
      s.tsu.ppsAt = some p → ↑(s.fld Reg.TSU_PPS_IN_CFG 16 5) * perSample s ≤ rootNow s - ↑back - p) ∧ ¬passes)
    ∧ (∃ (s : State) (rising : Bool) (back : Nat) (passes : Prop), frozen s 224 = false ∧ (passes ↔ s.tsu.ppsLevel ≠ rising ∧ ∀ (p : Int),
      s.tsu.ppsAt = some p → ↑(s.fld Reg.TSU_PPS_IN_CFG 16 5) * perSample s ≤ rootNow s - ↑back - p) ∧ passes ∧ (s.flag Reg.TSU_PPS_IN_CFG
      31 = false ∨ ¬(rising = true ↔ s.fld Reg.TSU_PPS_IN_CFG 28 2 = 0)))
    ∧ (∃ (s : State) (rising : Bool) (back : Nat) (passes : Prop), frozen s 224 = false ∧ (passes ↔ s.tsu.ppsLevel ≠ rising ∧ ∀ (p : Int),
      s.tsu.ppsAt = some p → ↑(s.fld Reg.TSU_PPS_IN_CFG 16 5) * perSample s ≤ rootNow s - ↑back - p) ∧ passes ∧ s.flag Reg.TSU_PPS_IN_CFG 31
      = true ∧ (rising = true ↔ s.fld Reg.TSU_PPS_IN_CFG 28 2 = 0))
    ∧ (∃ (m : Master) (s : State), Reaches m Reg.TSU_SNAP s)
    ∧ (∃ (k : Nat) (s : State), k < 4 ∧ frozen s 0xE0 = false ∧ s.flag (Reg.TSU_AL_CFG k) 31 = true ∧ s.rd64 (Reg.TSU_AL_TIME_LO k) ≤
      implementTime s)
    ∧ (∃ (k : Nat) (s : State), k < 4 ∧ frozen s 0xE0 = false ∧ (s.flag (Reg.TSU_AL_CFG k) 31 = false ∨ implementTime s < s.rd64
      (Reg.TSU_AL_TIME_LO k)))
    ∧ (∃ (k : Nat) (s : State) (e : Nat), k < 4 ∧ frozen s 0xE0 = false ∧ 0 < e ∧ tabGet s.tsu.tpinEnd k 0 = e ∧ e ≤ s.now + 1) :=
  ⟨⟨.dma, 5, State.reset, by unfold Reaches Accepted; decide +kernel⟩,
  ⟨(reg [(0x400E0284, 3)]), by decide +kernel⟩,
  ⟨(reg [(0x400E0050, 0)]), by decide +kernel⟩,
  ⟨{ State.reset with tsu := { bridging := true } }, by decide +kernel⟩,
  ⟨State.reset, by decide +kernel⟩,
  ⟨State.reset, 0, by decide +kernel⟩,
  ⟨{ State.reset with now := 0x1312d04, regs := [(0x40000058, 3), (0x40002018, 2), (0x40024018, 0x80000), (0x400e0008, 1), (0x400e0204, 3), (0x400e0284, 3)], tsu := { okSince := (some 4) } },
    4, by decide +kernel⟩,
  ⟨State.reset, by decide +kernel⟩,
  ⟨{ reg [(0x400E00B0, 0x80000000)] with tsu := { bridge := (-5) } }, by decide +kernel⟩,
  ⟨State.reset, by decide +kernel⟩,
  ⟨{ State.reset with tsu := { ppsEnd := (some 0) } }, 0, by decide +kernel⟩,
  ⟨State.reset, false, 0, _, by decide +kernel, Iff.rfl, by intro h; exact absurd h.1 (by decide +kernel)⟩,
  ⟨State.reset, true, 0, _, by decide +kernel, Iff.rfl, ⟨by decide +kernel, nofun⟩, by decide +kernel⟩,
  ⟨(reg [(0x400E00B4, 0x80000000)]), true, 0, _, by decide +kernel, Iff.rfl, ⟨by decide +kernel, nofun⟩, by decide +kernel⟩,
  ⟨.dma, State.reset, by unfold Reaches; decide +kernel⟩,
  ⟨0, (reg [(0x400E0100, 0x80000000)]), by decide +kernel⟩,
  ⟨0, State.reset, by decide +kernel⟩,
  ⟨0, { State.reset with tsu := { tpinEnd := [(0, 1)] } }, 1, by decide +kernel⟩⟩

/-- Hypotheses of SchedulerInsertions. -/
theorem witness_SchedulerInsertions :
    (∃ (w0 : Word) (w1 : Word) (w2 : Word) (w3 : Word) (r : List (List Word)) (s : State) (code : Nat), busUp s = true ∧ frozen s 0xE1 =
      false ∧ s.sch.knatis = [w0, w1, w2, w3] :: r ∧ (badAction s w0 w1 = true ∧ code = 3 ∨ badAction s w0 w1 = false ∧ (∃ e ∈ s.sch.cal,
      e.ident = bits w0 0 24) ∧ code = 4 ∨ badAction s w0 w1 = false ∧ (∀ e ∈ s.sch.cal, e.ident ≠ bits w0 0 24) ∧ bits w0 28 4 = 1 ∧ 960 ≤
      s.sch.cal.length ∧ code = 1))
    ∧ (∃ (w0 : Word) (w1 : Word) (w2 : Word) (w3 : Word) (r : List (List Word)) (s : State), busUp s = true ∧ frozen s 0xE1 = false ∧
      s.sch.knatis = [w0, w1, w2, w3] :: r ∧ badAction s w0 w1 = false ∧ (∀ e ∈ s.sch.cal, e.ident ≠ bits w0 0 24) ∧ s.sch.cal.length < (if
      bits w0 28 4 = 1 then 960 else 1024))
    ∧ (∃ (w0 : Word) (w1 : Word) (w2 : Word) (w3 : Word) (r : List (List Word)) (s : State), busUp s = true ∧ frozen s 0xE1 = false ∧
      s.sch.knatis = [w0, w1, w2, w3] :: r ∧ badAction s w0 w1 = false ∧ (∀ e ∈ s.sch.cal, e.ident ≠ bits w0 0 24) ∧ 1024 ≤ s.sch.cal.length
      ∧ bits w0 28 4 = 2)
    ∧ (∃ (s : State), busUp s = true ∧ frozen s 0xE1 = false ∧ s.sch.knatis = [] ∧ insertQueue s = none)
    ∧ (∃ (s : State) (q : Nat) (w0 : Word) (w1 : Word) (w2 : Word) (w3 : Word) (hr : List QWord), busUp s = true ∧ frozen s 0xE1 = false ∧
      s.sch.knatis = [] ∧ insertQueue s = some q ∧ (queue s q).head = [{ data := w0 }, { data := w1 }, { data := w2 }, { data := w3 }] ++ hr
      ∧ badAction s w0 w1 = false ∧ (∀ e ∈ s.sch.cal, e.ident ≠ bits w0 0 24) ∧ s.sch.cal.length < 960)
    ∧ (∃ (s : State) (q : Nat) (w0 : Word) (w1 : Word) (w2 : Word) (w3 : Word) (p0 : Bool) (p1 : Bool) (p2 : Bool) (p3 : Bool) (hr : List
      QWord), busUp s = true ∧ frozen s 0xE1 = false ∧ s.sch.knatis = [] ∧ insertQueue s = some q ∧ (queue s q).head =
      [{ data := w0, badParity := p0 }, { data := w1, badParity := p1 }, { data := w2, badParity := p2 }, { data := w3, badParity := p3 }]
      ++ hr ∧ (p0 || p1 || p2 || p3) = true)
    ∧ (∃ (ws : List Word) (r : List (List Word)) (q : Nat) (s : State), busUp s = true ∧ frozen s 0xE1 = false ∧ s.sch.fifo = ws :: r ∧
      boundProd s 0x40 = some q ∧ qRoom s q 4 = true)
    ∧ (∃ (ws : List Word) (r : List (List Word)) (q : Nat) (s : State), busUp s = true ∧ frozen s 0xE1 = false ∧ s.sch.fifo = ws :: r ∧
      boundProd s 0x40 = some q ∧ qRoom s q 4 = false) :=
  ⟨⟨100, 1, 5, 227, [], { State.reset with sch := { knatis := [[100, 1, 5, 227]] } }, 3, by decide +kernel⟩,
  ⟨0x10200000, 0, 32, 5, [], { State.reset with sch := { knatis := [[0x10200000, 0, 32, 5]] } }, by decide +kernel⟩,
  ⟨0x20FFFFFF, 0, 0, 0, [],
    { State.reset with sch := { cal := (List.range 1024).map fun k => ⟨k, 1, k, false, 0, 0, 0, false, false⟩, knatis := [[0x20FFFFFF, 0, 0, 0]] } },
    by decide +kernel⟩,
  ⟨State.reset, by decide +kernel⟩,
  ⟨{ reg [(0x40040008, 1), (0x40041190, 0x900001)] with queues := [(3, { head := [{ data := 0x10000000 }, { data := 0 }, { data := 7 }, { data := 0 }] })] },
    3, 0x10000000, 0, 7, 0, [], by decide +kernel⟩,
  ⟨{ reg [(0x40040008, 1), (0x40041190, 0x900001)] with queues := [(3, { head := [{ data := 4 }, { data := 3 }, { data := 190, badParity := true }, { data := 238 }] })] },
    3, 4, 3, 190, 238, false, false, true, false, [], by decide +kernel⟩,
  ⟨[], [], 3, { reg [(0x40040008, 1), (0x40041190, 0x4001)] with sch := { fifo := [[]] } }, by decide +kernel⟩,
  ⟨[], [], 3, { reg [(0x40041190, 0x4000)] with sch := { fifo := [[]] } }, by decide +kernel⟩⟩

/-- Hypotheses of SchedulerFiring. -/
theorem witness_SchedulerFiring :
    (∃ (e : CalEntry) (s : State), nextDue s = some e)
    ∧ (∃ (e : CalEntry) (s : State) (x : CalEntry), nextDue s = some e ∧ x ∈ s.sch.cal ∧ entryDue s x = true)
    ∧ (∃ (e : CalEntry) (s : State) (x : CalEntry), nextDue s = some e ∧ x ∈ s.sch.cal ∧ entryDue s x = true ∧ x.fire = e.fire ∧ x.kind = 2 ∧
      x.target = e.target)
    ∧ (∃ (s : State) (x : CalEntry), nextDue s = none ∧ x ∈ s.sch.cal)
    ∧ (∃ (s : State), frozen s 0xE1 = false ∧ schRuns s = true ∧ nextDue s = none)
    ∧ (∃ (e : CalEntry) (late : Bool) (tooLate : Bool) (it : Nat) (s : State) (code : Nat), frozen s 225 = false ∧ schRuns s = true ∧ nextDue
      s = some e ∧ List.filter (fun x ↦ decide (x.fire = e.fire ∧ x.kind = e.kind ∧ x.target = e.target)) s.sch.cal = [e] ∧ (∀ (k : Nat), k
      < 8 → GoodWord (0xFC000000 + 32 * e.slot + 4 * k) s) ∧ late = (e.late || decide (e.fire + 20 < implementTime s)) ∧ (it = if late =
      true then implementTime s else e.fire) ∧ tooLate = (late && decide (s.fld Reg.SCH_LATE_LIMIT 0 32 + e.fire < implementTime s)) ∧
      e.kind = 1 ∧ (tooLate = true ∧ code = 5 ∨ tooLate = false ∧ openTimeOk s = false ∧ code = 6 ∨ tooLate = false ∧ openTimeOk s = true ∧
      restrictOpen s = true ∧ code = 7))
    ∧ (∃ (e : CalEntry) (late : Bool) (tooLate : Bool) (it : Nat) (s : State) (u : State), frozen s 225 = false ∧ schRuns s = true ∧ nextDue s
      = some e ∧ List.filter (fun x ↦ decide (x.fire = e.fire ∧ x.kind = e.kind ∧ x.target = e.target)) s.sch.cal = [e] ∧ (∀ (k : Nat), k <
      8 → GoodWord (0xFC000000 + 32 * e.slot + 4 * k) s) ∧ late = (e.late || decide (e.fire + 20 < implementTime s)) ∧ (it = if late = true
      then implementTime s else e.fire) ∧ tooLate = (late && decide (s.fld Reg.SCH_LATE_LIMIT 0 32 + e.fire < implementTime s)) ∧ e.kind = 1
      ∧ e.target < 48 ∧ tooLate = false ∧ openTimeOk s = true ∧ restrictOpen s = false ∧ u =
      { s with sch := { s.sch with cal := s.sch.cal.filter fun x => decide (x.slot ≠ e.slot) } })
    ∧ (∃ (e : CalEntry) (late : Bool) (tooLate : Bool) (it : Nat) (s : State), frozen s 225 = false ∧ schRuns s = true ∧ nextDue s = some e ∧
      List.filter (fun x ↦ decide (x.fire = e.fire ∧ x.kind = e.kind ∧ x.target = e.target)) s.sch.cal = [e] ∧ (∀ (k : Nat), k < 8 →
      GoodWord (0xFC000000 + 32 * e.slot + 4 * k) s) ∧ late = (e.late || decide (e.fire + 20 < implementTime s)) ∧ (it = if late = true then
      implementTime s else e.fire) ∧ tooLate = (late && decide (s.fld Reg.SCH_LATE_LIMIT 0 32 + e.fire < implementTime s)) ∧ e.kind = 2 ∧
      e.target < 48)
    ∧ (∃ (e : CalEntry) (late : Bool) (tooLate : Bool) (it : Nat) (s : State), frozen s 225 = false ∧ schRuns s = true ∧ nextDue s = some e ∧
      List.filter (fun x ↦ decide (x.fire = e.fire ∧ x.kind = e.kind ∧ x.target = e.target)) s.sch.cal = [e] ∧ (∀ (k : Nat), k < 8 →
      GoodWord (0xFC000000 + 32 * e.slot + 4 * k) s) ∧ late = (e.late || decide (e.fire + 20 < implementTime s)) ∧ (it = if late = true then
      implementTime s else e.fire) ∧ tooLate = (late && decide (s.fld Reg.SCH_LATE_LIMIT 0 32 + e.fire < implementTime s)) ∧ e.kind = 3 ∧
      axisOn s e.target = true ∧ e.target < 16 ∧ (prof s e.target).v ≠ 0 ∧ (prof s e.target).dec = none ∧ profState s e.target ≠ 0 ∧ ∀ (p0
      v0 : Int) (a : Nat) (b : Int) (c : Nat), (prof s e.target).seg ≠ Segment.stopPhase p0 v0 a b c)
    ∧ (∃ (s : State), frozen s 0xE1 = false ∧ schRuns s = false ∧ busUp s = true)
    ∧ (∃ (m : Master) (s : State), Reaches m Reg.SCH_CANCEL s ∧ s.now < s.sch.cancelEnd)
    ∧ (∃ (m : Master) (ident : Nat) (s : State), Reaches m Reg.SCH_CANCEL s ∧ s.sch.cancelEnd ≤ s.now ∧ ident < 2 ^ 24)
    ∧ (∃ (m : Master) (s : State), Reaches m Reg.SCH_CMD s ∧ s.flag (Reg.SCH + 0x008) 0 = true)
    ∧ (∃ (m : Master) (s : State), Reaches m Reg.SCH_CMD s ∧ s.flag (Reg.SCH + 0x008) 0 = false) :=
  ⟨⟨{ slot := 3, kind := 2, ident := 2, noComp := false, target := 1, time := 0, fire := 0, knatis := true, late := false },
    { State.reset with sch := { cal := [{ slot := 3, kind := 2, ident := 2, noComp := false, target := 1, time := 0, fire := 0, knatis := true, late := false }] } },
    by decide +kernel⟩,
  ⟨{ slot := 3, kind := 2, ident := 2, noComp := false, target := 1, time := 0, fire := 0, knatis := true, late := false },
    { State.reset with sch := { cal := [{ slot := 3, kind := 2, ident := 2, noComp := false, target := 1, time := 0, fire := 0, knatis := true, late := false }] } },
    { slot := 3, kind := 2, ident := 2, noComp := false, target := 1, time := 0, fire := 0, knatis := true, late := false },
    by decide +kernel⟩,
  ⟨{ slot := 3, kind := 2, ident := 2, noComp := false, target := 1, time := 0, fire := 0, knatis := true, late := false },
    { State.reset with sch := { cal := [{ slot := 3, kind := 2, ident := 2, noComp := false, target := 1, time := 0, fire := 0, knatis := true, late := false }] } },
    { slot := 3, kind := 2, ident := 2, noComp := false, target := 1, time := 0, fire := 0, knatis := true, late := false },
    by decide +kernel⟩,
  ⟨{ State.reset with sch := { cal := [{ slot := 2, kind := 3, ident := 3, noComp := false, target := 0, time := 0xc6cb8, fire := 1, knatis := true, late := true }] } },
    { slot := 2, kind := 3, ident := 3, noComp := false, target := 0, time := 0xc6cb8, fire := 1, knatis := true, late := true },
    by decide +kernel⟩,
  ⟨(reg [(0x400E1008, 1)]), by decide +kernel⟩,
  ⟨⟨1, 1, 4, false, 2, 5, 0, true, false⟩, _, _, _,
    { reg [(0x400E1008, 1)] with sch := { cal := [⟨1, 1, 4, false, 2, 5, 0, true, false⟩] } }, 6, by decide +kernel, by decide +kernel,
    by decide +kernel, by decide +kernel, by unfold GoodWord; decide +kernel, rfl, rfl, rfl, by decide +kernel⟩,
  ⟨⟨4, 1, 0, true, 0, 7, 0, true, false⟩, _, _, _,
    { reg [(0x400E0054, 0x80000000), (0x400E1008, 1), (0x400E1044, 0x7FFFFFFF)] with sch := { cal := [⟨4, 1, 0, true, 0, 7, 0, true, false⟩] } },
    _, by decide +kernel, by decide +kernel, by decide +kernel, by decide +kernel, by unfold GoodWord; decide +kernel, rfl, rfl, rfl,
    and_four (by decide +kernel) ⟨by decide +kernel, rfl⟩⟩,
  ⟨⟨4, 2, 0, true, 0, 7, 0, true, false⟩, _, _, _, { reg [(0x400E1008, 1)] with sch := { cal := [⟨4, 2, 0, true, 0, 7, 0, true, false⟩] } },
    by decide +kernel, by decide +kernel, by decide +kernel, by decide +kernel, by unfold GoodWord; decide +kernel, rfl, rfl, rfl,
    by decide +kernel⟩,
  ⟨⟨4, 3, 0, true, 0, 7, 0, true, false⟩, _, _, _,
    { reg [(0x40080008, 1), (0x40080108, 256), (0x400E1008, 1)] with profs := [(0, { v := 1 })], sch := { cal := [⟨4, 3, 0, true, 0, 7, 0, true, false⟩] } },
    by decide +kernel, by decide +kernel, by decide +kernel, by decide +kernel, by unfold GoodWord; decide +kernel, rfl, rfl, rfl, and_four
    (by decide +kernel) ⟨by decide +kernel, by decide +kernel, not_stop rfl⟩⟩,
  ⟨State.reset, by decide +kernel⟩,
  ⟨.dma, { State.reset with sch := { cancelEnd := 1 } }, by unfold Reaches; decide +kernel⟩,
  ⟨.dma, 1, State.reset, by unfold Reaches; decide +kernel⟩,
  ⟨.dma, (reg [(0x400E1008, 1)]), by unfold Reaches; decide +kernel⟩,
  ⟨.dma, State.reset, by unfold Reaches; decide +kernel⟩⟩

/-- Hypotheses of CanReception. -/
theorem witness_CanReception :
    (∃ (n : Nat) (s : State), n < 3 ∧ frozen s (0xF0 + n) = false ∧ canOn s n = true ∧ canHalted s n = false ∧ (can s n).st = 0)
    ∧ (∃ (n : Nat) (s : State), n < 3 ∧ frozen s (0xF0 + n) = false ∧ canOn s n = true ∧ canHalted s n = false ∧ (can s n).st ≠ 0)
    ∧ (∃ (n : Nat) (s : State), n < 3 ∧ frozen s (0xF0 + n) = false ∧ canOn s n = true ∧ canHalted s n = false ∧ (can s n).st = 4)
    ∧ (∃ (n : Nat) (s : State), n < 3 ∧ frozen s (0xF0 + n) = false ∧ canOn s n = true ∧ canHalted s n = false ∧ (can s n).st ≠ 4)
    ∧ (∃ (n : Nat) (s : State), n < 3 ∧ frozen s (240 + n) = false ∧ canLive s n = true ∧ canStopping s n = true)
    ∧ (∃ (n : Nat) (s : State), n < 3 ∧ frozen s (240 + n) = false ∧ canLive s n = true ∧ canStopping s n = true ∧ canMode s n ≠ 3)
    ∧ (∃ (n : Nat) (s : State), n < 3 ∧ frozen s (240 + n) = false ∧ canLive s n = true ∧ canStopping s n = false ∧ (can s n).tec ≤ 255)
    ∧ (∃ (n : Nat) (s : State), n < 3 ∧ frozen s (240 + n) = false ∧ canLive s n = true ∧ canStopping s n = false ∧ s.flag (Reg.CAN_CFG n) 16
      = true ∧ s.flag (Reg.CAN_CFG n) 20 = true)
    ∧ (∃ (n : Nat) (s : State), n < 3 ∧ frozen s (240 + n) = false ∧ canLive s n = true ∧ canStopping s n = false ∧ (s.flag (Reg.CAN_CFG n) 16
      = false ∨ s.flag (Reg.CAN_CFG n) 20 = false))
    ∧ (∃ (n : Nat) (s : State) (f : CanFrame), n < 3 ∧ frozen s (240 + n) = false ∧ canLive s n = true ∧ canStopping s n = false ∧ canMode s n
      ≠ 3 ∧ f.fdf = true ∧ s.flag (Reg.CAN_CFG n) 16 = false)
    ∧ (∃ (n : Nat) (s : State) (f : CanFrame), n < 3 ∧ frozen s (240 + n) = false ∧ canLive s n = true ∧ canStopping s n = false ∧ canMode s n
      ≠ 3 ∧ (f.fdf = false ∨ s.flag (Reg.CAN_CFG n) 16 = true) ∧ (∀ (k : Nat), k < 32 → filterMatches s n k f = false) ∧ s.flag (Reg.CAN_CFG
      n) 4 = false)
    ∧ (∃ (n : Nat) (s : State) (f : CanFrame) (k : Nat), n < 3 ∧ frozen s (240 + n) = false ∧ canLive s n = true ∧ canStopping s n = false ∧
      canMode s n ≠ 3 ∧ (f.fdf = false ∨ s.flag (Reg.CAN_CFG n) 16 = true) ∧ k < 32 ∧ filterMatches s n k f = true ∧ (∀ (j : Nat), j < k →
      filterMatches s n j f = false) ∧ s.flag (Reg.CAN_FLT_CTL n k) 23 = true)
    ∧ (∃ (n : Nat) (s : State) (f : CanFrame) (k : Nat) (b : Nat), n < 3 ∧ frozen s (240 + n) = false ∧ canLive s n = true ∧ canStopping s n =
      false ∧ canMode s n ≠ 3 ∧ (f.fdf = false ∨ s.flag (Reg.CAN_CFG n) 16 = true) ∧ k < 32 ∧ filterMatches s n k f = true ∧ (∀ (j : Nat), j
      < k → filterMatches s n j f = false) ∧ s.flag (Reg.CAN_FLT_CTL n k) 23 = false ∧ s.flag (Reg.CAN_FLT_CTL n k) 20 = false ∧ b = s.fld
      (Reg.CAN_FLT_CTL n k) 0 4 ∧ (s.flag (rxbAddr n b 0) 31 = false ∨ s.flag (Reg.CAN_RXB_CFG n) b = false))
    ∧ (∃ (n : Nat) (s : State) (f : CanFrame) (k : Nat) (b : Nat), n < 3 ∧ frozen s (240 + n) = false ∧ canLive s n = true ∧ canStopping s n =
      false ∧ canMode s n ≠ 3 ∧ (f.fdf = false ∨ s.flag (Reg.CAN_CFG n) 16 = true) ∧ k < 32 ∧ filterMatches s n k f = true ∧ (∀ (j : Nat), j
      < k → filterMatches s n j f = false) ∧ s.flag (Reg.CAN_FLT_CTL n k) 23 = false ∧ s.flag (Reg.CAN_FLT_CTL n k) 20 = false ∧ b = s.fld
      (Reg.CAN_FLT_CTL n k) 0 4 ∧ s.flag (rxbAddr n b 0) 31 = true ∧ s.flag (Reg.CAN_RXB_CFG n) b = true)
    ∧ (∃ (n : Nat) (s : State) (f : CanFrame) (k : Nat), n < 3 ∧ frozen s (240 + n) = false ∧ canLive s n = true ∧ canStopping s n = false ∧
      canMode s n ≠ 3 ∧ (f.fdf = false ∨ s.flag (Reg.CAN_CFG n) 16 = true) ∧ k < 32 ∧ filterMatches s n k f = true ∧ (∀ (j : Nat), j < k →
      filterMatches s n j f = false) ∧ s.flag (Reg.CAN_FLT_CTL n k) 23 = false ∧ s.flag (Reg.CAN_FLT_CTL n k) 20 = true ∧ rxQueue s n (s.fld
      (Reg.CAN_FLT_CTL n k) 16 2) = none)
    ∧ (∃ (n : Nat) (s : State) (f : CanFrame) (k : Nat) (q : Nat), n < 3 ∧ frozen s (240 + n) = false ∧ canLive s n = true ∧ canStopping s n =
      false ∧ canMode s n ≠ 3 ∧ (f.fdf = false ∨ s.flag (Reg.CAN_CFG n) 16 = true) ∧ k < 32 ∧ filterMatches s n k f = true ∧ (∀ (j : Nat), j
      < k → filterMatches s n j f = false) ∧ s.flag (Reg.CAN_FLT_CTL n k) 23 = false ∧ s.flag (Reg.CAN_FLT_CTL n k) 20 = true ∧ rxQueue s n
      (s.fld (Reg.CAN_FLT_CTL n k) 16 2) = some q ∧ s.flag (qAddr q 16) 2 = false ∧ (can s n).fifo.length < 4)
    ∧ (∃ (n : Nat) (s : State) (f : CanFrame) (k : Nat) (q : Nat), n < 3 ∧ frozen s (240 + n) = false ∧ canLive s n = true ∧ canStopping s n =
      false ∧ canMode s n ≠ 3 ∧ (f.fdf = false ∨ s.flag (Reg.CAN_CFG n) 16 = true) ∧ k < 32 ∧ filterMatches s n k f = true ∧ (∀ (j : Nat), j
      < k → filterMatches s n j f = false) ∧ s.flag (Reg.CAN_FLT_CTL n k) 23 = false ∧ s.flag (Reg.CAN_FLT_CTL n k) 20 = true ∧ rxQueue s n
      (s.fld (Reg.CAN_FLT_CTL n k) 16 2) = some q ∧ s.flag (qAddr q 16) 2 = false ∧ 4 ≤ (can s n).fifo.length)
    ∧ (∃ (n : Nat) (s : State) (q : Nat) (ws : List Word) (r : List (Nat × List Word)), n < 3 ∧ frozen s (240 + n) = false ∧ (can s n).fifo =
      (q, ws) :: r ∧ s.fld (qAddr q 16) 8 8 ≠ 48 + n)
    ∧ (∃ (n : Nat) (s : State) (q : Nat) (ws : List Word) (r : List (Nat × List Word)), n < 3 ∧ frozen s (240 + n) = false ∧ busUp s = true ∧
      (can s n).fifo = (q, ws) :: r ∧ s.fld (qAddr q 16) 8 8 = 48 + n ∧ qRoom s q (recordRoom s q ws) = false)
    ∧ (∃ (n : Nat) (s : State) (q : Nat) (ws : List Word) (r : List (Nat × List Word)), n < 3 ∧ frozen s (240 + n) = false ∧ busUp s = true ∧
      (can s n).fifo = (q, ws) :: r ∧ s.fld (qAddr q 16) 8 8 = 48 + n ∧ qRoom s q (recordRoom s q ws) = true)
    ∧ (∃ (m : Master) (n : Nat) (b : Nat) (s : State), n < 3 ∧ b < 16 ∧ Reaches m (rxbAddr n b 0) s)
    ∧ (∃ (m : Master) (n : Nat) (b : Nat) (v : Word) (s : State), n < 3 ∧ b < 16 ∧ Reaches m (rxbAddr n b 0) s ∧ bit v 31 = true ∧ bits v 8 8
      = s.fld (rxbAddr n b 0) 8 8)
    ∧ (∃ (m : Master) (n : Nat) (b : Nat) (v : Word) (s : State), n < 3 ∧ b < 16 ∧ Reaches m (rxbAddr n b 0) s ∧ (bit v 31 = false ∨ bits v 8
      8 ≠ s.fld (rxbAddr n b 0) 8 8)) :=
  ⟨⟨1, (reg [(0x400F1008, 1)]), by decide +kernel⟩,
  ⟨1, { reg [(0x400F1008, 1)] with cans := [(1, { st := 1 })] }, by decide +kernel⟩,
  ⟨1, { reg [(0x400F1008, 1)] with cans := [(1, { st := 4 })] }, by decide +kernel⟩,
  ⟨1, (reg [(0x400F1008, 1)]), by decide +kernel⟩,
  ⟨1, { reg [(0x400F100C, 2)] with cans := [(1, { st := 1 })] }, by decide +kernel⟩,
  ⟨1, { reg [(0x400F100C, 2)] with cans := [(1, { st := 1 })] }, by decide +kernel⟩,
  ⟨1, { reg [(0x400F1008, 1)] with cans := [(1, { st := 1 })] }, by decide +kernel⟩,
  ⟨2, { reg [(0x400F2008, 1), (0x400F2040, 0x110000)] with cans := [(2, { st := 1 })] }, by decide +kernel⟩,
  ⟨1, { reg [(0x400F1008, 1)] with cans := [(1, { st := 1 })] }, by decide +kernel⟩,
  ⟨2, { reg [(0x400F2008, 1)] with cans := [(2, { st := 1 })] },
    { ide := true, rtr := true, fdf := true, brs := true, esi := true, ident := 3, dlc := 0, data := [] }, by decide +kernel⟩,
  ⟨2, { reg [(0x400F2008, 1)] with cans := [(2, { st := 1 })] },
    { ide := true, rtr := true, fdf := false, brs := true, esi := true, ident := 1, dlc := 13, data := [] }, by decide +kernel⟩,
  ⟨2, { reg [(0x400F2008, 1), (0x400F2198, 0x80800000)] with cans := [(2, { st := 1 })] },
    { ide := false, rtr := true, fdf := false, brs := true, esi := true, ident := 3, dlc := 0, data := [] }, 9, by decide +kernel⟩,
  ⟨2, { reg [(0x400F2008, 1), (0x400F2198, 0x80000000)] with cans := [(2, { st := 1 })] },
    { ide := false, rtr := true, fdf := false, brs := true, esi := true, ident := 3, dlc := 0, data := [] }, 9, 0, by decide +kernel⟩,
  ⟨1, { reg [(0x400F1008, 1), (0x400F107C, 1), (0x400F1128, 0x80000000), (0x400F1800, 0x80000000)] with cans := [(1, { st := 1 })] },
    { ide := false, rtr := true, fdf := false, brs := true, esi := true, ident := 1, dlc := 13, data := [] }, 2, 0, by decide +kernel⟩,
  ⟨2, { reg [(0x400F2008, 1), (0x400F2128, 0x80100000)] with cans := [(2, { st := 1 })] },
    { ide := false, rtr := true, fdf := false, brs := true, esi := true, ident := 1, dlc := 13, data := [] }, 2, by decide +kernel⟩,
  ⟨2, { reg [(0x40041210, 0x3200), (0x400F2008, 1), (0x400F2080, 4), (0x400F2128, 0x80100000)] with cans := [(2, { st := 1 })] },
    { ide := false, rtr := true, fdf := false, brs := true, esi := true, ident := 1, dlc := 13, data := [] }, 2, 4, by decide +kernel⟩,
  ⟨1,
    { reg [(0x40041010, 0x3100), (0x400F1008, 1), (0x400F1080, 0), (0x400F1198, 0x80100000)] with cans := [(1, { st := 1, fifo := [(0, []), (0, []), (0, []), (0, [])] })] },
    { ide := false, rtr := true, fdf := false, brs := true, esi := true, ident := 3, dlc := 0, data := [] }, 9, 0, by decide +kernel⟩,
  ⟨2, { State.reset with cans := [(2, { fifo := [(4, [])] })] }, 4, [], [], by decide +kernel⟩,
  ⟨2, { reg [(0x40041210, 0x3200)] with cans := [(2, { fifo := [(4, [])] })] }, 4, [], [], by decide +kernel⟩,
  ⟨2, { reg [(0x40040008, 1), (0x40041210, 0x3201)] with cans := [(2, { fifo := [(4, [])] })] }, 4, [], [], by decide +kernel⟩,
  ⟨.dma, 1, 3, State.reset, by unfold Reaches; decide +kernel⟩,
  ⟨.dma, 1, 3, 0xfb4c0029, State.reset, by unfold Reaches; decide +kernel⟩,
  ⟨.dma, 0, 0, 8, State.reset, by unfold Reaches; decide +kernel⟩⟩

/-- Hypotheses of CanTransmission. -/
theorem witness_CanTransmission :
    (∃ (m : Master) (n : Nat) (b : Nat) (s : State), n < 3 ∧ b < 16 ∧ Reaches m (Reg.CAN_TXCOMMIT n) s ∧ badFrame s n b = true)
    ∧ (∃ (m : Master) (n : Nat) (b : Nat) (s : State), n < 3 ∧ b < 16 ∧ Reaches m (Reg.CAN_TXCOMMIT n) s ∧ badFrame s n b = false ∧ attempting
      s n b = false)
    ∧ (∃ (m : Master) (n : Nat) (b : Nat) (s : State), n < 3 ∧ b < 16 ∧ Reaches m (Reg.CAN_TXCOMMIT n) s ∧ badFrame s n b = false ∧ attempting
      s n b = true)
    ∧ (∃ (m : Master) (n : Nat) (b : Nat) (s : State), n < 3 ∧ b < 16 ∧ Reaches m (Reg.CAN_TXREQ n) s ∧ mtxOwns s n b = true)
    ∧ (∃ (m : Master) (n : Nat) (b : Nat) (s : State), n < 3 ∧ b < 16 ∧ Reaches m (Reg.CAN_TXREQ n) s ∧ mtxOwns s n b = false ∧ (canTx s n
      b).pending = false ∧ (canTx s n b).cancelAt ≠ some s.now)
    ∧ (∃ (m : Master) (n : Nat) (b : Nat) (s : State), n < 3 ∧ b < 16 ∧ Reaches m (Reg.CAN_TXREQ n) s ∧ mtxOwns s n b = false ∧ (canTx s n
      b).pending = false ∧ (canTx s n b).cancelAt = some s.now)
    ∧ (∃ (m : Master) (n : Nat) (b : Nat) (s : State), n < 3 ∧ b < 16 ∧ Reaches m (Reg.CAN_TXCANCEL n) s ∧ attempting s n b = true)
    ∧ (∃ (m : Master) (n : Nat) (b : Nat) (s : State), n < 3 ∧ b < 16 ∧ Reaches m (Reg.CAN_TXCANCEL n) s ∧ attempting s n b = false ∧ (canTx s
      n b).pending = true)
    ∧ (∃ (m : Master) (n : Nat) (b : Nat) (s : State), n < 3 ∧ b < 16 ∧ Reaches m (Reg.CAN_CMD n) s ∧ (can s n).st = 3)
    ∧ (∃ (m : Master) (n : Nat) (b : Nat) (s : State), n < 3 ∧ b < 16 ∧ Reaches m (Reg.CAN_CMD n) s ∧ (can s n).st ≠ 3)
    ∧ (∃ (n : Nat) (b : Nat) (s : State) (w : CanWin), offered s n = some (b, none) ∧ w ∈ (can s n).wins)
    ∧ (∃ (n : Nat) (b : Nat) (s : State), offered s n = some (b, none))
    ∧ (∃ (n : Nat) (b : Nat) (s : State) (k : Nat), offered s n = some (b, none) ∧ k < 16 ∧ (canTx s n k).pending = true ∧ mtxOwns s n k =
      false)
    ∧ (∃ (n : Nat) (b : Nat) (w : CanWin) (s : State), (∀ (x : CanWin), x ∈ (can s n).wins → x.entry < 64) ∧ offered s n = some (b, some w))
    ∧ (∃ (n : Nat) (b : Nat) (w : CanWin) (s : State) (x : CanWin), (∀ (x : CanWin), x ∈ (can s n).wins → x.entry < 64) ∧ offered s n = some
      (b, some w) ∧ x ∈ (can s n).wins ∧ x.done = false ∧ x.closed = false)
    ∧ (∃ (n : Nat) (s : State), frozen s (0xF0 + n) = false ∧ n < 3 ∧ canSends s n = true ∧ (can s n).onBus = none ∧ offered s n = none)
    ∧ (∃ (n : Nat) (s : State) (b : Nat) (w : Option CanWin), frozen s (240 + n) = false ∧ n < 3 ∧ canSends s n = true ∧ (can s n).onBus =
      none ∧ offered s n = some (b, w))
    ∧ (∃ (n : Nat) (s : State), frozen s (0xF0 + n) = false ∧ n < 3 ∧ (canSends s n = false ∨ (can s n).onBus ≠ none))
    ∧ (∃ (n : Nat) (s : State) (a : CanAttempt) (staged : Prop), frozen s (240 + n) = false ∧ n < 3 ∧ (can s n).onBus = some a ∧ a.entry =
      none ∧ a.buf < 16 ∧ canStopping s n = false ∧ (staged ↔ (canTx s n a.buf).commitDue ≠ none) ∧ canMode s n ≠ 3)
    ∧ (∃ (n : Nat) (s : State) (a : CanAttempt) (staged : Prop) (how : TxFail), frozen s (240 + n) = false ∧ n < 3 ∧ (can s n).onBus = some a
      ∧ a.entry = none ∧ a.buf < 16 ∧ canStopping s n = false ∧ (staged ↔ (canTx s n a.buf).commitDue ≠ none) ∧ how.lost = true ∧ bit
      (listGet a.words 1 0) 28 = false)
    ∧ (∃ (n : Nat) (s : State) (a : CanAttempt) (staged : Prop) (how : TxFail), frozen s (240 + n) = false ∧ n < 3 ∧ (can s n).onBus = some a
      ∧ a.entry = none ∧ a.buf < 16 ∧ canStopping s n = false ∧ (staged ↔ (canTx s n a.buf).commitDue ≠ none) ∧ how.lost = true ∧ bit
      (listGet a.words 1 0) 28 = true)
    ∧ (∃ (n : Nat) (s : State) (a : CanAttempt) (staged : Prop) (how : TxFail), frozen s (240 + n) = false ∧ n < 3 ∧ (can s n).onBus = some a
      ∧ a.entry = none ∧ a.buf < 16 ∧ canStopping s n = false ∧ (staged ↔ (canTx s n a.buf).commitDue ≠ none) ∧ how.lost = false ∧ (can s
      n).st = 1 ∧ bit (listGet a.words 1 0) 28 = false) :=
  ⟨⟨.dma, 1, 3, (reg [(0x400F13F8, 0x80000000)]), by unfold Reaches; decide +kernel⟩,
  ⟨.dma, 1, 3, State.reset, by unfold Reaches; decide +kernel⟩,
  ⟨.spe1, 2, 3, { State.reset with cans := [(2, { onBus := (some { buf := 3, entry := (some 3), sof := 0x2200a004, words := [] }) })] },
    by unfold Reaches; decide +kernel⟩,
  ⟨.dma, 1, 0, (reg [(0x400F1DB0, 0x80000000)]), by unfold Reaches; decide +kernel⟩,
  ⟨.dma, 1, 3, State.reset, by unfold Reaches; decide +kernel⟩,
  ⟨.dma, 1, 3, { State.reset with cans := [(1, { tx := [(3, { cancelAt := (some 0) })] })] }, by unfold Reaches; decide +kernel⟩,
  ⟨.spe1, 2, 3, { State.reset with cans := [(2, { onBus := (some { buf := 3, entry := (some 3), sof := 0x2200a004, words := [] }) })] },
    by unfold Reaches; decide +kernel⟩,
  ⟨.dma, 1, 3, { State.reset with cans := [(1, { tx := [(3, { pending := true })] })] }, by unfold Reaches; decide +kernel⟩,
  ⟨.dma, 1, 3, { State.reset with cans := [(1, { st := 3 })] }, by unfold Reaches; decide +kernel⟩,
  ⟨.dma, 1, 3, State.reset, by unfold Reaches; decide +kernel⟩,
  ⟨0, 0, { State.reset with cans := [(0, { tx := [(0, { pending := true })], wins := [⟨0, 1, false, 0, 0, true, true⟩] })] }, ⟨0, 1, false,
    0, 0, true, true⟩, by decide +kernel⟩,
  ⟨1, 3, { State.reset with cans := [(1, { tx := [(3, { pending := true })] })] }, by decide +kernel⟩,
  ⟨2, 2,
    { State.reset with cans := [(2, { tx := [(2, { active := [0x26aac], pending := true }), (3, { active := [0x2e668] }), (4, { active := [0x36224] }), (5, { active := [0x3dde0] }), (6, { active := [0x4599c] }), (7, { active := [0x4d558] }), (8, { active := [0x55114] }), (9, { active := [0x5ccd0] }), (10, { active := [0x6488c] }), (11, { active := [0x6c448] }), (12, { active := [0x74004] }), (13, { active := [0x7bbc0] }), (14, { active := [0x8377c] }), (15, { active := [0x8b338] })] })] },
    2, by decide +kernel⟩,
  ⟨1, 4, ⟨3, 4, true, 0, 0, false, false⟩, { State.reset with cans := [(1, { wins := [⟨3, 4, true, 0, 0, false, false⟩] })] },
    by decide +kernel⟩,
  ⟨1, 4, ⟨3, 4, true, 0, 0, false, false⟩, { State.reset with cans := [(1, { wins := [⟨3, 4, true, 0, 0, false, false⟩] })] }, ⟨3, 4, true,
    0, 0, false, false⟩, by decide +kernel⟩,
  ⟨2, { reg [(0x400F2008, 1)] with cans := [(2, { st := 1 })] }, by decide +kernel⟩,
  ⟨2, { reg [(0x400F2008, 1)] with cans := [(2, { st := 1, tx := [(4, { pending := true })] })] }, 4, none, by decide +kernel⟩,
  ⟨1, State.reset, by decide +kernel⟩,
  ⟨0, { State.reset with cans := [(0, { onBus := (some { buf := 15, entry := none, sof := 2, words := [] }) })] },
    { buf := 15, entry := none, sof := 2, words := [] }, False, by decide +kernel⟩,
  ⟨0, { State.reset with cans := [(0, { onBus := (some { buf := 15, entry := none, sof := 2, words := [] }) })] },
    { buf := 15, entry := none, sof := 2, words := [] }, False, ⟨true, none⟩, by decide +kernel⟩,
  ⟨0, { State.reset with cans := [(0, { onBus := (some { buf := 15, entry := none, sof := 2, words := [8, 0x10000000] }) })] },
    { buf := 15, entry := none, sof := 2, words := [8, 0x10000000] }, False, ⟨true, none⟩, by decide +kernel⟩,
  ⟨0, { State.reset with cans := [(0, { st := 1, onBus := (some { buf := 15, entry := none, sof := 2, words := [] }) })] },
    { buf := 15, entry := none, sof := 2, words := [] }, False, ⟨false, some 5⟩, by decide +kernel⟩⟩

/-- Hypotheses of CanScheduleMatrix. -/
theorem witness_CanScheduleMatrix :
    (∃ (n : Nat) (b : Word) (s : State), bits b 0 6 < instPeriod s n b)
    ∧ (∃ (n : Nat) (s : State), frozen s (0xF0 + n) = false ∧ n < 3 ∧ mtxRuns s n = true ∧ (can s n).cycle ≠ some (cycAt s n (implementTime
      s)))
    ∧ (∃ (n : Nat) (s : State), frozen s (0xF0 + n) = false ∧ n < 3 ∧ (can s n).cycle = some (cycAt s n (implementTime s)))
    ∧ (∃ (n : Nat) (e : Nat) (a : Word) (b : Word) (s : State) (f : Int), frozen s (240 + n) = false ∧ n < 3 ∧ mtxRuns s n = true ∧ e < 64 ∧
      mtxForce s n e = (a, b) ∧ bit a 31 = true ∧ bits b 0 6 < instPeriod s n b ∧ f = (firstInst s n e).getD (lastStarted s n a b - 1) ∧
      lastStarted s n a b ≤ f)
    ∧ (∃ (n : Nat) (e : Nat) (a : Word) (b : Word) (s : State) (f : Int), frozen s (240 + n) = false ∧ n < 3 ∧ mtxRuns s n = true ∧ e < 64 ∧
      mtxForce s n e = (a, b) ∧ bit a 31 = true ∧ bits b 0 6 < instPeriod s n b ∧ f = (firstInst s n e).getD (lastStarted s n a b - 1) ∧ f <
      lastStarted s n a b ∧ lastStarted s n a b ≤ f + ↑(instPeriod s n b) ∧ ↑(implementTime s) < winStart s n a (lastStarted s n a b) +
      ↑(bits b 16 16) * 1000)
    ∧ (∃ (n : Nat) (e : Nat) (a : Word) (b : Word) (s : State) (f : Int), frozen s (240 + n) = false ∧ n < 3 ∧ mtxRuns s n = true ∧ e < 64 ∧
      mtxForce s n e = (a, b) ∧ bit a 31 = true ∧ bits b 0 6 < instPeriod s n b ∧ f = (firstInst s n e).getD (lastStarted s n a b - 1) ∧ f <
      lastStarted s n a b ∧ lastStarted s n a b ≤ f + ↑(instPeriod s n b) ∧ winStart s n a (lastStarted s n a b) + ↑(bits b 16 16) * 1000 ≤
      ↑(implementTime s))
    ∧ (∃ (n : Nat) (e : Nat) (s : State) (w : CanWin), frozen s (240 + n) = false ∧ n < 3 ∧ winOf s n e = some w)
    ∧ (∃ (n : Nat) (e : Nat) (s : State) (w : CanWin), frozen s (240 + n) = false ∧ n < 3 ∧ winOf s n e = some w ∧ ↑(implementTime s) <
      w.close)
    ∧ (∃ (n : Nat) (e : Nat) (s : State) (w : CanWin), frozen s (240 + n) = false ∧ n < 3 ∧ winOf s n e = some w ∧ w.close ≤ ↑(implementTime
      s) ∧ w.done = false ∧ ∀ (x : CanAttempt), (can s n).onBus = some x → usesWin x w = false)
    ∧ (∃ (n : Nat) (e : Nat) (s : State) (w : CanWin), frozen s (240 + n) = false ∧ n < 3 ∧ winOf s n e = some w ∧ w.close ≤ ↑(implementTime
      s) ∧ w.done = true)
    ∧ (∃ (n : Nat) (e : Nat) (s : State) (w : CanWin) (x : CanAttempt), frozen s (240 + n) = false ∧ n < 3 ∧ winOf s n e = some w ∧ w.close ≤
      ↑(implementTime s) ∧ w.done = false ∧ (can s n).onBus = some x ∧ usesWin x w = true)
    ∧ (∃ (n : Nat) (e : Nat) (s : State) (x : CanAttempt) (w : CanWin), frozen s (240 + n) = false ∧ n < 3 ∧ (can s n).onBus = some x ∧
      x.entry = some e ∧ x.buf < 16 ∧ w ∈ (can s n).wins ∧ usesWin x w = true ∧ w.closed = true ∧ (∀ (y : CanWin), y ∈ (can s n).wins →
      usesWin x y = true → y = w) ∧ canStopping s n = false ∧ canMode s n ≠ 3)
    ∧ (∃ (n : Nat) (e : Nat) (s : State) (x : CanAttempt) (w : CanWin) (how : TxFail), frozen s (240 + n) = false ∧ n < 3 ∧ (can s n).onBus =
      some x ∧ x.entry = some e ∧ x.buf < 16 ∧ w ∈ (can s n).wins ∧ usesWin x w = true ∧ w.closed = true ∧ (∀ (y : CanWin), y ∈ (can s
      n).wins → usesWin x y = true → y = w) ∧ canStopping s n = false ∧ how.lost = true) :=
  ⟨⟨2, 0x30000, { reg [(0x400E0008, 1), (0x400F2008, 1), (0x400F2088, 1)] with cans := [(2, { force := [(0, (0xb0081800, 0x30000))] })] },
    by decide +kernel⟩,
  ⟨2, (reg [(0x400E0008, 1), (0x400F2008, 1), (0x400F2088, 1)]), by decide +kernel⟩,
  ⟨1, { State.reset with cans := [(1, { cycle := (some 0) })] }, by decide +kernel⟩,
  ⟨2, 0, 0xB0081800, 0x30000,
    { reg [(0x400E0008, 1), (0x400F2008, 1), (0x400F2088, 1)] with cans := [(2, { force := [(0, (0xB0081800, 0x30000))], lastInst := [(0, (5))] })] },
    _, and_four (by decide +kernel) ⟨by decide +kernel, by decide +kernel, by decide +kernel, rfl, by decide +kernel⟩⟩,
  ⟨2, 6, 0x80000000, 0x30000,
    { reg [(0x400E0008, 1), (0x400F2008, 1), (0x400F2088, 1)] with cans := [(2, { force := [(6, (0x80000000, 0x30000))], lastInst := [(6, (-1))] })] },
    _, and_four (by decide +kernel) ⟨by decide +kernel, by decide +kernel, by decide +kernel, rfl, by decide +kernel⟩⟩,
  ⟨2, 9, 0x80000000, 0,
    { reg [(0x400E0008, 1), (0x400F2008, 1), (0x400F2088, 1)] with cans := [(2, { force := [(9, (0x80000000, 0))], lastInst := [(9, (-1))] })] },
    _, and_four (by decide +kernel) ⟨by decide +kernel, by decide +kernel, by decide +kernel, rfl, by decide +kernel⟩⟩,
  ⟨1, 6,
    { State.reset with cans := [(1, { wins := [{ entry := 6, buf := 12, single := false, start := 0, close := 1, done := false, closed := false }] })] },
    { entry := 6, buf := 12, single := false, start := 0, close := 1, done := false, closed := false }, by decide +kernel⟩,
  ⟨1, 6,
    { State.reset with cans := [(1, { wins := [{ entry := 6, buf := 12, single := false, start := 0, close := 1, done := false, closed := false }] })] },
    { entry := 6, buf := 12, single := false, start := 0, close := 1, done := false, closed := false }, by decide +kernel⟩,
  ⟨1, 6,
    { State.reset with cans := [(1, { wins := [{ entry := 6, buf := 12, single := false, start := 0, close := (-1), done := false, closed := false }] })] },
    { entry := 6, buf := 12, single := false, start := 0, close := (-1), done := false, closed := false }, by decide +kernel⟩,
  ⟨1, 6,
    { State.reset with cans := [(1, { wins := [{ entry := 6, buf := 12, single := false, start := 0, close := (-1), done := true, closed := false }] })] },
    { entry := 6, buf := 12, single := false, start := 0, close := (-1), done := true, closed := false }, by decide +kernel⟩,
  ⟨0, 1, { State.reset with cans := [(0, { onBus := (some ⟨2, some 1, 5, 1, []⟩), wins := [⟨1, 2, true, 5, 0, false, false⟩] })] }, ⟨1, 2,
    true, 5, 0, false, false⟩, ⟨2, some 1, 5, 1, []⟩, by decide +kernel⟩,
  ⟨0, 1, { State.reset with cans := [(0, { onBus := (some ⟨2, some 1, 5, 1, []⟩), wins := [⟨1, 2, true, 5, 0, false, true⟩] })] }, ⟨2, some
    1, 5, 1, []⟩, ⟨1, 2, true, 5, 0, false, true⟩, by decide +kernel⟩,
  ⟨0, 1, { State.reset with cans := [(0, { onBus := (some ⟨2, some 1, 5, 1, []⟩), wins := [⟨1, 2, true, 5, 0, false, true⟩] })] }, ⟨2, some
    1, 5, 1, []⟩, ⟨1, 2, true, 5, 0, false, true⟩, ⟨true, none⟩, by decide +kernel⟩⟩

/-- Hypotheses of KnatisProtocol. -/
theorem witness_KnatisProtocol :
    (∃ (p : Nat) (b : List Byte) (pl : List Byte) (s : State) (r : Nat), KnatisArrives p b pl s ∧ (knatisWellFormed s p pl = false ∧ r = 0 ∨
      knatisWellFormed s p pl = true ∧ (crc32Bytes (List.take (20 + beAt pl 6 2) pl) ≠ beAt pl (20 + beAt pl 6 2) 4 ∧ r = 1 ∨ crc32Bytes
      (List.take (20 + beAt pl 6 2) pl) = beAt pl (20 + beAt pl 6 2) 4 ∧ (authNeeded s (beAt pl 0 1 % 16) = true ∧ beAt pl 1 1 < 128 ∧ r = 2
      ∨ 128 ≤ beAt pl 1 1 ∧ s.flag (Reg.SEC_SLOT_CFG (s.fld Reg.KSW_KNT_CFG 8 4)) 16 = false ∧ r = 3 ∨ authNeeded s (beAt pl 0 1 % 16) =
      false ∧ beAt pl 1 1 < 128 ∧ beAt pl 3 1 = s.fld Reg.KSW_POS 0 7 ∧ (enumRequest pl = false ∨ s.flag Reg.KSW_POS 31 = true) ∧ r = 5 ∨
      authNeeded s (beAt pl 0 1 % 16) = false ∧ beAt pl 1 1 < 128 ∧ (beAt pl 3 1 ≠ s.fld Reg.KSW_POS 0 7 ∨ enumRequest pl = true ∧ s.flag
      Reg.KSW_POS 31 = false) ∧ seqInWindow s pl = false ∧ r = 6))))
    ∧ (∃ (p : Nat) (b : List Byte) (pl : List Byte) (s : State), KnatisArrives p b pl s ∧ KnatisPasses p pl s ∧ beAt pl 0 1 % 16 ≠ 3)
    ∧ (∃ (p : Nat) (b : List Byte) (pl : List Byte) (s : State), KnatisArrives p b pl s ∧ KnatisPasses p pl s ∧ addressed s pl = false)
    ∧ (∃ (p : Nat) (b : List Byte) (pl : List Byte) (s : State), KnatisArrives p b pl s ∧ KnatisPasses p pl s ∧ enumRequest pl = true ∧ 127 <
      beAt pl 20 1)
    ∧ (∃ (p : Nat) (b : List Byte) (pl : List Byte) (s : State), KnatisArrives p b pl s ∧ KnatisPasses p pl s ∧ enumRequest pl = true ∧ beAt
      pl 20 1 ≤ 127 ∧ (s.flag Reg.KSW_POS 31 = false ∨ beAt pl 21 1 % 2 = 1))
    ∧ (∃ (p : Nat) (b : List Byte) (pl : List Byte) (s : State), KnatisArrives p b pl s ∧ KnatisPasses p pl s ∧ enumRequest pl = true ∧ beAt
      pl 20 1 ≤ 127 ∧ s.flag Reg.KSW_POS 31 = true ∧ beAt pl 21 1 % 2 = 0)
    ∧ (∃ (p : Nat) (b : List Byte) (pl : List Byte) (s : State) (c : Nat), KnatisArrives p b pl s ∧ KnatisPasses p pl s ∧ enumRequest pl =
      true ∧ beAt pl 20 1 ≤ 127 ∧ PlainSend c s ∧ c < 8 ∧ portUp s 0 = true ∧ authNeeded s 1 = false ∧ (s.flag Reg.KSW_POS 31 = false ∨ beAt
      pl 21 1 % 2 = 1))
    ∧ (∃ (p : Nat) (b : List Byte) (pl : List Byte) (s : State), KnatisArrives p b pl s ∧ KnatisPasses p pl s ∧ beAt pl 0 1 % 16 = 2 ∧
      addressed s pl = true ∧ s.flag Reg.KSW_POS 31 = true ∧ s.flag Reg.SCH_CFG 0 = true)
    ∧ (∃ (p : Nat) (b : List Byte) (pl : List Byte) (s : State), KnatisArrives p b pl s ∧ KnatisPasses p pl s ∧ beAt pl 0 1 % 16 = 2 ∧
      addressed s pl = true ∧ (s.flag Reg.KSW_POS 31 = false ∨ s.flag Reg.SCH_CFG 0 = false))
    ∧ (∃ (p : Nat) (b : List Byte) (pl : List Byte) (s : State), KnatisArrives p b pl s ∧ KnatisPasses p pl s ∧ beAt pl 0 1 % 16 = 4 ∧
      addressed s pl = true)
    ∧ (∃ (p : Nat) (b : List Byte) (pl : List Byte) (s : State), KnatisArrives p b pl s ∧ KnatisPasses p pl s ∧ beAt pl 0 1 % 16 = 5 ∧
      addressed s pl = true ∧ s.rd Reg.KSW_LRX_LEN = 0) :=
  ⟨⟨0,
    ([0, 0, 0, 0, 74, 199, 0, 0, 0, 0, 0, 1, 136, 181, 17, 80, 0, 69, 87, 210, 0, 4, 9, 0, 0, 0, 0, 0, 0, 0, 5, 117, 88, 176, 102, 1, 0, 0, 19, 54, 185, 46] ++ List.replicate 18 0),
    ([17, 80, 0, 69, 87, 210, 0, 4, 9, 0, 0, 0, 0, 0, 0, 0, 5, 117, 88, 176, 102, 1, 0, 0, 19, 54, 185, 46] ++ List.replicate 18 0),
    (reg [(0x400F8008, 1), (0x400F9008, 1)]), 0, by unfold KnatisArrives; decide +kernel⟩,
  ⟨0,
    ([0, 0, 0, 1, 117, 50, 0, 0, 0, 0, 0, 1, 136, 181, 21, 0, 0, 33, 95, 246, 0, 0, 12, 0, 0, 0, 0, 0, 0, 0, 170, 98, 129, 57, 80, 28, 194, 25] ++ List.replicate 22 0),
    ([21, 0, 0, 33, 95, 246, 0, 0, 12, 0, 0, 0, 0, 0, 0, 0, 170, 98, 129, 57, 80, 28, 194, 25] ++ List.replicate 22 0),
    (reg [(0x400F8008, 1), (0x400F9008, 1)]), by unfold KnatisArrives KnatisPasses; decide +kernel⟩,
  ⟨0,
    ([3, 75, 78, 84, 0, 1, 0, 0, 0, 0, 0, 3, 136, 181, 20, 16, 0, 43, 6, 138, 0, 4, 0, 0, 0, 0, 0, 0, 0, 0, 58, 198, 205, 8, 16, 0, 0, 0, 27, 10, 142, 77] ++ List.replicate 18 0),
    ([20, 16, 0, 43, 6, 138, 0, 4, 0, 0, 0, 0, 0, 0, 0, 0, 58, 198, 205, 8, 16, 0, 0, 0, 27, 10, 142, 77] ++ List.replicate 18 0),
    (reg [(0x400F8008, 1), (0x400F9008, 1)]), by unfold KnatisArrives KnatisPasses; decide +kernel⟩,
  ⟨0,
    ([0, 0, 0, 0, 84, 13, 0, 0, 0, 0, 0, 3, 136, 181, 17, 0, 0, 8, 204, 31, 0, 4, 4, 0, 0, 0, 0, 0, 0, 0, 15, 15, 2, 155, 231, 1, 0, 0, 140, 186, 4, 232] ++ List.replicate 18 0),
    ([17, 0, 0, 8, 204, 31, 0, 4, 4, 0, 0, 0, 0, 0, 0, 0, 15, 15, 2, 155, 231, 1, 0, 0, 140, 186, 4, 232] ++ List.replicate 18 0),
    (reg [(0x400F8008, 1), (0x400F8608, 0x80000000), (0x400F9008, 1)]), by unfold KnatisArrives KnatisPasses; decide +kernel⟩,
  ⟨0,
    ([3, 75, 78, 84, 0, 1, 0, 0, 0, 0, 0, 2, 136, 181, 17, 0, 0, 0, 94, 39, 0, 4, 5, 0, 0, 0, 0, 0, 0, 0, 184, 247, 197, 8, 96, 1, 0, 0, 27, 217, 7, 95] ++ List.replicate 18 0),
    ([17, 0, 0, 0, 94, 39, 0, 4, 5, 0, 0, 0, 0, 0, 0, 0, 184, 247, 197, 8, 96, 1, 0, 0, 27, 217, 7, 95] ++ List.replicate 18 0),
    (reg [(0x400F8008, 1), (0x400F8608, 0x80000000), (0x400F9008, 1)]), by unfold KnatisArrives KnatisPasses; decide +kernel⟩,
  ⟨0,
    ([0, 0, 0, 0, 23, 92, 0, 0, 0, 0, 0, 1, 136, 181, 17, 0, 0, 32, 237, 50, 0, 4, 1, 0, 0, 0, 0, 0, 0, 0, 227, 144, 202, 28, 89, 0, 0, 0, 229, 0, 237, 8] ++ List.replicate 18 0),
    ([17, 0, 0, 32, 237, 50, 0, 4, 1, 0, 0, 0, 0, 0, 0, 0, 227, 144, 202, 28, 89, 0, 0, 0, 229, 0, 237, 8] ++ List.replicate 18 0),
    (reg [(0x400F8008, 1), (0x400F8600, 0x80000000), (0x400F8608, 0x80000000), (0x400F9008, 1)]),
    by unfold KnatisArrives KnatisPasses; decide +kernel⟩,
  ⟨0,
    ([3, 75, 78, 84, 0, 1, 0, 0, 0, 0, 0, 3, 136, 181, 17, 0, 0, 13, 94, 126, 0, 4, 3, 0, 0, 0, 0, 0, 0, 0, 51, 97, 46, 255, 2, 1, 0, 0, 245, 97, 40, 25] ++ List.replicate 18 0),
    ([17, 0, 0, 13, 94, 126, 0, 4, 3, 0, 0, 0, 0, 0, 0, 0, 51, 97, 46, 255, 2, 1, 0, 0, 245, 97, 40, 25] ++ List.replicate 18 0),
    (reg [(0x400F8008, 1), (0x400F8110, 0x4E5400FF), (0x400F8114, 0x80F0034B), (0x400F8608, 0x80000000), (0x400F9008, 1), (0x400F9040, 256), (0x400F904C, 1)]),
    7, by unfold KnatisArrives KnatisPasses PlainSend; decide +kernel⟩,
  ⟨0,
    ([3, 75, 78, 84, 0, 1, 0, 0, 0, 0, 0, 2, 136, 181, 18, 48, 0, 2, 161, 153, 0, 18, 7, 0, 0, 0, 0, 0, 0, 0, 27, 214, 91, 213, 1, 0, 5, 93, 72, 83, 214, 155, 0, 8, 56, 192, 152, 12, 99, 90, 113, 186, 76, 254, 69, 46, 0, 0, 0, 0]),
    ([18, 48, 0, 2, 161, 153, 0, 18, 7, 0, 0, 0, 0, 0, 0, 0, 27, 214, 91, 213, 1, 0, 5, 93, 72, 83, 214, 155, 0, 8, 56, 192, 152, 12, 99, 90, 113, 186, 76, 254, 69, 46, 0, 0, 0, 0]),
    (reg [(0x400F8008, 1), (0x400F8600, 0x80000000), (0x400F9008, 1)]), by unfold KnatisArrives KnatisPasses; decide +kernel⟩,
  ⟨0,
    ([3, 75, 78, 84, 0, 1, 0, 0, 0, 0, 0, 2, 136, 181, 18, 48, 0, 2, 161, 153, 0, 18, 7, 0, 0, 0, 0, 0, 0, 0, 27, 214, 91, 213, 1, 0, 5, 93, 72, 83, 214, 155, 0, 8, 56, 192, 152, 12, 99, 90, 113, 186, 76, 254, 69, 46, 0, 0, 0, 0]),
    ([18, 48, 0, 2, 161, 153, 0, 18, 7, 0, 0, 0, 0, 0, 0, 0, 27, 214, 91, 213, 1, 0, 5, 93, 72, 83, 214, 155, 0, 8, 56, 192, 152, 12, 99, 90, 113, 186, 76, 254, 69, 46, 0, 0, 0, 0]),
    (reg [(0x400F8008, 1), (0x400F9008, 1)]), by unfold KnatisArrives KnatisPasses; decide +kernel⟩,
  ⟨0,
    ([3, 75, 78, 84, 0, 1, 0, 0, 0, 0, 0, 3, 136, 181, 20, 48, 0, 43, 6, 138, 0, 4, 0, 0, 0, 0, 0, 0, 0, 0, 58, 198, 205, 8, 16, 0, 0, 0, 25, 239, 130, 213] ++ List.replicate 18 0),
    ([20, 48, 0, 43, 6, 138, 0, 4, 0, 0, 0, 0, 0, 0, 0, 0, 58, 198, 205, 8, 16, 0, 0, 0, 25, 239, 130, 213] ++ List.replicate 18 0),
    (reg [(0x400F8008, 1), (0x400F9008, 1)]), by unfold KnatisArrives KnatisPasses; decide +kernel⟩,
  ⟨0,
    ([3, 75, 78, 84, 0, 1, 0, 0, 0, 0, 0, 1, 136, 181, 21, 48, 7, 71, 69, 176, 0, 0, 3, 0, 0, 0, 0, 0, 0, 0, 57, 55, 153, 179, 146, 208, 129, 95] ++ List.replicate 22 0),
    ([21, 48, 7, 71, 69, 176, 0, 0, 3, 0, 0, 0, 0, 0, 0, 0, 57, 55, 153, 179, 146, 208, 129, 95] ++ List.replicate 22 0),
    (reg [(0x400F8008, 1), (0x400F9008, 1)]), by unfold KnatisArrives KnatisPasses; decide +kernel⟩⟩

/-- Hypotheses of KnatisSwitch. -/
theorem witness_KnatisSwitch :
    (∃ (p : Nat) (s : State), frozen s 248 = false ∧ frozen s (249 + p) = false ∧ p < portsOf s.variant ∧ (portsRun s = false ∨ macOn s p =
      false ∧ macStopping s p = false))
    ∧ (∃ (p : Nat) (b : List Byte) (s : State), frozen s 248 = false ∧ frozen s (249 + p) = false ∧ p < portsOf s.variant ∧ portsRun s = true
      ∧ (macOn s p = true ∨ macStopping s p = true) ∧ 1518 < b.length)
    ∧ (∃ (p : Nat) (b : List Byte) (s : State), frozen s 248 = false ∧ frozen s (249 + p) = false ∧ p < portsOf s.variant ∧ portsRun s = true
      ∧ (macOn s p = true ∨ macStopping s p = true) ∧ (b.length < 60 ∨ kswOn s = false ∧ b.length ≤ 1518))
    ∧ (∃ (p : Nat) (b : List Byte) (s : State), frozen s 248 = false ∧ frozen s (249 + p) = false ∧ p < portsOf s.variant ∧ portsRun s = true
      ∧ (macOn s p = true ∨ macStopping s p = true) ∧ 60 ≤ b.length ∧ b.length ≤ 1518 ∧ (kswOn s = false ∨ (parseFrame b).sa = ownMac s))
    ∧ (∃ (p : Nat) (b : List Byte) (s : State), frozen s 248 = false ∧ frozen s (249 + p) = false ∧ p < portsOf s.variant ∧ portsRun s = true
      ∧ (macOn s p = true ∨ macStopping s p = true) ∧ 60 ≤ b.length ∧ b.length ≤ 1518 ∧ kswOn s = true ∧ (parseFrame b).sa ≠ ownMac s ∧
      ringEnd s p = true ∧ streamOf s b = none ∧ (List.filter (fun x ↦ x.fst != (parseFrame b).sa) s.ksw.dyn).length < 256)
    ∧ (∃ (p : Nat) (f : OutFrame) (s : State), nextFrame s p = some f)
    ∧ (∃ (p : Nat) (s : State), frozen s 248 = false ∧ frozen s (249 + p) = false ∧ (portUp s p = false ∨ kswOn s = false ∨ wireOf s p ≠ none
      ∨ s.now < tabGet s.ksw.idleFrom p 0 ∨ nextFrame s p = none))
    ∧ (∃ (p : Nat) (x : EgressRead) (s : State) (f : OutFrame), frozen s 248 = false ∧ frozen s (249 + p) = false ∧ portUp s p = true ∧ kswOn
      s = true ∧ wireOf s p = none ∧ tabGet s.ksw.idleFrom p 0 ≤ s.now ∧ nextFrame s p = some f ∧ x.starved = true ∧ f.slot ≠ none)
    ∧ (∃ (p : Nat) (s : State) (f : OutFrame), frozen s 248 = false ∧ frozen s (249 + p) = false ∧ portUp s p = true ∧ kswOn s = true ∧ wireOf
      s p = none ∧ tabGet s.ksw.idleFrom p 0 ≤ s.now ∧ nextFrame s p = some f ∧ f.slot = none ∧ f.ingress = none ∧ f.strip = false)
    ∧ (∃ (p : Nat) (s : State) (w : Wire), frozen s 248 = false ∧ frozen s (249 + p) = false ∧ busUp s = true ∧ wireOf s p = some w ∧
      w.frame.ltx = none ∧ w.sfd + 16 * (w.bytes.length + 4) ≤ s.now)
    ∧ (∃ (p : Nat) (s : State) (w : Wire), frozen s 248 = false ∧ frozen s (249 + p) = false ∧ busUp s = true ∧ wireOf s p = some w ∧
      w.frame.ltx = none ∧ s.now < w.sfd + 16 * (w.bytes.length + 4))
    ∧ (∃ (p : Nat) (s : State), frozen s 248 = false ∧ frozen s (249 + p) = false ∧ gclRuns s p = false)
    ∧ (∃ (p : Nat) (s : State) (e : Nat), frozen s 248 = false ∧ frozen s (249 + p) = false ∧ p < portsOf s.variant ∧ busUp s = true ∧
      List.find? (fun x ↦ x.fst == p) s.ksw.gate = some (p, gclCyc s p ↑(implementTime s), e))
    ∧ (∃ (p : Nat) (s : State) (x : Nat × Int × Nat), frozen s 248 = false ∧ frozen s (249 + p) = false ∧ p < portsOf s.variant ∧ busUp s =
      true ∧ s.flag (Reg.KSW_GCL_CTRL p) 30 = true ∧ List.find? (fun y ↦ y.fst == p) s.ksw.gate = some x ∧ x.snd.fst ≠ gclCyc s p
      ↑(implementTime s))
    ∧ (∃ (p : Nat) (s : State), frozen s 248 = false ∧ frozen s (249 + p) = false ∧ busUp s = false)
    ∧ (∃ (s : State), frozen s 0xF8 = false ∧ busUp s = true)
    ∧ (∃ (s : State) (k : Nat) (h : StreamHist), frozen s 0xF8 = false ∧ busUp s = true ∧ histOf s k = some h ∧ h.last + s.fld
      (Reg.KSW_STR_CFG k) 0 12 * 200000 ≤ s.now)
    ∧ (∃ (s : State) (k : Nat) (h : StreamHist), frozen s 0xF8 = false ∧ busUp s = true ∧ histOf s k = some h ∧ s.now < h.last + s.fld
      (Reg.KSW_STR_CFG k) 0 12 * 200000)
    ∧ (∃ (s : State), frozen s 0xF8 = false ∧ busUp s = true ∧ kswOn s = true ∧ portsRun s = true ∧ s.flag Reg.KSW_BEAT_CFG 31 = true ∧ s.now
      < s.ksw.beatFrom + s.fld Reg.KSW_BEAT_CFG 0 16 * 200)
    ∧ (∃ (s : State) (c : Nat), frozen s 0xF8 = false ∧ busUp s = true ∧ kswOn s = true ∧ portsRun s = true ∧ s.flag Reg.KSW_BEAT_CFG 31 =
      true ∧ s.ksw.beatFrom + s.fld Reg.KSW_BEAT_CFG 0 16 * 200 ≤ s.now ∧ c < 8 ∧ PlainSend c s ∧ authNeeded s 4 = false ∧ coxState s < 8)
    ∧ (∃ (m : Master) (s : State), Reaches m Reg.KSW_KNT_CMD s)
    ∧ (∃ (m : Master) (s : State), Reaches m Reg.KSW_POS s ∧ cfgLocked s 0xF8 = false ∧ holdsOpening s 0xF8 m = true)
    ∧ (∃ (m : Master) (s : State), Reaches m Reg.KSW_POS s ∧ cfgLocked s 0xF8 = false ∧ holdsOpening s 0xF8 m = false)
    ∧ (∃ (m : Master) (s : State), Reaches m Reg.KSW_LTX_KICK s ∧ (kswOn s = false ∨ s.rd Reg.KSW_LTX_LEN = 0 ∨ frozen s 248 = true))
    ∧ (∃ (m : Master) (s : State) (buf : Word) (ctl : Word), Reaches m Reg.KSW_LTX_KICK s ∧ frozen s 248 = false ∧ kswOn s = true ∧ portsRun s
      = true ∧ s.rd Reg.KSW_LTX_LEN = 1 ∧ s.ksw.ltx = 0 ∧ ltxHeld s 0 = false ∧ isSram s.variant (descAddr s 1 0 + 15) = true ∧ GoodWord
      (descAddr s 1 0) s ∧ GoodWord (descAddr s 1 0 + 4) s ∧ s.busWord (descAddr s 1 0) = buf ∧ s.busWord (descAddr s 1 0 + 4) = ctl ∧ bit
      ctl 31 = false)
    ∧ (∃ (m : Master) (s : State) (buf : Word) (ctl : Word), Reaches m Reg.KSW_LTX_KICK s ∧ frozen s 248 = false ∧ kswOn s = true ∧ portsRun s
      = true ∧ s.rd Reg.KSW_LTX_LEN = 1 ∧ s.ksw.ltx = 0 ∧ ltxHeld s 0 = false ∧ isSram s.variant (descAddr s 1 0 + 15) = true ∧ GoodWord
      (descAddr s 1 0) s ∧ GoodWord (descAddr s 1 0 + 4) s ∧ s.busWord (descAddr s 1 0) = buf ∧ s.busWord (descAddr s 1 0 + 4) = ctl ∧ bit
      ctl 31 = true ∧ (bits ctl 0 11 < 14 ∨ 1518 < bits ctl 0 11))
    ∧ (∃ (m : Master) (s : State) (buf : Word) (ctl : Word) (c : Nat) (k : Nat), Reaches m Reg.KSW_LTX_KICK s ∧ frozen s 248 = false ∧ kswOn s
      = true ∧ portsRun s = true ∧ s.rd Reg.KSW_LTX_LEN = 1 ∧ s.ksw.ltx = 0 ∧ ltxHeld s 0 = false ∧ isSram s.variant (descAddr s 1 0 + 15) =
      true ∧ GoodWord (descAddr s 1 0) s ∧ GoodWord (descAddr s 1 0 + 4) s ∧ s.busWord (descAddr s 1 0) = buf ∧ s.busWord (descAddr s 1 0 +
      4) = ctl ∧ bit ctl 31 = true ∧ bit ctl 22 = false ∧ 60 ≤ bits ctl 0 11 ∧ bits ctl 0 11 ≤ 1518 ∧ (∀ (j : Nat), j < (bits ctl 0 11 + 3)
      / 4 → isSram s.variant (BitVec.toNat buf / 4 * 4 + 4 * j) = true ∧ GoodWord (BitVec.toNat buf / 4 * 4 + 4 * j) s) ∧ bits ctl 24 2 = 1
      ∧ portUp s 0 = true ∧ (∀ (j : Nat), j < 32 → s.flag (Reg.KSW_STR_CFG j) 31 = false) ∧ s.flag Reg.KSW_CFG 4 = false ∧ s.flag
      Reg.KSW_CFG 16 = false ∧ freeBuf s = some k ∧ c < 8 ∧ staticClass s (beAt (List.flatMap (fun j ↦ wordBytes (s.busWord (BitVec.toNat
      buf / 4 * 4 + 4 * j))) (List.range 2)) 0 6) = some c)
    ∧ (∃ (p : Nat) (s : State) (up : Bool), frozen s (0xF9 + p) = false ∧ p < portsOf s.variant ∧ portsRun s = true ∧ macOn s p = true ∧
      s.flag (Reg.MAC_CFG p) 8 = true ∧ s.flag (Reg.MAC_LINK_STAT p) 0 ≠ up)
    ∧ (∃ (p : Nat) (s : State) (up : Bool), frozen s (0xF9 + p) = false ∧ p < portsOf s.variant ∧ portsRun s = true ∧ (macOn s p = false ∨
      s.flag (Reg.MAC_CFG p) 8 = false ∨ s.flag (Reg.MAC_LINK_STAT p) 0 = up))
    ∧ (∃ (p : Nat) (s : State) (v : Word), frozen s (0xF9 + p) = false ∧ p < portsOf s.variant ∧ portsRun s = true ∧ s.ksw.mdio.find? (fun x
      => x.1 == p) = some (p, v))
    ∧ (∃ (p : Nat) (s : State), frozen s (0xF9 + p) = false ∧ p < portsOf s.variant ∧ portsRun s = true ∧ s.ksw.mdio.find? (fun x => x.1 == p)
      = none)
    ∧ (∃ (m : Master) (p : Nat) (s : State), p < 2 ∧ Reaches m (Reg.MAC_MDIO_CMD p) s ∧ s.flag (Reg.MAC_MDIO_CMD p) 31 = true)
    ∧ (∃ (m : Master) (p : Nat) (s : State), p < 2 ∧ Reaches m (Reg.MAC_MDIO_CMD p) s ∧ s.flag (Reg.MAC_MDIO_CMD p) 31 = false) :=
  ⟨⟨0, State.reset, by decide +kernel⟩,
  ⟨0, (List.replicate 1519 0), (reg [(0x400F9008, 1)]), by decide +kernel⟩,
  ⟨0, (List.replicate 70 5 ++ List.replicate 1448 0), (reg [(0x400F9008, 1)]), by decide +kernel⟩,
  ⟨0, (List.replicate 70 5 ++ List.replicate 1448 0), (reg [(0x400F9008, 1)]), by decide +kernel⟩,
  ⟨1, ([5, 5, 5, 5, 5, 5, 5, 5, 5, 5, 5, 1] ++ List.replicate 58 5 ++ List.replicate 1448 0),
    (reg [(0x400F8008, 1), (0x400F8040, 0x10000), (0x400FA008, 1)]), by decide +kernel⟩,
  ⟨1, {}, { reg [(0x400F8008, 1), (0x400FA008, 1), (0x400FA040, 256), (0x400FA04C, 1)] with ksw := { queues := [(8, [{}])] } },
    by decide +kernel⟩,
  ⟨0, State.reset, by decide +kernel⟩,
  ⟨1, ⟨.none, true⟩,
    { reg [(0x400F8008, 1), (0x400FA008, 1), (0x400FA040, 256), (0x400FA04C, 1)] with ksw := { queues := [(8, [{ slot := some 0 }])] } },
    { slot := some 0 }, by decide +kernel⟩,
  ⟨1, { reg [(0x400F8008, 1), (0x400FA008, 1), (0x400FA040, 256), (0x400FA04C, 1)] with ksw := { queues := [(8, [{}])] } }, {},
    by decide +kernel⟩,
  ⟨0, { State.reset with now := 0x493e0, ksw := { wires := [(0, { bytes := [5], sfd := 0, bad := true, frame := {} })] } },
    { bytes := [5], sfd := 0, bad := true, frame := {} }, by decide +kernel⟩,
  ⟨0, { State.reset with ksw := { wires := [(0, { bytes := [5], sfd := 0, bad := true, frame := {} })] } },
    { bytes := [5], sfd := 0, bad := true, frame := {} }, by decide +kernel⟩,
  ⟨0, State.reset, by decide +kernel⟩,
  ⟨0, { reg [(0x400E0008, 1), (0x400F80C0, 0x80000000)] with ksw := { gate := [(0, (0, 5))] } }, 5, by decide +kernel⟩,
  ⟨1, { reg [(0x400E0008, 1), (0x400F80D0, 0xC0000000)] with ksw := { gate := [(1, (3, 0))] } }, (1, (3, 0)), by decide +kernel⟩,
  ⟨0, { State.reset with power := { phase := .held } }, by decide +kernel⟩,
  ⟨State.reset, by decide +kernel⟩,
  ⟨{ State.reset with ksw := { hist := [(1, { newest := 8, seen := 2, last := 0 })] } }, 1, { newest := 8, seen := 2, last := 0 },
    by decide +kernel⟩,
  ⟨{ reg [(0x400F8348, 0)] with ksw := { hist := [(4, { newest := 1, seen := 0, last := 0x91f08d20 })] } }, 4,
    { newest := 1, seen := 0, last := 0x91f08d20 }, by decide +kernel⟩,
  ⟨(reg [(0x400F8008, 1), (0x400F8610, 0x80001000)]), by decide +kernel⟩,
  ⟨{ State.reset with now := 0xf4240, regs := [(0x40000058, 3), (0x40002018, 2), (0x40024018, 0x80000), (0x400f8008, 1), (0x400f8110, 0x4e5400ff), (0x400f8114, 0x80c0034b), (0x400f8610, 0x80000000)] },
    4, by unfold PlainSend; decide +kernel⟩,
  ⟨.dma, State.reset, by unfold Reaches; decide +kernel⟩,
  ⟨.dma, { State.reset with pages := { keys := [(248, (.opened 1 4))] } }, by unfold Reaches; decide +kernel⟩,
  ⟨.dma, State.reset, by unfold Reaches; decide +kernel⟩,
  ⟨.dma, State.reset, by unfold Reaches; decide +kernel⟩,
  ⟨.dma, { reg [(0x400F8008, 1), (0x400F806C, 0x1000), (0x400F8070, 1)] with mem := [(0x1000, 15)] }, 15, 0,
    by unfold Reaches GoodWord; decide +kernel⟩,
  ⟨.spe0,
    { reg [(0x400F8008, 1), (0x400F806C, 0x1000), (0x400F8070, 1)] with mem := [(0x1001, 2), (0x1004, 240), (0x1005, 13), (0x1007, 128)] },
    512, 0x80000df0, by unfold Reaches GoodWord; decide +kernel⟩,
  ⟨.dma,
    { reg [(0x400F8008, 1), (0x400F8054, 8), (0x400F806C, 0x1000), (0x400F8070, 1), (0x400F8110, 0x4E5400FF), (0x400F8114, 0x80A0034B), (0x400F9008, 1), (0x400F9040, 256), (0x400F904C, 1)] with mem := [(0x1001, 32), (0x1004, 60), (0x1007, 129), (0x2000, 3), (0x2001, 75), (0x2002, 78), (0x2003, 84), (0x2005, 255)] },
    0x2000, 0x8100003c, 2, 0, by unfold Reaches GoodWord; decide +kernel⟩,
  ⟨0, (reg [(0x400F9008, 1), (0x400F9040, 256)]), true, by decide +kernel⟩,
  ⟨0, State.reset, true, by decide +kernel⟩,
  ⟨0, { State.reset with ksw := { mdio := [(0, 0)] } }, 0, by decide +kernel⟩,
  ⟨0, State.reset, by decide +kernel⟩,
  ⟨.dma, 1, (reg [(0x400FA050, 0x80000000)]), by unfold Reaches; decide +kernel⟩,
  ⟨.dma, 1, State.reset, by unfold Reaches; decide +kernel⟩⟩

/-- Hypotheses of LadleCaptures. -/
theorem witness_LadleCaptures :
    (∃ (m : Master) (c : Nat) (s : State), c < 4 ∧ Reaches m (Reg.LDL_CMD c) s ∧ ldlOn (s.attach m) = true ∧ (cap s c).st = 1)
    ∧ (∃ (m : Master) (c : Nat) (s : State), c < 4 ∧ Reaches m (Reg.LDL_CMD c) s ∧ (ldlOn (s.attach m) = false ∨ (cap s c).st ≠ 1))
    ∧ (∃ (m : Master) (c : Nat) (s : State), c < 4 ∧ Reaches m (Reg.LDL_CMD c) s ∧ ldlOn (s.attach m) = true ∧ (cap s c).st ≠ 0)
    ∧ (∃ (m : Master) (c : Nat) (s : State), c < 4 ∧ Reaches m (Reg.LDL_CMD c) s ∧ ldlOn (s.attach m) = true ∧ (cap s c).st = 3 ∧ trigSource s
      c = 0 ∧ streams s c = false ∧ s.flag (Reg.LDL_CFG c) 25 = false)
    ∧ (∃ (m : Master) (c : Nat) (s : State), c < 4 ∧ Reaches m (Reg.LDL_CMD c) s ∧ ldlOn (s.attach m) = true ∧ trigSource s c = 0 ∧ (cap s
      c).st ≠ 3 ∧ ∀ (r : LdlRec), (cap s c).record = some r → r.firedAt ≠ s.now)
    ∧ (∃ (m : Master) (c : Nat) (s : State), c < 4 ∧ Reaches m (Reg.LDL_CMD c) s ∧ (trigSource s c ≠ 0 ∨ ldlOn (s.attach m) = false))
    ∧ (∃ (m : Master) (c : Nat) (s : State), c < 4 ∧ Reaches m (Reg.LDL_CFG c) s ∧ cfgLocked s 0xD8 = false ∧ s.flag (Reg.LDL_CFG c) 31 = true
      ∧ (cap s c).st ≠ 4)
    ∧ (∃ (c : Nat) (s : State), c < 4 ∧ ldlOn s = true ∧ (cap s c).st ≠ 2)
    ∧ (∃ (c : Nat) (s : State) (n : Nat) (b : Nat), c < 4 ∧ ldlOn s = true ∧ n = windowNs s c ∧ 0 < n ∧ b = ((cap s c).armFrom + n - 1) / n *
      n ∧ (cap s c).st = 2 ∧ byPeriod s c = true ∧ s.flag (Reg.TSU + 0x008) 0 = true ∧ implementTime s < b)
    ∧ (∃ (c : Nat) (s : State) (n : Nat) (b : Nat), c < 4 ∧ ldlOn s = true ∧ n = windowNs s c ∧ 0 < n ∧ b = ((cap s c).armFrom + n - 1) / n *
      n ∧ (cap s c).st = 2 ∧ byPeriod s c = true ∧ s.flag (Reg.TSU + 0x008) 0 = true ∧ b ≤ implementTime s ∧ b < 2 ^ 64 ∧ (cap s c).pending
      = none)
    ∧ (∃ (c : Nat) (s : State) (n : Nat) (b : Nat) (it : Nat), c < 4 ∧ ldlOn s = true ∧ n = windowNs s c ∧ 0 < n ∧ b = ((cap s c).armFrom + n
      - 1) / n * n ∧ (cap s c).st = 2 ∧ byPeriod s c = true ∧ s.flag (Reg.TSU + 0x008) 0 = true ∧ b ≤ implementTime s ∧ b < 2 ^ 64 ∧ (cap s
      c).pending = some it ∧ it ≤ implementTime s ∧ streams s c = false)
    ∧ (∃ (c : Nat) (s : State), c < 4 ∧ ldlOn s = true ∧ (cap s c).st = 2 ∧ byPeriod s c = false ∧ List.find? (fun d ↦ decide ((cap s
      c).armRoot ≤ d)) (cap s c).due ≠ some (rootNow s))
    ∧ (∃ (c : Nat) (s : State), c < 4 ∧ ldlOn s = true ∧ (cap s c).st = 2 ∧ byPeriod s c = false ∧ List.find? (fun d ↦ decide ((cap s
      c).armRoot ≤ d)) (cap s c).due = some (rootNow s) ∧ (cap s c).pending = none ∧ streams s c = false)
    ∧ (∃ (c : Nat) (k : Nat) (v : Int) (s : State), c < 4 ∧ ldlOn s = true ∧ (cap s c).st = 3 ∧ byPeriod s c = false ∧ trigSource s c ≠ 1 ∧ (∀
      (l : Int), (cap s c).last = some l → l < rootNow s) ∧ capProbes s c = [k] ∧ v = signalValue s (s.fld (Reg.LDL_PRB k) 0 9) 0 ∧ (cap s
      c).win = none ∧ (cap s c).samples = 0 ∧ (cap s c).acc = [] ∧ (cap s c).record = none ∧ 1 < capW s c ∧ ¬rootNow s ∈ (cap s c).due)
    ∧ (∃ (c : Nat) (k : Nat) (v : Int) (s : State), c < 4 ∧ ldlOn s = true ∧ (cap s c).st = 3 ∧ byPeriod s c = false ∧ trigSource s c ≠ 1 ∧ (∀
      (l : Int), (cap s c).last = some l → l < rootNow s) ∧ capProbes s c = [k] ∧ v = signalValue s (s.fld (Reg.LDL_PRB k) 0 9) 0 ∧ (cap s
      c).win = none ∧ (cap s c).samples = 0 ∧ (cap s c).acc = [] ∧ (cap s c).record = none ∧ 1 < capW s c ∧ rootNow s ∈ (cap s c).due)
    ∧ (∃ (c : Nat) (k : Nat) (id : Nat) (a : LdlAcc) (w : LdlWin) (v : Int) (s : State), c < 4 ∧ ldlOn s = true ∧ ((cap s c).st = 3 ∨ (cap s
      c).st = 4) ∧ byPeriod s c = false ∧ (∀ (l : Int), (cap s c).last = some l → l < rootNow s) ∧ rootNow s ∈ (cap s c).due ∧ trigSource s
      c ≠ 1 ∧ capProbes s c = [k] ∧ id = s.fld (Reg.LDL_PRB k) 0 9 ∧ v = signalValue s id 0 ∧ (cap s c).win = some w ∧ (cap s c).acc = [(k,
      a)] ∧ (cap s c).samples + 1 < capW s c)
    ∧ (∃ (c : Nat) (k : Nat) (id : Nat) (a : LdlAcc) (w : LdlWin) (v : Int) (s : State), c < 4 ∧ ldlOn s = true ∧ ((cap s c).st = 3 ∨ (cap s
      c).st = 4) ∧ byPeriod s c = false ∧ (∀ (l : Int), (cap s c).last = some l → l < rootNow s) ∧ rootNow s ∈ (cap s c).due ∧ trigSource s
      c ≠ 1 ∧ capProbes s c = [k] ∧ id = s.fld (Reg.LDL_PRB k) 0 9 ∧ v = signalValue s id 0 ∧ (cap s c).win = some w ∧ (cap s c).acc = [(k,
      a)] ∧ (cap s c).samples + 1 = capW s c ∧ (cap s c).coming = [] ∧ (cap s c).fifo.length + 4 ≤ 64)
    ∧ (∃ (c : Nat) (s : State) (e : Nat) (at_ : Nat), c < 4 ∧ ldlOn s = true ∧ e = s.fld (Reg.LDL_TRIG c) 8 6 ∧ trigSource s c = 2 ∧ (cap s
      c).st = 3 ∧ streams s c = false ∧ s.flag (Reg.LDL_CFG c) 25 = false ∧ (sourceOn s e = true ∧ ¬e ∈ s.pages.ldlSeen ∧ at_ = s.now ∨
      (sourceOn s e = false ∨ e ∈ s.pages.ldlSeen) ∧ (cap s c).evAt = some at_))
    ∧ (∃ (c : Nat) (s : State), c < 4 ∧ ldlOn s = true ∧ (trigSource s c ≠ 2 ∨ (sourceOn s (s.fld (Reg.LDL_TRIG c) 8 6) = false ∨ s.fld
      (Reg.LDL_TRIG c) 8 6 ∈ s.pages.ldlSeen) ∧ (cap s c).evAt = none))
    ∧ (∃ (c : Nat) (s : State), c < 4 ∧ ldlOn s = true ∧ trigSource s c = 4 ∧ s.rd64 (Reg.LDL_FIRE_AT_LO c) = implementTime s ∧ (cap s
      c).timeSeen ≠ some (implementTime s) ∧ (cap s c).st = 3 ∧ streams s c = false ∧ s.flag (Reg.LDL_CFG c) 25 = false ∧ s.sfld
      (Reg.LDL_TRIG_SKEW c) 0 16 = 0)
    ∧ (∃ (c : Nat) (s : State), c < 4 ∧ ldlOn s = true ∧ (trigSource s c ≠ 4 ∨ implementTime s < s.rd64 (Reg.LDL_FIRE_AT_LO c)))
    ∧ (∃ (c : Nat) (s : State) (it : Nat), c < 4 ∧ ldlOn s = true ∧ (cap s c).netFire = some it ∧ (cap s c).st = 3 ∧ it ≤ implementTime s)
    ∧ (∃ (c : Nat) (s : State) (it : Nat), c < 4 ∧ ldlOn s = true ∧ (cap s c).netFire = some it ∧ (cap s c).st = 3 ∧ implementTime s < it)
    ∧ (∃ (c : Nat) (s : State) (it : Nat) (r : List Nat), c < 4 ∧ ldlOn s = true ∧ List.filter (fun t ↦ decide (t ≤ implementTime s)) (cap s
      c).netArm = it :: r ∧ (cap s c).st = 1)
    ∧ (∃ (c : Nat) (s : State), c < 4 ∧ ldlOn s = true ∧ ∀ (it : Nat), it ∈ (cap s c).netArm → implementTime s < it)
    ∧ (∃ (c : Nat) (s : State) (w : Word) (r : List Word) (n : Nat) (a : Nat), c < 4 ∧ ldlOn s = true ∧ (cap s c).fifo = w :: r ∧ n =
      ringWords s c ∧ 0 < n ∧ a = (s.rd (Reg.LDL_HIST_BASE c)).toNat + 4 * ((cap s c).written % n) ∧ isSram s.variant a = true ∧ a % 4 = 0 ∧
      s.flag Reg.MEM_INJECT 31 = false ∧ (∀ y ∈ (cap s c).wins, (cap s c).written < y.place + n))
    ∧ (∃ (p : Nat) (c : Nat) (it : Nat) (b : List Byte) (pl : List Byte) (s : State), KnatisArrives p b pl s ∧ KnatisPasses p pl s ∧ addressed
      s pl = true ∧ beAt pl 0 1 % 16 = 3 ∧ c = beAt pl 21 1 ∧ it = beAt pl 24 8 ∧ s.flag Reg.KSW_KNT_CFG 26 = false ∧ s.hasPage 0xD8 = true
      ∧ 4 ≤ c)
    ∧ (∃ (p : Nat) (c : Nat) (it : Nat) (b : List Byte) (pl : List Byte) (s : State), KnatisArrives p b pl s ∧ KnatisPasses p pl s ∧ addressed
      s pl = true ∧ beAt pl 0 1 % 16 = 3 ∧ c = beAt pl 21 1 ∧ it = beAt pl 24 8 ∧ s.flag Reg.KSW_KNT_CFG 26 = false ∧ s.hasPage 0xD8 = true
      ∧ c < 4 ∧ (ldlOn s = false ∨ s.flag (Reg.LDL_CFG c) 24 = false))
    ∧ (∃ (p : Nat) (c : Nat) (it : Nat) (b : List Byte) (pl : List Byte) (s : State), KnatisArrives p b pl s ∧ KnatisPasses p pl s ∧ addressed
      s pl = true ∧ beAt pl 0 1 % 16 = 3 ∧ c = beAt pl 21 1 ∧ it = beAt pl 24 8 ∧ s.flag Reg.KSW_KNT_CFG 26 = false ∧ s.hasPage 0xD8 = true
      ∧ c < 4 ∧ ldlOn s = true ∧ s.flag (Reg.LDL_CFG c) 24 = true ∧ beAt pl 20 1 = 1 ∧ (cap s c).st = 1 ∧ it ≤ implementTime s)
    ∧ (∃ (p : Nat) (c : Nat) (it : Nat) (b : List Byte) (pl : List Byte) (s : State), KnatisArrives p b pl s ∧ KnatisPasses p pl s ∧ addressed
      s pl = true ∧ beAt pl 0 1 % 16 = 3 ∧ c = beAt pl 21 1 ∧ it = beAt pl 24 8 ∧ s.flag Reg.KSW_KNT_CFG 26 = false ∧ s.hasPage 216 = true ∧
      c < 4 ∧ ldlOn s = true ∧ s.flag (Reg.LDL_CFG c) 24 = true ∧ beAt pl 20 1 = 1 ∧ (cap s c).st ≠ 0 ∧ implementTime s < it)
    ∧ (∃ (p : Nat) (c : Nat) (it : Nat) (b : List Byte) (pl : List Byte) (s : State), KnatisArrives p b pl s ∧ KnatisPasses p pl s ∧ addressed
      s pl = true ∧ beAt pl 0 1 % 16 = 3 ∧ c = beAt pl 21 1 ∧ it = beAt pl 24 8 ∧ s.flag Reg.KSW_KNT_CFG 26 = false ∧ s.hasPage 216 = true ∧
      c < 4 ∧ ldlOn s = true ∧ s.flag (Reg.LDL_CFG c) 24 = true ∧ beAt pl 20 1 = 2 ∧ ((cap s c).st = 1 ∨ (cap s c).st = 2))
    ∧ (∃ (p : Nat) (c : Nat) (it : Nat) (b : List Byte) (pl : List Byte) (s : State), KnatisArrives p b pl s ∧ KnatisPasses p pl s ∧ addressed
      s pl = true ∧ beAt pl 0 1 % 16 = 3 ∧ c = beAt pl 21 1 ∧ it = beAt pl 24 8 ∧ s.flag Reg.KSW_KNT_CFG 26 = false ∧ s.hasPage 0xD8 = true
      ∧ c < 4 ∧ ldlOn s = true ∧ s.flag (Reg.LDL_CFG c) 24 = true ∧ beAt pl 20 1 = 2 ∧ (cap s c).st = 3 ∧ streams s c = false ∧ it ≤
      implementTime s)
    ∧ (∃ (p : Nat) (c : Nat) (it : Nat) (b : List Byte) (pl : List Byte) (s : State), KnatisArrives p b pl s ∧ KnatisPasses p pl s ∧ addressed
      s pl = true ∧ beAt pl 0 1 % 16 = 3 ∧ c = beAt pl 21 1 ∧ it = beAt pl 24 8 ∧ s.flag Reg.KSW_KNT_CFG 26 = false ∧ s.hasPage 0xD8 = true
      ∧ c < 4 ∧ ldlOn s = true ∧ s.flag (Reg.LDL_CFG c) 24 = true ∧ beAt pl 20 1 = 2 ∧ (cap s c).st = 3 ∧ streams s c = false ∧
      implementTime s < it) :=
  ⟨⟨.dma, 1, { reg [(0x400D8008, 1)] with ldl := { caps := [(1, { st := 1 })] } }, by unfold Reaches; decide +kernel⟩,
  ⟨.dma, 1, { State.reset with ldl := { caps := [(1, { st := 2 })] } }, by unfold Reaches; decide +kernel⟩,
  ⟨.dma, 1, { reg [(0x400D8008, 1)] with ldl := { caps := [(1, { st := 1 })] } }, by unfold Reaches; decide +kernel⟩,
  ⟨.dma, 1, { reg [(0x400D8008, 1)] with ldl := { caps := [(1, { st := 3 })] } }, by unfold Reaches; decide +kernel⟩,
  ⟨.dma, 1, { reg [(0x400D8008, 1)] with ldl := { caps := [(1, { st := 1 })] } }, by unfold Reaches; decide +kernel⟩,
  ⟨.dma, 1, { State.reset with ldl := { caps := [(1, { st := 2 })] } }, by unfold Reaches; decide +kernel⟩,
  ⟨.dma, 1, { reg [(0x400D8140, 0x80000000)] with ldl := { caps := [(1, { st := 3 })] } }, by unfold Reaches; decide +kernel⟩,
  ⟨0, { reg [(0x400D8008, 1)] with ldl := { caps := [(0, { st := 3 })] } }, by decide +kernel⟩,
  ⟨0, { reg [(0x400D8008, 1), (0x400D8108, 1), (0x400E0008, 1)] with ldl := { caps := [(0, { st := 2, armFrom := 1 })] } }, 5, 5,
    by decide +kernel⟩,
  ⟨0, { reg [(0x400D8008, 1), (0x400D8108, 1), (0x400E0008, 1)] with ldl := { caps := [(0, { st := 2 })] } }, 5, 0, by decide +kernel⟩,
  ⟨0, { reg [(0x400D8008, 1), (0x400D8108, 1), (0x400E0008, 1)] with ldl := { caps := [(0, { st := 2, pending := (some 0) })] } }, 5, 0, 0,
    by decide +kernel⟩,
  ⟨0, { reg [(0x400D8008, 1), (0x400D8104, 0x40000000)] with ldl := { caps := [(0, { st := 2 })] } }, by decide +kernel⟩,
  ⟨0, { reg [(0x400D8008, 1), (0x400D8104, 0x40000000)] with ldl := { caps := [(0, { st := 2, due := [0] })] } }, by decide +kernel⟩,
  ⟨0, 2, _,
    { reg [(0x400D8008, 1), (0x400D8104, 0x40000000), (0x400D8088, 0x80000000), (0x400D810C, 7)] with ldl := { caps := [(0, { st := 3 })] } },
    and_four (by decide +kernel) ⟨by decide +kernel, nofun, by decide +kernel, rfl, by decide +kernel⟩⟩,
  ⟨0, 2, _,
    { reg [(0x400D8008, 1), (0x400D8104, 0x40000000), (0x400D8088, 0x80000000), (0x400D810C, 7)] with ldl := { caps := [(0, { st := 3, due := [0] })] } },
    and_four (by decide +kernel) ⟨by decide +kernel, nofun, by decide +kernel, rfl, by decide +kernel⟩⟩,
  ⟨0, 2, _, ⟨1, 1, 1, 1, 1⟩, ⟨0, 4, 0, 0, 0, false⟩, _,
    { reg [(0x400D8008, 1), (0x400D8104, 0x40000000), (0x400D8088, 0x80000000), (0x400D810C, 7)] with ldl := { caps := [(0, { st := 3, due := [0], win := some ⟨0, 4, 0, 0, 0, false⟩, acc := [(2, ⟨1, 1, 1, 1, 1⟩)] })] } },
    by decide +kernel, by decide +kernel, by decide +kernel, by decide +kernel, nofun, by decide +kernel, by decide +kernel,
    by decide +kernel, rfl, rfl, by decide +kernel⟩,
  ⟨0, 2, _, ⟨1, 1, 1, 1, 1⟩, ⟨0, 4, 0, 0, 0, false⟩, _,
    { reg [(0x400D8008, 1), (0x400D8104, 0x40000000), (0x400D8088, 0x80000000)] with ldl := { caps := [(0, { st := 3, due := [0], win := some ⟨0, 4, 0, 0, 0, false⟩, acc := [(2, ⟨1, 1, 1, 1, 1⟩)] })] } },
    by decide +kernel, by decide +kernel, by decide +kernel, by decide +kernel, nofun, by decide +kernel, by decide +kernel,
    by decide +kernel, rfl, rfl, by decide +kernel⟩,
  ⟨0,
    { reg [(0x40031008, 1), (0x40031010, 0xFFFF), (0x40031014, 0xFFFF), (0x40031018, 0xFFFF), (0x4003101C, 0xFFFF), (0x400D8008, 1), (0x400D8118, 0x20000800)] with ldl := { caps := [(0, { st := 3 })] } },
    8, 0, by decide +kernel⟩,
  ⟨1, { reg [(0x400D8008, 1)] with ldl := { caps := [(1, { st := 1 })] } }, by decide +kernel⟩,
  ⟨0, { reg [(0x400D8008, 1), (0x400D8118, 0x40000000)] with ldl := { caps := [(0, { st := 3 })] } }, by decide +kernel⟩,
  ⟨0, (reg [(0x400D8008, 1), (0x400D8118, 0x30000000)]), by decide +kernel⟩,
  ⟨0, { reg [(0x400D8008, 1)] with ldl := { caps := [(0, { st := 3, netFire := (some 0) })] } }, 0, by decide +kernel⟩,
  ⟨0, { reg [(0x400D8008, 1)] with ldl := { caps := [(0, { st := 3, netFire := (some 1) })] } }, 1, by decide +kernel⟩,
  ⟨0, { reg [(0x400D8008, 1)] with ldl := { caps := [(0, { st := 1, netArm := [0] })] } }, 0, [], by decide +kernel⟩,
  ⟨1, { reg [(0x400D8008, 1)] with ldl := { caps := [(1, { st := 1 })] } }, by decide +kernel⟩,
  ⟨2, { reg [(0x400D8008, 1), (0x400D81AC, 0x2000), (0x400D81B0, 100)] with ldl := { caps := [(2, { fifo := [0] })] } }, 0, [], 100, 0x2000,
    by decide +kernel⟩,
  ⟨0, 4, 0,
    ([3, 75, 78, 84, 0, 1, 0, 0, 0, 0, 0, 1, 136, 181, 19, 32, 0, 1, 162, 28, 0, 12, 5, 0, 0, 0, 0, 0, 0, 0, 166, 12, 23, 63, 1, 4, 0, 0, 0, 0, 0, 0, 0, 0, 0, 0, 209, 99, 210, 216, 0, 0, 0, 0, 0, 0, 0, 0, 0, 0]),
    ([19, 32, 0, 1, 162, 28, 0, 12, 5, 0, 0, 0, 0, 0, 0, 0, 166, 12, 23, 63, 1, 4, 0, 0, 0, 0, 0, 0, 0, 0, 0, 0, 209, 99, 210, 216, 0, 0, 0, 0, 0, 0, 0, 0, 0, 0]),
    (reg [(0x400F8008, 1), (0x400F8608, 0x80000000), (0x400F9008, 1)]), by unfold KnatisArrives KnatisPasses; decide +kernel⟩,
  ⟨0, 2, 0,
    ([3, 75, 78, 84, 0, 1, 0, 0, 0, 0, 0, 3, 136, 181, 19, 32, 226, 35, 12, 67, 0, 12, 1, 0, 0, 0, 0, 0, 0, 0, 142, 5, 6, 177, 2, 2, 0, 0, 0, 0, 0, 0, 0, 0, 0, 0, 60, 71, 2, 210, 0, 0, 0, 0, 0, 0, 0, 0, 0, 0]),
    ([19, 32, 226, 35, 12, 67, 0, 12, 1, 0, 0, 0, 0, 0, 0, 0, 142, 5, 6, 177, 2, 2, 0, 0, 0, 0, 0, 0, 0, 0, 0, 0, 60, 71, 2, 210, 0, 0, 0, 0, 0, 0, 0, 0, 0, 0]),
    (reg [(0x400F8008, 1), (0x400F8608, 0x80000000), (0x400F9008, 1)]), by unfold KnatisArrives KnatisPasses; decide +kernel⟩,
  ⟨0, 3, 0,
    ([0, 0, 0, 0, 179, 136, 0, 0, 0, 0, 0, 1, 136, 181, 19, 32, 0, 26, 23, 31, 0, 12, 3, 0, 0, 0, 0, 0, 0, 0, 189, 102, 89, 32, 1, 3, 0, 0, 0, 0, 0, 0, 0, 0, 0, 0, 6, 9, 146, 210, 0, 0, 0, 0, 0, 0, 0, 0, 0, 0]),
    ([19, 32, 0, 26, 23, 31, 0, 12, 3, 0, 0, 0, 0, 0, 0, 0, 189, 102, 89, 32, 1, 3, 0, 0, 0, 0, 0, 0, 0, 0, 0, 0, 6, 9, 146, 210, 0, 0, 0, 0, 0, 0, 0, 0, 0, 0]),
    { reg [(0x400D8008, 1), (0x400D81C0, 0x1000000), (0x400F8008, 1), (0x400F8608, 0x80000000), (0x400F9008, 1)] with ldl := { caps := [(3, { st := 1 })] } },
    by unfold KnatisArrives KnatisPasses; decide +kernel⟩,
  ⟨0, 2, 479,
    ([0, 0, 0, 0, 2, 219, 0, 0, 0, 0, 0, 3, 136, 181, 19, 32, 0, 24, 3, 192, 0, 12, 8, 0, 0, 0, 0, 0, 0, 0, 221, 226, 25, 8, 1, 2, 0, 0, 0, 0, 0, 0, 0, 0, 1, 223, 190, 172, 6, 125, 0, 0, 0, 0, 0, 0, 0, 0, 0, 0]),
    ([19, 32, 0, 24, 3, 192, 0, 12, 8, 0, 0, 0, 0, 0, 0, 0, 221, 226, 25, 8, 1, 2, 0, 0, 0, 0, 0, 0, 0, 0, 1, 223, 190, 172, 6, 125, 0, 0, 0, 0, 0, 0, 0, 0, 0, 0]),
    { reg [(0x400D8008, 1), (0x400D8180, 0x1000000), (0x400F8008, 1), (0x400F8608, 0x80000000), (0x400F9008, 1)] with ldl := { caps := [(2, { st := 1 })] } },
    by unfold KnatisArrives KnatisPasses; decide +kernel⟩,
  ⟨0, 2, 0,
    ([3, 75, 78, 84, 0, 1, 0, 0, 0, 0, 0, 3, 136, 181, 19, 32, 226, 35, 12, 67, 0, 12, 1, 0, 0, 0, 0, 0, 0, 0, 142, 5, 6, 177, 2, 2, 0, 0, 0, 0, 0, 0, 0, 0, 0, 0, 60, 71, 2, 210, 0, 0, 0, 0, 0, 0, 0, 0, 0, 0]),
    ([19, 32, 226, 35, 12, 67, 0, 12, 1, 0, 0, 0, 0, 0, 0, 0, 142, 5, 6, 177, 2, 2, 0, 0, 0, 0, 0, 0, 0, 0, 0, 0, 60, 71, 2, 210, 0, 0, 0, 0, 0, 0, 0, 0, 0, 0]),
    { reg [(0x400D8008, 1), (0x400D8180, 0x1000000), (0x400F8008, 1), (0x400F8608, 0x80000000), (0x400F9008, 1)] with ldl := { caps := [(2, { st := 2 })] } },
    by unfold KnatisArrives KnatisPasses; decide +kernel⟩,
  ⟨0, 2, 0,
    ([3, 75, 78, 84, 0, 1, 0, 0, 0, 0, 0, 3, 136, 181, 19, 32, 226, 35, 12, 67, 0, 12, 1, 0, 0, 0, 0, 0, 0, 0, 142, 5, 6, 177, 2, 2, 0, 0, 0, 0, 0, 0, 0, 0, 0, 0, 60, 71, 2, 210, 0, 0, 0, 0, 0, 0, 0, 0, 0, 0]),
    ([19, 32, 226, 35, 12, 67, 0, 12, 1, 0, 0, 0, 0, 0, 0, 0, 142, 5, 6, 177, 2, 2, 0, 0, 0, 0, 0, 0, 0, 0, 0, 0, 60, 71, 2, 210, 0, 0, 0, 0, 0, 0, 0, 0, 0, 0]),
    { reg [(0x400D8008, 1), (0x400D8180, 0x1000000), (0x400F8008, 1), (0x400F8608, 0x80000000), (0x400F9008, 1)] with ldl := { caps := [(2, { st := 3 })] } },
    by unfold KnatisArrives KnatisPasses; decide +kernel⟩,
  ⟨0, 0, 97,
    ([3, 75, 78, 84, 0, 1, 0, 0, 0, 0, 0, 3, 136, 181, 19, 48, 0, 105, 157, 62, 0, 12, 1, 0, 0, 0, 0, 0, 0, 0, 197, 180, 59, 64, 2, 0, 0, 0, 0, 0, 0, 0, 0, 0, 0, 97, 199, 230, 59, 42, 0, 0, 0, 0, 0, 0, 0, 0, 0, 0]),
    ([19, 48, 0, 105, 157, 62, 0, 12, 1, 0, 0, 0, 0, 0, 0, 0, 197, 180, 59, 64, 2, 0, 0, 0, 0, 0, 0, 0, 0, 0, 0, 97, 199, 230, 59, 42, 0, 0, 0, 0, 0, 0, 0, 0, 0, 0]),
    { reg [(0x400D8008, 1), (0x400D8100, 0x1000000), (0x400F8008, 1), (0x400F8608, 0x80000000), (0x400F9008, 1)] with ldl := { caps := [(0, { st := 3 })] } },
    by unfold KnatisArrives KnatisPasses; decide +kernel⟩⟩

/-- Hypotheses of LadleRecords. -/
theorem witness_LadleRecords :
    (∃ (c : Nat) (q : Nat) (r : LdlRec) (s : State), c < 4 ∧ ldlOn s = true ∧ q = capQueue s c ∧ (cap s c).record = some r ∧ r.firedAt ≠
      s.now ∧ s.fld (Reg.LDL_CFG c) 28 2 ≤ 1 ∧ s.flag (qAddr q 0x10) 1 = true ∧ queuePresent s q = true ∧ r.opened = false ∧ qRoom s q 1 =
      false ∧ s.flag (qAddr q 0x10) 2 = false)
    ∧ (∃ (c : Nat) (q : Nat) (r : LdlRec) (s : State), c < 4 ∧ ldlOn s = true ∧ q = capQueue s c ∧ (cap s c).record = some r ∧ r.firedAt ≠
      s.now ∧ s.fld (Reg.LDL_CFG c) 28 2 ≤ 1 ∧ s.flag (qAddr q 0x10) 1 = true ∧ queuePresent s q = true ∧ r.opened = false ∧ qRoom s q 1 =
      false ∧ s.flag (qAddr q 0x10) 2 = true)
    ∧ (∃ (c : Nat) (q : Nat) (r : LdlRec) (s : State) (z : Int) (w : LdlWin), c < 4 ∧ ldlOn s = true ∧ q = capQueue s c ∧ (cap s c).record =
      some r ∧ r.firedAt ≠ s.now ∧ s.fld (Reg.LDL_CFG c) 28 2 ≤ 1 ∧ s.flag (qAddr q 16) 1 = true ∧ queuePresent s q = true ∧ r.opened =
      false ∧ r.header = false ∧ r.trailer = false ∧ r.out = [] ∧ r.zero = some z ∧ (cap s c).wins = [] ∧ (cap s c).win = some w ∧ r.next ≤
      w.num ∧ ↑w.num < z + ↑(capPost s c) ∧ qRoom s q 7 = true ∧ (queue s q).words = [] ∧ (queue s q).pktOpen = false)
    ∧ (∃ (c : Nat) (q : Nat) (r : LdlRec) (s : State) (z : Int) (f : Nat), c < 4 ∧ ldlOn s = true ∧ q = capQueue s c ∧ (cap s c).record = some
      r ∧ r.firedAt ≠ s.now ∧ s.fld (Reg.LDL_CFG c) 28 2 ≤ 1 ∧ s.flag (qAddr q 16) 1 = true ∧ queuePresent s q = true ∧ r.opened = true ∧
      r.header = true ∧ r.trailer = false ∧ r.out = [] ∧ r.zero = some z ∧ (cap s c).wins = [] ∧ (cap s c).win = none ∧ z + ↑(capPost s c) ≤
      ↑(cap s c).nextNum ∧ qRoom s q 2 = true ∧ (queue s q).pktOpen = true ∧ (queue s q).words = [{ data := 0, reserved := true }] ∧ f =
      ((((((if r.preArm = true then 2 else 0) + if r.preShort = true then 4 else 0) + if recOverflow s c r = true then 8 else 0) + if r.step
      = true then 16 else 0) + if r.net = true then 32 else 0) + if r.timeOk = true then 64 else 0) + if r.poison = true then 128 else 0) :=
  ⟨⟨3, 0, { trigIt := 15, trigRoot := 8, firedAt := 0xdf5d8e7a0 },
    { reg [(0x40041010, 2), (0x400D8008, 1)] with ldl := { caps := [(3, { record := (some { trigIt := 15, trigRoot := 8, firedAt := 0xdf5d8e7a0 }) })] } },
    by decide +kernel⟩,
  ⟨3, 0, { trigIt := 15, trigRoot := 8, firedAt := 0xdf5d8e7a0 },
    { reg [(0x40041010, 6), (0x400D8008, 1)] with ldl := { caps := [(3, { record := (some { trigIt := 15, trigRoot := 8, firedAt := 0xdf5d8e7a0 }) })] } },
    by decide +kernel⟩,
  ⟨0, 0, { trigIt := 17, trigRoot := (-3), firedAt := 0xa5c49, zero := (some 1) },
    { reg [(0x40040008, 1), (0x40041010, 3), (0x400D8008, 1)] with ldl := { caps := [(0, { win := (some { num := 1, start := 5, root := 18 }), record := (some { trigIt := 17, trigRoot := (-3), firedAt := 0xa5c49, zero := (some 1) }) })] } },
    1, { num := 1, start := 5, root := 18 }, by decide +kernel⟩,
  ⟨0, 0, { trigIt := 17, trigRoot := (-3), firedAt := 0xa5c49, zero := (some 1), opened := true, header := true },
    { reg [(0x40040008, 1), (0x40041010, 3), (0x400D8008, 1)] with queues := [(0, { head := [{ data := 0, reserved := true }], pktOpen := true })], ldl := { caps := [(0, { nextNum := 3, record := (some { trigIt := 17, trigRoot := (-3), firedAt := 0xa5c49, zero := (some 1), opened := true, header := true }) })] } },
    1, 0, by decide +kernel⟩⟩

/-- Hypotheses of AlwaysOnDomain. -/
theorem witness_AlwaysOnDomain :
    (∃ (s : State), s.power.aonLost = true)
    ∧ (∃ (s : State), s.power.under.contains .vin = true)
    ∧ (∃ (s : State), s.power.under.contains .vin = false)
    ∧ (∃ (s : State), busUp s = true ∧ s.aon.meas = 0x40000)
    ∧ (∃ (s : State), busUp s = false ∨ s.aon.meas ≠ 0x40000)
    ∧ (∃ (s : State), s.power.aonLost = false ∧ s.power.under.contains Supply.vin = true)
    ∧ (∃ (s : State), s.power.aonLost = false ∧ s.power.under.contains Supply.vin = false)
    ∧ (∃ (s : State), s.power.aonLost = false ∧ s.aon.onXtal = true)
    ∧ (∃ (s : State), s.power.aonLost = false ∧ s.aon.onXtal = false)
    ∧ (∃ (s : State) (k : Nat), s.power.aonLost = false ∧ k < 2 ∧ (s.flag (Reg.AON_ALM_CFG k) 31 = false ∨ rtcSeconds s < alarmAt s k))
    ∧ (∃ (s : State) (k : Nat), s.power.aonLost = false ∧ k < 2 ∧ s.flag (Reg.AON_ALM_CFG k) 31 = true ∧ alarmAt s k ≤ rtcSeconds s ∧ s.fld
      Reg.PWR_STATE 0 3 ≠ 4)
    ∧ (∃ (s : State) (k : Nat), s.power.aonLost = false ∧ k < 2 ∧ s.flag (Reg.AON_ALM_CFG k) 31 = true ∧ alarmAt s k ≤ rtcSeconds s ∧ s.fld
      Reg.PWR_STATE 0 3 = 4 ∧ s.power.phase = PwrPhase.steady ∧ bit s.power.wakeHeld 0 = true)
    ∧ (∃ (s : State) (rising : Bool), s.power.aonLost = false ∧ (enteringWith s 3 4 1 = false ∨ s.flag Reg.PWR_WAKE_CFG 2 ≠ rising) ∧
      (s.power.phase ≠ PwrPhase.steady ∨ s.fld Reg.PWR_STATE 0 3 < 3 ∨ bit s.power.wakeHeld 1 = false ∨ bit s.power.wakeHeld 2 ≠ rising))
    ∧ (∃ (s : State) (rising : Bool) (target : Nat), s.power.aonLost = false ∧ s.power.phase = PwrPhase.entering target ∧ 3 ≤ target ∧ target
      ≤ 4 ∧ s.flag Reg.PWR_WAKE_CFG 1 = true ∧ s.flag Reg.PWR_WAKE_CFG 2 = rising)
    ∧ (∃ (s : State) (rising : Bool), s.power.aonLost = false ∧ s.power.phase = PwrPhase.steady ∧ bit s.power.wakeHeld 1 = true ∧ bit
      s.power.wakeHeld 2 = rising ∧ s.fld Reg.PWR_STATE 0 3 = 4)
    ∧ (∃ (s : State) (rising : Bool), s.power.aonLost = false ∧ s.power.phase = PwrPhase.steady ∧ bit s.power.wakeHeld 1 = true ∧ bit
      s.power.wakeHeld 2 = rising ∧ s.fld Reg.PWR_STATE 0 3 = 3)
    ∧ (∃ (s : State) (rising : Bool), s.power.aonLost = false ∧ s.power.phase = PwrPhase.steady ∧ bit s.power.wakeHeld 1 = true ∧ bit
      s.power.wakeHeld 2 = rising ∧ s.fld Reg.PWR_STATE 0 3 = 5)
    ∧ (∃ (s : State) (drawn : Nat) (used : Nat) (cap : Nat) (left : Nat), s.power.aonLost = false ∧ (used = if s.flag Reg.AON_AON_STAT 31 =
      true then min 0xFFFFFFFF (BitVec.toNat (s.rd Reg.AON_GAUGE_USED) + drawn) else BitVec.toNat (s.rd Reg.AON_GAUGE_USED)) ∧ cap =
      BitVec.toNat (s.rd Reg.AON_GAUGE_CAP) ∧ left = cap - used)
    ∧ (∃ (m : Master) (s : State), Reaches m Reg.AON_GAUGE_CAP s ∧ cfgLocked s 0x24 = false ∧ holdsOpening s 0x24 m = true)
    ∧ (∃ (m : Master) (s : State), Reaches m Reg.AON_GAUGE_CAP s ∧ cfgLocked s 0x24 = false ∧ holdsOpening s 0x24 m = false)
    ∧ (∃ (m : Master) (s : State), Reaches m Reg.AON_SET_HI s ∧ holdsOpening s 0x24 m = true ∧ s.flag (Reg.AON_ALM_CFG 0) 31 = false ∧ s.flag
      (Reg.AON_ALM_CFG 1) 31 = false)
    ∧ (∃ (m : Master) (v : Word) (s : State), Reaches m Reg.AON_SET_HI s ∧ holdsOpening s 0x24 m = true ∧ s.flag (Reg.AON_ALM_CFG 0) 31 = true
      ∧ s.fld Reg.PWR_STATE 0 3 = 0 ∧ alarmAt s 0 ≤ bits v 0 8 * 2 ^ 32 + (s.rd Reg.AON_SET_LO).toNat)
    ∧ (∃ (m : Master) (s : State), Reaches m Reg.AON_SET_HI s ∧ holdsOpening s 0x24 m = false) :=
  ⟨⟨{ State.reset with power := { aonLost := true } }, by decide +kernel⟩,
  ⟨{ State.reset with power := { under := [.vin] } }, by decide +kernel⟩,
  ⟨State.reset, by decide +kernel⟩,
  ⟨{ State.reset with aon := { meas := 262144 } }, by decide +kernel⟩,
  ⟨{ State.reset with power := { under := [.vin] } }, by decide +kernel⟩,
  ⟨{ State.reset with power := { under := [.vin] } }, by decide +kernel⟩,
  ⟨State.reset, by decide +kernel⟩,
  ⟨{ State.reset with aon := { onXtal := true } }, by decide +kernel⟩,
  ⟨{ State.reset with power := { under := [.vin] } }, by decide +kernel⟩,
  ⟨State.reset, 0, by decide +kernel⟩,
  ⟨(reg [(0x40024078, 0x80000000)]), 0, by decide +kernel⟩,
  ⟨{ reg [(Reg.AON_ALM_CFG 0, 0x80000000), (Reg.PWR_STATE, 4)] with power := { wakeHeld := 1 } }, 0, by decide +kernel⟩,
  ⟨State.reset, true, by decide +kernel⟩,
  ⟨{ reg [(Reg.PWR_WAKE_CFG, 6)] with power := { phase := .entering 3 } }, true, 3, by decide +kernel⟩,
  ⟨{ reg [(Reg.PWR_STATE, 4)] with power := { wakeHeld := 6 } }, true, by decide +kernel⟩,
  ⟨{ reg [(0x40002044, 3)] with power := { wakeHeld := 6 } }, true, by decide +kernel⟩,
  ⟨{ reg [(0x40002044, 5)] with power := { wakeHeld := 6 } }, true, by decide +kernel⟩,
  ⟨State.reset, 6, 0, 0, 0, by decide +kernel⟩,
  ⟨.dma, { State.reset with pages := { keys := [(36, (.opened 1 0))] } }, by unfold Reaches; decide +kernel⟩,
  ⟨.dma, State.reset, by unfold Reaches; decide +kernel⟩,
  ⟨.dma, { State.reset with pages := { keys := [(36, (.opened 1 0))] } }, by unfold Reaches; decide +kernel⟩,
  ⟨.dma, 8, { reg [(0x40024078, 0x80000000)] with pages := { keys := [(36, (.opened 1 0))] } }, by unfold Reaches; decide +kernel⟩,
  ⟨.dma, State.reset, by unfold Reaches; decide +kernel⟩⟩

/-- Hypotheses of PadsAndPins. -/
theorem witness_PadsAndPins :
    (∃ (m : Master) (p : Nat) (s : State), p < 625 ∧ Reaches m (Reg.PAD_PADp p) s ∧ cfgLocked s (pageOf (Reg.PAD_PADp p)) = false ∧ padType
      p = .pwr)
    ∧ (∃ (m : Master) (p : Nat) (v : Word) (s : State), p < 625 ∧ Reaches m (Reg.PAD_PADp p) s ∧ cfgLocked s (pageOf (Reg.PAD_PADp p)) = false
      ∧ padType p ≠ .pwr ∧ (bits v 16 2 = 3 ∨ 16 < bits v 8 5))
    ∧ (∃ (m : Master) (p : Nat) (v : Word) (s : State), p < 625 ∧ Reaches m (Reg.PAD_PADp p) s ∧ cfgLocked s (pageOf (Reg.PAD_PADp p)) = false
      ∧ padType p ≠ .pwr ∧ bits v 16 2 ≠ 3 ∧ bits v 8 5 ≤ 16 ∧ padHasGpio p = true ∧ padAbsent s.variant p = false ∧ bit v 24 ≠ s.flag
      (Reg.PAD_PADp p) 24 ∧ padUnitActive s p = true)
    ∧ (∃ (m : Master) (p : Nat) (v : Word) (s : State), p < 625 ∧ Reaches m (Reg.PAD_PADp p) s ∧ cfgLocked s (pageOf (Reg.PAD_PADp p)) = false
      ∧ padType p ≠ .pwr ∧ bits v 16 2 ≠ 3 ∧ bits v 8 5 ≤ 16 ∧ padHasGpio p = true ∧ padAbsent s.variant p = false ∧ (bit v 24 = s.flag
      (Reg.PAD_PADp p) 24 ∨ padUnitActive s p = false))
    ∧ (∃ (p : Nat), p < 625)
    ∧ (∃ (p : Nat) (level : Bool) (s : State), p < 625 ∧ padReports s.variant p = true ∧ busUp s = true ∧ s.hasPage 4 = true ∧ frozen s 4 =
      false ∧ s.flag (Reg.GPIO + 8) 0 = true ∧ pinLevel s p ≠ level)
    ∧ (∃ (p : Nat) (level : Bool) (s : State), p < 625 ∧ (padReports s.variant p = false ∨ busUp s = false ∨ s.hasPage 4 = false ∨ frozen s 4
      = true ∨ s.flag (Reg.GPIO + 8) 0 = false ∨ pinLevel s p = level))
    ∧ (∃ (p : Nat) (e : Bool) (s : State), coxAlive s = true ∧ padMismatches s = [(p, e)]) :=
  ⟨⟨.dma, 336, State.reset, by unfold Reaches; decide +kernel⟩,
  ⟨.dma, 1, 0x30116, State.reset, by unfold Reaches; decide +kernel⟩,
  ⟨.dma, 410, 0x1001016, (reg [(0x400CA00C, 0)]), by unfold Reaches; decide +kernel⟩,
  ⟨.dma, 410, 0x21016, State.reset, by unfold Reaches; decide +kernel⟩,
  ⟨336, by decide +kernel⟩,
  ⟨4, true, (reg [(0x40004008, 1)]), by decide +kernel⟩,
  ⟨4, true, State.reset, by decide +kernel⟩,
  ⟨ballAt 14 17, false,
    { State.reset with now := 100, power := { stuck := [(ballAt 14 17, true)], edges := [(ballAt 14 17, { drive := .level false })] } },
    by decide +kernel⟩⟩

/-- Hypotheses of StepRunsTheFrontCommand. -/
theorem witness_StepRunsTheFrontCommand :
    ∃ (c : Instr) (r : List Instr) (s : State), s.pending = c :: r :=
  ⟨.vinWarn, [], { State.reset with pending := [.vinWarn] }, by decide +kernel⟩

/-- Hypotheses of ResetState. -/
theorem witness_ResetState :
    ∃ (a : Nat), a ∉ [0x40000058, 0x40002018, 0x40024018] :=
  ⟨0, by decide +kernel⟩

/-- Hypotheses of MemoryStaysCanonical. -/
theorem witness_MemoryStaysCanonical :
    ∃ (s : State) (t : State), MemoryCanonical s ∧ Machine.step s = .next t :=
  ⟨{ State.reset with pending := [.vinWarn] }, after .vinWarn State.reset, rfl, rfl⟩

/-- Hypotheses of TamperAndDebug where the key's hash and the signature, which are opaque (log entry 22), have the values shown. -/
theorem witness_TamperAndDebug_unlock (hk : Config.sha512 [] = List.replicate 64 0) (hs : Config.ed25519 [] (List.replicate 32 0) [] = true) :
    ∃ (key : List Byte) (sig : List Byte) (s : State), busUp s = true ∧ debugLocked s = true ∧ s.fld Reg.PWR_STATE 0 3 ≤ 2
      ∧ unlockCause s key sig = 0 := by
  refine ⟨[], [], { reg [(0x40022040, 2), (0x4001000C, 0x24)] with sec := { challenge := some 0 } }, by decide +kernel, by decide +kernel,
    by decide +kernel, ?_⟩
  have h4 : otpBytes { reg [(0x40022040, 2), (0x4001000C, 0x24)] with sec := { challenge := some 0 } } 0x300 16 = List.replicate 64 0 := by
    decide +kernel
  unfold unlockCause
  rw [if_neg (by decide +kernel), if_neg (by decide +kernel), hk, h4, if_neg (not_not_intro rfl), if_neg (by decide +kernel)]
  have h5 : (bytesOf 16 (0 : BitVec 128).toNat ++ otpBytes { reg [(0x40022040, 2), (0x4001000C, 0x24)] with sec := { challenge := some 0 } } 0x110 4)
      = List.replicate 32 0 := by decide +kernel
  simp only [h5, hs]
  decide +kernel

/-- A header in slot 0 whose magic and format are right. -/
def goodHeader (n : Nat) : List Word := [0x51494B41, 1, wordOf n] ++ List.replicate 29 0
/-- A deployed part whose slot 0 holds the hash of a key of zeros, where that hash is 1 and zeros. -/
def keyed : State := { reg [(0x40022040, 2), (0x4001000C, 0x24)] with otp := { words := [(0x200, 1)] } }

/-- Its four conditions of R152 hold. -/
theorem goodHeader_cond (hk : Config.sha512 (List.replicate 32 0) = 1 :: List.replicate 63 0) (n : Nat) (s : State)
    (ho : s.otp = keyed.otp) : imageCond s (goodHeader n) = 0 := by
  unfold imageCond
  have e0 : hdrWord (goodHeader n) 0 = 0x51494B41 := rfl
  have e1 : hdrWord (goodHeader n) 1 = 1 := rfl
  have es : hdrSlot (goodHeader n) = 0 := by unfold hdrSlot; rw [e1]; decide
  have h1 : ¬(hdrWord (goodHeader n) 0 ≠ 0x51494B41 ∨ bits (hdrWord (goodHeader n) 1) 0 8 ≠ 1) := by rw [e0, e1]; decide
  have hw : ∀ off, otpWord s off = otpWord keyed off := fun off => by unfold otpWord otpCopies; rw [ho]
  have h2 : bootSlotUsed s (hdrSlot (goodHeader n)) = true := by
    have : bootSlotUsed s 0 = bootSlotUsed keyed 0 := by simp only [bootSlotUsed, hw]
    rw [es, this]; decide +kernel
  have h3 : leBytes (((goodHeader n).drop 4).take 8) = List.replicate 32 0 := by
    show leBytes (List.replicate 8 0) = _
    decide +kernel
  have h4 : otpBytes s (0x200 + 64 * hdrSlot (goodHeader n)) 16 = 1 :: List.replicate 63 0 := by
    have : otpBytes s 0x200 16 = otpBytes keyed 0x200 16 := by simp only [otpBytes, hw]
    rw [es, this]; decide +kernel
  have h5 : ¬((hdrWord (goodHeader n) 3).toNat < minVersion s) := by
    have : minVersion s = minVersion keyed := by simp only [minVersion, hw]
    rw [this]; show ¬((0 : Word).toNat < _); decide +kernel
  rw [if_neg h1, h2, if_neg (by decide), h3, hk, h4, if_neg (fun h => h rfl), if_neg h5]

/-- Hypotheses of BootAndVerify: an image whose key is accepted, and its records (log entry 22). -/
theorem witness_BootAndVerify_records (hk : Config.sha512 (List.replicate 32 0) = 1 :: List.replicate 63 0) :
    ∃ (image : List Word) (c : Nat) (s : State) (n : Nat) (mask : Nat) (u : State), frozen s 0x30 = false ∧ s.boot.phase = .waitTest5
      ∧ s.boot.written = [] ∧ busUp s = true ∧ coxState s ≠ 0 ∧ ¬(coxState s = 1 ∧ s.cox.test ≤ 5) ∧ 32 ≤ image.length ∧ imageUnchecked s = false
      ∧ imageCond s (image.take 32) = c ∧ n = (hdrWord image 2).toNat / 4 ∧ c = 0 ∧ (hdrWord image 2).toNat = 4 * n ∧ 4 * n ≤ 0x100000
      ∧ 32 + n ≤ image.length
      ∧ loadRecords (n + 1) ((image.drop 32).take n) { s with
          freeCtr := s.freeCtr + 32 + n, boot := { s.boot with flash := some (flashCmd s (s.boot.imageAt + 128) (4 * n)) } } = (0, mask, u) := by
  refine ⟨goodHeader 8 ++ [1, 0x10000000], 0, { keyed with boot := { phase := .waitTest5 } }, 2, 1, _, and_four (by decide +kernel)
    (and_four (by decide +kernel) ⟨?_, by decide +kernel, rfl, by decide +kernel, by decide +kernel, by decide +kernel, rfl⟩)⟩
  exact goodHeader_cond hk 8 _ rfl

/-- Hypotheses of BootAndVerify: an image whose key is accepted, and whose first record is of no known kind (log entry 22). -/
theorem witness_BootAndVerify_badRecords (hk : Config.sha512 (List.replicate 32 0) = 1 :: List.replicate 63 0) :
    ∃ (image : List Word) (c : Nat) (s : State) (n f mask : Nat) (u : State), frozen s 0x30 = false ∧ s.boot.phase = .waitTest5
      ∧ s.boot.written = [] ∧ busUp s = true ∧ coxState s ≠ 0 ∧ ¬(coxState s = 1 ∧ s.cox.test ≤ 5) ∧ 32 ≤ image.length ∧ imageUnchecked s = false
      ∧ imageCond s (image.take 32) = c ∧ n = (hdrWord image 2).toNat / 4 ∧ c = 0 ∧ (hdrWord image 2).toNat = 4 * n ∧ 4 * n ≤ 0x100000
      ∧ 32 + n ≤ image.length
      ∧ loadRecords (n + 1) ((image.drop 32).take n) { s with
          freeCtr := s.freeCtr + 32 + n, boot := { s.boot with flash := some (flashCmd s (s.boot.imageAt + 128) (4 * n)) } } = (f, mask, u) ∧ f ≠ 0 := by
  refine ⟨goodHeader 8 ++ [1, 0x20000000], 0, { keyed with boot := { phase := .waitTest5 } }, 2, 2, 0, _, and_four (by decide +kernel)
    (and_four (by decide +kernel) ⟨?_, by decide +kernel, rfl, by decide +kernel, by decide +kernel, by decide +kernel, rfl, by decide⟩)⟩
  exact goodHeader_cond hk 8 _ rfl

/-- An image of no payload at the bottom of system SRAM, with a good header, and a verification of it. -/
def verifying : State :=
  { (keyed.putRaw 0 0x51494B41).putRaw 4 1 with sec := { verify := some ⟨0, 0, 0⟩ } }

/-- Hypotheses of BootAndVerify: an image whose key is accepted, and whose signature verifies or not (log entry 22). -/
theorem witness_BootAndVerify_signature (hk : Config.sha512 (List.replicate 32 0) = 1 :: List.replicate 63 0) (b : Bool)
    (hs : imageSigned (goodHeader 0) [] = b) :
    ∃ (j : Verify) (h p : List Word) (n : Nat) (s : State), frozen s 0x22 = false ∧ s.sec.verify = some j ∧ imageUnchecked s = false
      ∧ j.addr % 4 = 0 ∧ h = (List.range 32).map (fun k => s.rawWord (j.addr + 4 * k)) ∧ n = min 0x40000 ((hdrWord h 2).toNat / 4)
      ∧ p = (List.range n).map (fun k => s.rawWord (j.addr + 128 + 4 * k)) ∧ isSram s.variant (j.addr + 124 + 4 * n) = true
      ∧ (∀ k, k < 32 + n → GoodWord (j.addr + 4 * k) s) ∧ imageCond s h = 0 ∧ imageSigned h p = b ∧ j.spe < 2 := by
  refine ⟨⟨0, 0, 0⟩, goodHeader 0, [], 0, verifying, by decide +kernel, by decide +kernel, by decide +kernel, by decide +kernel,
    by decide +kernel, by decide +kernel, rfl, by decide +kernel, by unfold GoodWord; decide +kernel, ?_, hs, by decide⟩
  exact goodHeader_cond hk 0 _ rfl

end Sys2Proof.Tests
end

section
/-! Register keys and plain register writes (spec/03_pages.md R48 to R56): what a KEY write and a write to a register without a row of
its own do, case by case. -/

namespace Sys2Proof.Machine

/-! ## Frames -/

theorem rd_of_only {s t : State} (h : OnlyPageRegs [] s t) (a : Nat) : t.rd a = s.rd a := h.2 a (by simp)

theorem only_weaken {s t : State} (l : List Nat) (h : OnlyPageRegs [] s t) : OnlyPageRegs l s t :=
  ⟨h.1, fun a _ => rd_of_only h a⟩

/-- What the front of a command leaves: the debug port noted, the opening consumed. -/
theorem only_attach_consumeKey {s : State} {m : Master} (p : Nat) (l : List Nat) : OnlyPageRegs l s ((s.attach m).consumeKey p m) :=
  only_trans (only_attach s m l) (only_consumeKey _ p m l)

/-! ## Key state -/

theorem sysCycles_attach (s : State) (m : Master) : sysCycles (s.attach m) = sysCycles s := by rw [attach_eq]; rfl

/-- The keys of the pages and the clock they are timed by stay: no key sequence and no opening comes or goes. -/
def SameKeys (s t : State) : Prop := t.pages.keys = s.pages.keys ∧ t.power = s.power

theorem SameKeys.refl (s : State) : SameKeys s s := ⟨rfl, rfl⟩

theorem SameKeys.trans {s t u : State} (h1 : SameKeys s t) (h2 : SameKeys t u) : SameKeys s u :=
  ⟨h2.1.trans h1.1, h2.2.trans h1.2⟩

theorem SameKeys.ite {s t u : State} (c : Prop) [Decidable c] (h1 : SameKeys s t) (h2 : SameKeys s u) :
    SameKeys s (if c then t else u) := by
  split
  · exact h1
  · exact h2

theorem SameKeys.keyNow_eq {s t : State} (h : SameKeys s t) (p : Nat) : keyNow t p = keyNow s p :=
  keyNow_of_pages h.1 (by simp only [sysCycles, h.2]) p

theorem sameKeys_error (s : State) (base cls num detail : Nat) : SameKeys s (s.error base cls num detail) := by
  rw [error_eq]; exact SameKeys.refl s

theorem sameKeys_accessError (s : State) (a num : Nat) (m : Master) : SameKeys s (s.accessError a num m) := sameKeys_error ..

theorem sameKeys_controlError (s : State) (a num : Nat) (m : Master) : SameKeys s (s.controlError a num m) := sameKeys_error ..

/-- A write ends an opening that its master owns, and no other key state (R50). -/
theorem keyNow_consumeKey_eq (s : State) (p : Nat) (m : Master) :
    keyNow (s.consumeKey p m) p = if holdsOpening s p m then .idle else keyNow s p := by
  split
  · next h => exact keyNow_consumeKey h
  · next h => simp only [State.consumeKey, h, if_false, Bool.false_eq_true]

/-! ## Errors about the registers of a page's header -/

theorem accessError_header (s : State) {page off : Nat} (num : Nat) (m : Master) (hp : HeaderPage page) (ho : off < 0x1000) :
    s.accessError (pageAddr page + off) num m = s.error (pageAddr page) 0x01 num (errDetail (masterCode m) off) := by
  rw [State.accessError, pageOf_page page off hp.1 ho, mod_page page off ho]

theorem controlError_header (s : State) {page off : Nat} (num : Nat) (m : Master) (hp : HeaderPage page) (ho : off < 0x1000) :
    s.controlError (pageAddr page + off) num m = s.error (pageAddr page) 0x02 num (errDetail (masterCode m) off) := by
  rw [State.controlError, pageOf_page page off hp.1 ho, mod_page page off ho]

theorem only_pageError (s : State) (base cls num detail : Nat) :
    OnlyPageRegs [base + 0x20, base + 0x24] s (s.error base cls num detail) := only_error _ _ _ _ _ _ (by simp) (by simp)

section Header

variable {m : Master} {page off : Nat} {s : State}

/-- An error about a header register, found after the front of the command, is all that the command leaves. -/
theorem headerError_recorded {u : State} (cls num detail : Nat) (hu : OnlyPageRegs [] s u) :
    ErrorRecorded (pageAddr page) cls num detail s (u.error (pageAddr page) cls num detail)
      ∧ OnlyPageRegs [pageAddr page + 0x20, pageAddr page + 0x24] s (u.error (pageAddr page) cls num detail) :=
  ⟨error_recorded_of _ _ _ _ (rd_of_only hu), only_trans (only_weaken _ hu) (only_pageError ..)⟩

/-- A header command of a master that reaches the page acts on the state with the debug port noted. -/
theorem headerRow_completes {i : Instr} {f : State → State} {P : State → Prop} (hi : exec i s = .next (headerRow m page off f s))
    (hp : HeaderPage page) (h : Reaches m (pageAddr page + off) s) (hP : P (f (s.attach m))) : Completes i s P :=
  ⟨_, hi, by rwa [headerRow_reaches f hp h]⟩

end Header

/-! ## KEY writes -/

/-- The first key word starts a sequence that its master owns. -/
theorem keyWrite_idle {s : State} {page : Nat} (m : Master) (h : keyNow s page = .idle) :
    keyWrite m page 0x0000C0A7 s = s.setKey page (.first (masterCode m) (sysCycles s)) := by
  simp [keyWrite, h]

/-- The second key word of the owner opens one write. -/
theorem keyWrite_first {s : State} {page since : Nat} {m : Master} (h : keyNow s page = .first (masterCode m) since) :
    keyWrite m page 0x00003F58 s = s.setKey page (.opened (masterCode m) (sysCycles s)) := by
  simp [keyWrite, h]

/-- Every other KEY write clears the key state and is refused; the first key word written by the owner of an opening is none of them. -/
theorem keyWrite_refused {s : State} {page : Nat} {m : Master} {v : Word}
    (h : (keyNow s page = .idle ∧ v ≠ 0x0000C0A7)
      ∨ (∃ o since, keyNow s page = .first o since ∧ (o ≠ masterCode m ∨ v ≠ 0x00003F58))
      ∨ (∃ o since, keyNow s page = .opened o since ∧ (o ≠ masterCode m ∨ v ≠ 0x0000C0A7))) :
    keyWrite m page v s = (s.setKey page .idle).accessError (pageAddr page + 0x2C) 0x03 m := by
  obtain ⟨hk, hv⟩ | ⟨o, since, hk, hne⟩ | ⟨o, since, hk, hne⟩ := h
  · simp only [keyWrite, hk, hv, if_false]
  · have : ¬(o = masterCode m ∧ v = 0x00003F58) := fun ⟨ho, hv⟩ => hne.elim (· ho) (· hv)
    simp only [keyWrite, hk, this, if_false]
  · by_cases ho : o = masterCode m
    · have hv : v ≠ 0x0000C0A7 := hne.resolve_left fun h => h ho
      simp only [keyWrite, hk, ho, hv, if_true, if_false]
    · simp only [keyWrite, hk, ho, if_false]

theorem keySequenceLapse_first {s : State} {page o since : Nat} (h : tabGet s.pages.keys page .idle = .first o since) :
    keySequenceLapse page s = if since + 64 < sysCycles s then s.setKey page .idle else s := by
  simp only [keySequenceLapse, h]; rfl

theorem keyOpeningLapse_opened {s : State} {page o since : Nat} (h : tabGet s.pages.keys page .idle = .opened o since) :
    keyOpeningLapse page s = if since + 256 < sysCycles s then s.setKey page .idle else s := by
  simp only [keyOpeningLapse, h]; rfl

/-- A lapse takes away what its window has closed on, and nothing else. -/
theorem lapse_keys {s : State} {page : Nat} {k : KeyState} (c : Prop) [Decidable c] (h : tabGet s.pages.keys page .idle = k) :
    OnlyPageRegs [] s (if c then s.setKey page .idle else s)
      ∧ tabGet (if c then s.setKey page .idle else s).pages.keys page .idle = if c then .idle else k := by
  split
  · exact ⟨only_setKey s page .idle [], by simp only [State.setKey, tabGet_put_same]⟩
  · exact ⟨only_refl s [], h⟩

/-! ## A write to a register without a row of its own -/

theorem registerAt_attach {c : PageClass} {d : RegDef} {a : Nat} {s : State} (m : Master) (h : RegisterAt c d a s) :
    RegisterAt c d a (s.attach m) := by
  simpa only [RegisterAt, hasPage_attach] using h

theorem registerAt_offset {c : PageClass} {d : RegDef} {a : Nat} {s : State} (h : RegisterAt c d a s) : 0x040 ≤ a % 0x1000 := by
  obtain ⟨-, -, -, hoff, -⟩ := h
  exact hoff

/-- The bus carries an aligned write to such a register to the access-type rules of R9. -/
theorem busWrite_plain {c : PageClass} {d : RegDef} {a : Nat} {s : State} (m : Master) (v : Word) (hr : RegisterAt c d a s)
    (hp : PlainRow c d) : busWrite m a 4 v .none s = (true, genericWrite c d a m v s) := by
  obtain ⟨hreg, halign, hqueue, hoff, hpage, ⟨i, hclass⟩, ⟨k, hrow⟩⟩ := hr
  have hoff' : ¬ a % 0x1000 < 0x040 := by omega
  have herr : absentErrs s m a = false := by simp [absentErrs, hqueue, hpage]
  have hwrite : regSpaceWrite m a v s = genericWrite c d a m v s := by
    simp [regSpaceWrite, hqueue, hpage, hoff', hclass, hrow, hp k a m v s]
  simp [busWrite, hreg, halign, herr, hwrite]

theorem exec_registerWrite_plain {c : PageClass} {d : RegDef} {a : Nat} {m : Master} {s : State} (v : Word) (hr : RegisterAt c d a s)
    (hp : PlainRow c d) (h : Reaches m a s) :
    exec (.registerWrite m a v) s = .next ((genericWrite c d a m v (s.attach m)).answer 0 false) := by
  obtain ⟨hbus, hmay, -⟩ := h
  show Host.Outcome.next (mastered m a true (fun u => writeAnswered m a (busWrite m a 4 v .none u)) s) = _
  simp [mastered, hbus, hmay, busWrite_plain m v (registerAt_attach m hr) hp, writeAnswered]

/-- A write to a present RW, RWK or RWO register passes the common front and stores. -/
theorem genericWrite_stores {c : PageClass} {d : RegDef} {a : Nat} {s : State} (m : Master) (v : Word)
    (hk : d.kind = .rw ∨ d.kind = .rwk ∨ d.kind = .rwo) (hf : featureAbsent s.variant c (a % 0x1000) = false) :
    genericWrite c d a m v s = regWrite d a m v (plainStore d a) s := by
  obtain hk | hk | hk := hk <;> simp [genericWrite, hf, hk]

/-- A register of an absent feature ignores a write that sets no enable of it (R6). -/
theorem genericWrite_absent {c : PageClass} {d : RegDef} {a : Nat} {m : Master} {v : Word} {s : State}
    (hf : featureAbsent s.variant c (a % 0x1000) = true) (hv : v &&& featureEnables c d = 0) :
    genericWrite c d a m v s = s.consumeKey (pageOf a) m := by
  simp [genericWrite, hf, hv]

/-- The front of a register write ends the opening it uses; what the block then stores brings no key state of its own. -/
theorem regWrite_sameKeys (d : RegDef) (a : Nat) (m : Master) (v : Word) (eff : Word → State → State) (s : State)
    (he : ∀ w u, SameKeys u (eff w u)) : SameKeys (s.consumeKey (pageOf a) m) (regWrite d a m v eff s) := by
  have hfront := SameKeys.refl (s.consumeKey (pageOf a) m)
  have herror {u : State} (num : Nat) (h : SameKeys (s.consumeKey (pageOf a) m) u) :
      SameKeys (s.consumeKey (pageOf a) m) (u.accessError a num m) := h.trans (sameKeys_accessError ..)
  have hrefused (c1 c2 : Prop) [Decidable c1] [Decidable c2] (w : Word) :=
    have hkept := SameKeys.ite c1 hfront (he w (s.consumeKey (pageOf a) m))
    SameKeys.ite c2 (herror 0x02 hkept) hkept
  have hcrc {c : Prop} [Decidable c] {u : State} (h : SameKeys (s.consumeKey (pageOf a) m) u) :
      SameKeys (s.consumeKey (pageOf a) m) (if c then u.crcTouch (pageOf a) else u) := SameKeys.ite c h h
  exact hcrc (SameKeys.ite _ (hrefused _ _ _) (SameKeys.ite _ (hrefused _ _ _) (SameKeys.ite _ (herror 0x04 hfront) (he v _))))

theorem plainStore_sameKeys (d : RegDef) (a : Nat) (v : Word) (s : State) : SameKeys s (plainStore d a v s) := ⟨rfl, rfl⟩

/-- Whatever becomes of the write, it consumes an opening of its master, and no other's (R50). -/
theorem genericWrite_sameKeys {c : PageClass} {d : RegDef} {a : Nat} (m : Master) (v : Word) (s : State)
    (hk : d.kind = .rw ∨ d.kind = .rwk ∨ d.kind = .rwo) :
    SameKeys (s.consumeKey (pageOf a) m) (genericWrite c d a m v s) := by
  by_cases hf : featureAbsent s.variant c (a % 0x1000) = true
  · simp only [genericWrite, hf, if_true]
    split
    · exact sameKeys_controlError ..
    · exact SameKeys.refl _
  · rw [genericWrite_stores m v hk (by simpa using hf)]
    exact regWrite_sameKeys _ _ _ _ _ _ (plainStore_sameKeys d a)

/-! ## The commands -/

/-- A KEY write that only moves the key state touches no register word. -/
theorem keyWrite_accepted {m : Master} {page : Nat} {v : Word} {k : KeyState} {s : State} (hp : HeaderPage page)
    (h : Reaches m (pageAddr page + 0x02C) s) (hw : keyWrite m page v (s.attach m) = (s.attach m).setKey page k)
    (hk : keyNow ((s.attach m).setKey page k) page = k) :
    Completes (.keyWrite m page v) s fun t => keyNow t page = k ∧ OnlyPageRegs [] s t :=
  headerRow_completes rfl hp h (by rw [hw]; exact ⟨hk, only_trans (only_attach s m []) (only_setKey _ page k [])⟩)

theorem keyWrite_starts_sequence {m : Master} {page : Nat} {s : State} (hp : HeaderPage page) (h : Reaches m (pageAddr page + 0x02C) s)
    (hk : keyNow s page = .idle) : Completes (.keyWrite m page 0x0000C0A7) s fun t =>
      keyNow t page = .first (masterCode m) (sysCycles s) ∧ OnlyPageRegs [] s t := by
  rw [← sysCycles_attach s m]
  exact keyWrite_accepted hp h (keyWrite_idle m (by rwa [keyNow_attach])) (keyNow_setKey_first ..)

theorem keyWrite_opens {m : Master} {page since : Nat} {s : State} (hp : HeaderPage page) (h : Reaches m (pageAddr page + 0x02C) s)
    (hk : keyNow s page = .first (masterCode m) since) : Completes (.keyWrite m page 0x00003F58) s fun t =>
      keyNow t page = .opened (masterCode m) (sysCycles s) ∧ OnlyPageRegs [] s t := by
  rw [← sysCycles_attach s m]
  exact keyWrite_accepted hp h (keyWrite_first (by rwa [keyNow_attach])) (keyNow_setKey_opened ..)

theorem keyWrite_records_refusal {m : Master} {page : Nat} {v : Word} {s : State} (hp : HeaderPage page)
    (h : Reaches m (pageAddr page + 0x02C) s)
    (hk : (keyNow s page = .idle ∧ v ≠ 0x0000C0A7)
      ∨ (∃ o since, keyNow s page = .first o since ∧ (o ≠ masterCode m ∨ v ≠ 0x00003F58))
      ∨ (∃ o since, keyNow s page = .opened o since ∧ (o ≠ masterCode m ∨ v ≠ 0x0000C0A7))) :
    Completes (.keyWrite m page v) s fun t => keyNow t page = .idle
      ∧ ErrorRecorded (pageAddr page) 0x01 0x03 (errDetail (masterCode m) 0x02C) s t
      ∧ OnlyPageRegs [pageAddr page + 0x20, pageAddr page + 0x24] s t := by
  refine headerRow_completes rfl hp h ?_
  rw [keyWrite_refused (by rwa [keyNow_attach]), accessError_header _ _ _ hp (by decide)]
  refine ⟨?_, headerError_recorded _ _ _ (only_trans (only_attach s m []) (only_setKey _ page .idle []))⟩
  rw [(sameKeys_error ..).keyNow_eq, keyNow_setKey_idle]

section PlainWrite

variable {c : PageClass} {d : RegDef} {a : Nat} {m : Master} {s : State}

theorem registerWrite_consumes_opening (v : Word) (hr : RegisterAt c d a s) (hp : PlainRow c d) (h : Reaches m a s)
    (hk : d.kind = .rw ∨ d.kind = .rwk ∨ d.kind = .rwo) :
    Completes (.registerWrite m a v) s fun t =>
      keyNow t (pageOf a) = if holdsOpening s (pageOf a) m then .idle else keyNow s (pageOf a) := by
  refine ⟨_, exec_registerWrite_plain v hr hp h, ?_⟩
  calc keyNow ((genericWrite c d a m v (s.attach m)).answer 0 false) (pageOf a)
      = keyNow (genericWrite c d a m v (s.attach m)) (pageOf a) := rfl
    _ = keyNow ((s.attach m).consumeKey (pageOf a) m) (pageOf a) := (genericWrite_sameKeys m v _ hk).keyNow_eq _
    _ = _ := by rw [keyNow_consumeKey_eq, holdsOpening_attach, keyNow_attach]

/-- The command answers the state `u` that the common front leaves, with a good answer to the master. -/
theorem registerWrite_completes {v : Word} {u : State} {P : State → Prop} (hr : RegisterAt c d a s) (hp : PlainRow c d)
    (h : Reaches m a s) (hk : d.kind = .rw ∨ d.kind = .rwk ∨ d.kind = .rwo) (hf : featureAbsent s.variant c (a % 0x1000) = false)
    (hu : regWrite d a m v (plainStore d a) (s.attach m) = u) (hP : P (u.answer 0 false)) :
    Completes (.registerWrite m a v) s P := by
  refine ⟨_, exec_registerWrite_plain v hr hp h, ?_⟩
  rwa [genericWrite_stores m v hk (by rwa [attach_variant]), hu]

theorem registerWrite_stores {v : Word} (hr : RegisterAt c d a s) (hp : PlainRow c d) (h : Reaches m a s)
    (hk : d.kind = .rw ∨ d.kind = .rwk ∨ d.kind = .rwo) (hf : featureAbsent s.variant c (a % 0x1000) = false) (ha : Accepted d a m v s) :
    Completes (.registerWrite m a v) s fun t =>
      t.rd a = (s.rd a &&& ~~~d.mask) ||| (v &&& d.mask) ∧ OnlyPageRegs [a] s t
      ∧ (isConfig d = true → t.rd a ≠ s.rd a → tabGet t.pages.crcBusy (pageOf a) false = true) := by
  refine registerWrite_completes hr hp h hk hf (regWrite_accepted _ (accepted_attach ha)) ?_
  have hval : (plainStore d a v ((s.attach m).consumeKey (pageOf a) m)).rd a = (s.rd a &&& ~~~d.mask) ||| (v &&& d.mask) := by
    simp [plainStore, storeValue]
  have honly : OnlyPageRegs [a] s (plainStore d a v ((s.attach m).consumeKey (pageOf a) m)) :=
    only_trans (only_attach_consumeKey (pageOf a) [a]) (only_wr _ _ _ _ (by simp))
  split
  · refine ⟨hval, only_trans honly (only_trans (only_crcTouch _ _ _) (only_answer _ _ _ _)), fun _ _ => ?_⟩
    simp [State.answer, State.crcTouch, tabGet_put_same]
  · next hcrc =>
    refine ⟨hval, only_trans honly (only_answer _ _ _ _), fun hc hne => absurd ⟨hc, ?_⟩ hcrc⟩
    simpa using hne

/-- A refused write records its error and stores nothing. -/
theorem refusal_recorded (num : Nat) :
    ErrorRecorded (pageAddr (pageOf a)) 0x01 num (errDetail (masterCode m) (a % 0x1000)) s
        ((((s.attach m).consumeKey (pageOf a) m).accessError a num m).answer 0 false)
      ∧ OnlyPageRegs [pageAddr (pageOf a) + 0x20, pageAddr (pageOf a) + 0x24] s
        ((((s.attach m).consumeKey (pageOf a) m).accessError a num m).answer 0 false) :=
  ⟨recorded_answer _ _ (accessError_recorded _ _ _ _ _ (by simp)),
    only_trans (only_attach_consumeKey (pageOf a) _) (only_trans (only_accessError _ _ _ _) (only_answer _ _ _ _))⟩

end PlainWrite

end Sys2Proof.Machine

namespace Sys2Proof

open Machine

/-- Settles O1: by the cases of a KEY write, of the two lapses, and of the common front of a register write. -/
theorem keysAndPlainWrites : Obligations.KeysAndPlainWrites := by
  refine ⟨⟨?_, ?_, ?_⟩, ?_⟩
  · intro m page v s hp h
    refine ⟨?_, ?_, fun hk => keyWrite_records_refusal hp h hk⟩
    · rintro hk rfl
      exact keyWrite_starts_sequence hp h hk
    · rintro since hk rfl
      exact keyWrite_opens hp h hk
  · exact fun page o since s hk => ⟨_, rfl, by rw [keySequenceLapse_first hk]; exact lapse_keys _ hk⟩
  · exact fun page o since s hk => ⟨_, rfl, by rw [keyOpeningLapse_opened hk]; exact lapse_keys _ hk⟩
  · intro m a v c d s hr hp h hk
    have hoff := registerAt_offset hr
    refine ⟨registerWrite_consumes_opening v hr hp h hk, fun hf => ⟨?_, ?_, ?_⟩, fun hf hv => ?_⟩
    · exact registerWrite_stores hr hp h hk hf
    · intro hc hl hen
      exact registerWrite_completes hr hp h hk hf
        (regWrite_cfgLocked _ hoff hc (by rwa [cfgLocked_attach]) (by rwa [rd_attach])) (refusal_recorded 0x02)
    · intro hrwk hc hs ho
      exact registerWrite_completes hr hp h hk hf
        (regWrite_unopened _ hoff hrwk (by rwa [cfgLocked_attach]) (by rwa [safeLocked_attach]) (by rwa [holdsOpening_attach]))
        (refusal_recorded 0x04)
    · refine ⟨_, exec_registerWrite_plain v hr hp h, ?_⟩
      rw [genericWrite_absent (by rwa [attach_variant]) hv]
      exact only_trans (only_attach_consumeKey (pageOf a) []) (only_answer _ _ _ _)

end Sys2Proof
end

section
/-! The common page header (spec/03_pages.md R52, R57, R59 to R65, R70): what writes to LOCK, ERR_CNT, IRQ_STAT, IRQ_SET, CTRL and the SOFT
registers do, case by case. -/

namespace Sys2Proof.Machine

/-! ## Frames -/

theorem only_lockWritten (s : State) (x : List (Nat × Bool)) (l : List Nat) :
    OnlyPageRegs l s { s with pages := { s.pages with lockWritten := x } } := ⟨rfl, fun _ _ => rfl⟩

theorem flag_of_only {s t : State} (h : OnlyPageRegs [] s t) (a k : Nat) : t.flag a k = s.flag a k := by
  simp only [State.flag, rd_of_only h]

theorem fld_of_only {s t : State} (h : OnlyPageRegs [] s t) (a lo len : Nat) : t.fld a lo len = s.fld a lo len := by
  simp only [State.fld, rd_of_only h]

theorem lcRule_of_only {s t : State} (h : OnlyPageRegs [] s t) : lcRule t = lcRule s := by
  have hsec : t.sec = s.sec := by rw [h.1]
  have hstate : lcState t = lcState s := fld_of_only h ..
  simp only [lcRule, hstate, hsec]

/-- Trust in an engine's program memory rests on SEC.LC_STATE and on the security block, which stay. -/
theorem speTrusted_of_only {s t : State} (h : OnlyPageRegs [] s t) (n : Nat) : speTrusted t n = speTrusted s n := by
  have hsec : t.sec = s.sec := by rw [h.1]
  simp only [speTrusted, lcRule_of_only h, hsec]

theorem putBit_self {w : Word} {k : Nat} {b : Bool} (hb : bit w k = b) : putBit w k b = w := by
  refine BitVec.eq_of_getLsbD_eq fun i hi => ?_
  by_cases hik : i = k
  · subst hik
    exact (bit_putBit_same w i b hi).trans hb.symm
  · exact bit_putBit_other w k i b hik hi

theorem only_setFlag_self {s : State} {a k : Nat} {b : Bool} (h : s.flag a k = b) : OnlyPageRegs [] s (s.setFlag a k b) := by
  refine ⟨rfl, fun x _ => ?_⟩
  by_cases hx : x = a
  · rw [hx, rd_setFlag_same, putBit_self h]
  · exact rd_setFlag_other _ _ _ _ _ hx

/-- The bits of a field of three: STAT.ACTIVE, STOPPING and IDLE. -/
theorem flag_of_fld_three {s : State} {a n : Nat} (h : s.fld a 0 3 = n) (k : Nat) (hk : k < 3) : s.flag a k = n.testBit k := by
  rw [← h, State.fld, testBit_bits, Nat.zero_add, decide_eq_true hk, Bool.true_and]; rfl

/-! ## LOCK, ERR_CNT, IRQ_STAT, IRQ_SET, SOFT -/

section Header

variable {m : Master} {page : Nat} {s : State}

theorem regRow_completes {i : Instr} {a : Nat} {f : State → State} {P : State → Prop} (hi : exec i s = .next (regRow m a f s))
    (h : Reaches m a s) (hP : P (f (s.attach m))) : Completes i s P :=
  ⟨_, hi, by rwa [regRow_reaches f h]⟩

theorem lockWritten_attach : (s.attach m).pages.lockWritten = s.pages.lockWritten := by unfold State.attach; split <;> rfl

/-- The first write of LOCK after a reset stores both bits (R52). -/
theorem lockWrite_first {v : Word} (hw : tabGet s.pages.lockWritten page false = false) :
    (lockWrite m page v s).rd (pageAddr page + 0x28) = v &&& 0x3 ∧ tabGet (lockWrite m page v s).pages.lockWritten page false = true
      ∧ OnlyPageRegs [pageAddr page + 0x28] s (lockWrite m page v s) := by
  simp only [lockWrite, hw, Bool.false_eq_true, if_false]
  have honly (x : List (Nat × Bool)) : OnlyPageRegs [pageAddr page + 0x28] s
      (({ s.consumeKey page m with pages := { (s.consumeKey page m).pages with lockWritten := x } } : State).wr
        (pageAddr page + 0x28) (v &&& 0x3)) :=
    only_trans (only_consumeKey s page m _) (only_trans (only_lockWritten _ x _) (only_wr _ _ _ _ (by simp)))
  split
  · exact ⟨rd_wr_same .., by simp [tabGet_put_same], honly _⟩
  · exact ⟨rd_wr_same .., by simp [State.crcTouch, tabGet_put_same], only_trans (honly _) (only_crcTouch _ _ _)⟩

theorem lockWrite_again {v : Word} (hw : tabGet s.pages.lockWritten page false = true) :
    lockWrite m page v s = (s.consumeKey page m).accessError (pageAddr page + 0x28) 0x05 m := by
  simp only [lockWrite, hw, if_true]

theorem lockWrite_stores (hp : HeaderPage page) (v : Word) (h : Reaches m (pageAddr page + 0x028) s)
    (hw : tabGet s.pages.lockWritten page false = false) :
    Completes (.lockWrite m page v) s fun t => t.rd (pageAddr page + 0x028) = v &&& 0x3
      ∧ tabGet t.pages.lockWritten page false = true ∧ OnlyPageRegs [pageAddr page + 0x028] s t := by
  obtain ⟨hrd, hwritten, honly⟩ := lockWrite_first (m := m) (s := s.attach m) (v := v) (by rwa [lockWritten_attach])
  exact headerRow_completes rfl hp h ⟨hrd, hwritten, only_trans (only_attach s m _) honly⟩

theorem lockWrite_refused (hp : HeaderPage page) (v : Word) (h : Reaches m (pageAddr page + 0x028) s)
    (hw : tabGet s.pages.lockWritten page false = true) :
    Completes (.lockWrite m page v) s fun t => ErrorRecorded (pageAddr page) 0x01 0x05 (errDetail (masterCode m) 0x028) s t
      ∧ OnlyPageRegs [pageAddr page + 0x20, pageAddr page + 0x24] s t := by
  refine headerRow_completes rfl hp h ?_
  rw [lockWrite_again (by rwa [lockWritten_attach]), accessError_header _ _ _ hp (by decide)]
  exact headerError_recorded _ _ _ (only_attach_consumeKey page [])

theorem errCntClear_zero (hp : HeaderPage page) {v : Word} (h : Reaches m (pageAddr page + 0x024) s) (hv : bits v 0 16 = 0) :
    Completes (.errCntClear m page v) s fun t => t.rd (pageAddr page + 0x24) = 0 ∧ t.rd (pageAddr page + 0x20) = 0
      ∧ OnlyPageRegs [pageAddr page + 0x20, pageAddr page + 0x24] s t := by
  refine headerRow_completes rfl hp h ?_
  simp only [errCntWrite, hv, if_true]
  refine ⟨?_, rd_wr_same .., ?_⟩
  · rw [rd_wr_other _ _ _ _ (by omega), rd_wr_same]
  · exact only_trans (only_attach_consumeKey page _) (only_trans (only_wr _ _ _ _ (by simp)) (only_wr _ _ _ _ (by simp)))

theorem errCntClear_other (hp : HeaderPage page) {v : Word} (h : Reaches m (pageAddr page + 0x024) s) (hv : bits v 0 16 ≠ 0) :
    Completes (.errCntClear m page v) s (OnlyPageRegs [] s) := by
  refine headerRow_completes rfl hp h ?_
  simp only [errCntWrite, hv, if_false]
  exact only_attach_consumeKey page []

/-- A register word written after the front of a command, as a function of what it held, is all that changes. -/
theorem front_wr_only (p a : Nat) (w : Word) : (((s.attach m).consumeKey p m).wr a w).rd a = w
    ∧ OnlyPageRegs [a] s (((s.attach m).consumeKey p m).wr a w) :=
  ⟨rd_wr_same .., only_trans (only_attach_consumeKey p [a]) (only_wr _ _ _ _ (by simp))⟩

theorem irqStatClear_clears (hp : HeaderPage page) (v : Word) (h : Reaches m (pageAddr page + 0x018) s) :
    Completes (.irqStatClear m page v) s fun t =>
      t.rd (pageAddr page + 0x018) = s.rd (pageAddr page + 0x018) &&& ~~~v ∧ OnlyPageRegs [pageAddr page + 0x018] s t := by
  refine headerRow_completes rfl hp h ?_
  obtain ⟨hrd, honly⟩ := front_wr_only (m := m) (s := s) page (pageAddr page + 0x018) (s.rd (pageAddr page + 0x018) &&& ~~~v)
  simp only [irqStatClear, rd_attach]
  exact ⟨hrd, only_trans honly (only_srcRefresh _ _)⟩

theorem irqSet_latches (hp : HeaderPage page) (v : Word) (h : Reaches m (pageAddr page + 0x01C) s) :
    Completes (.irqSet m page v) s fun t =>
      t.rd (pageAddr page + 0x018) = s.rd (pageAddr page + 0x018) ||| (v &&& pageCauses page)
      ∧ OnlyPageRegs [pageAddr page + 0x018] s t := by
  refine headerRow_completes rfl hp h ?_
  simp only [irqSet, rd_attach]
  exact front_wr_only ..

theorem softSet_sets (v : Word) (h : Reaches m Reg.EVT_SOFT_SET s) : Completes (.softSet m v) s fun t =>
    t.rd Reg.EVT_SOFT = s.rd Reg.EVT_SOFT ||| (v &&& 0xF) ∧ OnlyPageRegs [Reg.EVT_SOFT] s t := by
  refine regRow_completes rfl h ?_
  simp only [softSet, rd_attach]
  exact front_wr_only ..

theorem softClear_clears (v : Word) (h : Reaches m Reg.EVT_SOFT s) : Completes (.softClear m v) s fun t =>
    t.rd Reg.EVT_SOFT = s.rd Reg.EVT_SOFT &&& ~~~(v &&& 0xF) ∧ OnlyPageRegs [Reg.EVT_SOFT] s t := by
  refine regRow_completes rfl h ?_
  obtain ⟨hrd, honly⟩ := front_wr_only (m := m) (s := s) 0x05 Reg.EVT_SOFT (s.rd Reg.EVT_SOFT &&& ~~~(v &&& 0xF))
  simp only [softClear, rd_attach]
  exact ⟨hrd, only_trans honly (only_srcRefresh _ _)⟩

end Header

/-! ## EN and ABORT of CTRL -/

section Control

variable {m : Master} {page i : Nat} {c : PageClass} {v : Word} {s : State}

theorem ctrlAddr_ne_statAddr (page : Nat) : ctrlAddr page ≠ statAddr page := by unfold ctrlAddr statAddr; omega

/-- EN written to an IDLE block that may start: CTRL.EN and STAT.ACTIVE, then what the block does of its own. -/
theorem enWrite_idle (hen : bit v 0 = true) (hst : s.fld (statAddr page) 0 3 = 4) (hax : c = .ax → s.flag (Reg.PWM_CFG i) 4 = true)
    (hspe : c = .spe → speTrusted s i = true) :
    enWrite m page c i v s = blockEnable c i ((s.setFlag (ctrlAddr page) 0 true).blockTo page 1) := by
  have hactive : s.flag (statAddr page) 0 = false := flag_of_fld_three hst 0 (by decide)
  have hstopping : s.flag (statAddr page) 1 = false := flag_of_fld_three hst 1 (by decide)
  have hax' : ¬(c = .ax ∧ s.flag (Reg.PWM_CFG i) 4 = false) := fun h => by simp [hax h.1] at h
  have hspe' : ¬(c = .spe ∧ speTrusted s i = false) := fun h => by simp [hspe h.1] at h
  simp only [enWrite, hen, hactive, hstopping, enSet, hax', hspe', if_true, if_false, Bool.false_eq_true]

theorem enWrite_while_stopping (hen : bit v 0 = true) (habort : bit v 3 = false) (hst : s.flag (statAddr page) 1 = true) :
    enWrite m page c i v s = s.controlError (ctrlAddr page) 0x01 m := by
  simp only [enWrite, hen, habort, hst, if_true, if_false, Bool.false_eq_true]

theorem enWrite_active (hen : bit v 0 = true) (hst : s.fld (statAddr page) 0 3 = 1) : enWrite m page c i v s = s := by
  have hactive : s.flag (statAddr page) 0 = true := flag_of_fld_three hst 0 (by decide)
  have hstopping : s.flag (statAddr page) 1 = false := flag_of_fld_three hst 1 (by decide)
  simp only [enWrite, hen, hactive, hstopping, if_true, if_false, Bool.false_eq_true]

theorem enWrite_clear_active (hen : bit v 0 = false) (hst : s.flag (statAddr page) 0 = true) :
    enWrite m page c i v s = enClear page c i (bit v 3) s := by
  simp only [enWrite, hen, hst, if_true, if_false, Bool.false_eq_true]

theorem enWrite_clear_idle (hen : bit v 0 = false) (hst : s.fld (statAddr page) 0 3 = 4) : enWrite m page c i v s = s := by
  have hactive : s.flag (statAddr page) 0 = false := flag_of_fld_three hst 0 (by decide)
  have hstopping : s.flag (statAddr page) 1 = false := flag_of_fld_three hst 1 (by decide)
  simp only [enWrite, hen, hactive, hstopping, if_false, Bool.false_eq_true, Bool.false_and]

theorem enWrite_abort (hen : bit v 0 = false) (habort : bit v 3 = true) (hst : s.fld (statAddr page) 0 3 = 2) :
    enWrite m page c i v s = blockAbort c i page s := by
  have hactive : s.flag (statAddr page) 0 = false := flag_of_fld_three hst 0 (by decide)
  have hstopping : s.flag (statAddr page) 1 = true := flag_of_fld_three hst 1 (by decide)
  simp only [enWrite, hen, habort, hactive, hstopping, if_true, if_false, Bool.false_eq_true, Bool.and_self]

/-- A write to CTRL that resets nothing and freezes nothing goes to EN and ABORT. -/
theorem ctrlWrite_enWrite (hclass : pageClass page = some (c, i)) (hcox : c ≠ .cox) (haon : c ≠ .aon) (hreset : bit v 1 = false)
    (hfreeze : bit v 2 = false) :
    ctrlWrite m page v s = enWrite m page c i v ((s.consumeKey page m).setFlag (ctrlAddr page) 2 false) := by
  simp [ctrlWrite, hclass, hcox, haon, hreset, hfreeze, freezeWrite]

/-- What the EN and ABORT bits of the write then meet differs from the state before in key state alone, where no FREEZE was set. -/
theorem only_ctrlFront (hfreeze : s.flag (ctrlAddr page) 2 = false) :
    OnlyPageRegs [] s (((s.attach m).consumeKey page m).setFlag (ctrlAddr page) 2 false) := by
  have hfront := only_attach_consumeKey (m := m) (s := s) page []
  exact only_trans hfront (only_setFlag_self (by rwa [flag_of_only hfront]))

theorem fld_blockTo (s : State) (page : Nat) {st : Nat} (hst : st < 8) : (s.blockTo page st).fld (statAddr page) 0 3 = st := by
  rw [State.fld, State.blockTo, rd_setFld_same, bits_putBits_same _ _ _ _ (by decide)]
  exact Nat.mod_eq_of_lt hst

/-- CTRL.EN and the state field of STAT after they are set together. -/
theorem setEn_blockTo {u : State} (hu : OnlyPageRegs [] s u) (en : Bool) {st : Nat} (hst : st < 8) :
    OnlyPageRegs [ctrlAddr page, statAddr page] s ((u.setFlag (ctrlAddr page) 0 en).blockTo page st)
      ∧ ((u.setFlag (ctrlAddr page) 0 en).blockTo page st).flag (ctrlAddr page) 0 = en
      ∧ ((u.setFlag (ctrlAddr page) 0 en).blockTo page st).fld (statAddr page) 0 3 = st := by
  refine ⟨?_, ?_, fld_blockTo _ page hst⟩
  · exact only_trans (only_weaken _ hu) (only_trans (only_setFlag _ _ _ _ _ (by simp)) (only_setFld _ _ _ _ _ _ (by simp)))
  · rw [State.flag, State.blockTo, rd_setFld_other _ _ _ _ _ _ (ctrlAddr_ne_statAddr page), rd_setFlag_same,
      bit_putBit_same _ _ _ (by decide)]

section CtrlCommand

variable (hclass : pageClass page = some (c, i)) (hp : HeaderPage page) (h : Reaches m (ctrlAddr page) s) (hcox : c ≠ .cox)
  (haon : c ≠ .aon) (hreset : bit v 1 = false) (hfreeze : bit v 2 = false) (habort : bit v 3 = false)
  (hfrozen : s.flag (ctrlAddr page) 2 = false)
include hclass hp h hcox haon hreset hfreeze hfrozen

/-- A command that writes `v` to CTRL with EN or ABORT replaced, neither resetting nor freezing, answers what EN and ABORT do. -/
theorem ctrlRow_completes {e : Instr} {P : State → Prop} {k : Nat} {b : Bool} (hk : 1 ≠ k ∧ 2 ≠ k)
    (he : exec e s = .next (ctrlRow m page (putBit v k b) s)) (hP : ∀ u, OnlyPageRegs [] s u → P (enWrite m page c i (putBit v k b) u)) :
    Completes e s P := by
  refine ⟨_, he, ?_⟩
  rw [ctrlRow_reaches _ hp h, ctrlWrite_enWrite hclass hcox haon (by rwa [bit_putBit_other _ _ _ _ hk.1 (by decide)])
    (by rwa [bit_putBit_other _ _ _ _ hk.2 (by decide)])]
  exact hP _ (only_ctrlFront hfrozen)

theorem ctrlEnSet_starts (hst : s.fld (statAddr page) 0 3 = 4) (hax : c = .ax → s.flag (Reg.PWM_CFG i) 4 = true)
    (hspe : c = .spe → speTrusted s i = true) :
    Completes (.ctrlEnSet m page v) s fun t => ∃ u, t = blockEnable c i u ∧ OnlyPageRegs [ctrlAddr page, statAddr page] s u
      ∧ u.flag (ctrlAddr page) 0 = true ∧ u.fld (statAddr page) 0 3 = 1 := by
  refine ctrlRow_completes hclass hp h hcox haon hreset hfreeze hfrozen (by decide) rfl fun u hu => ?_
  rw [enWrite_idle (bit_putBit_same _ _ _ (by decide)) (by rwa [fld_of_only hu]) (by rwa [flag_of_only hu])
    (by rwa [speTrusted_of_only hu])]
  exact ⟨_, rfl, setEn_blockTo hu true (by decide)⟩

theorem ctrlEnSet_while_active (hst : s.fld (statAddr page) 0 3 = 1) :
    Completes (.ctrlEnSet m page v) s (OnlyPageRegs [] s) := by
  refine ctrlRow_completes hclass hp h hcox haon hreset hfreeze hfrozen (by decide) rfl fun u hu => ?_
  rwa [enWrite_active (bit_putBit_same _ _ _ (by decide)) (by rwa [fld_of_only hu])]

theorem ctrlEnClear_while_idle (hst : s.fld (statAddr page) 0 3 = 4) : Completes (.ctrlEnClear m page v) s (OnlyPageRegs [] s) := by
  refine ctrlRow_completes hclass hp h hcox haon hreset hfreeze hfrozen (by decide) rfl fun u hu => ?_
  rwa [enWrite_clear_idle (bit_putBit_same _ _ _ (by decide)) (by rwa [fld_of_only hu])]

theorem ctrlAbort_while_stopping (hst : s.fld (statAddr page) 0 3 = 2) (hen : bit v 0 = false) :
    Completes (.ctrlAbort m page v) s fun t => ∃ u, t = blockAbort c i page u ∧ OnlyPageRegs [] s u := by
  refine ctrlRow_completes hclass hp h hcox haon hreset hfreeze hfrozen (by decide) rfl fun u hu => ?_
  rw [enWrite_abort (by rwa [bit_putBit_other _ _ _ _ (by decide) (by decide)]) (bit_putBit_same _ _ _ (by decide))
    (by rwa [fld_of_only hu])]
  exact ⟨u, rfl, hu⟩

include habort

theorem ctrlEnSet_while_stopping (hst : s.flag (statAddr page) 1 = true) : Completes (.ctrlEnSet m page v) s fun t =>
    ErrorRecorded (pageAddr page) 0x02 0x01 (errDetail (masterCode m) 0x008) s t
      ∧ OnlyPageRegs [pageAddr page + 0x20, pageAddr page + 0x24] s t := by
  refine ctrlRow_completes hclass hp h hcox haon hreset hfreeze hfrozen (by decide) rfl fun u hu => ?_
  rw [enWrite_while_stopping (bit_putBit_same _ _ _ (by decide)) (by rwa [bit_putBit_other _ _ _ _ (by decide) (by decide)])
    (by rwa [flag_of_only hu]), ctrlAddr, controlError_header _ _ _ hp (by decide)]
  exact headerError_recorded _ _ _ hu

theorem ctrlEnClear_stops (hst : s.flag (statAddr page) 0 = true) : Completes (.ctrlEnClear m page v) s fun t =>
    ∃ u, t = blockDisable c i page false u ∧ OnlyPageRegs [ctrlAddr page, statAddr page] s u
      ∧ u.flag (ctrlAddr page) 0 = false ∧ u.fld (statAddr page) 0 3 = 2 := by
  refine ctrlRow_completes hclass hp h hcox haon hreset hfreeze hfrozen (by decide) rfl fun u hu => ?_
  rw [enWrite_clear_active (bit_putBit_same _ _ _ (by decide)) (by rwa [flag_of_only hu]),
    bit_putBit_other _ _ _ _ (by decide) (by decide), habort]
  exact ⟨_, rfl, setEn_blockTo hu false (by decide)⟩

end CtrlCommand

/-- A stopping block other than the axis and the SPE is IDLE once its unit has ended. -/
theorem blockTo_idle (s : State) (page : Nat) :
    (s.blockTo page 4).fld (statAddr page) 0 3 = 4 ∧ OnlyRegs [statAddr page] s (s.blockTo page 4) :=
  ⟨fld_blockTo s page (by decide), rfl, fun b hb => rd_setFld_other _ _ _ _ _ _ (by simpa using hb)⟩

theorem stopComplete_axis (hclass : pageClass page = some (.ax, i)) (hst : s.flag (statAddr page) 1 = true)
    (hunit : unitDone .ax i s = true) : stopComplete page s = axisOff i s := by
  simp only [stopComplete, hclass, hst, hunit, Bool.and_self, if_true]

theorem stopComplete_spe (hclass : pageClass page = some (.spe, i)) (hst : s.flag (statAddr page) 1 = true)
    (hunit : unitDone .spe i s = true) : stopComplete page s = speStopIfRest i s := by
  simp only [stopComplete, hclass, hst, hunit, Bool.and_self, if_true]

/-- `hax` and `hspe` leave the last arm of the classes. -/
theorem stopComplete_other (hclass : pageClass page = some (c, i)) (hax : c ≠ .ax) (hspe : c ≠ .spe)
    (hst : s.flag (statAddr page) 1 = true) (hunit : unitDone c i s = true) : stopComplete page s = s.blockTo page 4 := by
  simp only [stopComplete, hclass, hst, hunit, Bool.and_self, if_true]

theorem stopComplete_completes (hclass : pageClass page = some (c, i)) (hrun : frozen s page = false)
    (hst : s.flag (statAddr page) 1 = true) (hunit : unitDone c i s = true) :
    Completes (.stopComplete page) s fun t =>
      (c ≠ .ax → c ≠ .spe → t.fld (statAddr page) 0 3 = 4 ∧ OnlyRegs [statAddr page] s t)
      ∧ (c = .ax → t = axisOff i s) ∧ (c = .spe → t = speStopIfRest i s) := by
  refine ⟨_, rfl, ?_⟩
  rw [live_running _ hrun]
  refine ⟨fun hax hspe => ?_, ?_, ?_⟩
  · rw [stopComplete_other hclass hax hspe hst hunit]
    exact blockTo_idle s page
  · rintro rfl
    exact stopComplete_axis hclass hst hunit
  · rintro rfl
    exact stopComplete_spe hclass hst hunit

end Control

end Sys2Proof.Machine

namespace Sys2Proof

open Machine

/-- Settles O2: by the header register that is written, then by the state of the block that EN and ABORT meet. -/
theorem headerEnableAndStop : Obligations.HeaderEnableAndStop := by
  refine ⟨fun m page v s => ⟨fun hp => ⟨?_, ?_, ?_, ?_, ?_, ?_⟩, ?_, ?_⟩, fun m page i c v s hclass hp => ⟨?_, ?_⟩⟩
  · exact lockWrite_stores hp v
  · exact lockWrite_refused hp v
  · exact errCntClear_zero hp
  · exact errCntClear_other hp
  · exact irqStatClear_clears hp v
  · exact irqSet_latches hp v
  · exact softSet_sets v
  · exact softClear_clears v
  · intro h hcox haon hreset hfreeze habort hfrozen
    exact ⟨ctrlEnSet_starts hclass hp h hcox haon hreset hfreeze hfrozen,
      ctrlEnSet_while_stopping hclass hp h hcox haon hreset hfreeze habort hfrozen,
      ctrlEnSet_while_active hclass hp h hcox haon hreset hfreeze hfrozen,
      ctrlEnClear_stops hclass hp h hcox haon hreset hfreeze habort hfrozen,
      ctrlEnClear_while_idle hclass hp h hcox haon hreset hfreeze hfrozen,
      ctrlAbort_while_stopping hclass hp h hcox haon hreset hfreeze hfrozen⟩
  · exact stopComplete_completes hclass

end Sys2Proof
end

section
/-! What resets the device and what ends the hold (spec/04_clocks_power.md R82, R85, R86): the reset pins, the reset key and the rise of the
supplies, case by case. -/

namespace Sys2Proof.Machine

/-! ## Reset pins (R85) -/

section Pins

variable {ns : Nat} {s : State}

theorem porstNLow_filtered (hns : ns < 1000) : porstNLow ns s = s := by simp only [porstNLow, hns, if_true]

/-- In any state but BEACHED, a low of 10 µs or longer resets and ends the hold of FAULT_N. -/
theorem porstNLow_resets (hns : 10000 ≤ ns) (hst : s.fld Reg.PWR_STATE 0 3 ≠ 5) :
    porstNLow ns s = { deviceReset 0x00000002 s with power := { (deviceReset 0x00000002 s).power with wakeFault := false } } := by
  have hlong : ¬ns < 1000 := by omega
  simp only [porstNLow, hlong, hst, hns, false_and, if_false, if_true]

theorem resetPinLow_filtered (hns : ns < 1000) (hdrive : drivesResetN s = false) : resetPinLow ns s = s := by
  simp only [resetPinLow, hdrive, hns, Bool.false_eq_true, if_false, if_true]

theorem resetPinLow_resets (hns : 1000 ≤ ns) (hdrive : drivesResetN s = false) :
    resetPinLow ns s = { deviceReset 0x00000004 s with
      power := { (deviceReset 0x00000004 s).power with resetLow := max (deviceReset 0x00000004 s).power.resetLow ns } } := by
  have hlong : ¬ns < 1000 := by omega
  simp only [resetPinLow, hdrive, hlong, Bool.false_eq_true, if_false]

/-- A low that meets a driven RESET_N is no reset source: it holds LOGIC_RDY back until 1 µs after its end. -/
theorem resetPinLow_while_driven (hns : 0 < ns) (hdrive : drivesResetN s = true) :
    resetPinLow ns s = { s with power := { s.power with resetLow := max s.power.resetLow (ns + 1000) } } := by
  have hpos : ns ≠ 0 := by omega
  simp only [resetPinLow, hdrive, hpos, if_true, if_false]

end Pins

/-! ## Writes to a register outside PAGE_CRC and without safety-relevant fields -/

/-- An accepted write to such a register leaves what its effect leaves: PAGE_CRC is not due. -/
theorem regWrite_accepted_operational {d : RegDef} {a : Nat} {m : Master} {v : Word} {s : State} (eff : Word → State → State)
    (hc : isConfig d = false) (h : Accepted d a m v s) : regWrite d a m v eff s = eff v (s.consumeKey (pageOf a) m) := by
  have hcrc : ¬(isConfig d = true ∧ (eff v (s.consumeKey (pageOf a) m)).rd a ≠ s.rd a) := by simp [hc]
  rw [regWrite_accepted eff h, if_neg hcrc]

/-- Where no lock can refuse the write, the want of an opening does, whatever the locks of the page (R51, R53). -/
theorem regWrite_unopened_operational {d : RegDef} {a : Nat} {m : Master} {v : Word} {s : State} (eff : Word → State → State)
    (hk : d.kind = .rwk) (hc : isConfig d = false) (hsafe : d.safe = []) (ho : holdsOpening s (pageOf a) m = false) :
    regWrite d a m v eff s = (s.consumeKey (pageOf a) m).accessError a 0x04 m := by
  have hmoves : safeMoves d (s.rd a) (storeValue d (s.rd a) v) = true := by simp only [safeMoves, hsafe, List.all_nil]
  simp only [regWrite, hk, hc, hmoves, ho, Bool.false_and, Bool.not_true, Bool.and_false, Bool.false_eq_true, false_and, and_self,
    if_false, if_true]

/-! ## The reset key (R86) -/

section ResetKey

variable {m : Master} {v : Word} {s : State}

theorem rstKey_not_config : isConfig (defOf .sys 0x054) = false := rfl

/-- No lock concerns RST_KEY: its only condition is the opening. -/
theorem rstKey_accepted (ho : holdsOpening s 0x00 m = true) : Accepted (defOf .sys 0x054) Reg.SYS_RST_KEY m v s :=
  ⟨fun hc => absurd hc (by simp [rstKey_not_config]), fun _ => rfl, fun _ => ho⟩

theorem rstKeyWrite_opened (ho : holdsOpening s 0x00 m = true) :
    rstKeyWrite m v s = if v = 0x0000A5C3 then deviceReset 0x00000010 (s.consumeKey 0x00 m)
      else (s.consumeKey 0x00 m).blockError Reg.SYS_RST_KEY 0x01 m :=
  regWrite_accepted_operational _ rstKey_not_config (rstKey_accepted ho)

theorem rstKeyWrite_unopened (ho : holdsOpening s 0x00 m = false) :
    rstKeyWrite m v s = (s.consumeKey 0x00 m).accessError Reg.SYS_RST_KEY 0x04 m :=
  regWrite_unopened_operational _ rfl rstKey_not_config rfl ho

theorem rstKey_resets (h : Reaches m Reg.SYS_RST_KEY s) (ho : holdsOpening s 0x00 m = true) :
    Completes (.rstKey m 0x0000A5C3) s fun t => t = deviceReset 0x00000010 ((s.attach m).consumeKey 0x00 m) := by
  refine regRow_completes rfl h ?_
  rw [rstKeyWrite_opened (by rwa [holdsOpening_attach]), if_pos rfl]

theorem rstKey_other_value (h : Reaches m Reg.SYS_RST_KEY s) (ho : holdsOpening s 0x00 m = true) (hv : v ≠ 0x0000A5C3) :
    Completes (.rstKey m v) s fun t => ErrorRecorded Reg.SYS 0x03 0x01 (errDetail (masterCode m) 0x054) s t
      ∧ OnlyPageRegs [Reg.SYS + 0x20, Reg.SYS + 0x24] s t := by
  refine regRow_completes rfl h ?_
  rw [rstKeyWrite_opened (by rwa [holdsOpening_attach]), if_neg hv]
  exact headerError_recorded (page := 0x00) 0x03 0x01 _ (only_attach_consumeKey 0x00 [])

theorem rstKey_unopened (h : Reaches m Reg.SYS_RST_KEY s) (ho : holdsOpening s 0x00 m = false) :
    Completes (.rstKey m v) s fun t => ErrorRecorded Reg.SYS 0x01 0x04 (errDetail (masterCode m) 0x054) s t
      ∧ OnlyPageRegs [Reg.SYS + 0x20, Reg.SYS + 0x24] s t := by
  refine regRow_completes rfl h ?_
  rw [rstKeyWrite_unopened (by rwa [holdsOpening_attach])]
  exact headerError_recorded (page := 0x00) 0x01 0x04 _ (only_attach_consumeKey 0x00 [])

end ResetKey

/-! ## The rise of the supplies (R82) -/

/-- The hold ends and the wake starts, before any cause is recorded; of the supplies, VBAT alone may stay below its threshold. -/
def leaveHold (s : State) : State :=
  { s with power := { s.power with under := s.power.under.filter (fun y => decide (y = .vbat)), phase := .waking 6 1 1 false 0,
                                   aonLost := false } }

section PowerUp

variable {s : State} (h : s.power.phase = .held)
include h

/-- A first power-up adds POR and PORST (R84). -/
theorem powerUp_held : powerUp s =
    if s.power.aonLost then (leaveHold s).wr Reg.SYS_RST_CAUSE (s.rd Reg.SYS_RST_CAUSE ||| 0x3) else leaveHold s := by
  simp only [powerUp, h, if_true]
  rfl

theorem powerUp_only : OnlyRegs [Reg.SYS_RST_CAUSE] (leaveHold s) (powerUp s) := by
  rw [powerUp_held h]
  split
  · exact ⟨rfl, fun a ha => rd_wr_other _ _ _ _ (by simpa using ha)⟩
  · exact ⟨rfl, fun _ _ => rfl⟩

theorem rd_powerUp_cause : (powerUp s).rd Reg.SYS_RST_CAUSE
    = if s.power.aonLost then s.rd Reg.SYS_RST_CAUSE ||| 0x3 else s.rd Reg.SYS_RST_CAUSE := by
  rw [powerUp_held h]
  split
  · exact rd_wr_same ..
  · rfl

theorem powerUp_completes : Completes .powerUp s fun t =>
    t.power.phase = .waking 6 1 1 false 0 ∧ (∀ x ∈ t.power.under, x = .vbat)
      ∧ t.rd Reg.SYS_RST_CAUSE = (if s.power.aonLost then s.rd Reg.SYS_RST_CAUSE ||| 0x3 else s.rd Reg.SYS_RST_CAUSE)
      ∧ SameRegsBut [Reg.SYS_RST_CAUSE] s t ∧ SameMemory s t := by
  obtain ⟨heq, hregs⟩ := powerUp_only h
  have hpower : (powerUp s).power = (leaveHold s).power := (congrArg State.power heq :)
  have hmem : (powerUp s).mem = s.mem := (congrArg State.mem heq :)
  refine ⟨_, rfl, by rw [hpower]; rfl, ?_, rd_powerUp_cause h, hregs, fun a => congrArg (memGet · a) hmem⟩
  rw [hpower]
  exact fun x hx => of_decide_eq_true (List.mem_filter.mp hx).2

end PowerUp

end Sys2Proof.Machine

namespace Sys2Proof

open Machine

/-- Settles O6: by the length of a low of each reset pin, by the opening and the value of a write to RST_KEY, and by the end of the hold. -/
theorem resetSources : Obligations.ResetSources := by
  refine ⟨fun ns s => ⟨?_, ?_, ?_, ?_, ?_⟩, fun m v s h => ⟨?_, ?_, ?_⟩, fun s h => powerUp_completes h⟩
  · exact fun hns hst => ⟨_, rfl, porstNLow_resets hns hst⟩
  · exact fun hns => ⟨_, rfl, porstNLow_filtered hns⟩
  · exact fun hns hdrive => ⟨_, rfl, resetPinLow_resets hns hdrive⟩
  · exact fun hns hdrive => ⟨_, rfl, resetPinLow_filtered hns hdrive⟩
  · exact fun hns hdrive => ⟨_, rfl, resetPinLow_while_driven hns hdrive⟩
  · rintro ho rfl
    exact rstKey_resets h ho
  · exact rstKey_other_value h
  · exact rstKey_unopened h

end Sys2Proof
end

section
/-! The off reaction and the start-up tests of the Cox (spec/05_cox.md R101 to R108, R113; spec/06_memory.md R134): what a C3 reaction, the end
of STOP_TIME, a software fault, AUTO_RESET and the end of a start-up test leave in the Cox. -/

namespace Sys2Proof.Machine

/-! ## What the actuators and the logs leave of the Cox -/

/-- Registers, actuator channels, boost rails and free values alone have moved, and of the registers below those of the actuators, the Cox and
its fault map among them, only the ones in the list. -/
structure CoxKept (l : List Nat) (s t : State) : Prop where
  rest : t = { s with regs := t.regs, acts := t.acts, bsts := t.bsts, freeCtr := t.freeCtr }
  rd : ∀ a, a < 0x40012000 → a ∉ l → t.rd a = s.rd a

namespace CoxKept

variable {l : List Nat} {s t u : State}

theorem refl (s : State) : CoxKept l s s := ⟨rfl, fun _ _ _ => rfl⟩

theorem trans (h1 : CoxKept l s t) (h2 : CoxKept l t u) : CoxKept l s u := by
  refine ⟨?_, fun a ha hl => (h2.rd a ha hl).trans (h1.rd a ha hl)⟩
  have h := h2.rest
  rw [h1.rest] at h
  exact h

theorem ite (c : Prop) [Decidable c] (h1 : CoxKept l s t) (h2 : CoxKept l s u) : CoxKept l s (if c then t else u) := by
  split
  · exact h1
  · exact h2

theorem foldl {α : Type} {f : State → α → State} (h : ∀ u x, CoxKept l u (f u x)) : ∀ (xs : List α) (s : State), CoxKept l s (xs.foldl f s)
  | [], s => refl s
  | x :: xs, s => (h s x).trans (foldl h xs (f s x))

theorem cox_eq (h : CoxKept l s t) : t.cox = s.cox := (congrArg State.cox h.rest :)
theorem mem_eq (h : CoxKept l s t) : t.mem = s.mem := (congrArg State.mem h.rest :)
theorem ecc_eq (h : CoxKept l s t) : t.ecc = s.ecc := (congrArg State.ecc h.rest :)

theorem of_mem {a : Nat} (v : Word) (ha : a ∈ l) : CoxKept l s (s.wr a v) :=
  ⟨rfl, fun _ _ hb => rd_wr_other _ _ _ _ (fun e => hb (e ▸ ha))⟩

theorem wr {a : Nat} (v : Word) (ha : 0x40012000 ≤ a) : CoxKept l s (s.wr a v) :=
  ⟨rfl, fun _ hb _ => rd_wr_other _ _ _ _ (by omega)⟩

theorem setFld {a : Nat} (lo len v : Nat) (ha : 0x40012000 ≤ a) : CoxKept l s (s.setFld a lo len v) := wr _ ha
theorem setFlag {a : Nat} (k : Nat) (b : Bool) (ha : 0x40012000 ≤ a) : CoxKept l s (s.setFlag a k b) := wr _ ha
theorem cause {base : Nat} (k : Nat) (hb : 0x40012000 ≤ base) : CoxKept l s (s.cause base k) := setFlag _ _ (Nat.le_add_right_of_le hb)

theorem level {base : Nat} (k : Nat) (b : Bool) (hb : 0x40012000 ≤ base) : CoxKept l s (s.level base k b) :=
  (ite _ (cause k hb) (refl s)).trans (setFlag _ _ (Nat.le_add_right_of_le hb))

/-! ### Channels -/

theorem high_chReg {base : Nat} (k : Nat) (hb : 0x40012000 ≤ base) :
    0x40012000 ≤ chReg (fun n j => base + 0x1000 * n + 512 * j) k := by
  show 0x40012000 ≤ base + 0x1000 * (k / 8) + 512 * (k % 8)
  omega

theorem setChan (k : Nat) (c : ActChan) : CoxKept l s (s.setChan k c) := ⟨rfl, fun _ _ _ => rfl⟩
theorem chSet (k b : Nat) (v : Bool) : CoxKept l s (s.chSet k b v) := setFlag _ _ (high_chReg k (by decide))
theorem chTo (k st : Nat) : CoxKept l s (s.chTo k st) := setFld _ _ _ (high_chReg k (by decide))

theorem chCause (k b : Nat) : CoxKept l s (s.chCause k b) :=
  (setFlag b true (high_chReg k (by decide))).trans (level _ _ (Nat.le_add_right_of_le (by decide)))

theorem chCauseIf (c : Bool) (k b : Nat) : CoxKept l s (s.chCauseIf c k b) := ite _ (chCause k b) (refl s)

theorem diagResult (k how : Nat) (failed : Bool) : CoxKept l s (diagResult k how failed s) := by
  have hstat : 0x40012000 ≤ chReg Reg.ACTG_DIAG_STAT k := high_chReg k (by decide)
  have hfront := (setFld (l := l) (s := s) 30 2 how hstat).trans ((setFld 0 16 0 hstat).trans (chSet k 3 false))
  unfold Machine.diagResult
  split
  · exact hfront.trans (ite _ ((setChan ..).trans ((chSet ..).trans (chCause ..))) (setChan ..))
  · exact hfront.trans ((setChan ..).trans (chSet ..))

theorem diagPeriod (k : Nat) (closing : Bool) : CoxKept l s (diagPeriod k closing s) := by
  have hstat : 0x40012000 ≤ chReg Reg.ACTG_DIAG_STAT k := high_chReg k (by decide)
  unfold Machine.diagPeriod
  refine (setChan k _).trans (ite _ ?_ (refl _))
  refine ite _ (diagResult ..) (ite _ (diagResult ..) ((setFld 0 16 _ hstat).trans (ite _ ?_ (refl _))))
  exact (ite _ (refl _) ((chSet k 3 true).trans (chCause k 7))).trans (ite _ (setChan ..) (refl _))

theorem setGate (k : Nat) (b : Bool) : CoxKept l s (setGate k b s) :=
  ite _ (refl s) (ite _ ((diagPeriod ..).trans (setChan ..)) (setChan ..))

theorem endPattern (k : Nat) : CoxKept l s (endPattern k s) := ((setGate k false).trans (setChan ..)).trans (setChan ..)

theorem commandClosed (k : Nat) : CoxKept l s (commandClosed k s) := (chSet k 0 false).trans (chSet k 1 false)

theorem patternClosed (k st : Nat) : CoxKept l s ((Machine.commandClosed k (Machine.endPattern k s)).chTo k st) :=
  (endPattern k).trans ((commandClosed k).trans (chTo k st))

theorem chanStart (k : Nat) : CoxKept l s (chanStart k s) :=
  (setChan k _).trans ((chSet k 8 false).trans (wr _ (high_chReg k (by decide))))

theorem chanRefresh (k : Nat) : CoxKept l s (chanRefresh k s) :=
  ite _ (ite _ ((chanStart k).trans (chTo ..)) (ite _ (ite _ (refl s) (patternClosed ..)) (ite _ (chTo ..) (refl s))))
    (ite _ (refl s) (patternClosed ..))

theorem answerOpen (k code : Nat) : CoxKept l s (answerOpen k code s) :=
  (setFld 24 4 code (high_chReg k (by decide))).trans (chCauseIf ..)

theorem actRestrict : CoxKept l s (actRestrict s) :=
  foldl (fun _ _ => ite _ ((patternClosed _ 1).trans (answerOpen _ 3)) (refl _)) _ s

/-! ### Boost controllers -/

theorem setBst (x : Nat) (b : Boost) : CoxKept l s (s.setBst x b) := ⟨rfl, fun _ _ _ => rfl⟩

theorem setBst_wr_stat (x : Nat) (b : Boost) (v : Word) : CoxKept l s ((s.setBst x b).wr (Reg.BST_X_STAT x) v) :=
  (setBst x b).trans (wr v (Nat.le_add_right_of_le (by decide)))

theorem bstRefresh (x : Nat) : CoxKept l s (bstRefresh x s) :=
  ite _ (setBst_wr_stat ..) (ite _ (setBst_wr_stat ..) (ite _ (setBst_wr_stat ..)
    (ite _ (ite _ (setBst ..) (refl s)) (ite _ (setBst ..) (refl s)))))

theorem actForcing : CoxKept l s (actForcing s) :=
  (foldl (fun _ k => chanRefresh k) _ s).trans (foldl (fun _ x => bstRefresh x) _ _)

/-! ### RESTRICT and the log of the memories -/

theorem coxRefresh : CoxKept [Reg.COX_RESTRICT] s (coxRefresh s) :=
  (of_mem _ (by simp)).trans (ite _ actRestrict (refl _))

theorem marchLog (a : Nat) : CoxKept l s (marchLog a s) :=
  have hlog : 0x40012000 ≤ Reg.MEM_LOG (4 * s.fld Reg.MEM_LOG_IDX 0 4) := Nat.le_add_right_of_le (by decide)
  ((wr _ hlog).trans (wr _ (Nat.le_add_right_of_le hlog))).trans ((wr _ (Nat.le_add_right_of_le hlog)).trans
    ((wr _ (Nat.le_add_right_of_le hlog)).trans (wr _ (by decide))))

theorem drawn : CoxKept l s s.drawn := ⟨rfl, fun _ _ _ => rfl⟩

end CoxKept

/-! ## Reading the Cox after a step -/

section Reading

variable {s t : State}

theorem coxState_of_rd (h : t.rd (Reg.COX + 0x00C) = s.rd (Reg.COX + 0x00C)) : coxState t = coxState s := by
  simp only [coxState, State.fld, h]

theorem flag_of_rd {a : Nat} (h : t.rd a = s.rd a) (k : Nat) : t.flag a k = s.flag a k := by
  simp only [State.flag, h]

/-- Whether the Cox runs rests on the power phase, PWR.STATE and the security block. -/
theorem coxAlive_congr (hpower : t.power = s.power) (hsec : t.sec = s.sec) (hrd : t.rd Reg.PWR_STATE = s.rd Reg.PWR_STATE) :
    coxAlive t = coxAlive s := by
  unfold coxAlive
  rw [hpower, hsec, State.fld, State.fld, hrd]

theorem coxState_coxTo (s : State) {st : Nat} (hst : st < 16) : coxState (s.coxTo st) = st := by
  rw [coxState, State.fld, State.coxTo, rd_setFld_same, bits_putBits_same _ _ _ _ (by decide)]
  exact Nat.mod_eq_of_lt hst

theorem rd_pathsOff (s : State) (a : Nat) : (pathsOff s).rd a = s.rd a := rd_with_cox s _ a

theorem coxState_coxRefresh (s : State) : coxState (coxRefresh s) = coxState s :=
  coxState_of_rd (CoxKept.coxRefresh.rd _ (by decide) (by decide))

end Reading

/-! ## The off reaction (R101, R104, R106) -/

/-- OFF with both paths at their safe levels (R29). -/
def InOff (t : State) : Prop := coxState t = 5 ∧ t.cox.safeOffN = false ∧ t.cox.safePulse = false ∧ t.cox.actSen = []

section Off

variable {s : State}

/-- The words of an aborted CHECK (R108): CHECK_RES alone may change, and in neither INIT nor CHECK nothing does. -/
theorem checkAborted_res (s : State) : ∃ w, checkAborted s = s.wr Reg.COX_CHECK_RES w ∨ checkAborted s = s := by
  by_cases h1 : coxState s = 1
  · exact ⟨_, .inl (if_pos h1)⟩
  · by_cases h0 : coxState s = 0
    · exact ⟨_, .inl ((if_neg h1).trans (if_pos h0))⟩
    · exact ⟨0, .inr ((if_neg h1).trans (if_neg h0))⟩

theorem checkAborted_cox (s : State) : (checkAborted s).cox = s.cox := by
  obtain ⟨w, h | h⟩ := checkAborted_res s <;> rw [h]
  rfl

theorem rd_checkAborted_other (s : State) {a : Nat} (ha : a ≠ Reg.COX_CHECK_RES) : (checkAborted s).rd a = s.rd a := by
  obtain ⟨w, h | h⟩ := checkAborted_res s <;> rw [h]
  exact rd_wr_other _ _ _ _ ha

theorem checkAborted_later (h : 2 ≤ coxState s) : checkAborted s = s := by
  have h0 : coxState s ≠ 0 := by omega
  have h1 : coxState s ≠ 1 := by omega
  simp only [checkAborted, h0, h1, if_false]

/-- The Cox as it enters OFF; `early` where a line of 0 to 4 is latched. -/
def coxAtOff (early : Bool) (s : State) : Cox :=
  { (pathsOff s).cox with test := 0, stopEnd := none, offSince := if early then some s.cox.ps else none }

/-- OFF is entered, before actuators and boost follow the forcing of the pads. -/
def offEntered (s : State) : State :=
  { pathsOff (checkAborted s) with
    cox := coxAtOff (decide (bits ((pathsOff (checkAborted s)).rd (Reg.COX_LATCH 0)) 0 5 ≠ 0)) (checkAborted s) }

theorem toOff_eq (h : coxState s ≠ 5) : toOff s = actForcing ((offEntered s).coxTo 5) := by
  simp only [toOff, h, if_false]
  rfl

theorem rd_offEntered (s : State) (a : Nat) : (offEntered s).rd a = (checkAborted s).rd a := by
  rw [offEntered, rd_with_cox, rd_pathsOff]

theorem offEntered_cox (s : State) : (offEntered s).cox = coxAtOff (decide (bits (s.rd (Reg.COX_LATCH 0)) 0 5 ≠ 0)) s := by
  have hlatch : (pathsOff (checkAborted s)).rd (Reg.COX_LATCH 0) = s.rd (Reg.COX_LATCH 0) := by
    rw [rd_pathsOff, rd_checkAborted_other s (by decide)]
  calc (offEntered s).cox = coxAtOff (decide (bits (s.rd (Reg.COX_LATCH 0)) 0 5 ≠ 0)) (checkAborted s) := by rw [offEntered, hlatch]
    _ = coxAtOff (decide (bits (s.rd (Reg.COX_LATCH 0)) 0 5 ≠ 0)) s := by
      simp only [coxAtOff, pathsOff, driveSen, drivePath2, checkAborted_cox]

theorem toOff_cox (h : coxState s ≠ 5) : (toOff s).cox = coxAtOff (decide (bits (s.rd (Reg.COX_LATCH 0)) 0 5 ≠ 0)) s := by
  rw [toOff_eq h, (CoxKept.actForcing (l := [])).cox_eq]
  exact offEntered_cox s

theorem rd_toOff_other (h : coxState s ≠ 5) {a : Nat} (ha : a < 0x40012000) (hres : a ≠ Reg.COX_CHECK_RES ∨ 2 ≤ coxState s)
    (hst : a ≠ Reg.COX + 0x00C) : (toOff s).rd a = s.rd a := by
  rw [toOff_eq h, (CoxKept.actForcing (l := [])).rd a ha (by simp), State.coxTo, rd_setFld_other _ _ _ _ _ _ hst,
    rd_offEntered]
  rcases hres with hres | hres
  · exact rd_checkAborted_other s hres
  · rw [checkAborted_later hres]

theorem toOff_inOff (h : coxState s ≠ 5) : InOff (toOff s) := by
  refine ⟨?_, ?_⟩
  · rw [toOff_eq h, coxState_of_rd ((CoxKept.actForcing (l := [])).rd _ (by decide) (by simp)), coxState_coxTo _ (by decide)]
  · rw [toOff_cox h]
    exact ⟨rfl, rfl, rfl⟩

theorem inOff_coxRefresh (h : InOff s) : InOff (coxRefresh s) := by
  unfold InOff
  rw [coxState_coxRefresh, CoxKept.coxRefresh.cox_eq]
  exact h

/-- A reaction of class C3, in any state but for line 15 in CHECK. -/
theorem react_c3 {n cls : Nat} (hcls : 3 ≤ cls) (h15 : ¬(n = 15 ∧ coxState s = 1)) : react n cls s = toOff s := by
  have h0 : cls ≠ 0 := by omega
  have h1 : cls ≠ 1 := by omega
  have h2 : cls ≠ 2 := by omega
  simp only [react, h15, h0, h1, h2, false_and, if_false]

/-- A reaction of class C2 or C3 in SAFE. -/
theorem react_severe_in_safe {n cls : Nat} (hcls : 2 ≤ cls) (hst : coxState s = 2) : react n cls s = toOff s := by
  have h0 : cls ≠ 0 := by omega
  have h1 : cls ≠ 1 := by omega
  simp [react, hst, h0, h1]

/-- A reaction of class C0 or C1 latches its cause, and no more. -/
theorem react_mild {n cls : Nat} (hcls : cls < 2) (h15 : ¬(n = 15 ∧ coxState s = 1)) : ∃ k, react n cls s = s.cause Reg.COX k := by
  obtain rfl | rfl : cls = 0 ∨ cls = 1 := by omega
  · exact ⟨0, by simp only [react, h15, if_false, if_true]⟩
  · exact ⟨1, by simp only [react, h15, if_false, if_true, Nat.one_ne_zero]⟩

theorem react_c3_off {n cls : Nat} (hcls : 3 ≤ cls) (hst : coxState s ≠ 5) (h15 : ¬(n = 15 ∧ coxState s = 1)) :
    InOff (coxRefresh (react n cls s))
      ∧ (coxRefresh (react n cls s)).cox.offSince = if bits (s.rd (Reg.COX_LATCH 0)) 0 5 ≠ 0 then some s.cox.ps else none := by
  rw [react_c3 hcls h15]
  refine ⟨inOff_coxRefresh (toOff_inOff hst), ?_⟩
  rw [CoxKept.coxRefresh.cox_eq, toOff_cox hst]
  simp only [coxAtOff, decide_eq_true_eq]

theorem coxStopTimeout_off {e : Nat} (he : s.cox.stopEnd = some e) (hps : e ≤ s.cox.ps) (hst : coxState s = 4) :
    InOff (coxStopTimeout s) := by
  simp only [coxStopTimeout, he, hst, hps, and_self, if_true]
  exact inOff_coxRefresh (toOff_inOff (by omega))

end Off

/-! ## Software faults and AUTO_RESET (R106, R113) -/

theorem lineActive_lineCount {n : Nat} {s : State} (present : Bool) (hn : n < 96) (halive : coxAlive s = true)
    (habsent : lineAbsent s.variant n = false) : lineActive (lineCount n present s).1 n = present := by
  have hrd : (lineCount n present s).1.rd (Reg.COX_ACTIVE (n / 32))
      = (s.setFlag (Reg.COX_ACTIVE (n / 32)) (n % 32) present).rd (Reg.COX_ACTIVE (n / 32)) := by
    simp only [lineCount, hn, halive, habsent, and_self, if_true]
    split
    · split
      · rfl
      · split <;> rfl
    · rfl
  rw [lineActive, flag_of_rd hrd, State.flag, rd_setFlag_same, bit_putBit_same _ _ _ (Nat.mod_lt _ (by decide))]

theorem coxAlive_attach_consumeKey (s : State) (m : Master) (p : Nat) : coxAlive ((s.attach m).consumeKey p m) = coxAlive s := by
  have hpages := only_attach_consumeKey (s := s) (m := m) p []
  exact coxAlive_congr (congrArg State.power hpages.1 :) (congrArg State.sec hpages.1 :) (rd_of_only hpages _)

/-- Lines 94 and 95 have no unit that a variant lacks. -/
theorem swFault_present (v : Variant) : lineAbsent v 94 = false ∧ lineAbsent v 95 = false := by cases v <;> decide

/-- The software's check of line `n`: the line is active while the Cox runs, and latches by its count. -/
theorem swFault_check {n : Nat} {m : Master} {s : State} (hn : n < 96) (habsent : ∀ v, lineAbsent v n = false) :
    ∃ r, r = lineCount n true ((s.attach m).consumeKey 0x10 m) ∧ (coxAlive s = true → lineActive r.1 n = true)
      ∧ lineCheck n true ((s.attach m).consumeKey 0x10 m) = if r.2 then latchLine n r.1 else r.1 :=
  ⟨_, rfl, fun ha => lineActive_lineCount true hn (by rwa [coxAlive_attach_consumeKey]) (habsent _), rfl⟩

theorem coxAutoReset_due {e : Nat} {s : State} (he : s.cox.offSince = some e) (hps : e + 10000000000 ≤ s.cox.ps) (hst : coxState s = 5) :
    coxAutoReset s = if s.flag Reg.COX_CFG 8 then deviceReset 0x00000008 s else s := by
  simp only [coxAutoReset, he, hst, psPerMs, Nat.reduceMul, hps, true_and]

/-! ## The words of CHECK_RES (R108) -/

/-- CHECK_RES at the end of CHECK from its word `r`: the failed tests, PASS and DONE, and the duration `d`. -/
def resDone (r : Word) (d : Nat) : Word :=
  putBits (putBits (r &&& 0x3F) 30 2 (if decide (bits r 0 6 = 0) then 3 else 2)) 16 9 d

theorem bit_resDone_test (r : Word) (d : Nat) {k : Nat} (hk : k < 6) : bit (resDone r d) k = bit r k := by
  have hmask : (0x3F : Word).getLsbD k = true := (by decide : ∀ j < 6, (0x3F : Word).getLsbD j = true) k hk
  rw [resDone, bit_putBits_other _ _ _ _ _ (by omega) (by omega), bit_putBits_other _ _ _ _ _ (by omega) (by omega), bit,
    BitVec.getLsbD_and, hmask, Bool.and_true, bit]

theorem bit_resDone_aborted (r : Word) (d : Nat) : bit (resDone r d) 29 = false := by
  rw [resDone, bit_putBits_other _ _ _ _ _ (by omega) (by omega), bit_putBits_other _ _ _ _ _ (by omega) (by omega), bit,
    BitVec.getLsbD_and]
  exact Bool.and_false _

theorem bit_resDone_pass (r : Word) (d : Nat) : bit (resDone r d) 30 = decide (bits r 0 6 = 0) := by
  rw [resDone, bit_putBits_other _ _ _ _ _ (by omega) (by omega), bit, getLsbD_putBits _ _ _ _ _ (by omega), if_pos (by omega)]
  split <;> simp_all

theorem bit_resDone_done (r : Word) (d : Nat) : bit (resDone r d) 31 = true := by
  rw [resDone, bit_putBits_other _ _ _ _ _ (by omega) (by omega), bit, getLsbD_putBits _ _ _ _ _ (by omega), if_pos (by omega)]
  split <;> rfl

/-- A test's bit makes the field of the failed tests other than 0. -/
theorem bits_ne_zero_of_bit {r : Word} {lo len k : Nat} (hk : k < len) (h : bit r (lo + k) = true) : bits r lo len ≠ 0 := by
  intro h0
  have hbit := testBit_bits r lo len k
  rw [h0, Nat.zero_testBit, decide_eq_true hk, Bool.true_and] at hbit
  exact Bool.false_ne_true (hbit.trans h)

/-! ## A latch (R102, R112) -/

section Latch

variable {n : Nat} {s : State}

theorem rd_coxFirst_other (n : Nat) (s : State) {a : Nat} (ha : a < 0x40010070 ∨ 0x40010080 ≤ a) : (coxFirst n s).rd a = s.rd a := by
  have hfirst : ∀ k, a ≠ 0x40010070 + k ∨ 12 ≤ k := fun k => by omega
  unfold coxFirst
  split
  · rfl
  · rw [State.wr64, rd_wr_other _ _ _ _ ((hfirst 8).resolve_right (by decide)),
      rd_wr_other _ _ _ _ ((hfirst 4).resolve_right (by decide)), rd_wr_other _ _ _ _ ((hfirst 0).resolve_right (by decide))]

theorem rd_coxLog_other (n cls st : Nat) (s : State) {a : Nat} (ha : a < 0x40010400) (hidx : a ≠ Reg.COX_LOG_IDX) :
    (coxLog n cls st s).rd a = s.rd a := by
  have hlog : ∀ k, a ≠ 0x40010400 + k := fun k => by omega
  rw [coxLog, rd_wr_other _ _ _ _ hidx, rd_wr_other _ _ _ _ (hlog _), rd_wr_other _ _ _ _ (hlog _)]

theorem rd_markLatch (n : Nat) (s : State) {a : Nat} (ha : a < 0x40010070 ∨ 0x40010080 ≤ a) (hlog : a < 0x40010400) :
    (markLatch n s).rd a = (s.setFlag (Reg.COX_LATCH (n / 32)) (n % 32) true).rd a := by
  have hidx : a ≠ 0x4001007C := by omega
  exact (rd_coxFirst_other _ _ ha).trans (rd_coxLog_other _ _ _ _ hlog hidx)

theorem lineLatched_markLatch (hn : n < 96) (s : State) : lineLatched (markLatch n s) n = true := by
  have ha : 0x40010064 + 4 * (n / 32) < 0x40010070 := by omega
  rw [lineLatched, flag_of_rd (rd_markLatch n s (.inl ha) (Nat.lt_trans ha (by decide))), State.flag, rd_setFlag_same,
    bit_putBit_same _ _ _ (Nat.mod_lt _ (by decide))]

theorem coxFirst_rest (n : Nat) (s : State) : coxFirst n s = { s with regs := (coxFirst n s).regs } := by
  unfold coxFirst
  split <;> rfl

theorem markLatch_test (n : Nat) (s : State) : (markLatch n s).cox.test = s.cox.test := (congrArg (·.cox.test) (coxFirst_rest n _) :)
theorem markLatch_mem (n : Nat) (s : State) : (markLatch n s).mem = s.mem := (congrArg State.mem (coxFirst_rest n _) :)
theorem markLatch_ecc (n : Nat) (s : State) : (markLatch n s).ecc = s.ecc := (congrArg State.ecc (coxFirst_rest n _) :)

end Latch

/-! ## A failed test (R107, R108) -/

/-- The failure of the test in progress is in CHECK_RES. -/
def failureNoted (s : State) : State := s.setFlag Reg.COX_CHECK_RES (s.cox.test - 1) true

/-- The failure of the test in progress is in CHECK_RES and line 15 is latched; in CHECK it does not act. -/
def testFailed (s : State) : State := if lineLatched (failureNoted s) 15 then failureNoted s else latchLine 15 (failureNoted s)

/-- CHECK goes on after a failed test: the failure stands in CHECK_RES, line 15 is latched, the test is still the one in progress and the
memories stay. -/
structure FailureKept (s t : State) : Prop where
  state : coxState t = coxState s
  res : t.rd Reg.COX_CHECK_RES = putBit (s.rd Reg.COX_CHECK_RES) (s.cox.test - 1) true
  latched : lineLatched t 15 = true
  test : t.cox.test = s.cox.test
  mem : t.mem = s.mem
  ecc : t.ecc = s.ecc

section Failed

variable {s : State}

theorem rd_failureNoted_other (s : State) {a : Nat} (ha : a ≠ Reg.COX_CHECK_RES) : (failureNoted s).rd a = s.rd a :=
  rd_setFlag_other _ _ _ _ _ ha

theorem lineLatched_failureNoted (s : State) (n : Nat) (hn : n < 96) : lineLatched (failureNoted s) n = lineLatched s n := by
  have ha : 0x40010064 + 4 * (n / 32) ≠ 0x40010080 := by omega
  exact flag_of_rd (rd_failureNoted_other s ha) _

theorem coxState_failureNoted (s : State) : coxState (failureNoted s) = coxState s :=
  coxState_of_rd (rd_failureNoted_other s (by decide))

theorem testFailed_latched (h : lineLatched s 15 = true) : testFailed s = failureNoted s := by
  rw [testFailed, lineLatched_failureNoted _ _ (by decide), if_pos h]

/-- In CHECK line 15 latches without a reaction (R108). -/
theorem testFailed_unlatched (h : lineLatched s 15 = false) (hst : coxState s = 1) :
    testFailed s = coxRefresh (markLatch 15 (failureNoted s)) := by
  have hcheck : coxState (markLatch 15 (failureNoted s)) = 1 := by
    rw [coxState_of_rd (rd_markLatch _ _ (.inl (by decide)) (by decide)),
      coxState_of_rd (rd_setFlag_other _ _ _ _ _ (by decide)), coxState_failureNoted, hst]
  have hreact : ∀ cls, react 15 cls (markLatch 15 (failureNoted s)) = markLatch 15 (failureNoted s) := fun cls => by
    simp only [react, hcheck, and_self, if_true]
  rw [testFailed, lineLatched_failureNoted _ _ (by decide), h, latchLine, hreact, if_neg Bool.false_ne_true]

theorem failureKept_noted (h : lineLatched s 15 = true) : FailureKept s (failureNoted s) where
  state := coxState_failureNoted s
  res := rd_setFlag_same ..
  latched := by rw [lineLatched_failureNoted _ _ (by decide), h]
  test := rfl
  mem := rfl
  ecc := rfl

theorem failureKept_marked (s : State) : FailureKept s (coxRefresh (markLatch 15 (failureNoted s))) where
  state := by
    rw [coxState_coxRefresh, coxState_of_rd (rd_markLatch _ _ (.inl (by decide)) (by decide)),
      coxState_of_rd (rd_setFlag_other _ _ _ _ _ (by decide)), coxState_failureNoted]
  res := by
    rw [CoxKept.coxRefresh.rd _ (by decide) (by decide), rd_markLatch _ _ (.inr (by decide)) (by decide),
      rd_setFlag_other _ _ _ _ _ (by decide)]
    exact rd_setFlag_same ..
  latched := by
    rw [lineLatched, flag_of_rd (CoxKept.coxRefresh.rd _ (by decide) (by decide))]
    exact lineLatched_markLatch (by decide) _
  test := by rw [CoxKept.coxRefresh.cox_eq, markLatch_test]; rfl
  mem := by rw [CoxKept.coxRefresh.mem_eq, markLatch_mem]; rfl
  ecc := by rw [CoxKept.coxRefresh.ecc_eq, markLatch_ecc]; rfl

theorem testFailed_kept (hst : coxState s = 1) : FailureKept s (testFailed s) := by
  cases h : lineLatched s 15 with
  | true => rw [testFailed_latched h]; exact failureKept_noted h
  | false => rw [testFailed_unlatched h hst]; exact failureKept_marked s

theorem FailureKept.flag_test {t : State} (h : FailureKept s t) (hk : s.cox.test ≤ 6) :
    t.flag Reg.COX_CHECK_RES (s.cox.test - 1) = true := by
  rw [State.flag, h.res, bit_putBit_same _ _ _ (by omega)]

end Failed

/-! ## The end of CHECK (R104, R108) -/

section End

variable {s : State}

/-- The duration that CHECK_RES reports, in 100 µs. -/
def checkDuration (s : State) : Nat := min 0x1FF ((s.cox.ps - s.cox.checkStart) / (100 * psPerUs))

/-- CHECK_RES holds the result and no test is in progress. -/
def resultWritten (s : State) : State :=
  { s.wr Reg.COX_CHECK_RES (resDone (s.rd Reg.COX_CHECK_RES) (checkDuration s)) with cox := { s.cox with test := 0 } }

/-- CHECK has ended in SAFE with both paths at their safe levels, before a held line 15 acts. -/
def checkClosed (s : State) : State := pathsOff ((resultWritten s).coxTo 2)

theorem coxState_checkClosed (s : State) : coxState (checkClosed s) = 2 := by
  rw [checkClosed, coxState_of_rd (rd_pathsOff _ _), coxState_coxTo _ (by decide)]

theorem rd_resultWritten (s : State) (a : Nat) : (resultWritten s).rd a
    = (s.wr Reg.COX_CHECK_RES (resDone (s.rd Reg.COX_CHECK_RES) (checkDuration s))).rd a := rfl

theorem rd_checkClosed_other (s : State) {a : Nat} (ha : a ≠ Reg.COX + 0x00C) : (checkClosed s).rd a = (resultWritten s).rd a := by
  rw [checkClosed, rd_pathsOff, State.coxTo, rd_setFld_other _ _ _ _ _ _ ha]

theorem rd_checkClosed_res (s : State) :
    (checkClosed s).rd Reg.COX_CHECK_RES = resDone (s.rd Reg.COX_CHECK_RES) (checkDuration s) := by
  rw [rd_checkClosed_other s (by decide), rd_resultWritten, rd_wr_same]

theorem rd_checkClosed_latch (s : State) : (checkClosed s).rd (Reg.COX_LATCH 0) = s.rd (Reg.COX_LATCH 0) := by
  rw [rd_checkClosed_other s (by decide), rd_resultWritten, rd_wr_other _ _ _ _ (by decide)]

/-- The entry that line 15 holds, where it is latched: outside CHECK it acts. -/
theorem heldLines_checkClosed (s : State) : (heldLines (checkClosed s)).find? (fun p => p.1 == 15)
    = if lineLatched s 15 then s.cox.held.find? (fun p => p.1 == 15) else none := by
  have hlatch : lineLatched (checkClosed s) 15 = lineLatched s 15 := flag_of_rd (rd_checkClosed_latch s) _
  have hentry : ∀ p : Nat × CoxLatch, decide ((lineLatched (checkClosed s) p.1
      && !(decide (p.1 = 15) && decide (coxState (checkClosed s) = 1))) = true ∧ (p.1 == 15) = true)
      = (lineLatched s 15 && p.1 == 15) := fun p => by
    by_cases hp : p.1 = 15
    · simp [hp, hlatch, coxState_checkClosed]
    · simp [beq_eq_false_iff_ne.2 hp]
  rw [heldLines, List.find?_filter, funext hentry]
  cases lineLatched s 15 with
  | true => simp only [Bool.true_and, if_true]; rfl
  | false => simp

/-- The entry that line 15 holds acts after the last test, where there is one. -/
theorem checkEnd_eq (s : State) : checkEnd s = ((heldLines (checkClosed s)).find? fun p => p.1 == 15).elim (coxRefresh (checkClosed s))
    fun p => coxRefresh (react 15 p.2.cls (checkClosed s)) := by
  show (match (heldLines (checkClosed s)).find? (fun p => p.1 == 15) with
    | some p => coxRefresh (react 15 p.2.cls (checkClosed s))
    | none => coxRefresh (checkClosed s)) = _
  cases (heldLines (checkClosed s)).find? fun p => p.1 == 15 with
  | none => rfl
  | some p => rfl

theorem checkEnd_free (h : (heldLines (checkClosed s)).find? (fun p => p.1 == 15) = none) : checkEnd s = coxRefresh (checkClosed s) := by
  rw [checkEnd_eq, h, Option.elim_none]

theorem checkEnd_held {p : Nat × CoxLatch} (h : (heldLines (checkClosed s)).find? (fun p => p.1 == 15) = some p) :
    checkEnd s = coxRefresh (react 15 p.2.cls (checkClosed s)) := by
  rw [checkEnd_eq, h, Option.elim_some]

/-- What the end of CHECK leaves, whatever line 15 then does: the result, the latches and no test in progress. -/
structure CheckEnded (s t : State) : Prop where
  res : t.rd Reg.COX_CHECK_RES = resDone (s.rd Reg.COX_CHECK_RES) (checkDuration s)
  latched : t.rd (Reg.COX_LATCH 0) = s.rd (Reg.COX_LATCH 0)
  test : t.cox.test = 0

theorem checkEnded_coxRefresh {t : State} (h : CheckEnded s t) : CheckEnded s (coxRefresh t) where
  res := by rw [CoxKept.coxRefresh.rd _ (by decide) (by decide)]; exact h.res
  latched := by rw [CoxKept.coxRefresh.rd _ (by decide) (by decide)]; exact h.latched
  test := by rw [CoxKept.coxRefresh.cox_eq]; exact h.test

theorem checkEnded_closed (s : State) : CheckEnded s (checkClosed s) := ⟨rd_checkClosed_res s, rd_checkClosed_latch s, rfl⟩

theorem checkEnded_cause (s : State) (k : Nat) : CheckEnded s ((checkClosed s).cause Reg.COX k) where
  res := by rw [rd_cause_other _ _ _ _ (by decide)]; exact rd_checkClosed_res s
  latched := by rw [rd_cause_other _ _ _ _ (by decide)]; exact rd_checkClosed_latch s
  test := rfl

theorem checkEnded_toOff (s : State) : CheckEnded s (toOff (checkClosed s)) := by
  have hst := coxState_checkClosed s
  have hoff : coxState (checkClosed s) ≠ 5 := by omega
  have hlater : 2 ≤ coxState (checkClosed s) := by omega
  refine ⟨?_, ?_, by rw [toOff_cox hoff]; rfl⟩
  · rw [rd_toOff_other hoff (by decide) (.inr hlater) (by decide)]; exact rd_checkClosed_res s
  · rw [rd_toOff_other hoff (by decide) (.inr hlater) (by decide)]; exact rd_checkClosed_latch s

/-- Line 15 does not act in CHECK alone, and the CHECK is over. -/
theorem checkClosed_acts (s : State) : ¬(15 = 15 ∧ coxState (checkClosed s) = 1) := by rw [coxState_checkClosed]; decide

theorem checkEnd_ended (s : State) : CheckEnded s (checkEnd s) := by
  cases hfind : (heldLines (checkClosed s)).find? (fun p => p.1 == 15) with
  | none => rw [checkEnd_free hfind]; exact checkEnded_coxRefresh (checkEnded_closed s)
  | some p =>
    rw [checkEnd_held hfind]
    by_cases hcls : p.2.cls < 2
    · obtain ⟨k, hk⟩ := react_mild hcls (checkClosed_acts s)
      rw [hk]; exact checkEnded_coxRefresh (checkEnded_cause s k)
    · rw [react_severe_in_safe (by omega) (coxState_checkClosed s)]; exact checkEnded_coxRefresh (checkEnded_toOff s)

/-- The Cox stands in SAFE where line 15 holds neither class C2 nor C3. -/
theorem checkEnd_safe (h : ∀ p ∈ s.cox.held, p.1 = 15 → lineLatched s 15 = true → p.2.cls < 2) : coxState (checkEnd s) = 2 := by
  cases hfind : (heldLines (checkClosed s)).find? (fun p => p.1 == 15) with
  | none => rw [checkEnd_free hfind, coxState_coxRefresh, coxState_checkClosed]
  | some p =>
    have hentry := heldLines_checkClosed s
    rw [hfind] at hentry
    have hlatch : lineLatched s 15 = true := by
      cases hl : lineLatched s 15 with
      | true => rfl
      | false =>
        rw [hl, if_neg Bool.false_ne_true] at hentry
        exact absurd hentry (Option.some_ne_none p)
    rw [if_pos hlatch] at hentry
    have h15 : p.1 = 15 := by simpa using List.find?_some hentry.symm
    obtain ⟨k, hk⟩ := react_mild (h p (List.mem_of_find?_eq_some hentry.symm) h15 hlatch) (checkClosed_acts s)
    rw [checkEnd_held hfind, hk, coxState_coxRefresh, coxState_of_rd (rd_cause_other _ _ _ _ (by decide)), coxState_checkClosed]

theorem checkEnd_off {p : Nat × CoxLatch} (hlatch : lineLatched s 15 = true) (hp : s.cox.held.find? (fun x => x.1 == 15) = some p)
    (hcls : 2 ≤ p.2.cls) : InOff (checkEnd s) := by
  have hst := coxState_checkClosed s
  rw [checkEnd_held (by rw [heldLines_checkClosed, if_pos hlatch, hp]), react_severe_in_safe hcls hst]
  exact inOff_coxRefresh (toOff_inOff (by omega))

end End

/-! ## Test 5 (R134) -/

/-- Memory is a table whose unlisted bytes are 0. -/
theorem memGet_eq_tabGet (l : List Host.Cell) (a : Nat) : memGet l a = tabGet l a 0 := by
  induction l with
  | nil => rfl
  | cons c r ih => simp only [memGet, tabGet, ih]

theorem tabGet_filter_not {α : Type} (p : Nat → Bool) (l : List (Nat × α)) (k : Nat) (d : α) :
    tabGet (l.filter fun q => !(p q.1)) k d = if p k then d else tabGet l k d := by
  induction l with
  | nil => simp [tabGet]
  | cons q r ih =>
    by_cases hq : q.1 = k
    · subst hq
      cases hp : p q.1 <;> simp_all [tabGet]
    · cases hp : p q.1 <;> simp_all [tabGet]

section March

variable {s : State}

theorem byteAt_marchAll (s : State) (a : Nat) : (marchAll s).byteAt a = if marched s.variant a then 0 else s.byteAt a := by
  have hfilter : (marchAll s).mem = s.mem.filter fun c => !(marched s.variant c.1) := rfl
  rw [State.byteAt, hfilter, memGet_eq_tabGet, tabGet_filter_not, State.byteAt, memGet_eq_tabGet]

theorem eccAt_marchAll (s : State) (a : Nat) : (marchAll s).eccAt a = if marched s.variant a then none else s.eccAt a := by
  have hmap : (marchAll s).ecc.map (fun p => (p.1, some p.2))
      = (s.ecc.map fun p => (p.1, some p.2)).filter fun q => !(marched s.variant q.1) := by
    rw [List.filter_map]
    rfl
  rw [State.eccAt, hmap, tabGet_filter_not, State.eccAt]

theorem byteAt_of_mem {t : State} (h : t.mem = s.mem) (a : Nat) : t.byteAt a = s.byteAt a := congrArg (memGet · a) h
theorem eccAt_of_ecc {t : State} (h : t.ecc = s.ecc) (a : Nat) : t.eccAt a = s.eccAt a := by
  rw [State.eccAt, h, State.eccAt]

/-- At the end of test 5 the tested memories are cleared, and a failed test has left its log entry. -/
theorem checkTest_five {e : TestEnd} (hst : coxState s = 1) (h5 : s.cox.test = 5) :
    ∃ u, checkTest e s = checkTestDone e u ∧ CoxKept [] (marchAll s) u ∧ (e.pass = true → u = marchAll s) := by
  refine ⟨_, if_pos ⟨hst, h5⟩, ?_⟩
  cases e.pass with
  | true => exact ⟨CoxKept.refl _, fun _ => rfl⟩
  | false => exact ⟨(CoxKept.marchLog _).trans CoxKept.drawn, nofun⟩

theorem checkTest_other {e : TestEnd} (h5 : s.cox.test ≠ 5) : checkTest e s = checkTestDone e s := if_neg fun h => h5 h.2

end March

/-! ## The end of a test (R107, R108) -/

/-- The test passes: test 6 also by its own readbacks and by the drains of the groups of COX_SEN_TEST. -/
def testPasses (e : TestEnd) (s : State) : Bool :=
  e.pass && !(decide (s.cox.test = 6) && (s.cox.pulseBad || (List.range 6).any fun g => senTested s g && !(e.drains.contains g)))

/-- The state with the test's failure noted, if it failed. -/
def testResult (e : TestEnd) (s : State) : State := if testPasses e s then s else testFailed s

/-- The test that follows: a CHECK from OFF leaves out test 5. -/
def nextTest (s : State) : Nat := if s.cox.test = 4 ∧ s.cox.fromOff = true then 6 else s.cox.test + 1

/-- Test `n` begins. -/
def startTest (n : Nat) (s : State) : State :=
  { s with cox := { s.cox with test := n, pulseStart := if n = 6 then s.cox.ps else s.cox.pulseStart,
                               pulseBad := if n = 6 then false else s.cox.pulseBad } }

section TestEnds

variable {e : TestEnd} {s : State}

theorem rd_startTest (n : Nat) (s : State) (a : Nat) : (startTest n s).rd a = s.rd a := rd_with_cox s _ a

theorem groupsOf_le (v : Variant) : groupsOf v ≤ 6 := by cases v <;> decide

/-- Some drain readback of COX_SEN_TEST has not followed its switch. -/
theorem drain_missing_iff (l : List Nat) (s : State) :
    ((List.range 6).any fun g => senTested s g && !(l.contains g)) = true ↔ ∃ g, senTested s g = true ∧ g ∉ l := by
  simp only [List.any_eq_true, List.mem_range, Bool.and_eq_true, Bool.not_eq_true', List.contains_eq_mem, decide_eq_false_iff_not]
  refine ⟨fun ⟨g, _, hg⟩ => ⟨g, hg⟩, fun ⟨g, ht, hl⟩ => ⟨g, ?_, ht, hl⟩⟩
  have hgroup : g < groupsOf s.variant := of_decide_eq_true (Bool.and_eq_true_iff.1 ht).1
  exact Nat.lt_of_lt_of_le hgroup (groupsOf_le _)

theorem testPasses_before_six (h6 : s.cox.test ≠ 6) : testPasses e s = e.pass := by
  simp only [testPasses, h6, decide_false, Bool.false_and, Bool.not_false, Bool.and_true]

theorem testPasses_six {l : List Nat} (hbad : s.cox.pulseBad = false) (hl : ∀ g, senTested s g = true → g ∈ l) :
    testPasses ⟨true, l⟩ s = true := by
  have hdrain : ((List.range 6).any fun g => senTested s g && !(l.contains g)) = false := by
    rw [← Bool.not_eq_true, drain_missing_iff]
    rintro ⟨g, ht, hg⟩
    exact hg (hl g ht)
  simp only [testPasses, hbad, hdrain, Bool.or_false, Bool.and_false, Bool.not_false, Bool.and_true]

theorem testPasses_six_fails {ok : Bool} {l : List Nat} (h6 : s.cox.test = 6)
    (h : ok = false ∨ s.cox.pulseBad = true ∨ ∃ g, senTested s g = true ∧ g ∉ l) : testPasses ⟨ok, l⟩ s = false := by
  rw [← drain_missing_iff] at h
  have hfinds : ok = false ∨ (s.cox.pulseBad || (List.range 6).any fun g => senTested s g && !(l.contains g)) = true := by
    rwa [Bool.or_eq_true]
  rcases hfinds with h | h
  · simp only [testPasses, h, Bool.false_and]
  · simp only [testPasses, h, h6, decide_true, Bool.true_and, Bool.not_true, Bool.and_false]

theorem checkTestDone_starts_next (halive : coxAlive s = true) (hst : coxState s = 1) (h1 : 1 ≤ s.cox.test) (h6 : s.cox.test < 6) :
    checkTestDone e s = startTest (nextTest s) (testResult e s) := by
  have hnext : ¬6 < nextTest s := by unfold nextTest; split <;> omega
  have hle : s.cox.test ≤ 6 := by omega
  unfold nextTest at hnext
  simp only [checkTestDone, halive, hst, h1, hle, and_self, if_true, hnext, if_false]
  rfl

theorem checkTestDone_ends_check (halive : coxAlive s = true) (hst : coxState s = 1) (h6 : s.cox.test = 6) :
    checkTestDone e s = checkEnd (testResult e s) := by
  have hnext : 6 < nextTest s := by unfold nextTest; split <;> omega
  have h1 : 1 ≤ s.cox.test := by omega
  have hle : s.cox.test ≤ 6 := by omega
  unfold nextTest at hnext
  simp only [checkTestDone, halive, hst, h1, hle, and_self, if_true, hnext]
  rfl

theorem testResult_pass (h : testPasses e s = true) : testResult e s = s := if_pos h
theorem testResult_fail (h : testPasses e s = false) : testResult e s = testFailed s := if_neg (by simp [h])

theorem testResult_memory (e : TestEnd) (hst : coxState s = 1) : (testResult e s).mem = s.mem ∧ (testResult e s).ecc = s.ecc := by
  have hkept := testFailed_kept hst
  cases h : testPasses e s with
  | true => rw [testResult_pass h]; exact ⟨rfl, rfl⟩
  | false => rw [testResult_fail h]; exact ⟨hkept.mem, hkept.ecc⟩

theorem coxAlive_of_kept {t : State} (h : CoxKept [] s t) : coxAlive t = coxAlive s :=
  coxAlive_congr (congrArg State.power h.rest :) (congrArg State.sec h.rest :) (h.rd _ (by decide) (by simp))

end TestEnds

section CheckTestDone

variable {l : List Nat} {s : State} (halive : coxAlive s = true) (hst : coxState s = 1)
include halive hst

theorem checkTestDone_passed (h1 : 1 ≤ s.cox.test) (h6 : s.cox.test < 6) :
    checkTestDone ⟨true, l⟩ s = startTest (nextTest s) s := by
  rw [checkTestDone_starts_next halive hst h1 h6, testResult_pass (testPasses_before_six (by omega))]

theorem checkTestDone_failed (h1 : 1 ≤ s.cox.test) (h6 : s.cox.test < 6) :
    checkTestDone ⟨false, l⟩ s = startTest (nextTest s) (testFailed s) := by
  rw [checkTestDone_starts_next halive hst h1 h6, testResult_fail (testPasses_before_six (by omega))]

/-- A failed test before the last: CHECK goes on. -/
theorem checkTestDone_fails (h1 : 1 ≤ s.cox.test) (h6 : s.cox.test < 6) :
    (checkTestDone ⟨false, l⟩ s).flag Reg.COX_CHECK_RES (s.cox.test - 1) = true ∧ lineLatched (checkTestDone ⟨false, l⟩ s) 15 = true
      ∧ coxState (checkTestDone ⟨false, l⟩ s) = 1 ∧ (checkTestDone ⟨false, l⟩ s).cox.test = nextTest s := by
  have hkept := testFailed_kept hst
  rw [checkTestDone_failed halive hst h1 h6]
  exact ⟨hkept.flag_test (by omega), hkept.latched, hkept.state.trans hst, rfl⟩

theorem passed_completes (h1 : 1 ≤ s.cox.test) (h6 : s.cox.test < 6) (h5 : s.cox.test ≠ 5) :
    Completes (.checkTestDone ⟨true, l⟩) s fun t => t.cox.test = nextTest s ∧ OnlyRegs [] { s with cox := t.cox } t := by
  refine ⟨_, rfl, ?_⟩
  rw [checkTest_other h5, checkTestDone_passed halive hst h1 h6]
  exact ⟨rfl, rfl, fun _ _ => rfl⟩

theorem failed_latched_completes (h1 : 1 ≤ s.cox.test) (h6 : s.cox.test < 6) (h5 : s.cox.test ≠ 5) (hlatch : lineLatched s 15 = true) :
    Completes (.checkTestDone ⟨false, l⟩) s fun t => t.flag Reg.COX_CHECK_RES (s.cox.test - 1) = true ∧ t.cox.test = nextTest s
      ∧ SameRegsBut [Reg.COX_CHECK_RES] s t := by
  have hkept := failureKept_noted hlatch
  refine ⟨_, rfl, ?_⟩
  rw [checkTest_other h5, checkTestDone_failed halive hst h1 h6, testFailed_latched hlatch]
  exact ⟨hkept.flag_test (by omega), rfl, fun a ha => by rw [rd_startTest, rd_failureNoted_other s (by simpa using ha)]⟩

theorem failed_unlatched_completes (h1 : 1 ≤ s.cox.test) (h6 : s.cox.test < 6) :
    Completes (.checkTestDone ⟨false, l⟩) s fun t => t.flag Reg.COX_CHECK_RES (s.cox.test - 1) = true ∧ lineLatched t 15 = true
      ∧ coxState t = 1 ∧ t.cox.test = nextTest s := by
  refine ⟨_, rfl, ?_⟩
  by_cases h5 : s.cox.test = 5
  · obtain ⟨u, hu, hkept, -⟩ := checkTest_five (e := ⟨false, l⟩) hst h5
    have hcox : u.cox = s.cox := hkept.cox_eq
    have hnext : nextTest u = nextTest s := by simp only [nextTest, hcox]
    have hstu : coxState u = 1 := (coxState_of_rd (hkept.rd _ (by decide) (by simp))).trans hst
    have hfails := checkTestDone_fails (l := l) ((coxAlive_of_kept hkept).trans halive) hstu (by rwa [hcox]) (by rwa [hcox])
    rw [hnext, hcox] at hfails
    rw [hu]
    exact hfails
  · rw [checkTest_other h5]
    exact checkTestDone_fails halive hst h1 h6

theorem march_completes (b : Bool) (h5 : s.cox.test = 5) : Completes (.checkTestDone ⟨b, l⟩) s fun t => t.cox.test = 6
    ∧ (b = true → SameRegsBut [] s t) ∧ (∀ a, t.byteAt a = (marchAll s).byteAt a) ∧ (∀ a, t.eccAt a = (marchAll s).eccAt a) := by
  obtain ⟨u, hu, hkept, hpass⟩ := checkTest_five (e := ⟨b, l⟩) hst h5
  have hfive : u.cox.test = 5 := (congrArg Cox.test hkept.cox_eq).trans h5
  have hstu : coxState u = 1 := (coxState_of_rd (hkept.rd _ (by decide) (by simp))).trans hst
  have haliveu : coxAlive u = true := (coxAlive_of_kept hkept).trans halive
  obtain ⟨hmem, hecc⟩ := testResult_memory ⟨b, l⟩ hstu
  refine ⟨_, rfl, ?_⟩
  rw [hu, checkTestDone_starts_next haliveu hstu (by omega) (by omega)]
  refine ⟨?_, ?_, byteAt_of_mem (hmem.trans hkept.mem_eq), eccAt_of_ecc (hecc.trans hkept.ecc_eq)⟩
  · simp [startTest, nextTest, hfive]
  · rintro rfl a -
    rw [testResult_pass (testPasses_before_six (by omega)), hpass rfl]
    rfl

theorem last_test_completes {ok : Bool} (h6 : s.cox.test = 6) {P : State → Prop} (hP : P (checkEnd (testResult ⟨ok, l⟩ s))) :
    Completes (.checkTestDone ⟨ok, l⟩) s P :=
  ⟨_, rfl, by rwa [checkTest_other (by omega), checkTestDone_ends_check halive hst h6]⟩

/-- The last test passes, and CHECK ends on the state as it stands. -/
theorem last_test_passed {P : State → Prop} (h6 : s.cox.test = 6) (hbad : s.cox.pulseBad = false) (hl : ∀ g, senTested s g = true → g ∈ l)
    (hP : P (checkEnd s)) : Completes (.checkTestDone ⟨true, l⟩) s P :=
  last_test_completes halive hst h6 (by rwa [testResult_pass (testPasses_six hbad hl)])

theorem last_test_failed {ok : Bool} (h6 : s.cox.test = 6)
    (h : ok = false ∨ s.cox.pulseBad = true ∨ ∃ g, senTested s g = true ∧ g ∉ l) :
    Completes (.checkTestDone ⟨ok, l⟩) s fun t => t.flag Reg.COX_CHECK_RES 5 = true ∧ t.flag Reg.COX_CHECK_RES 31 = true
      ∧ t.flag Reg.COX_CHECK_RES 30 = false ∧ t.cox.test = 0 ∧ lineLatched t 15 = true := by
  have hkept := testFailed_kept hst
  have hfive : bit ((testFailed s).rd Reg.COX_CHECK_RES) 5 = true := by
    have hflag := hkept.flag_test (by omega)
    rwa [h6] at hflag
  obtain ⟨hres, hlatch, htest⟩ := checkEnd_ended (testFailed s)
  refine last_test_completes halive hst h6 ?_
  rw [testResult_fail (testPasses_six_fails h6 h)]
  simp only [State.flag, hres]
  refine ⟨?_, bit_resDone_done .., ?_, htest, (flag_of_rd hlatch _).trans hkept.latched⟩
  · rw [bit_resDone_test _ _ (by decide), hfive]
  · rw [bit_resDone_pass, decide_eq_false_iff_not]
    exact bits_ne_zero_of_bit (k := 5) (by decide) hfive

theorem last_test_result (h6 : s.cox.test = 6) (hbad : s.cox.pulseBad = false) (hl : ∀ g, senTested s g = true → g ∈ l) :
    Completes (.checkTestDone ⟨true, l⟩) s fun t => t.flag Reg.COX_CHECK_RES 31 = true ∧ t.flag Reg.COX_CHECK_RES 29 = false
      ∧ t.flag Reg.COX_CHECK_RES 30 = decide (s.fld Reg.COX_CHECK_RES 0 6 = 0) ∧ t.cox.test = 0 := by
  obtain ⟨hres, -, htest⟩ := checkEnd_ended s
  refine last_test_passed halive hst h6 hbad hl ?_
  simp only [State.flag, hres]
  exact ⟨bit_resDone_done .., bit_resDone_aborted .., bit_resDone_pass .., htest⟩

end CheckTestDone

/-! ## The start of CHECK (R104) -/

theorem startCheck_begins (fromOff : Bool) (s : State) : coxState (startCheck fromOff s) = 1 ∧ (startCheck fromOff s).cox.test = 1
    ∧ (startCheck fromOff s).cox.fromOff = fromOff ∧ (startCheck fromOff s).rd Reg.COX_CHECK_RES = 0 := by
  rw [startCheck, coxState_coxRefresh, CoxKept.coxRefresh.cox_eq, CoxKept.coxRefresh.rd _ (by decide) (by decide), rd_with_cox,
    coxState_of_rd (rd_with_cox ..), coxState_of_rd (rd_wr_other _ _ _ _ (by decide)), coxState_coxTo _ (by decide)]
  exact ⟨rfl, rfl, rfl, rd_wr_same ..⟩

theorem checkStart_completes {s : State} (halive : coxAlive s = true) (hst : coxState s = 0) (hsteady : s.power.phase = .steady)
    (hbus : busUp s = true) : Completes .checkStart s fun t =>
      coxState t = 1 ∧ t.cox.test = 1 ∧ t.cox.fromOff = false ∧ t.rd Reg.COX_CHECK_RES = 0 := by
  have hstart : checkStart s = startCheck false s := if_pos ⟨halive, hst, hsteady, hbus⟩
  exact ⟨_, rfl, by rw [hstart]; exact startCheck_begins false s⟩

end Sys2Proof.Machine

namespace Sys2Proof

open Machine

/-- Settles O11: the ways into OFF and the software's lines, then CHECK from its start, test by test, to its end. -/
theorem offReactionAndStartUp : Obligations.OffReactionAndStartUp := by
  refine ⟨⟨?_, ?_, fun m s h => ⟨?_, ?_⟩, fun e s he hps hst => ⟨?_, ?_⟩⟩, ?_, fun l s halive hst h1 h6 h5 => ⟨?_, ?_⟩, ?_, ?_,
    fun l s halive hst h6 hbad hl => ⟨?_, ?_, ?_⟩, ?_⟩
  · intro n s hcls hst h15
    obtain ⟨⟨hoff, hoffN, hpulse, hsen⟩, hsince⟩ := react_c3_off hcls hst h15
    exact ⟨hoff, hoffN, hpulse, hsen, hsince⟩
  · exact fun e s he hps hst => ⟨_, rfl, coxStopTimeout_off he hps hst⟩
  · exact regRow_completes rfl h (swFault_check (by decide) fun v => (swFault_present v).1)
  · exact regRow_completes rfl h (swFault_check (by decide) fun v => (swFault_present v).2)
  · exact fun hcfg => ⟨_, rfl, by rw [coxAutoReset_due he hps hst, if_pos hcfg]⟩
  · exact fun hcfg => ⟨_, rfl, by rw [coxAutoReset_due he hps hst, hcfg, if_neg Bool.false_ne_true]⟩
  · exact fun s halive hst hsteady hbus => checkStart_completes halive hst hsteady hbus
  · exact passed_completes halive hst h1 h6 h5
  · exact failed_latched_completes halive hst h1 h6 h5
  · exact fun l s halive hst h1 h6 _ => failed_unlatched_completes halive hst h1 h6
  · intro b l s halive hst h5
    obtain ⟨t, ht, htest, hregs, hbytes, hecc⟩ := march_completes (l := l) halive hst b h5
    refine ⟨t, ht, htest, hregs, fun a ha => ?_, fun a ha => ?_⟩
    · rw [hbytes, hecc, byteAt_marchAll, eccAt_marchAll, if_pos ha, if_pos ha]
      exact ⟨rfl, rfl⟩
    · have hkeep : ¬marched s.variant a = true := by simp [ha]
      rw [hbytes, hecc, byteAt_marchAll, eccAt_marchAll, if_neg hkeep, if_neg hkeep]
      exact ⟨rfl, rfl⟩
  · exact last_test_result halive hst h6 hbad hl
  · exact fun hmild => last_test_passed halive hst h6 hbad hl (checkEnd_safe hmild)
  · exact fun p hlatch hp hcls => last_test_passed halive hst h6 hbad hl (checkEnd_off hlatch hp hcls)
  · exact fun ok l s halive hst h6 h => last_test_failed halive hst h6 h

end Sys2Proof
end

section
/-! MEM's own commands and the Skimmer (spec/06_memory.md R118, R123, R128, R130 to R135, R540): write-back, starvation, the writes of INJECT
and of the region map, the blocks and passes of the background scrub, and the check of the pass limit. -/

namespace Sys2Proof.Machine

/-! ## Frames of what acts without a master -/

section Frames

variable {l : List Nat} {s t u : State}

theorem onlyRegs_trans (h1 : OnlyRegs l s t) (h2 : OnlyRegs l t u) : OnlyRegs l s u :=
  ⟨regsOnly_trans h1.1 h2.1, fun a ha => (h2.2 a ha).trans (h1.2 a ha)⟩

theorem onlyRegs_wr (s : State) {a : Nat} (v : Word) (h : a ∈ l) : OnlyRegs l s (s.wr a v) :=
  ⟨wr_eq s a v, fun _ hb => rd_wr_other _ _ _ _ fun e => hb (e ▸ h)⟩

theorem onlyRegs_cause (s : State) {base : Nat} (k : Nat) (h : base + 0x18 ∈ l) : OnlyRegs l s (s.cause base k) := onlyRegs_wr s _ h

theorem onlyRegs_satInc (s : State) {a : Nat} (lo : Nat) (h : a ∈ l) : OnlyRegs l s (s.satInc a lo) :=
  ⟨satInc_eq s a lo, fun _ hb => rd_satInc_other _ _ _ _ fun e => hb (e ▸ h)⟩

theorem fld_of_rd {a : Nat} (h : t.rd a = s.rd a) (lo len : Nat) : t.fld a lo len = s.fld a lo len := by
  simp only [State.fld, h]

theorem fld_setFld_same (s : State) (a lo len v : Nat) (h : lo + len ≤ 32) : (s.setFld a lo len v).fld a lo len = v % 2 ^ len := by
  rw [State.fld, rd_setFld_same, bits_putBits_same _ _ _ _ h]

theorem fld_setFld_other (s : State) (a lo len v lo2 len2 : Nat) (h : lo2 + len2 ≤ lo ∨ lo + len ≤ lo2) (hw : lo2 + len2 ≤ 32) :
    (s.setFld a lo len v).fld a lo2 len2 = s.fld a lo2 len2 := by
  rw [State.fld, rd_setFld_same, bits_putBits_other _ _ _ _ _ _ h hw, State.fld]

theorem fld_satInc_other (s : State) (a lo lo2 len2 : Nat) (h : lo2 + len2 ≤ lo ∨ lo + 16 ≤ lo2) (hw : lo2 + len2 ≤ 32) :
    (s.satInc a lo).fld a lo2 len2 = s.fld a lo2 len2 := by
  unfold State.satInc
  split
  · exact fld_setFld_other s a lo 16 _ lo2 len2 h hw
  · rfl

theorem flag_cause_same (s : State) (base k : Nat) (hk : k < 32) : (s.cause base k).flag (base + 0x18) k = true := by
  rw [State.flag, rd_cause_same, bit_putBit_same _ _ _ hk]

end Frames

/-! ## Write-back and starvation (R118, R123) -/

section Service

variable {a who bank : Nat} {s : State}

/-- MEM acts by itself where its page is not frozen and the bus is up. -/
theorem memRow_running (f : State → State) (hrun : frozen s 0x20 = false) (hbus : busUp s = true) : live 0x20 (memRow f) s = f s := by
  rw [live_running _ hrun, memRow, if_pos hbus]

theorem eccAt_setEcc_none (s : State) (a : Nat) : (s.setEcc a none).eccAt a = none := by
  have hmap : (s.setEcc a none).ecc.map (fun p => (p.1, some p.2)) = (s.ecc.map fun p => (p.1, some p.2)).filter fun q => q.1 != a := by
    rw [List.filter_map]
    rfl
  rw [State.eccAt, hmap, tabGet_filter_same]

theorem contains_dropWriteBack (a : Nat) (s : State) : (dropWriteBack a s).memctl.writeBack.contains a = false := by
  simp [dropWriteBack]

theorem ceWriteback_absent (h : s.memctl.writeBack.contains a = false) : ceWriteback a s = s := by
  rw [ceWriteback, h, if_neg Bool.false_ne_true]

/-- A word that waits is dropped from the list, and its code becomes valid where it has a single-bit error (R123). -/
theorem ceWriteback_waiting (h : s.memctl.writeBack.contains a = true) :
    (ceWriteback a s = (dropWriteBack a s).setEcc a none)
      ∨ ((∀ x, s.eccAt a ≠ some (.single x)) ∧ ceWriteback a s = dropWriteBack a s) := by
  rw [ceWriteback, if_pos h]
  split
  · exact .inl rfl
  · next hother => exact .inr ⟨hother, rfl⟩

theorem ceWriteback_completes (hrun : frozen s 0x20 = false) (hbus : busUp s = true) : Completes (.ceWriteback a) s fun t =>
    SameMemory s t ∧ SameRegsBut [] s t ∧ t.memctl.writeBack.contains a = false
      ∧ (s.memctl.writeBack.contains a = true → ∀ x, s.eccAt a = some (.single x) → t.eccAt a = none) := by
  refine ⟨_, rfl, ?_⟩
  rw [memRow_running _ hrun hbus]
  cases h : s.memctl.writeBack.contains a with
  | false =>
    rw [ceWriteback_absent h]
    exact ⟨fun _ => rfl, fun _ _ => rfl, h, nofun⟩
  | true =>
    obtain hw | ⟨hnot, hw⟩ := ceWriteback_waiting h
    · rw [hw]
      exact ⟨fun _ => rfl, fun _ _ => rfl, contains_dropWriteBack a s, fun _ _ _ => eccAt_setEcc_none _ a⟩
    · rw [hw]
      exact ⟨fun _ => rfl, fun _ _ => rfl, contains_dropWriteBack a s, fun _ x hx => absurd hx (hnot x)⟩

theorem starve_completes (hrun : frozen s 0x20 = false) (hbus : busUp s = true) (hwho : who < 16) (hbank : bank < 256) :
    Completes (.starve who bank) s fun t =>
      t.fld Reg.MEM_STARVE_STAT 16 16 = min 0xFFFF (s.fld Reg.MEM_STARVE_STAT 16 16 + 1) ∧ t.fld Reg.MEM_STARVE_STAT 8 4 = who
      ∧ t.fld Reg.MEM_STARVE_STAT 0 8 = bank ∧ t.flag (Reg.MEM + 0x18) 2 = true
      ∧ OnlyRegs [Reg.MEM_STARVE_STAT, Reg.MEM + 0x18] s t := by
  refine ⟨_, rfl, ?_⟩
  rw [memRow_running _ hrun hbus]
  have hcause (u : State) : (u.cause Reg.MEM 2).rd Reg.MEM_STARVE_STAT = u.rd Reg.MEM_STARVE_STAT :=
    rd_cause_other u Reg.MEM 2 Reg.MEM_STARVE_STAT (by decide)
  refine ⟨?_, ?_, ?_, flag_cause_same _ _ _ (by decide), ?_⟩
  · rw [starve, fld_of_rd (hcause _), fld_satInc_same _ _ _ (by decide), fld_setFld_other _ _ _ _ _ _ _ (by decide) (by decide),
      fld_setFld_other _ _ _ _ _ _ _ (by decide) (by decide)]
  · rw [starve, fld_of_rd (hcause _), fld_satInc_other _ _ _ _ _ (by decide) (by decide),
      fld_setFld_other _ _ _ _ _ _ _ (by decide) (by decide), fld_setFld_same _ _ _ _ _ (by decide)]
    exact Nat.mod_eq_of_lt hwho
  · rw [starve, fld_of_rd (hcause _), fld_satInc_other _ _ _ _ _ (by decide) (by decide), fld_setFld_same _ _ _ _ _ (by decide)]
    exact Nat.mod_eq_of_lt hbank
  · exact onlyRegs_trans (onlyRegs_trans (onlyRegs_trans (onlyRegs_wr _ _ (by simp)) (onlyRegs_wr _ _ (by simp)))
      (onlyRegs_satInc _ _ (by simp))) (onlyRegs_cause _ _ (by simp))

end Service

/-! ## Writes of INJECT and of the region map (R128, R540) -/

section Writes

variable {d : RegDef} {a : Nat} {m : Master} {v : Word} {s : State}

/-- An accepted write that only stores gives the register its new value and touches no other. -/
theorem regWrite_plainStore (h : Accepted d a m v s) :
    (regWrite d a m v (plainStore d a) (s.attach m)).rd a = storeValue d (s.rd a) v
      ∧ OnlyPageRegs [a] s (regWrite d a m v (plainStore d a) (s.attach m)) := by
  obtain ⟨hval, honly⟩ := front_wr_only (m := m) (s := s) (pageOf a) a (storeValue d (s.rd a) v)
  rw [regWrite_accepted _ (accepted_attach h), plainStore, rd_consumeKey, rd_attach]
  split
  · exact ⟨hval, only_trans honly (only_crcTouch _ _ _)⟩
  · exact ⟨hval, honly⟩

/-- INJECT has no rule of its own. -/
theorem memPageWrite_inject (m : Master) (v : Word) (s : State) :
    memPageWrite (defOf .mem 0x050) 0 Reg.MEM_INJECT m v s
      = regWrite (defOf .mem 0x050) Reg.MEM_INJECT m v (plainStore (defOf .mem 0x050) Reg.MEM_INJECT) s := rfl

theorem inject_not_config : isConfig (defOf .mem 0x050) = false := rfl

/-- No lock concerns INJECT: its only condition is the opening. -/
theorem inject_accepted (ho : holdsOpening s 0x20 m = true) : Accepted (defOf .mem 0x050) Reg.MEM_INJECT m v s :=
  ⟨fun hc => absurd hc (by simp [inject_not_config]), fun _ => rfl, fun _ => ho⟩

theorem injectWrite_stores (h : Reaches m Reg.MEM_INJECT s) (ho : holdsOpening s 0x20 m = true) :
    Completes (.injectWrite m v) s fun t =>
      t.rd Reg.MEM_INJECT = (s.rd Reg.MEM_INJECT &&& ~~~0x8000007F) ||| (v &&& 0x8000007F) ∧ OnlyPageRegs [Reg.MEM_INJECT] s t := by
  refine regRow_completes rfl h ?_
  rw [memPageWrite_inject]
  exact regWrite_plainStore (inject_accepted ho)

theorem injectWrite_unopened (h : Reaches m Reg.MEM_INJECT s) (ho : holdsOpening s 0x20 m = false) :
    Completes (.injectWrite m v) s fun t =>
      ErrorRecorded Reg.MEM 0x01 0x04 (errDetail (masterCode m) 0x050) s t ∧ OnlyPageRegs [Reg.MEM + 0x20, Reg.MEM + 0x24] s t := by
  have hunopened : holdsOpening (s.attach m) 0x20 m = false := by rwa [holdsOpening_attach]
  refine regRow_completes rfl h ?_
  rw [memPageWrite_inject, regWrite_unopened_operational _ rfl inject_not_config rfl hunopened]
  exact headerError_recorded (page := 0x20) 0x01 0x04 _ (only_attach_consumeKey 0x20 [])

/-- The register row that an RMAP command writes: the LIMIT words or the BASE words. -/
abbrev rmapRow (limit : Bool) : RegDef := defOf .mem (if limit then 0x104 else 0x100)

/-- The word that an RMAP command writes. -/
abbrev rmapWord (k : Nat) (limit : Bool) : Nat := if limit then Reg.MEM_RMAP_LIMIT k else Reg.MEM_RMAP_BASE k

theorem rmapRow_plain (limit : Bool) :
    ((rmapRow limit).off = 0x100 ∨ (rmapRow limit).off = 0x104) ∧ (rmapRow limit).kind = .rw ∧ (rmapRow limit).safe = [] := by
  cases limit <;> decide

theorem pageOf_rmapWord {k : Nat} {limit : Bool} (hk : k < 32) : pageOf (rmapWord k limit) = 0x20 := by
  cases limit <;> simp only [pageOf, rmapWord, Reg.MEM_RMAP_LIMIT, Reg.MEM_RMAP_BASE, Bool.false_eq_true, if_true, if_false] <;> omega

/-- An RMAP command of a master that reaches the word goes to the rule of the region map. -/
theorem rmapWrite_completes {k : Nat} {limit : Bool} {P : State → Prop} (hk : k < 32) (h : Reaches m (rmapWord k limit) s)
    (hP : P (rmapWrite (rmapRow limit) (rmapWord k limit) m v (s.attach m))) : Completes (.rmapWrite m k limit v) s P := by
  refine regRow_completes (congrArg Host.Outcome.next (if_pos hk)) h ?_
  obtain ⟨hoff | hoff, -⟩ := rmapRow_plain limit <;> simpa only [memPageWrite, hoff] using hP

/-- The class of an address rests on the words of the region map. -/
theorem regionClass_congr {t : State} (h : ∀ a, t.rd a = s.rd a) (a : Nat) : regionClass t a = regionClass s a := by
  have hflag : t.flag = s.flag := funext fun x => funext (flag_of_rd (h x))
  have hfld : t.fld = s.fld := funext fun x => funext fun lo => funext (fld_of_rd (h x) lo)
  unfold regionClass
  rw [hflag, hfld]

theorem safetyKept_attach (s : State) (m : Master) (a : Nat) (w : Word) :
    safetyKept (s.attach m) ((s.attach m).wr a w) = safetyKept s (s.wr a w) := by
  have hnew (x : Nat) : ((s.attach m).wr a w).rd x = (s.wr a w).rd x := by rw [attach_eq]; rfl
  simp only [safetyKept, attach_variant, regionClass_congr (rd_attach s m), regionClass_congr hnew]

section Rmap

variable (hpage : pageOf a = 0x20) (hkind : d.kind = .rw) (hsafe : d.safe = []) (hcfg : cfgLocked s 0x20 = false)
include hpage hcfg

include hkind hsafe in
theorem rmapWrite_stores (h : safeLocked s 0x20 = false ∨ safetyKept s (s.wr a (storeValue d (s.rd a) v)) = true) :
    (rmapWrite d a m v (s.attach m)).rd a = storeValue d (s.rd a) v ∧ OnlyPageRegs [a] s (rmapWrite d a m v (s.attach m)) := by
  have haccepted : Accepted d a m v s := ⟨fun _ => by rwa [hpage], by simp [safeMoves, hsafe], by simp [hkind]⟩
  have hwrite : rmapWrite d a m v (s.attach m) = regWrite d a m v (plainStore d a) (s.attach m) := by
    rw [rmapWrite, rd_attach, safetyKept_attach, safeLocked_attach]
    exact if_neg (by obtain h | h := h <;> simp [h])
  rw [hwrite]
  exact regWrite_plainStore haccepted

theorem rmapWrite_refused (hlock : safeLocked s 0x20 = true) (h : safetyKept s (s.wr a (storeValue d (s.rd a) v)) = false) :
    ErrorRecorded Reg.MEM 0x01 0x02 (errDetail (masterCode m) (a % 0x1000)) s (rmapWrite d a m v (s.attach m))
      ∧ OnlyPageRegs [Reg.MEM + 0x20, Reg.MEM + 0x24] s (rmapWrite d a m v (s.attach m)) := by
  have hwrite : rmapWrite d a m v (s.attach m) = ((s.attach m).consumeKey 0x20 m).accessError a 0x02 m := by
    rw [rmapWrite, rd_attach, safetyKept_attach, safeLocked_attach, cfgLocked_attach]
    exact if_pos (by simp [hlock, hcfg, h])
  rw [hwrite, State.accessError, hpage]
  exact headerError_recorded (page := 0x20) 0x01 0x02 _ (only_attach_consumeKey 0x20 [])

end Rmap

end Writes

/-! ## The Skimmer (R130 to R133) -/

section Skimmer

variable {i : Nat} {r : SkimRun} {s : State}

/-- The visiting order goes by the variant and SKIM.CFG. -/
theorem nextRun_congr {t : State} (hvariant : t.variant = s.variant) (hcfg : t.rd Reg.SKIM_CFG = s.rd Reg.SKIM_CFG) (i : Nat) :
    nextRun t i = nextRun s i := by
  simp only [nextRun, hvariant, flag_of_rd hcfg]

theorem skimPassEnd_only (s : State) :
    OnlyRegs [Reg.SKIM_PASS_CNT, Reg.SKIM_PASS_TIME, Reg.SKIM + 0x18] { s with skim := (skimPassEnd s).skim } (skimPassEnd s) :=
  onlyRegs_trans (onlyRegs_trans (onlyRegs_wr _ _ (by simp)) (onlyRegs_wr _ _ (by simp))) (onlyRegs_cause _ _ (by simp))

theorem rd_skimPassEnd (s : State) (a : Nat) : (skimPassEnd s).rd a
    = (((s.wrapInc Reg.SKIM_PASS_CNT).wr Reg.SKIM_PASS_TIME (wordOf (min 0xFFFF ((s.now - s.skim.passStart) / 200000)))).cause
        Reg.SKIM 0).rd a := rfl

theorem skimPassEnd_counted (s : State) :
    (skimPassEnd s).rd Reg.SKIM_PASS_CNT = s.rd Reg.SKIM_PASS_CNT + 1 ∧ (skimPassEnd s).flag (Reg.SKIM + 0x18) 0 = true
      ∧ (skimPassEnd s).rd Reg.SKIM_PASS_TIME = wordOf (min 0xFFFF ((s.now - s.skim.passStart) / 200000)) := by
  refine ⟨?_, ?_, ?_⟩
  · rw [rd_skimPassEnd, rd_cause_other _ _ _ _ (by decide), rd_wr_other _ _ _ _ (by decide), State.wrapInc, rd_wr_same]
  · rw [flag_of_rd (rd_skimPassEnd s _), flag_cause_same _ _ _ (by decide)]
  · rw [rd_skimPassEnd, rd_cause_other _ _ _ _ (by decide), rd_wr_same]

/-- The position that the next block takes, with the block in hand, before its words are read (R130). -/
def skimTakes (i : Nat) (r : SkimRun) (s : State) : State :=
  let block := if i = s.skim.memIdx then s.skim.block else 0
  ({ s with skim := { s.skim with
      memIdx := i, block := block, inHand := some (r.base + 64 * block), lastStart := s.now,
      march := s.flag Reg.SKIM_CFG 8 && decide (r.en ≠ 5),
      passStart := if s.skim.fresh then s.now else s.skim.passStart, fresh := false, anew := false } } : State).wr
    Reg.SKIM_POS (wordOf (r.base + 64 * block))

/-- Words that a pass over a block leaves alone one by one, it leaves alone altogether. -/
theorem foldl_fixed {f : State → Nat → State} (h : ∀ j, f s j = s) : ∀ js : List Nat, js.foldl f s = s
  | [] => rfl
  | j :: js => by rw [List.foldl_cons, h j, foldl_fixed h js]

/-- A word without a code error, which the cells have not suffered since, is only read. -/
theorem skimWord_clean (a : Nat) (h : s.ecc = []) : skimWord a .none s = s := by
  have hcode : s.eccAt a = none := by rw [State.eccAt, h]; rfl
  have hfound : foundCode s a .none = none := by simp [foundCode, hcode]
  rw [skimWord, hfound]

section Start

variable (hon : skimOn s = true) (hfree : s.skim.inHand = none)
  (hdue : s.skim.anew = true ∨ s.skim.lastStart + s.fld Reg.SKIM_INTERVAL 0 16 ≤ s.now)
include hon hfree hdue

theorem skimBlockStart_takes (hnext : nextRun s s.skim.memIdx = some (i, r)) (hwipe : r.en ≠ 5 ∨ s.sec.wipeStart = none)
    (hclean : s.ecc = []) : skimBlockStart [] s = skimTakes i r s := by
  have hwipe' : ¬(r.en = 5 ∧ s.sec.wipeStart ≠ none) := fun ⟨hen, hstart⟩ => hwipe.elim (· hen) hstart
  have hread (a : Nat) : skimWord a (upsetAt [] a) (skimTakes i r s) = skimTakes i r s := skimWord_clean a hclean
  simp only [skimBlockStart, hon, hfree, hdue, hnext, hwipe', decide_true, Bool.and_self, if_true, if_false, reduceCtorEq, false_and]
  exact foldl_fixed (fun _ => hread _) _

theorem skimBlockStart_ends_pass (hfresh : s.skim.fresh = false) (hnext : nextRun s s.skim.memIdx = none) (hnone : nextRun s 0 = none) :
    skimBlockStart [] s = skimPassEnd s := by
  have hend : nextRun (skimPassEnd s) (skimPassEnd s).skim.memIdx = none := by
    have hcfg : (skimPassEnd s).rd Reg.SKIM_CFG = s.rd Reg.SKIM_CFG := (skimPassEnd_only s).2 Reg.SKIM_CFG (by decide)
    exact (nextRun_congr (s := s) (t := skimPassEnd s) rfl hcfg 0).trans hnone
  simp only [skimBlockStart, hon, hfree, hdue, hnext, hfresh, hend, decide_true, Bool.and_self, if_true, and_self]

theorem skimBlockStart_takes_completes (hrun : frozen s 0x21 = false) (hnext : nextRun s s.skim.memIdx = some (i, r))
    (hwipe : r.en ≠ 5 ∨ s.sec.wipeStart = none) (hclean : s.ecc = []) : Completes (.skimBlockStart []) s fun t =>
      t.skim.inHand = some (r.base + 64 * (if i = s.skim.memIdx then s.skim.block else 0)) ∧ t.skim.lastStart = s.now
      ∧ t.rd Reg.SKIM_POS = wordOf (r.base + 64 * (if i = s.skim.memIdx then s.skim.block else 0))
      ∧ t.skim.march = (s.flag Reg.SKIM_CFG 8 && decide (r.en ≠ 5)) ∧ OnlyRegs [Reg.SKIM_POS] { s with skim := t.skim } t := by
  refine ⟨_, rfl, ?_⟩
  rw [live_running _ hrun, skimBlockStart_takes hon hfree hdue hnext hwipe hclean]
  exact ⟨rfl, rfl, rd_wr_same .., rfl, onlyRegs_wr _ _ (by simp)⟩

theorem skimBlockStart_ends_pass_completes (hrun : frozen s 0x21 = false) (hfresh : s.skim.fresh = false)
    (hnext : nextRun s s.skim.memIdx = none) (hnone : nextRun s 0 = none) :
    Completes (.skimBlockStart []) s fun t => t = skimPassEnd s := by
  refine ⟨_, rfl, ?_⟩
  rw [live_running _ hrun, skimBlockStart_ends_pass hon hfree hdue hfresh hnext hnone]

end Start

section WriteBack

variable {a : Nat}

/-- Where no corrected word waits and no march has failed, the write-back of a block only moves the position on. -/
theorem skimBlockWriteback_clean (hhand : s.skim.inHand = some a) (hwait : s.memctl.writeBack = []) :
    skimBlockWriteback none s = skimAdvance s := by
  have hkept (j : Nat) : ceWriteback (a + 4 * j) s = s := ceWriteback_absent (by rw [hwait]; rfl)
  have hblock : (List.range 16).foldl (fun t j => ceWriteback (a + 4 * j) t) s = s := foldl_fixed hkept _
  simp only [skimBlockWriteback, hhand, hblock]

section Advance

variable (hfresh : s.skim.fresh = false) (hrun : (skimRuns s.variant)[s.skim.memIdx]? = some r) (hen : s.flag Reg.SKIM_CFG r.en = true)
include hfresh hrun hen

theorem skimAdvance_next_block (hmore : 64 * (s.skim.block + 1) < r.size) :
    skimAdvance s = { s with skim := { s.skim with block := s.skim.block + 1, inHand := none } } := by
  have hlast : ¬r.size ≤ 64 * (s.skim.block + 1) := by omega
  simp [skimAdvance, hfresh, hrun, hen, hlast]

theorem skimAdvance_ends_pass (hlast : r.size ≤ 64 * (s.skim.block + 1)) (hnone : nextRun s (s.skim.memIdx + 1) = none) :
    skimAdvance s = skimPassEnd s := by
  simp [skimAdvance, hfresh, hrun, hen, hlast, hnone]

end Advance

theorem skimBlockWriteback_completes {P : State → Prop} (hrun : frozen s 0x21 = false) (hhand : s.skim.inHand = some a)
    (hwait : s.memctl.writeBack = []) (hP : P (skimAdvance s)) : Completes (.skimBlockWriteback none) s P := by
  refine ⟨_, rfl, ?_⟩
  rwa [live_running _ hrun, skimBlockWriteback_clean hhand hwait]

end WriteBack

theorem skimPassLimitCheck_late (hst : coxState s = 3)
    (hlate : s.skim.limitFrom + passLimit (s.fld Reg.SKIM_CFG 9 3) * 200000000 < s.now) :
    skimPassLimitCheck s = lineCheck 37 true s := if_pos (by simp [passLate, hst, hlate])

theorem skimPassLimitCheck_in_time
    (h : coxState s ≠ 3 ∨ s.now ≤ s.skim.limitFrom + passLimit (s.fld Reg.SKIM_CFG 9 3) * 200000000) :
    skimPassLimitCheck s = eventLineIdle 37 s := by
  have hnot : passLate s = false := by
    obtain hst | htime := h
    · simp [passLate, hst]
    · simp [passLate, htime]
  exact if_neg (by simp [hnot])

end Skimmer

end Sys2Proof.Machine

namespace Sys2Proof

open Machine

/-- Settles O16: MEM's own commands and the writes of its page, then the blocks of the Skimmer from start to write-back, and its pass limit. -/
theorem memoryServiceAndSkimmer : Obligations.MemoryServiceAndSkimmer := by
  refine ⟨⟨?_, ?_, ?_, ?_⟩, ?_, ?_, ?_, fun s => ⟨?_, ?_⟩⟩
  · exact fun a s hrun hbus => ceWriteback_completes hrun hbus
  · exact fun who bank s hrun hbus hwho hbank => starve_completes hrun hbus hwho hbank
  · exact fun m v s h => ⟨injectWrite_stores h, injectWrite_unopened h⟩
  · rintro m k limit v w a s hk rfl rfl h hcfg
    obtain ⟨-, hkind, hsafe⟩ := rmapRow_plain limit
    exact ⟨fun hkept => rmapWrite_completes hk h (rmapWrite_stores (pageOf_rmapWord hk) hkind hsafe hcfg hkept),
      fun hlock hlost => rmapWrite_completes hk h (rmapWrite_refused (pageOf_rmapWord hk) hcfg hlock hlost)⟩
  · exact fun i r s hrun hon hfree hdue hnext hwipe hclean => skimBlockStart_takes_completes hon hfree hdue hrun hnext hwipe hclean
  · exact fun s hrun hon hfree hfresh hdue hnext hnone => skimBlockStart_ends_pass_completes hon hfree hdue hrun hfresh hnext hnone
  · refine fun a r s hlive hhand hwait hfresh hrun hen => ⟨fun hmore => ?_, fun hlast hnone => ?_⟩
    · refine skimBlockWriteback_completes hlive hhand hwait ?_
      rw [skimAdvance_next_block hfresh hrun hen hmore]
      exact ⟨rfl, rfl, rfl, fun _ _ => rfl⟩
    · refine skimBlockWriteback_completes hlive hhand hwait ?_
      rw [skimAdvance_ends_pass hfresh hrun hen hlast hnone]
      obtain ⟨hcnt, hdone, htime⟩ := skimPassEnd_counted s
      exact ⟨hcnt, hdone, htime, rfl, rfl, rfl, skimPassEnd_only s⟩
  · exact fun hst hlate => ⟨_, rfl, skimPassLimitCheck_late hst hlate⟩
  · exact fun h => ⟨_, rfl, skimPassLimitCheck_in_time h⟩

end Sys2Proof
end
